-- ==== Sys2Proof/Word.lean ====
section
/-! DEFINITION. The word types of the Hentitus and the sparse tables its state is kept in. -/

namespace Sys2Proof

/-- A limb word: 36 bits (R7). -/
abbrev Word := BitVec 36

/-- A byte. -/
abbrev Byte := BitVec 8

/-- A sparse table keyed by a number, kept in rising key order: what an unlisted key reads as is given
by whoever reads it. -/
abbrev Tab (α : Type) := List (Nat × α)

/-- What a table holds at a key, `d` where the key is not listed. -/
def Tab.get {α : Type} (d : α) : Tab α → Nat → α
  | [], _ => d
  | (k, v) :: t, n => if k = n then v else Tab.get d t n

/-- What a table holds at n keys from lo on, in one walk. -/
def Tab.slice {α : Type} (d : α) : Tab α → Nat → Nat → List α
  | [], _, n => List.replicate n d
  | (k, v) :: t, lo, n =>
    if k < lo then Tab.slice d t lo n
    else if lo + n ≤ k then List.replicate n d
    else List.replicate (k - lo) d ++ v :: Tab.slice d t (k + 1) (lo + n - (k + 1))

/-- The table with the value at one key replaced. -/
def Tab.set {α : Type} : Tab α → Nat → α → Tab α
  | [], n, x => [(n, x)]
  | (k, v) :: t, n, x =>
    if n < k then (n, x) :: (k, v) :: t
    else if n = k then (n, x) :: t
    else (k, v) :: Tab.set t n x

/-- The table with one key no longer listed. -/
def Tab.del {α : Type} : Tab α → Nat → Tab α
  | [], _ => []
  | (k, v) :: t, n => if k = n then t else (k, v) :: Tab.del t n

/-- The table in the canonical form of a memory: a value equal to what an unlisted key reads as is not
listed. -/
def Tab.store {α : Type} [DecidableEq α] (d : α) (t : Tab α) (n : Nat) (x : α) : Tab α :=
  if x = d then Tab.del t n else Tab.set t n x

/-- Addresses strictly rise and no entry equals the default. -/
def Tab.wf {α : Type} [DecidableEq α] (d : α) : Tab α → Bool
  | [] => true
  | [(_, v)] => !decide (v = d)
  | (k, v) :: (k', v') :: t => decide (k < k') && !decide (v = d) && Tab.wf d ((k', v') :: t)

end Sys2Proof
end

