-- ==== Sys2Proof/OpTypes.lean ====
section
/-! DEFINITION. The operand types of the commands: indices of the device (R12) and what the environment supplies. -/

namespace Sys2Proof

/-- Die index. -/
abbrev DieId := Fin 2
/-- Cluster index 8·die + c. -/
abbrev ClusterId := Fin 16
/-- Global logical core. -/
abbrev CoreId := Fin 128
/-- HBM channel: 64·die + h (R255). -/
abbrev ChanId := Fin 128
/-- Starlane link. -/
abbrev LinkId := Fin 96
/-- Optical engine. -/
abbrev OptId := Fin 12
/-- Laser cartridge. -/
abbrev CartId := Fin 6
/-- PCIe function. -/
abbrev FnId := Fin 64
/-- Application core. -/
abbrev AppId := Fin 32
/-- Stream engine of a core. -/
abbrev EngId := Fin 4
/-- Ring of a core. -/
abbrev RingId := Fin 16
/-- Key-stream group of a die. -/
abbrev GroupId := Fin 32
/-- Remote window. -/
abbrev WinId := Fin 16
/-- Share slot. -/
abbrev ShareId := Fin 8
/-- Memory partition. -/
abbrev PartId := Fin 64

/-- Who makes a register access (R5, R407, R552, R553). -/
inductive Agent where
  /-- a PCIe function through BAR0 -/
  | fn (f : FnId)
  /-- an application core, for the function of its job (R407) -/
  | app (a : AppId)
  /-- the baseboard management controller over I3C: acts as expert level (R553) -/
  | bmc
  /-- device firmware -/
  | firmware
  deriving DecidableEq, Repr

/-- An upset that has struck a codeword of a local store (R205, R206): row, codeword of the row, and whether it is
uncorrectable. -/
structure Upset where
  row : Nat
  word : Nat
  uncorrectable : Bool
  deriving DecidableEq, Repr

/-- What the ECC of an atom finds at a read (R271 to R273). -/
inductive AtomState where
  | intact
  | corrected
  | uncorrectable
  deriving DecidableEq, Repr

/-- Who needed the data of an atom (R273). -/
inductive Consumer where
  /-- transfer `x` of stream engine `e` of core `g` -/
  | stream (g : CoreId) (e : EngId) (x : Nat)
  /-- an instruction fetch of core `g` -/
  | fetch (g : CoreId)
  /-- key-stream group `n` of die `d` -/
  | group (d : DieId) (n : GroupId)
  /-- a load of application core `a` -/
  | app (a : AppId)
  /-- row `row` of the posted region in ring `r` of core `g` (R306) -/
  | region (g : CoreId) (r : RingId) (row : Nat)
  /-- a BAR2 read of function `f` -/
  | bar2 (f : FnId)
  /-- nobody whose data is lost with it -/
  | other
  deriving DecidableEq, Repr

/-- A PCIe configuration request (R372, R375, R378, R397, R493). -/
inductive CfgReq where
  /-- a read of a function's configuration space -/
  | read (f : FnId)
  /-- a read of TotalVFs, and of NumVFs -/
  | totalVfs
  | readNumVfs
  /-- NumVFs -/
  | numVfs (n : Nat)
  /-- VF Enable -/
  | vfEnable (on : Bool)
  /-- Bus Master Enable of a function -/
  | busMaster (f : FnId) (on : Bool)
  /-- the BAR0 address of a function -/
  | bar0 (f : FnId) (addr : Nat)
  /-- the BAR2 address of a function -/
  | bar2 (f : FnId) (addr : Nat)
  /-- the BAR2 size of a function, as a power of two (Resizable BAR) -/
  | bar2Size (f : FnId) (log : Nat)
  /-- the mask bit of an MSI-X vector of a function -/
  | msixMask (f : FnId) (vector : Nat) (masked : Bool)
  deriving DecidableEq, Repr

/-- An image of a package as it is read from the service card (R423, R535, R536). -/
structure Image where
  /-- VERSION of the image's header: major, minor, patch packed as 48 bits, major high -/
  version : Nat
  /-- the requires list: component, MIN, MAX (R537) -/
  requires : List (Nat × Nat × Nat)
  /-- security version of the image (R426) -/
  svn : Nat
  /-- the first check of R423 that the image fails; 0 when it passes all -/
  authFail : Nat
  /-- the bytes of a configuration record (component 0x20); empty for other components -/
  record : List Byte
  /-- SHA-256 of SIGNER, as a number (R422, R423) -/
  signer : Nat
  /-- BODY_DIGEST, as a number (R422) -/
  digest : Nat
  /-- COMMIT_SVN (R422, R426) -/
  commit : Bool
  /-- the REVOKE mask when REVOKE_VALID is set (R421, R422) -/
  revoke : Option Nat
  /-- the body of a kernel-package component (R427); empty for other components -/
  body : List Byte
  deriving DecidableEq, Repr

/-- What a channel test has found when it stops (R279): the mismatches counted, and the first of them. -/
structure TestErrors where
  /-- mismatching atoms -/
  count : Nat
  /-- of the first mismatch: its pseudo channel, its atom, and the mask of its data pins -/
  first : Option (Bool × Nat × Nat)
  deriving DecidableEq, Repr

/-- A set of keys for an IDE stream (R377): the stream, and the keys it goes over to. -/
structure KSet where
  /-- the Stream ID -/
  sid : BitVec 8
  /-- the keys, as a number -/
  keys : Nat
  deriving DecidableEq, Repr

/-- The bytes of a register write, and the IDE stream that carries them where one does (R377). -/
structure RegWrite where
  /-- the bytes -/
  bytes : List Byte
  /-- the IDE stream -/
  stream : Option Nat
  deriving DecidableEq, Repr

/-- The package of a service card (R534, R535). -/
structure Package where
  /-- bytes of the manifest, from byte 0 of the package partition -/
  manifest : List Byte
  /-- length of the package partition -/
  length : Nat
  /-- SHA-384 of the manifest, as a number -/
  digest : Nat
  /-- the images, by manifest entry -/
  images : List Image
  deriving DecidableEq, Repr

end Sys2Proof
end

