-- ==== Sys2Proof/Syntax.lean ====
section
/-! DEFINITION. The commands of the Hentitus: one constructor for each row of the opcode table, with its operands. A command
is a register access, a bundle slot or stream record that issues, an event of a port or pin, or a step of one of the device's
own engines; what the environment decides (a measurement, an upset, the outcome of a verification) is an operand. -/

namespace Sys2Proof

/-- A command (a row of the opcode table). -/
inductive Instr where
  /-- OP_OPEN (R78). Opens an operation slot, reads its descriptors and runs the opening checks in their fixed order. -/
  | opOpen (g : CoreId)
  /-- OP_CLOSE (R79). Closes an operation slot and writes the computed destination descriptor fields. -/
  | opClose (g : CoreId)
  /-- CLUSTER_OPERATION_STOP (R83). Other cores of a cluster operation stop their blocks at their next bundle after one
  core stops. -/
  | clusterOperationStop (g : CoreId)
  /-- LOOP (R149). Makes the next B bundles a loop body run C times with address steps. -/
  | loop (g : CoreId)
  /-- SHAPE_SET (R184). Writes one shape-table entry in its issue cycle. -/
  | shapeSet (g : CoreId)
  /-- PX_SET (R187). Writes one permute parameter register. -/
  | pxSet (g : CoreId)
  /-- NTT_FWD (R53). Forward negacyclic transform of m limbs into NTT order. -/
  | nttFwd (g : CoreId) (up : List Upset)
  /-- NTT_INV (R53). Inverse transform of m limbs into coefficient order with N^-1 applied. -/
  | nttInv (g : CoreId)
  /-- NTT_FWDQ (R55). Forward transform depositing tiles into the finished-tile queue at interval P. -/
  | nttFwdq (g : CoreId)
  /-- NTT_INVQ (R55). Inverse transform depositing tiles into the finished-tile queue at interval P. -/
  | nttInvq (g : CoreId)
  /-- BCV_LDM (R56). Loads a constant matrix into the basis-conversion constant buffer. -/
  | bcvLdm (g : CoreId)
  /-- BCV_EXT (R57). Basis extension of C coefficients from alpha source limbs to beta destination limbs. -/
  | bcvExt (g : CoreId)
  /-- BCV_MATMUL (R58). Modular matrix product, optionally accumulating into D. -/
  | bcvMatmul (g : CoreId)
  /-- LD (R59). Element-wise read transfer of two local-store rows into a vector register. -/
  | ld (g : CoreId) (up : List Upset)
  /-- QPOP (R62). Takes the next quarter-tile from the finished-tile queue into a vector register. -/
  | qpop (g : CoreId)
  /-- ST (R59). Stores a vector register to two local-store rows, landing in cycle 3. -/
  | st (g : CoreId)
  /-- ADD (R59). Element-wise modular addition. -/
  | add (g : CoreId)
  /-- SUB (R59). Element-wise modular subtraction. -/
  | sub (g : CoreId)
  /-- NEG (R59). Element-wise modular negation. -/
  | neg (g : CoreId)
  /-- MUL (R59). Element-wise modular multiplication. -/
  | mul (g : CoreId)
  /-- MAC (R59). Element-wise modular multiply-accumulate into the destination register. -/
  | mac (g : CoreId)
  /-- CMPLT (R59). Element-wise unsigned less-than compare. -/
  | cmplt (g : CoreId)
  /-- CMPEQ (R59). Element-wise equality compare. -/
  | cmpeq (g : CoreId)
  /-- SEL (R59). Element-wise select by a mask register. -/
  | sel (g : CoreId)
  /-- SHUF (R59). Rotates lanes of a register by r. -/
  | shuf (g : CoreId)
  /-- BCAST (R59). Broadcasts one lane to every lane. -/
  | bcast (g : CoreId)
  /-- ADD64 (R60). Z_2^64 addition on lane pairs. -/
  | add64 (g : CoreId)
  /-- SUB64 (R60). Z_2^64 subtraction on lane pairs. -/
  | sub64 (g : CoreId)
  /-- MUL64 (R60). Low 64 bits of the Z_2^64 product on lane pairs. -/
  | mul64 (g : CoreId)
  /-- CMPLT64 (R60). Unsigned 64-bit compare on lane pairs. -/
  | cmplt64 (g : CoreId)
  /-- PRM_AUTO (R65). Out-of-place automorphism by a Galois element. -/
  | prmAuto (g : CoreId)
  /-- PRM_AUTOIP (R223). In-place automorphism through staging or scratch. -/
  | prmAutoip (g : CoreId)
  /-- PRM_TRANS (R66). Out-of-place transposition between layouts. -/
  | prmTrans (g : CoreId)
  /-- PRM_TRANSIP (R223). In-place transposition of one dense range. -/
  | prmTransip (g : CoreId)
  /-- PRM_GATHER (R219). Gathers blocks by a coordinate list into a packed destination. -/
  | prmGather (g : CoreId)
  /-- PRM_SCATTER (R219). Scatters a packed source into blocks by a coordinate list. -/
  | prmScatter (g : CoreId)
  /-- COORD_LIST_FAIL (R220). A coordinate fails the list phase and stops the block in cycle E'+1. -/
  | coordListFail (g : CoreId)
  /-- PRM_SEND (R293). Sends words through the egress buffer to another core of the cluster. -/
  | prmSend (g : CoreId)
  /-- KEX_GEN (R67). Regenerates seeded key words into local store. -/
  | kexGen (g : CoreId)
  /-- KEX_GENQ (R67). Regenerates seeded key words into the finished-tile queue. -/
  | kexGenq (g : CoreId)
  /-- STR_ISSUE (R195). Hands a stream command record to a stream engine. -/
  | strIssue (g : CoreId)
  /-- ENGINE_WRITE_LANDS (R47). An engine writes destination words within its write window after issue. -/
  | engineWriteLands (g : CoreId)
  /-- TILE_DEPOSIT (R62). An engine deposits a finished tile into the queue. -/
  | tileDeposit (g : CoreId)
  /-- FREEZE_END (R163). The awaited row lands or is released and the core resumes. -/
  | freezeEnd (g : CoreId) (n : Nat)
  /-- STREAM_TIMEOUT (R165). An unbroken stream freeze passes the job's stream limit and abandons the block. -/
  | streamTimeout (g : CoreId) (n : Nat)
  /-- AUDIT_FREEZE (R169). Under audit the core freezes 3 cycles after every 22 unfrozen cycles. -/
  | auditFreeze (g : CoreId)
  /-- LS_CORRECTION_REWRITE (R205). A corrected row is rewritten through the side port. -/
  | lsCorrectionRewrite (g : CoreId)
  /-- LS_SCRUB_STEP (R207). The scrubber reads the next powered row every 256 cycles. -/
  | lsScrubStep (g : CoreId) (up : List Upset)
  /-- BLOCK_DISPATCH (R161). The sequencer dispatches the oldest ready block. -/
  | blockDispatch (g : CoreId)
  /-- BLOCK_BOUNDARY (R150). The boundary cycle after a block's end cycle runs its ordered cleanup. -/
  | blockBoundary (g : CoreId)
  /-- SEQ_BQ_PUSH (R159). A 64-byte write pushes and checks a block entry. -/
  | seqBqPush (g : CoreId) (entry : List Byte)
  /-- PUSH_HELD_ACCEPT (R159). A push held on a full queue is queued once a slot is released. -/
  | pushHeldAccept (g : CoreId)
  /-- IMAGE_FETCH_DONE (R153). A program block image becomes resident in the instruction cache. -/
  | imageFetchDone (g : CoreId) (image : BitVec 52)
  /-- KLOAD_GO (R156). Starts a kernel load into a bank. -/
  | kloadGo (g : CoreId) (v : BitVec 64) (a : Agent)
  /-- KLOAD_FORCE (R157). Expert forced load into the active bank after the running block ends. -/
  | kloadForce (g : CoreId) (v : BitVec 64) (a : Agent)
  /-- KLOAD_DONE (R156). The digest comparison of a kernel load completes. -/
  | kloadDone (g : CoreId)
  /-- TOKEN_SIGNAL_ARRIVES (R160). A token signal reaches a waiting core after its delay. -/
  | tokenSignalArrives (g : CoreId) (who : Nat)
  /-- NARROW_READ (R200). A narrow-view read of one local-store word. -/
  | narrowRead (g : CoreId) (w : BitVec 22) (a : Agent) (up : List Upset)
  /-- NARROW_WRITE (R200). A narrow-view write of one local-store word. -/
  | narrowWrite (g : CoreId) (w : BitVec 22) (v : BitVec 64) (mask : BitVec 8) (a : Agent) (up : List Upset)
  /-- LS_WIPE_DONE (R225). A local-store wipe completes and dispatch may begin. -/
  | lsWipeDone (g : CoreId)
  /-- RUN (R230). Stream record that runs a stream program. -/
  | run (g : CoreId) (e : EngId)
  /-- POST (R233). Stream record that posts a ring. -/
  | post (g : CoreId) (e : EngId)
  /-- KBIND (R246). Stream record that binds a key-stream group to a slot and seed register. -/
  | kbind (g : CoreId) (e : EngId)
  /-- LEAVE (R248). Stream record that removes the cluster from a key-stream group. -/
  | leave (g : CoreId) (e : EngId)
  /-- UNPOST (R236). Stream record that removes a ring once its transfers finish. -/
  | unpost (g : CoreId) (e : EngId)
  /-- UNPOST_COMPLETE (R236). The ring is removed after its last transfer finishes. -/
  | unpostComplete (g : CoreId) (e : EngId)
  /-- RELEASE (R234). Stream record that releases COUNT landed rows of a REL=1 ring. -/
  | release (g : CoreId) (e : EngId)
  /-- END (R237). Ends a stream program. -/
  | strEnd (g : CoreId) (e : EngId)
  /-- SETA (R237). Sets an address register. -/
  | seta (g : CoreId) (e : EngId)
  /-- ADDA (R237). Adds to an address register. -/
  | adda (g : CoreId) (e : EngId)
  /-- SETL (R237). Sets a local register. -/
  | setl (g : CoreId) (e : EngId)
  /-- ADDL (R237). Adds to a local register. -/
  | addl (g : CoreId) (e : EngId)
  /-- STR_LOOP (R238). Repeats the next B stream instructions C times. -/
  | strLoop (g : CoreId) (e : EngId)
  /-- RD (R240). HBM to local store transfer. -/
  | rd (g : CoreId) (e : EngId)
  /-- WR (R240). Local store to HBM transfer. -/
  | wr (g : CoreId) (e : EngId)
  /-- RRD (R210). Remote local-store read into this core. -/
  | rrd (g : CoreId) (e : EngId)
  /-- RWR (R210). Remote local-store write into another core's posted region. -/
  | rwr (g : CoreId) (e : EngId)
  /-- LSEND (R328). Starlane stream transfer to a peer or link group. -/
  | lsend (g : CoreId) (e : EngId)
  /-- WAITT (R237). Waits until a token reaches a threshold. -/
  | waitt (g : CoreId) (e : EngId)
  /-- WAITT_SATISFIED (R237). The token reaches the WAITT threshold and the program continues. -/
  | waittSatisfied (g : CoreId) (e : EngId)
  /-- SIG (R241). Records a token signal pending completion of earlier transfers. -/
  | sig (g : CoreId) (e : EngId)
  /-- SIG_SIGNALLED (R241). A pending SIG is signalled once all earlier transfers complete. -/
  | sigSignalled (g : CoreId) (e : EngId)
  /-- FENCE (R237). Waits until every earlier transfer of the engine completes. -/
  | fence (g : CoreId) (e : EngId)
  /-- FENCE_COMPLETE (R237). All earlier transfers complete and the fenced program continues. -/
  | fenceComplete (g : CoreId) (e : EngId)
  /-- TRANSFER_REQUEST (R240). A transfer request of up to 8 rows issues once ring rows or readiness allow. -/
  | transferRequest (g : CoreId) (e : EngId) (n : Nat)
  /-- RING_ROW_LANDS (R234). A row lands into a ring or posted region in ring order. -/
  | ringRowLands (g : CoreId) (r : RingId) (up : List Upset)
  /-- OUTBOUND_ROW_DRAIN (R235). The owning engine drains a ready outbound row and releases it. -/
  | outboundRowDrain (g : CoreId) (r : RingId) (up : List Upset)
  /-- KST_GRP_OPEN (R122). Opens a key-stream group or refuses with OPEN_ERR. -/
  | kstGrpOpen (die : DieId) (n : GroupId) (a : Agent) (v : BitVec 64)
  /-- KST_GRP_CLOSE (R125). Closes a key-stream group according to its state. -/
  | kstGrpClose (die : DieId) (n : GroupId) (a : Agent) (v : BitVec 64)
  /-- GROUP_HEADER_READ (R123). The group starts reading the key header once every member is subscribed. -/
  | groupHeaderRead (die : DieId) (n : GroupId)
  /-- KEY_HEADER_ARRIVES (R117). A key header lands and is checked. -/
  | keyHeaderArrives (die : DieId) (n : GroupId) (k : Fin 64)
  /-- EXPECTED_TAG_READY (R116). The expected key tag becomes ready 80 cycles after OP.OPEN or header arrival. -/
  | expectedTagReady (g : CoreId) (slot : Fin 4)
  /-- KEY_CHUNK_ARRIVES (R118). A chunk head arrives and its tag and index are compared. -/
  | keyChunkArrives (die : DieId) (n : GroupId)
  /-- MULTICAST_ROW_SEND (R124). The group sends a key row to all members once every needed core holds credit. -/
  | multicastRowSend (die : DieId) (n : GroupId)
  /-- MEMBER_DROP (R124). A member withholding credit for the stall limit is dropped from the group. -/
  | memberDrop (die : DieId) (n : GroupId) (m : Fin 8)
  /-- CATCHUP_READ (R124). A unicast catch-up read delivers key words to a dropped or late core. -/
  | catchupRead (die : DieId) (n : GroupId) (k : Fin 64)
  /-- GROUP_STREAM_END (R125). The last row reaches every remaining member and the group returns to idle. -/
  | groupStreamEnd (die : DieId) (n : GroupId)
  /-- HBM_READ_RETURN (R255). A channel controller returns an atom for a granule read. -/
  | hbmReadReturn (h : ChanId) (atom : BitVec 52) (found : AtomState) (who : Consumer)
  /-- SMALL_PATH_WINDOW (R261). A new 1 µs window admits waiting small-path requests. -/
  | smallPathWindow (h : ChanId)
  /-- WCB_PARTIAL_WRITE (R262). A partial-granule write merges into or allocates a write-combining entry. -/
  | wcbPartialWrite (part : PartId) (job : Option Nat) (addr : BitVec 52) (data : List Byte)
  /-- WCB_AGE_FLUSH (R263). An entry flushes 2 µs after its allocation. -/
  | wcbAgeFlush (die : DieId)
  /-- WCB_FLUSH (R263). Writing WCB_CTRL.FLUSH flushes every entry. -/
  | wcbFlush (die : DieId) (a : Agent)
  /-- REGULATOR_TICK (R267). Every 40 ns a partition regulator adds RATE × 40 bytes. -/
  | regulatorTick (p : PartId)
  /-- REGULATED_ISSUE (R267). A waiting transfer issues once its partition's count is positive. -/
  | regulatedIssue (p : PartId)
  /-- MREG_RATE_WRITE (R270). A regulator change takes effect at the next 40 ns step. -/
  | mregRateWrite (p : PartId) (v : BitVec 64) (a : Agent)
  /-- REFRESH_SLOT (R274). A channel controller refreshes a bank at its interval. -/
  | refreshSlot (h : ChanId) (temp : Nat) (found : AtomState)
  /-- TGC_START (R278). Starts an in-service or destructive channel test, or refuses it. -/
  | tgcStart (h : ChanId) (v : BitVec 64) (a : Agent)
  /-- TGC_STOP (R279). Stops a running channel test. -/
  | tgcStop (h : ChanId) (written : Nat) (checked : Nat) (errs : TestErrors)
  /-- TGC_TEST_END (R279). A channel test ends after its passes. -/
  | tgcTestEnd (h : ChanId) (errs : Nat) (first : Option (Bool × Nat × Nat))
  /-- MAINT_SET (R280). Enters maintenance state, or is ignored while jobs exist. -/
  | maintSet (a : Agent)
  /-- MAINT_CLEAR (R281). Leaves maintenance state and starts the HBM wipe. -/
  | maintClear (a : Agent)
  /-- MAINT_WIPE_DONE (R281). The maintenance-exit wipe completes and intake resumes. -/
  | maintWipeDone
  /-- EXCHANGE_LAND (R292). PRM.SEND words land at the target core 14 cycles after leaving egress. -/
  | exchangeLand (g : CoreId)
  /-- FLIT_CRC_REPLAY (R304). A fabric flit that fails its CRC is replayed. -/
  | flitCrcReplay (die : DieId) (i : Fin 39) (ok : Bool)
  /-- LANE_SPARE_REPLACE (R305). A bad lane or lane group is replaced by the spare. -/
  | laneSpareReplace (die : DieId) (i : Fin 39)
  /-- FABRIC_UNCORRECTABLE (R306). An uncorrectable flit is dropped and its consumer aborted. -/
  | fabricUncorrectable (die : DieId) (r : Fin 24) (vc : Nat) (who : Consumer)
  /-- D2D_RETRAIN (R309). Retrains the bridge and retries every lane group. -/
  | d2dRetrain (a : Agent)
  /-- CARTRIDGE_FAILURE (R313). A cartridge's output stays below 50 % for 1 µs. -/
  | cartridgeFailure (k : CartId)
  /-- CART_RELEASE (R314). Moves a cartridge's engines to their secondaries and darkens it. -/
  | cartRelease (k : CartId)
  /-- CART_RESTORE (R314). Returns a lit cartridge's primary engines to it. -/
  | cartRestore (k : CartId)
  /-- CARTRIDGE_INSERT (R314). A cartridge is inserted and starts warming. -/
  | cartridgeInsert (k : CartId)
  /-- CARTRIDGE_LIT (R314). A warmed cartridge locks its wavelength and goes lit. -/
  | cartridgeLit (k : CartId)
  /-- CARTRIDGE_LEVER_OPEN (R571). The bay lever moves and cuts laser drive. -/
  | cartridgeLeverOpen (k : CartId)
  /-- LINK_LIGHT_DETECT (R320). A waiting link sees received power and starts training. -/
  | linkLightDetect (l : LinkId)
  /-- LINK_TRAIN_STEP (R320). A training state completes and the link advances. -/
  | linkTrainStep (l : LinkId)
  /-- LINK_TRAIN_TIMEOUT (R320). A training state passes its limit and falls back to WAIT_LIGHT. -/
  | linkTrainTimeout (l : LinkId)
  /-- HELLO (R320). Exchange of device ID, link number and version before UP. -/
  | hello (l : LinkId) (id : BitVec 16) (far : BitVec 8) (version : BitVec 8)
  /-- LOSS_OF_LOCK (R321). No intact codeword for 1 µs sends the link to FAST_RETRAIN. -/
  | lossOfLock (l : LinkId)
  /-- FAST_RETRAIN_DONE (R321). Relock succeeds and the link returns to UP with replay. -/
  | fastRetrainDone (l : LinkId)
  /-- FAST_RETRAIN_FAIL (R321). Relock fails within 30 µs and the link goes to FAILED. -/
  | fastRetrainFail (l : LinkId)
  /-- LINK_RETRY_EXPIRY (R320). A FAILED link's RETRY interval ends and it returns to WAIT_LIGHT. -/
  | linkRetryExpiry (l : LinkId)
  /-- FLIT_RECEIVE (R318). A link receives a flit, as the 514 data symbols and the 30 check symbols of its codeword (R316), and
  checks FEC, CRC and sequence. -/
  | flitReceive (l : LinkId) (flit : List Nat) (fec : List Nat)
  /-- NAK_RECEIVE (R318). The sender receives a NAK and replays from the named SEQ. -/
  | nakReceive (l : LinkId) (seq : BitVec 16)
  /-- PEER_ADD (R326). Creates a peer entry in PROBING and sends PROBE. -/
  | peerAdd (id : BitVec 16)
  /-- PEER_REMOVE (R327). Moves a peer entry to DRAINING. -/
  | peerRemove (id : BitVec 16)
  /-- PEER_SET_OWNERS (R349). Sets the OWNERS mask of a peer entry. -/
  | peerSetOwners (id : BitVec 16) (owners : BitVec 64)
  /-- PEER_DRAIN_DONE (R327). Outstanding messages finish and the entry becomes FREE. -/
  | peerDrainDone (id : BitVec 16)
  /-- PROBE (R326). A peer PROBE is received and answered. -/
  | probe (l : LinkId)
  /-- PROBE_ACK (R326). A PROBE_ACK makes the entry ACTIVE. -/
  | probeAck (l : LinkId)
  /-- PROBE_NAK (R326). A PROBE_NAK makes the entry REFUSED. -/
  | probeNak (l : LinkId)
  /-- PROBE_RETRY (R326). A REFUSED entry probes again every 1 ms. -/
  | probeRetry (id : BitVec 16)
  /-- STREAM_MESSAGE_RECEIVE (R331). A stream message arrives and is accepted, refused or answered RNR. -/
  | streamMessageReceive (l : LinkId)
  /-- MACK_SEND (R333). The receiver sends MACK in the cycle after a message's last row lands. -/
  | mackSend (g : CoreId) (r : RingId)
  /-- MACK (R333). The sender receives a MACK and the message leaves the outstanding bound. -/
  | mack (l : LinkId) (kind : Nat) (core : CoreId) (queue : BitVec 12) (mseq : BitVec 16)
  /-- REFUSE (R331). The sender receives REFUSE for a message. -/
  | refuse (l : LinkId) (core : CoreId) (queue : BitVec 12) (mseq : BitVec 16) (reason : BitVec 4)
  /-- RNR (R332). The sender receives RNR for a message. -/
  | rnr (l : LinkId) (core : CoreId) (queue : BitVec 12) (mseq : BitVec 16)
  /-- RNR_RESEND (R332). The message is resent 2 µs after an RNR. -/
  | rnrResend (g : CoreId) (peer : BitVec 16) (queue : BitVec 12)
  /-- LINK_SEND_TIMEOUT (R334). A message outstanding for SEND_LIMIT raises a stream fault. -/
  | linkSendTimeout (g : CoreId) (peer : BitVec 16) (queue : BitVec 12)
  /-- PEER_WAIT_TIMEOUT (R335). A wait for an unrouted or probing peer reaches PEER_WAIT. -/
  | peerWaitTimeout (g : CoreId) (e : EngId)
  /-- LINK_GROUP_MEMBER_DROP (R338). A link-group member holding the group for STALL_LIMIT is dropped to catch-up. -/
  | linkGroupMemberDrop (g : CoreId) (e : EngId) (n : Nat) (i : Fin 16)
  /-- WIN_OPEN (R340). Opens a remote window or refuses with OPEN_ERR. -/
  | winOpen (w : WinId)
  /-- WIN_CLOSE (R342). Sets the close point and enters closing. -/
  | winClose (w : WinId)
  /-- WIN_CLOSED (R342). The last accepted write completes and the window is closed. -/
  | winClosed (w : WinId)
  /-- WINDOW_WRITE_RECEIVE (R341). A window write arrives and is accepted or discarded. -/
  | windowWriteReceive (l : LinkId)
  /-- WINDOW_WRITE_COMPLETE (R341). An accepted window write completes in HBM. -/
  | windowWriteComplete (w : WinId)
  /-- WIN_XFER_PUSH (R343). Pushes a window transfer record to the queue. -/
  | winXferPush (a : Agent) (rcd : List Byte)
  /-- WIN_XFER_START (R343). The next queued window transfer starts sending writes. -/
  | winXferStart
  /-- WINDOW_CLOSED (R343). The sender receives WINDOW_CLOSED and stops the transfer. -/
  | windowClosed (l : LinkId) (mseq : BitVec 16)
  /-- WINDOW_REFUSED (R341). The sender receives WINDOW_REFUSED and stops the transfer. -/
  | windowRefused (l : LinkId) (mseq : BitVec 16)
  /-- LNK_RETRAIN (R345). Retrains a link; from UP it enters FAST_RETRAIN. -/
  | lnkRetrain (l : LinkId) (a : Agent)
  /-- SLOT_LOAD (R361). Starts loading a share blob into a slot. -/
  | slotLoad (f : FnId) (slot : ShareId) (v : BitVec 64)
  /-- SLOT_LOAD_DONE (R361). A slot load passes to LOADED or fails back to EMPTY. -/
  | slotLoadDone (slot : ShareId)
  /-- SLOT_RELEASE (R362). The owner wipes a share slot. -/
  | slotRelease (f : FnId) (slot : ShareId)
  /-- SLOT_WIPE_DONE (R362). A slot leaves WIPING for EMPTY with a new nonce. -/
  | slotWipeDone (slot : ShareId)
  /-- PDEC_PUSH (R363). Pushes a partial-decryption request. -/
  | pdecPush (a : Agent) (rcd : List Byte)
  /-- PDEC_REQUEST_START (R364). The share engine takes the next request and checks it. -/
  | pdecRequestStart
  /-- PDEC_DONE (R365). The share engine writes the last limb, the descriptor and DONE. -/
  | pdecDone
  /-- INTAKE_SEAL (R381). A host write covering byte 0xFF of an intake slot is evaluated. -/
  | intakeSeal (f : FnId) (off : Nat) (data : List Byte) (stream : Option Nat)
  /-- HELD_SEAL_EVALUATE (R382). The slot of the new expected number is evaluated in the next cycle. -/
  | heldSealEvaluate (f : FnId)
  /-- JOB_CHECK (R385). An accepted record is checked and refused or kept. -/
  | jobCheck (f : FnId) (seq : BitVec 64)
  /-- JOB_START (R386). A waiting job starts once its cores and application cores are free. -/
  | jobStart (f : FnId) (seq : BitVec 64)
  /-- RESOURCE_RESERVE (R386). After 1 ms of waiting a job's freed resources are reserved for it. -/
  | resourceReserve (f : FnId) (seq : BitVec 64)
  /-- JOB_TIME_LIMIT (R388). TIME_LIMIT expires and ends the job. -/
  | jobTimeLimit (f : FnId) (seq : BitVec 64)
  /-- INTK_CANCEL (R390). Cancels a job of the writing function. -/
  | intkCancel (f : FnId) (seq : BitVec 64)
  /-- JOB_BOUNDARY (R389). A job ends and its boundary steps begin. -/
  | jobBoundary (f : FnId) (seq : BitVec 64)
  /-- JOB_COMPLETION (R389). After the drains, job state clears, the completion record and MSI-X are written and resources
  released. -/
  | jobCompletion (f : FnId) (seq : BitVec 64)
  /-- INTK_EN (R380). Enabling intake zeroes the ring and sets E to 1. -/
  | intkEn (f : FnId) (v : BitVec 64)
  /-- HIF_EXPERT_EN_WRITE (R4). The physical function sets or clears EXPERT_EN bits within grants. -/
  | hifExpertEnWrite (f : FnId) (v : BitVec 64)
  /-- FUNCTION_LEVEL_RESET (R391). Ends every job of a function and resets its state. -/
  | functionLevelReset (f : FnId)
  /-- BAR0_ACCESS (R374). A host access to the function's BAR0. -/
  | bar0Access (f : FnId) (off : Nat) (wr : Option (List Byte)) (len : Nat) (stream : Option Nat)
  /-- BAR2_ACCESS (R375). A host access to HBM through BAR2. -/
  | bar2Access (f : FnId) (off : Nat) (wr : Option (List Byte)) (len : Nat) (stream : Option Nat)
  /-- K_SET_GO (R377). Replaces an IDE stream's keys without loss. -/
  | kSetGo (k : KSet)
  /-- IDE_INTEGRITY_FAIL (R377). An integrity failure takes every bound TDI to ERROR. -/
  | ideIntegrityFail (sid : BitVec 8)
  /-- STOP_INTERFACE (R378). Ends the function's jobs and wipes its partitions. -/
  | stopInterface (f : FnId)
  /-- LOCK_INTERFACE_REQUEST (R378). Locks a TDI, or errors while jobs are outstanding. -/
  | lockInterfaceRequest (f : FnId) (stream : BitVec 8)
  /-- TDI_CONFIG_CHANGE (R378). A BAR, bus-master, MSI-X or VF Enable change in a locked TDI takes it to ERROR. -/
  | tdiConfigChange (f : FnId)
  /-- MSIX_MODERATION_TIMER (R397). MOD_US expires after the first unannounced completion and the vector signals. -/
  | msixModerationTimer (f : FnId) (v : Fin 16)
  /-- GET_VERSION (R434). SPDM version request. -/
  | getVersion
  /-- GET_CAPABILITIES (R434). SPDM capabilities request. -/
  | getCapabilities
  /-- NEGOTIATE_ALGORITHMS (R434). SPDM algorithm negotiation. -/
  | negotiateAlgorithms (offered : Bool)
  /-- KEY_EXCHANGE (R435). SPDM key exchange with SlotID 0xFF. -/
  | keyExchange (slot : Nat) (hash : Nat)
  /-- FINISH (R434). Completes SPDM session establishment. -/
  | finish (sid : Nat) (ok : Bool)
  /-- GET_MEASUREMENTS (R434). Returns measurements signed with the SPDM key. -/
  | getMeasurements (sid : Nat) (hash : Nat)
  /-- GET_REPORT (R433). Returns a signed attestation report, rate-limited. -/
  | getReport (nonce : List Byte)
  /-- GET_DEVICE_CERT (R433). Returns the device identity certificate. -/
  | getDeviceCert (off : Nat) (len : Nat)
  /-- EXIT (R415). Runtime call that ends an application core. -/
  | appExit (a : AppId) (code : BitVec 64)
  /-- TOKEN_SIGNAL (R416). Runtime call that fences and adds 1 to a token. -/
  | tokenSignal (a : AppId) (t : BitVec 64)
  /-- TOKEN_WAIT (R416). Runtime call that sleeps until a token threshold or a limit. -/
  | tokenWait (a : AppId) (t : BitVec 64) (threshold : BitVec 64) (limit : BitVec 64)
  /-- TOKEN_WAIT_RESUME (R416). A waiting application core resumes at its threshold or limit. -/
  | tokenWaitResume (a : AppId)
  /-- TOKEN_READ (R416). Runtime call that returns a token counter. -/
  | tokenRead (a : AppId) (t : BitVec 64)
  /-- KGROUP_OPEN (R416). Runtime call that opens the lowest idle key-stream group. -/
  | kgroupOpen (a : AppId) (die : BitVec 64) (hdr : BitVec 64) (members : BitVec 64) (level : BitVec 64)
  /-- KGROUP_CLOSE (R416). Runtime call that closes a group the job opened. -/
  | kgroupClose (a : AppId) (die : BitVec 64) (n : BitVec 64)
  /-- KGROUP_STATUS (R416). Runtime call that returns KST_GRP_STATUS. -/
  | kgroupStatus (a : AppId) (die : BitVec 64) (n : BitVec 64)
  /-- GUEST_PAGE_FAULT (R406). An access outside the guest map ends the job. -/
  | guestPageFault (a : AppId) (addr : BitVec 52)
  /-- LOAD_ACCESS_FAULT (R410). A load meets uncorrectable data and the job ends. -/
  | loadAccessFault (a : AppId) (addr : BitVec 52)
  /-- CTRL_TRAP (R415). A trap reaches the exit stub and ends the job. -/
  | ctrlTrap (a : AppId) (vscause : BitVec 64) (vsepc : BitVec 64)
  /-- BOOT_STAGE (R424). A boot stage verifies and releases its images. -/
  | bootStage (given : List (Nat × Nat)) (loader : Option Image) (fw : Option Image)
  /-- SEC_KCOPY_GO (R428). Starts a copy of registered kernel package bytes. -/
  | secKcopyGo (v : BitVec 64) (a : Agent)
  /-- KCOPY_DONE (R428). The kernel package copy completes. -/
  | kcopyDone
  /-- RESERVATION_LOG_WRITE (R429). A reservation-log entry programs into NOR before a block is used. -/
  | reservationLogWrite (ok : Bool)
  /-- BNE_REQ_PUSH (R436). Pushes a big-number request to the host unit. -/
  | bneReqPush (rcd : List Byte)
  /-- BNE_REQUEST_START (R439). The unit takes the next request and checks its record. -/
  | bneRequestStart
  /-- BNE_FETCH_DONE (R438). Operand fetch ends and compute starts, or BN_FETCH ends it. -/
  | bneFetchDone (host : List Byte) (bad : Option Nat)
  /-- BNE_COMPUTE_DONE (R438). The fixed compute time ends and output and DONE are written. -/
  | bneComputeDone (mismatch : Bool)
  /-- BNE_WIPE_DONE (R443). The 2 µs wipe ends and the next request may start. -/
  | bneWipeDone
  /-- SECURITY_VIOLATION (R444). A SEC_VIOL condition causes a security-violation reset. -/
  | securityViolation (bits : BitVec 5)
  /-- CORE_FAIL (R453). A physical core is declared failed and its job ends with CORE_FAILED. -/
  | coreFail (c : ClusterId) (p : Fin 9) (ev : Nat)
  /-- SPARE_SUBSTITUTION (R454). The cluster spare takes over a failed logical position. -/
  | spareSubstitution (c : ClusterId)
  /-- PDD_SELFTEST_GO (R458). Queues a self-test of a physical core. -/
  | pddSelftestGo (die : DieId) (v : BitVec 64) (a : Agent)
  /-- SELFTEST_START (R458). A queued self-test starts once no job holds the core. -/
  | selftestStart (die : DieId)
  /-- SELFTEST_END (R458). The 1.5 ms self-test ends with a wipe and a result. -/
  | selftestEnd (die : DieId) (pass : Bool)
  /-- PAIRING_MESSAGE (R460). Feed tags are exchanged and the pairing is accepted or refused. -/
  | pairingMessage (l : LinkId) (feed : BitVec 8) (answer : Option Bool)
  /-- PDD_COMMIT_PUSH (R463). The source pushes a commit record to its holder. -/
  | pddCommitPush (a : Agent) (rcd : List Byte)
  /-- COMMIT_RECEIVE (R464). The holder checks a commit and rotates frames. -/
  | commitReceive (l : LinkId) (rcd : List Byte)
  /-- COMMIT_ANSWER (R463). The holder's answer returns and the source writes DONE. -/
  | commitAnswer (l : LinkId) (code : BitVec 16) (detail : BitVec 64) (mirrored : Bool)
  /-- PDD_DIGEST_PUSH (R466). Starts a SHA-256 digest over HBM ranges. -/
  | pddDigestPush (a : Agent) (rcd : List Byte)
  /-- DIGEST_DONE (R466). The digest is written at DONE. -/
  | digestDone
  /-- LOST_WAIT_EXPIRY (R467). A partner not ACTIVE for LOST_WAIT is counted lost. -/
  | lostWaitExpiry (w : Nat)
  /-- POWER_ON_RESET (R478). Rails good after input power start a power-on reset. -/
  | powerOnReset
  /-- CLOCK_MISSING (R481). No always-on clock edge for 2 µs latches a clock-loss request. -/
  | clockMissing
  /-- CLOCK_RETURN (R481). 64 consecutive edges act the pending requests as one device reset. -/
  | clockReturn
  /-- PERST_ASSERT (R482). PERST# low passes the glitch filter and requests a device reset. -/
  | perstAssert (n : Nat) (acts : Bool)
  /-- PERST_DEASSERT (R482). PERST# rising passes the filter and ends the hold. -/
  | perstDeassert
  /-- HOT_RESET (R478). PCIe Hot Reset or Link Disable causes a device reset. -/
  | hotReset
  /-- RST_CTRL_DEVICE (R499). A keyed write makes a software device reset. -/
  | rstCtrlDevice (v : BitVec 64)
  /-- WATCHDOG_EXPIRY (R478). Platform firmware misses the watchdog for 1 s. -/
  | watchdogExpiry
  /-- THERMAL_TRIP (R483). A sensor above trip level causes a thermal-trip reset and hold. -/
  | thermalTrip (cls : Fin 3) (t : Nat)
  /-- RESET_RELEASE (R483). The reset hold ends and the start begins. -/
  | resetRelease (t : Nat)
  /-- FUSE_COPY_CHECK (R487). A fuse copy is read and its CRC checked. -/
  | fuseCopyCheck (ok : Bool)
  /-- STRAP_SET_DONE (R489). A set of eight STRAP_SEL conversions completes and is judged. -/
  | strapSetDone (codes : List Nat)
  /-- START_STEP_DONE (R492). A domain release step of the start completes. -/
  | startStepDone (n : Nat) (norOk : Bool) (bad : List Nat)
  /-- START_CONFIRM (R494). Platform firmware confirms the start. -/
  | startConfirm
  /-- START_TIMEOUT (R494). An unconfirmed start reaches its 2 s limit. -/
  | startTimeout
  /-- PART_RESET_CORE (R485). Partial reset of a logical core. -/
  | partResetCore (g : CoreId) (a : Agent)
  /-- PART_RESET_CLUSTER (R485). Partial reset of a cluster with PLL relock. -/
  | partResetCluster (c : ClusterId) (a : Agent)
  /-- PART_RESET_HBM_CHANNEL (R256). Partial reset and retraining of an HBM channel. -/
  | partResetHbmChannel (h : ChanId) (a : Agent)
  /-- PART_RESET_LINK (R485). Partial reset of a link. -/
  | partResetLink (l : LinkId) (a : Agent)
  /-- PART_RESET_OPT_ENGINE (R485). Partial reset of an optical engine. -/
  | partResetOptEngine (e : OptId) (a : Agent)
  /-- PART_RESET_APP_CORE (R485). Partial reset of an application core. -/
  | partResetAppCore (k : AppId) (a : Agent)
  /-- PART_RESET_START (R485). A waiting partial reset acts once its part is free. -/
  | partResetStart
  /-- POWER_SAMPLE (R511). Input power is measured every 10 µs. -/
  | powerSample (w : Nat)
  /-- GAP_RATIO_UPDATE (R511). Every 100 µs each cluster's gap ratio is adjusted. -/
  | gapRatioUpdate
  /-- THERMAL_LEVEL_CHANGE (R513). A sensor class crosses a thermal level. -/
  | thermalLevelChange (die : DieId) (cls : Fin 3) (t : Nat)
  /-- THROTTLE_STEP (R513). Each 1 ms at level 2 lowers the effective limit by 5 %. -/
  | throttleStep (die : DieId)
  /-- FREQ_STEP (R513). Each 10 ms at level 3 or below 95 °C steps cluster frequency. -/
  | freqStep (die : DieId)
  /-- CLUSTER_RELOCK (R507). Once running blocks reach their boundaries the cluster PLL relocks. -/
  | clusterRelock (c : ClusterId)
  /-- RELOCK_DONE (R507). The PLL locks and dispatch resumes. -/
  | relockDone (c : ClusterId)
  /-- PWR_CTRL_WRITE (R510). Writes the power limit and Dusk settings, clamping and waking the device. -/
  | pwrCtrlWrite (v : BitVec 64) (a : Agent)
  /-- CLK_CLUSTER_WRITE (R507). Requests a cluster frequency. -/
  | clkClusterWrite (c : ClusterId) (v : BitVec 64) (a : Agent)
  /-- DUSK_ENTRY (R516). After IDLE_US of idleness the device enters Dusk. -/
  | duskEntry
  /-- DUSK_WAKE (R518). A wake event starts leaving Dusk. -/
  | duskWake
  /-- WAKE_COMPLETE (R519). The wake completes and held requests are served. -/
  | wakeComplete
  /-- CFG_CMD_POWER_LIMIT (R532). Management command setting the power limit. -/
  | cfgCmdPowerLimit (a : Agent) (v : BitVec 64) (persist : Bool) (norOk : Bool)
  /-- CFG_CMD_IDLE_US (R532). Management command setting the Dusk idle time. -/
  | cfgCmdIdleUs (a : Agent) (v : BitVec 64) (persist : Bool) (norOk : Bool)
  /-- CFG_CMD_DUSK_EN (R532). Management command enabling or disabling Dusk. -/
  | cfgCmdDuskEn (a : Agent) (v : BitVec 64) (persist : Bool) (norOk : Bool)
  /-- CFG_CMD_CLUSTER_FREQ (R532). Management command setting every cluster's frequency. -/
  | cfgCmdClusterFreq (a : Agent) (v : BitVec 64) (persist : Bool) (norOk : Bool)
  /-- CFG_CMD_SEND_LIMIT (R532). Management command setting SEND_LIMIT. -/
  | cfgCmdSendLimit (a : Agent) (v : BitVec 64) (persist : Bool) (norOk : Bool)
  /-- CFG_CMD_PEER_WAIT (R532). Management command setting PEER_WAIT. -/
  | cfgCmdPeerWait (a : Agent) (v : BitVec 64) (persist : Bool) (norOk : Bool)
  /-- CFG_CMD_RETRY (R532). Management command setting the link RETRY interval. -/
  | cfgCmdRetry (a : Agent) (v : BitVec 64) (persist : Bool) (norOk : Bool)
  /-- CFG_CMD_LOST_WAIT (R532). Management command setting LOST_WAIT. -/
  | cfgCmdLostWait (a : Agent) (v : BitVec 64) (persist : Bool) (norOk : Bool)
  /-- CFG_CMD_FEED_OVERRIDE (R532). Management command setting the feed override. -/
  | cfgCmdFeedOverride (a : Agent) (v : BitVec 64) (persist : Bool) (norOk : Bool)
  /-- CFG_CMD_REGULATOR (R532). Management command setting a partition regulator. -/
  | cfgCmdRegulator (a : Agent) (p : PartId) (v : BitVec 64) (persist : Bool) (norOk : Bool)
  /-- UPD_APPLY (R538). Starts an online update from the service card. -/
  | updApply (a : Agent)
  /-- UPD_RESET_NOW (R538). Makes the pending update reset at once. -/
  | updResetNow (a : Agent)
  /-- UPDATE_STEP_CONFIRM (R538). Every part of a step confirms and the next step begins. -/
  | updateStepConfirm
  /-- UPDATE_WINDOW_MISS (R539). A part misses its window and the step falls back. -/
  | updateWindowMiss
  /-- UPDATE_DEVICE_RESET (R538). The last step's device reset occurs once no job is outstanding. -/
  | updateDeviceReset
  /-- CARD_INSERT (R572). A debounced service-card insertion. -/
  | cardInsert (p : Option Package)
  /-- CARD_REMOVE (R572). A service card is removed during or outside a read. -/
  | cardRemove
  /-- VIN_RISE (R562). VIN_54V rises through 39.5 V and the module turns on. -/
  | vinRise
  /-- VIN_FALL (R562). VIN_54V falls through 38.0 V beyond the ride-through and the module turns off. -/
  | vinFall (us : Nat)
  /-- VIN_OVERVOLTAGE (R562). VIN_54V rises through 62.0 V and the module turns off. -/
  | vinOvervoltage
  /-- OVERCURRENT_TRIP (R563). Input current above 30 A for 500 µs turns the module off. -/
  | overcurrentTrip
  /-- HOTSWAP_RETRY (R563). The hot-swap controller retries 1 s after a trip. -/
  | hotswapRetry
  /-- RAIL_FAULT (R565). A rail leaves regulation or overcurrents and rails switch off. -/
  | railFault (rail : Fin 16) (kind : Nat)
  /-- RAIL_RESTART (R565). Rails ramp again after the rail-fault delay. -/
  | railRestart
  /-- I3C_SET_OFFSET (R561). A 4-byte I3C write sets the register offset. -/
  | i3cSetOffset (b : List Byte)
  /-- I3C_REGISTER_WRITE (R561). A 12-byte I3C write sets the offset and writes a register. -/
  | i3cRegisterWrite (b : List Byte)
  /-- I3C_REGISTER_READ (R561). An 8-byte I3C read returns the register at the offset. -/
  | i3cRegisterRead
  /-- SETDASA (R561). I3C dynamic address assignment from the static address. -/
  | setdasa (static : BitVec 7) (dyn : BitVec 7)
  /-- ENTDAA (R561). I3C dynamic address assignment procedure. -/
  | entdaa (dyn : BitVec 7)
  /-- REGISTER_WRITE (R5). A write to a register without a row of its own, denied for E fields without EXPERT_EN. -/
  | registerWrite (a : Agent) (addr : BitVec 52) (b : RegWrite)
  /-- START_INTERFACE_REQUEST (R378). A TDISP request moves a locked TDI from CONFIG_LOCKED to RUN, after which intake
  evaluates seals and IDE binding applies. -/
  | startInterfaceRequest (f : FnId)
  /-- STOP_INTERFACE_WIPE_DONE (R378). The zero-write of a stopped function's partitions completes, up to 120 ms later,
  and the STOP_INTERFACE response is sent. -/
  | stopInterfaceWipeDone (f : FnId)
  /-- CONFIGURATION_REQUEST (R493). A PCIe configuration read or write, answered with Request Retry Status before step 7
  and otherwise served, including NumVFs, VF Enable and Resizable BAR writes. -/
  | configurationRequest (q : CfgReq)
  /-- PCIE_LINK_REACHES_L0 (R559). The PCIe link reaches L0 and WAKE# is released. -/
  | pcieLinkReachesL0
  /-- OVERVOLTAGE_TURN_ON (R562). After an overvoltage turn-off, VIN_54V falls through 61.0 V and the module turns on
  again. -/
  | overvoltageTurnOn
  /-- PARTIAL_RESET_DONE (R485). A running partial reset completes, its part resumes (for an optical engine, engine up
  after up to 15 ms) and RST_PART_STATUS reports done. -/
  | partialResetDone (ok : Bool)
  /-- UPDATE_IMAGE_WRITTEN (R538). The updater finishes writing and reading back an image, records its version and marks
  it for activation. -/
  | updateImageWritten (res : Nat)
  deriving DecidableEq, Repr

end Sys2Proof
end

