-- ==== Sys2Proof/Config.lean ====
section
/-! DEFINITION. What the specification leaves open: free values, as constants without a body. Nothing can be
proved of the value of any of them. -/

namespace Sys2Proof.Config

/-- The word an engine gives where an operand word is at or above its prime (R21): a function of the command
(its code and parameters) and of its operand words; the model reduces it below the prime. -/
opaque openWord : List Nat → Nat

/-- The cycle, within the bounds R66 sets, in which a permuting move writes its k-th destination row, as a
function of the command's parameters (R66). -/
opaque prmCycle : List Nat → Nat → Nat

/-- The code of the fault record that a lane replacement writes (R305): the specification gives none. -/
opaque laneCode : Nat

/-- The code of the fault record that a laser cartridge pulled while lit writes (R314): the specification gives none. -/
opaque cartCode : Nat

/-- The unit number by which a fault record names the die-to-die bridge (R305, R394). -/
opaque bridgeUnit : Nat

/-- What a configuration record of format 0x0001 becomes when it is migrated (R531): its layout is not given. -/
opaque migrate : List (BitVec 8) → List (BitVec 8)

/-- Whether the checkerboard's even 32-bit beats are 0x5555_5555, else 0xAAAA_AAAA (R289). -/
opaque checkerFirst : Bool

/-- The data lane of the walking one in the first beat of a pseudo-channel, and whether it walks upwards (R289). -/
opaque walkLane : Nat
opaque walkUp : Bool

/-- The number, in the PRBS31 sequence, of the bit at a local bit address of a pseudo-channel (R289). -/
opaque prbsIndex : Nat → Nat

/-- By how much a gap ratio is raised or lowered in one 100 µs interval (R511), from the cluster, the present
ratio and the power average. -/
opaque gapStep : Nat → Nat → Nat → Nat

/-- An undefined word (R36, R104, R224): the n-th time that words become undefined, by word address. -/
opaque undefWord : Nat → Nat → Nat

/-- The clock cycles of the n-th freeze that a stop other than its own timeout ended (R163): nothing in the model measures
them. -/
opaque frozenCycles : Nat → Nat

/-- The number of bundles of a kernel block, from the kernel ID and its entry bundle: the package gives it (R158), in a
format the specification does not state. -/
opaque kernelLen : Nat → Nat → Nat

/-- The prime of limb i of a parameter set, as the security complex knows it when it checks a share blob (R361): no rule
says where it takes the value from. -/
opaque psetPrime : Nat → Nat → Nat

/-- LIMB_LIST of the result descriptor of a partial decryption (R365 gives it no value): the n-th result. -/
opaque shareLimbList : Nat → Nat

/-- How far the n-th abandoned partial decryption had come when its slot was wiped (R367). -/
opaque shareProgress : Nat → Nat

/-- Where the argument area of a bootstrapping job names its destination descriptor (R139): the word address, from the 64
bytes that follow the key table; the specification gives the area no layout. -/
opaque bootDst : List (BitVec 8) → Nat

/-- The arguments of a share-protocol kernel (R352, R353), from the first 64 bytes of the argument area, whose layout the
specification does not give: 0 the parties n, 1 the threshold t, 2 RING, 3 PARTY, 4 COUNT, 5 the triple object's address. -/
opaque mpcArg : Nat → List (BitVec 8) → Nat

/-- The pre-FEC bit error ratio of a link over a second of operation (R345): BER_LOG, and whether a ratio that rounds to 40 lies
above 1 × 10^−4; from the link and the number of the second. -/
opaque linkBer : Nat → Nat → Nat
opaque marginAt40 : Nat → Nat → Bool

/-- What the sensors of the optics show (R347): kind (0 engine temperature, 1 cartridge temperature, 2 optical output), unit, and
always-on count. -/
opaque sensor : Nat → Nat → Nat → Nat

/-- The index of the codeword in which a flit leaves a link (R316), from the link, the always-on count and the flit's place
among what the command puts out. -/
opaque codewordIndex : Nat → Nat → Nat → Nat

/-- A byte of a flit that carries nothing (R317), by its place; and a byte of a control flit's payload, from the record, whose
layout the specification does not give, and its place. -/
opaque idleByte : Nat → BitVec 8
opaque ctlByte : List Nat → Nat → BitVec 8

/-- The kernel ID that the bytes of a kernel package carry (R156, R427): the package format is not given. -/
opaque packageKid : List (BitVec 8) → Nat

/-- SHA-384 of the ROM, fixed at manufacture (R432). -/
opaque romDigest : Nat

/-- Byte i of the HSS signature of the identity key with an index over a message (R432; RFC 8554): from the unique device
secret, the index, the message and i. -/
opaque idSignature : Nat → Nat → List (BitVec 8) → Nat → BitVec 8

/-- Byte i of the device identity public key in the form of SIGNER (R432). -/
opaque idPub : Nat → BitVec 8

/-- The device identity certificate (R433): its length and its bytes. -/
opaque certLength : Nat
opaque certByte : Nat → BitVec 8

/-- The data of an SPDM answer whose layout the SPDM standard gives (R434): from the answer's kind and the byte's place. -/
opaque spdmByte : Nat → Nat → BitVec 8

/-- The PCIe Vendor ID, the die stepping, and SUFFIX (0 for -L, 1 for -LD), as the identity capability reports them
(R549). -/
opaque vendorId : Nat
opaque stepping : Nat
opaque suffix : Nat

/-- Entropy: the n-th drawn number (nonces, key pairs, challenges, flooding noise). -/
opaque entropy : Nat → Nat

end Sys2Proof.Config
end

