-- ==== Sys2Proof/Machine/Bits.lean ====
section
/-! DEFINITION. Bit fields, byte order and counters: the helpers every family uses (R10, R11). -/

namespace Sys2Proof.Machine

/-- Bits [lo + len − 1 : lo] of a number. -/
def fld (n lo len : Nat) : Nat := (n >>> lo) % 2 ^ len

/-- Bit i of a number. -/
def bit (n i : Nat) : Bool := n.testBit i

/-- One as a number. -/
def b2n (b : Bool) : Nat := if b then 1 else 0

/-- A number with bit i set or cleared. -/
def withBit (n i : Nat) (b : Bool) : Nat := if n.testBit i = b then n else if b then n + 2 ^ i else n - 2 ^ i

/-- A field placed at its bit position, cut to its width. -/
def put (v lo len : Nat) : Nat := (v % 2 ^ len) <<< lo

/-- The signed value of a field of `len` bits. -/
def sext (v len : Nat) : Int := if v % 2 ^ len < 2 ^ (len - 1) then (v % 2 ^ len : Nat) else (v % 2 ^ len : Nat) - (2 ^ len : Nat)

/-- A little-endian number (R10). -/
def leNat : List Byte → Nat
  | [] => 0
  | b :: t => b.toNat + 256 * leNat t

/-- The `k` low bytes of a number, little-endian (R10). -/
def leBytes : Nat → Nat → List Byte
  | 0, _ => []
  | k + 1, n => BitVec.ofNat 8 n :: leBytes k (n / 256)

/-- `len` bytes of a list from `off`, zero past its end. -/
def bytesAt (l : List Byte) (off len : Nat) : List Byte :=
  ((l.drop off).take len) ++ List.replicate (len - ((l.drop off).take len).length) 0

/-- The little-endian number of `len` bytes at `off`. -/
def numAt (l : List Byte) (off len : Nat) : Nat := leNat (bytesAt l off len)

/-- A list with bytes replaced from `off`; bytes past its end are dropped. -/
def putBytes (l : List Byte) (off : Nat) (v : List Byte) : List Byte :=
  (l.take off ++ v ++ l.drop (off + v.length)).take l.length

/-- A counter that saturates at its width (R75, R174, R285 and the other counter rules). -/
def satAdd (w n k : Nat) : Nat := min (n + k) (2 ^ w - 1)

/-- The number of set bits below `w`. -/
def popCount (w n : Nat) : Nat := ((List.range w).filter fun i => n.testBit i).length

/-- The positions of the set bits below `w`, ascending. -/
def bitsOf (w n : Nat) : List Nat := (List.range w).filter fun i => n.testBit i

/-- The number whose set bits are those below `w` that hold. -/
def maskOf (w : Nat) (f : Nat → Bool) : Nat := ((List.range w).filter f).foldl (fun a i => a + 2 ^ i) 0

/-- Round up to a multiple of a power of two or of any positive number. -/
def alignUp (n k : Nat) : Nat := (n + (k - 1)) / k * k

/-- a/b rounded up. -/
def cdiv (a b : Nat) : Nat := (a + (b - 1)) / b

end Sys2Proof.Machine
end

