-- ==== Sys2Proof/Machine/CoreState.lean ====
section
/-! DEFINITION. The state of one logical polynomial core: local store, engines and their commands in
flight, sequencer, block queue, kernel store, rings, stream engines and the registers of its core block
(R551). Each field's comment gives its width, the rule that names it and its reset value. -/

namespace Sys2Proof.Machine

/-- One entry of the shape table (R180, R183). -/
structure Shape where
  /-- extent of the inner run, 1 to 131,072 (R183) -/
  e0 : Nat
  /-- extent of dimension 1, 1 to 4,096 (R183) -/
  e1 : Nat
  /-- extent of dimension 2, 1 to 4,096 (R183) -/
  e2 : Nat
  /-- stride of dimension 1, signed 32 bits (R180) -/
  s1 : Int
  /-- stride of dimension 2, signed 32 bits (R180) -/
  s2 : Int
  /-- prime-table index of the first run, 7 bits (R181) -/
  pidx : Nat
  /-- prime step along dimension 1, 4 bits (R181) -/
  pstep : Nat
  deriving DecidableEq, Repr

/-- One entry of the prime table (R196). -/
structure PrimeEntry where
  /-- the prime, 36 bits -/
  q : Nat
  /-- MODE: true for a forerunner entry -/
  fore : Bool
  /-- w of R22; zero in forerunner mode -/
  w : Nat
  /-- the terms of R22 as sign and exponent, in descending exponent; at most three -/
  terms : List (Int × Nat)
  /-- −q^(−1) mod 2^32 in forerunner mode, zero in native mode (R26) -/
  qinv : Nat
  /-- lg(q) of R30, unsigned 16.16 -/
  lg : Nat
  /-- the root for n = 12 + i at key i, where present (R68) -/
  roots : Tab Nat
  deriving DecidableEq, Repr

/-- A seed register (R193, R194, R126). -/
inductive SeedReg where
  /-- no binding -/
  | empty
  /-- a binding exists, its header has not landed -/
  | waiting
  /-- the header's SEED (32 bytes), LOG_N and DIGITS -/
  | filled (seed : List Byte) (logN digits : Nat)
  /-- the binding's group failed, or its header check failed, with this fault code and detail -/
  | failed (code detail : Nat)
  deriving DecidableEq, Repr

/-- The state of one row of a ring (R233 to R235, R244). -/
inductive RowState where
  /-- free for landing (TYPE 0, 3) -/
  | free
  /-- landed and not released (TYPE 0, 2, 3) -/
  | landed
  /-- released to the block (TYPE 1) -/
  | released
  /-- written by the block and ready to drain (TYPE 1) -/
  | ready
  /-- not landed (TYPE 2) -/
  | notLanded
  /-- marked failed with a fault code and detail (R244) -/
  | failed (code detail : Nat)
  deriving DecidableEq, Repr

/-- The receiver's state of one link stream into a ring (R331, R332). -/
structure RxStream where
  /-- sending device ID -/
  dev : Nat
  /-- sending global core -/
  core : Nat
  /-- epoch of the stream (R329) -/
  epoch : Nat
  /-- expected MSEQ -/
  expected : Nat
  /-- a catch-up message of the stream has landed (R338) -/
  caught : Bool
  deriving DecidableEq, Repr

/-- A posted ring (R233, R251). -/
structure Ring where
  /-- owning engine -/
  eng : Nat
  /-- TYPE 0 to 3 -/
  typ : Nat
  /-- REL of the post -/
  rel : Bool
  /-- first row -/
  base : Nat
  /-- rows, 1 to 65,536 -/
  rows : Nat
  /-- land pointer, as a row index within the ring -/
  land : Nat
  /-- release or drain pointer, as a row index within the ring -/
  drain : Nat
  /-- rows whose state differs from the state at post -/
  row : Tab RowState
  /-- rows read in the present cycle, released in the next (REL = 0, R234) -/
  releasing : List Nat
  /-- link streams the ring has state for, at most 64 (R331) -/
  rx : List RxStream
  /-- rows marked failed (R117, R126, R244): every row of the ring or only those not landed, fault code and detail -/
  fail : Option (Bool × Nat × Nat)
  /-- rows from the land pointer on that transfers issued before the failure still fill (R244); 0 -/
  keep : Nat
  deriving DecidableEq, Repr

/-- A key-stream binding of the core (R246, R247). -/
structure Binding where
  /-- key-stream group of the core's die -/
  group : Nat
  /-- operation slot -/
  slot : Nat
  /-- seed register -/
  sreg : Nat
  /-- landing ring -/
  ring : Nat
  /-- ELEMENT of a ROTATE_SET -/
  element : Nat
  /-- AUX_GALOIS of a bootstrap-auxiliary stream (AUXV = 1) -/
  aux : Option Nat
  /-- the engine that executed the KBIND -/
  eng : Nat
  /-- the binding is attached to the operation open on its slot -/
  attached : Bool
  /-- the header as it landed (256 bytes) -/
  header : Option (List Byte)
  /-- the expected key tag, once ready (R116) -/
  expected : Option Nat
  /-- a failed check: fault code and detail (R117, R118, R126) -/
  bad : Option (Nat × Nat)
  /-- stream rows passed so far: the next row of the stream that may concern this core (R121) -/
  pos : Nat
  /-- none while multicast delivers; else the number of chunks whose heads catch-up has checked (R124) -/
  catchup : Option Nat
  /-- the chunk in which delivery stopped, whose head catch-up reads and checks first (R124); none -/
  recheck : Option Nat
  /-- stream rows below this one were delivered before the catch-up began, which discards them (R124); 0 -/
  seen : Nat
  /-- address of the key object, and the level of the group at the KBIND -/
  addr : Nat
  level : Nat
  /-- every chunk the operation reads has passed its check (R92) -/
  tagsOk : Bool
  /-- the last row of its stream has reached the core (R125) -/
  ended : Bool
  deriving DecidableEq, Repr

/-- The 16 fields of a descriptor (R34). -/
structure Descr where
  magic : Nat
  version : Nat
  boundExceeded : Bool
  scheme : Nat
  extended : Bool
  mode : Bool
  domain : Bool
  kind : Bool
  psetId : Nat
  level : Nat
  components : Nat
  keysetId : Nat
  scale : Nat
  noise : Nat
  slots : Nat
  layout : Nat
  limbs : Nat
  limbList : Nat
  deriving DecidableEq, Repr

/-- An open operation slot (R77 to R84). -/
structure OpSlot where
  /-- operation code of R85 -/
  opcode : Nat
  /-- word address of the first destination descriptor -/
  dst : Nat
  /-- the descriptors that OP.CLOSE will write, destination j at list index j -/
  results : List Descr
  /-- whether the operation consumes key streams -/
  keySwitch : Bool
  /-- number of key streams it consumes (R for ROTATE_SET) -/
  elements : Nat
  /-- level, KEYSET_ID and PSET_ID of the first ciphertext source, as OP.OPEN read them (R116) -/
  level : Nat
  keysetId : Nat
  psetId : Nat
  /-- PARAM, the Galois element of ROTATE -/
  param : Nat
  /-- the Galois elements of ROTATE_SET -/
  galois : List Nat
  /-- block cycle of the OP.OPEN -/
  opened : Nat
  /-- the lowest word address of the destination limbs over all components, and the extent's words (R224) -/
  extStart : Nat
  extLen : Nat
  /-- logical cores named by its limb lists (R83) -/
  cores : List Nat
  /-- the destination limbs on this core: word address and words -/
  dstLimbs : List (Nat × Nat)
  /-- the destination occupies the words of the first source (R82) -/
  inPlace : Bool
  /-- a command of the operation has issued (R84) -/
  issued : Bool
  /-- opening order within the block -/
  serial : Nat
  /-- issue order of the last command of the operation: that of its OP.CLOSE bundle, 2^40 while it is open (R77) -/
  closing : Nat
  /-- the constants at SRC2, each reduced modulo the prime of every limb of the result (R87) -/
  residues : List (List Nat)
  deriving DecidableEq, Repr

/-- A command in flight, its operands resolved at issue: effective base addresses, shapes, and the speeds `fm` of R52
and `am` of R212 (1 or 2). -/
inductive EngOp where
  /-- NTT.FWD and NTT.INV (R53), or with a tile interval NTT.FWDQ and NTT.INVQ (R55) -/
  | ntt (inv : Bool) (queue : Option Nat) (src dst : Nat) (sh dsh : Shape) (fm am : Nat)
  /-- BCV.LDM (R56) -/
  | ldm (src : Nat) (sh : Shape) (am : Nat)
  /-- BCV.EXT (R57) -/
  | ext (src dst : Nat) (sh dsh : Shape) (fm am : Nat)
  /-- BCV.MATMUL (R58) -/
  | matmul (acc : Bool) (src dst : Nat) (sh dsh : Shape) (fm am : Nat)
  /-- an arithmetic instruction or QPOP: the register receives its value in cycle `lat` (R59) -/
  | reg (vd : Nat) (val : List Word) (lat : Nat)
  /-- LD: two rows read at issue, the register written in cycle 5 -/
  | ld (vd row : Nat)
  /-- ST: the rows land in cycle 3 -/
  | st (row : Nat) (val : List Word)
  /-- a permuting move (R65, R66, R223): `way` 0 out of place, 1 through staging, 2 through scratch; `auto` the Galois
  element and the coefficient domain of an automorphism -/
  | move (way : Nat) (auto : Option (Nat × Bool)) (src dst scratch : Nat) (sh dsh : Shape) (fm am : Nat)
  /-- PRM.GATHER and PRM.SCATTER (R66, R219): the list first, then the data -/
  | list (scatter : Bool) (laddr e src dst : Nat) (sh : Shape) (am : Nat)
  /-- PRM.SEND (R293): source words to a target core -/
  | send (src target dst : Nat) (sh : Shape) (am : Nat)
  /-- KEX.GEN and, to the queue, KEX.GENQ (R67) -/
  | kex (queue : Bool) (seed : List Byte) (logN digit entry pidx blk cnt row : Nat)
  /-- OP.CLOSE's descriptor writes (R79): destination j, word address and words, in cycle 2 + j -/
  | close (slot : Nat) (descr : List (Nat × List Word))
  deriving DecidableEq, Repr

/-- An issued command that has not finished. -/
structure InFlight where
  /-- slot code (R178) -/
  slot : Nat
  /-- bundle index within the block -/
  bundle : Nat
  /-- issue order within the block -/
  order : Nat
  /-- block cycle of issue (R47) -/
  issue : Nat
  op : EngOp
  /-- the ALIAS flag of the job skips the test of R217 (R218) -/
  aliased : Bool
  /-- words read so far, keyed by their place in the read order -/
  cap : Tab Word
  deriving DecidableEq, Repr

/-- The steps of an active loop (R149, R186). -/
structure Loop where
  /-- index of the body's first bundle -/
  start : Nat
  /-- B -/
  len : Nat
  /-- C -/
  reps : Nat
  /-- present repetition, from 0 -/
  rep : Nat
  rd0 : Int
  rd1 : Int
  st : Int
  px : Nat
  w0 : Int
  m0 : Nat
  w1 : Int
  m1 : Nat
  deriving DecidableEq, Repr

/-- Why a core is frozen under R163 and R194: the source, the bundle and the row that STREAM_TIMEOUT reports (R165). -/
structure Freeze where
  /-- 0 to 3 a stream engine, 4 the cluster exchange, 5 a remote local-store write -/
  source : Nat
  bundle : Nat
  row : Nat
  /-- the seed register waited for (R194) -/
  sreg : Option Nat
  /-- issue order of the command that waits -/
  order : Nat
  deriving DecidableEq, Repr

/-- The audit stamp of the latest access of one row or register (R167). -/
structure Stamp where
  /-- block cycle of the access -/
  cycle : Nat
  /-- issue order of the command -/
  order : Nat
  /-- bundle of the command -/
  bundle : Nat
  deriving DecidableEq, Repr

/-- A block entry (R158). -/
structure BlockEntry where
  /-- true for a kernel block -/
  kernel : Bool
  /-- image address of a program block -/
  image : Nat
  /-- kernel ID -/
  kid : Nat
  /-- index of the entry bundle of a kernel block -/
  entry : Nat
  /-- BLOCK_INDEX -/
  index : Nat
  /-- LENGTH in bundles -/
  length : Nat
  /-- ORDERED -/
  ordered : Bool
  /-- WAIT0 to WAIT3: token and threshold -/
  waits : List (Nat × Nat)
  /-- SIGNAL0 and SIGNAL1 -/
  signals : List Nat
  deriving DecidableEq, Repr

/-- One bank of the kernel store (R155, R173). -/
structure Bank where
  /-- 0 empty, 1 loading, 2 valid -/
  state : Nat
  /-- kernel ID, valid when the state is 2 -/
  kid : Nat
  /-- the package's bundles of 512 bits, in order from its first byte -/
  code : List Nat
  deriving DecidableEq, Repr

/-- A kernel package of the registry (R427). -/
structure RegEntry where
  /-- kernel ID -/
  kid : Nat
  /-- the package's bytes; its length is their number -/
  bytes : List Byte
  /-- SHA-256 of the package, as a number -/
  digest : Nat
  deriving DecidableEq, Repr

/-- A kernel load in progress (R156, R157). -/
structure KLoad where
  /-- target bank -/
  bank : Nat
  /-- device address and length in bytes -/
  addr : Nat
  bytes : Nat
  /-- forced into the active bank -/
  force : Bool
  /-- the loading function -/
  fn : Nat
  /-- the registry valid when the load began (R427) -/
  registry : List RegEntry
  deriving DecidableEq, Repr

/-- A stream command record as copied by its engine (R195, R230). -/
structure StrCmd where
  /-- the record's words, 32 bits each -/
  words : List Nat
  /-- word address of the record -/
  addr : Nat
  /-- BLOCK_INDEX of the issuing block -/
  block : Nat
  deriving DecidableEq, Repr

/-- One device that an LSEND sends to (R328, R337, R338). -/
structure Dest where
  /-- device ID -/
  peer : Nat
  /-- dropped from its link group: it completes by catch-up -/
  dropped : Bool
  /-- rows handed to messages, and rows acknowledged -/
  sent : Nat
  acked : Nat
  /-- always-on count since which it holds its group (R338) -/
  stall : Option Nat
  /-- always-on count since which the transfer waits for it to become ACTIVE (R335) -/
  waiting : Option Nat
  deriving DecidableEq, Repr

/-- A transfer in flight (R240, R259). -/
structure Transfer where
  /-- number of the transfer on its engine, for FENCE and SIG -/
  id : Nat
  /-- opcode of R237: 6 RD, 7 WR, 8 RRD, 9 RWR, 10 LSEND -/
  opc : Nat
  /-- device address of the next HBM byte -/
  addr : Nat
  /-- local word address of the next word, for a local run -/
  local' : Nat
  /-- ring, for a ring operand -/
  ring : Option Nat
  /-- 0 PACKED, 1 WIDE32 (R239) -/
  form : Nat
  /-- units of 16 words, else rows -/
  unit : Bool
  /-- rows (or units) in all -/
  len : Nat
  /-- rows (or units) requested so far -/
  requested : Nat
  /-- rows (or units) completed so far -/
  done : Nat
  /-- target core of RRD and RWR -/
  core : Nat
  /-- remote word address of the next word -/
  remote : Nat
  /-- PEER and QUEUE of LSEND -/
  peer : Nat
  queue : Nat
  /-- rows of a request that waits for its partition's regulator (R267); 0 -/
  pend : Nat
  /-- the devices an LSEND sends to, and the bytes drained from its ring for the next message -/
  dests : List Dest
  buf : List Byte
  /-- rows of the next message of a ring that met uncorrectable data and are left out of it (R244); 0 -/
  skip : Nat
  /-- BLOCK_INDEX of the block that issued the program, and the program's number on its engine -/
  block : Nat
  prog : Nat
  deriving DecidableEq, Repr

/-- A running stream program (R236 to R238). -/
structure Prog where
  /-- 64-bit instructions -/
  instrs : List Nat
  /-- index of the next instruction -/
  pc : Nat
  /-- A0 to A7, 52 bits each -/
  a : List Nat
  /-- L0 to L3, 22 bits each -/
  l : List Nat
  /-- active loops: first body index, length, repetitions, present repetition; innermost first -/
  loops : List (Nat × Nat × Nat × Nat)
  /-- word address and block of the RUN record, and the program's number on its engine -/
  addr : Nat
  block : Nat
  serial : Nat
  deriving DecidableEq, Repr

/-- A stream engine (R230 to R252). -/
structure StreamEng where
  /-- accepted commands in order, at most 128 (R170); empty at reset -/
  queue : List StrCmd
  /-- the running program -/
  prog : Option Prog
  /-- WAITT: the token and the threshold awaited -/
  waitTok : Option (Nat × Nat)
  /-- FENCE: waits for transfers below this number -/
  fence : Option Nat
  /-- UNPOST: waits for the ring's transfers -/
  unpost : Option Nat
  /-- transfers in flight -/
  xfers : List Transfer
  /-- number of the next transfer -/
  nextId : Nat
  /-- pending SIGs: token, the transfer number before which all must complete, the program's number (R241) -/
  sigs : List (Nat × Nat × Nat)
  /-- programs started -/
  progs : Nat
  /-- DISCARDS, 32 bits (R250); 0 -/
  discards : Nat
  /-- stopped by a stream fault (R244); false -/
  stopped : Bool
  /-- draining at a job boundary (R249); false -/
  draining : Bool
  deriving DecidableEq, Repr

/-- The sequencer (R146 to R171). -/
structure Seq where
  /-- RUN_INDEX, 32 bits (R171); 0 -/
  runIndex : Nat
  /-- AUDIT (R171); false -/
  audit : Bool
  /-- the running block -/
  running : Option BlockEntry
  /-- the running block's bundles of 512 bits, as fetched -/
  code : List Nat
  /-- block cycle reached: its reads have taken place (R146) -/
  cycle : Nat
  /-- the writes of that cycle have taken place too -/
  wrote : Bool
  /-- index of the next bundle to issue; none when the last has issued -/
  next : Option Nat
  /-- block cycle in which it issues -/
  due : Nat
  /-- the bundle whose commands are issuing, as an index and its loop repetitions' effective values -/
  cur : Option Nat
  /-- slot code of the latest command of that bundle that has issued, plus one -/
  slotDone : Nat
  /-- active loops, innermost first; at most 4 (R149) -/
  loops : List Loop
  /-- the loops that enclose the bundle whose commands are issuing -/
  curLoops : List Loop
  /-- issue order of the next bundle's commands -/
  order : Nat
  /-- an OP.OPEN failure to be reported: block cycle, code and detail (R78) -/
  openFault : Option (Nat × Nat × Nat)
  /-- the block has stopped: no further bundle issues -/
  halted : Bool
  /-- the core's part in the job ended by a fault (R152, STATE 0x5) -/
  faulted : Bool
  /-- the block must stop at its next bundle: 0 no, 1 its commands complete (R83), 2 they are cancelled (R296, R388) -/
  stopNext : Nat
  /-- the slot of the cluster operation that another core's fault lies in, and what the fault does to its destination: 0
  nothing, 1 undefined when in place, 2 undefined (R83, R224) -/
  peerOp : Option (Nat × Nat)
  /-- the present freeze, if any (R163) -/
  freeze : Option Freeze
  /-- always-on count at which the freeze began (R165) -/
  freezeAon : Nat
  /-- unfrozen cycles under audit since the latest audit freeze (R169) -/
  auditRun : Nat
  /-- the latest block cycle in which an ECC freeze was counted (R162) -/
  eccAt : Option Nat
  deriving DecidableEq, Repr

/-- A bootstrap under way on a core (R133 to R140, R144). -/
structure Boot where
  /-- BGV bootstrapping -/
  bgv : Bool
  /-- word address of the destination descriptor that the job names -/
  dst : Nat
  /-- LEVEL of the output -/
  level : Nat
  /-- KEYSET_ID, SLOTS and PSET_ID of the input -/
  keysetId : Nat
  slots : Nat
  psetId : Nat
  /-- the destination's limbs: core, word address, words -/
  runs : List (Nat × Nat × Nat)
  deriving DecidableEq, Repr

/-- One logical polynomial core. -/
structure Core where
  /-- local store: 4 Mi words of 36 bits, canonical, unlisted words read zero (R46, R208); empty -/
  ls : Tab Word
  /-- words written through the side port since the reads of the present cycle: what an engine read of that cycle still sees, and
  the side-port value, which remains (R204); none -/
  side : Tab (Word × Word)
  /-- ECC upsets by 4·row + codeword: true when uncorrectable (R205, R206); none -/
  upset : Tab Bool
  /-- rows corrected and waiting for their rewrite (R205, R207); none -/
  rewrite : List Nat
  /-- next row of the scrubber (R207); 0 -/
  scrubRow : Nat
  /-- SEQ_LS_SEG.REQ, 8 bits (R226); 0 -/
  segReq : Nat
  /-- SEQ_LS_SEG.STATE, 8 bits (R226); 0 -/
  segState : Nat
  /-- SEQ_LS_SEG.BUSY, 8 bits (R226); 0 -/
  segBusy : Nat
  /-- SEQ_LS_ECC_STATUS.LAST_UE_ROW, 16 bits (R227); 0 -/
  lastUe : Nat
  /-- SEQ_LS_ECC_STATUS.LAST_CE_ROW, 16 bits (R227); 0 -/
  lastCe : Nat
  /-- SEQ_LS_ECC_STATUS.UE_SCRUB (R227); false -/
  ueScrub : Bool
  /-- SEQ_LS_ECC_STATUS.UE_VALID (R227); false -/
  ueValid : Bool
  /-- SEQ_LS_ECC_STATUS.CE_VALID (R227); false -/
  ceValid : Bool
  /-- SEQ_LS_CE_CNT, SEQ_LS_UE_CNT, SEQ_LS_SCRUB_CNT, 64 bits (R228); 0 -/
  ceCnt : Nat
  ueCnt : Nat
  scrubCnt : Nat
  /-- v0 to v31, 128 words each; an unlisted register is zero (R61); zero -/
  vregs : Tab (List Word)
  /-- prime table, at most 96 entries (R68, R197); empty -/
  ptab : List PrimeEntry
  /-- constant buffer, at most 5,184 words (R56); empty -/
  cbuf : List Word
  /-- shape table, entries written in the present block (R180); none -/
  shapes : Tab Shape
  /-- PX0 to PX3, 40 bits (R187); 0 -/
  px : Tab Nat
  /-- shape and PX writes of the present cycle, visible from the next (R184); none -/
  newShapes : Tab Shape
  newPx : Tab Nat
  /-- finished-tile queue, at most 16 tiles of 512 words, oldest first (R62); empty -/
  tiles : List (List Word)
  /-- quarters taken of the oldest tile (R62); 0 -/
  quarter : Nat
  /-- EWE_TILEQ_STATUS.DISCARDS 16 bits and HWM 5 bits (R76); 0 -/
  tileDiscards : Nat
  tileHwm : Nat
  /-- busy counters of R75, 64 bits; 0 -/
  nttBusy : Nat
  bcvBusy : Nat
  eweArith : Nat
  prmBusy : Nat
  kexWords : Nat
  /-- block cycle from which each engine accepts its next command, by engine code (R47, R51); 0 -/
  freeAt : Tab Nat
  /-- block cycle up to which an occupancy that began in an earlier block has been counted (R75); 0 -/
  counted : Tab Nat
  /-- always-on count of the latest boundary cycle; 0 -/
  endAon : Nat
  /-- commands in flight, in issue order; none -/
  inflight : List InFlight
  /-- operation slots 0 to 3 (R77); closed -/
  ops : Tab OpSlot
  /-- operations that the running block has closed (R77, R168); none -/
  closed : List OpSlot
  /-- the bootstrap that kernel blocks carry out on the core (R138 to R140); none -/
  boot : Option Boot
  /-- seed registers 0 to 7 (R193); empty -/
  seeds : Tab SeedReg
  /-- key-stream bindings (R246); none -/
  binds : List Binding
  /-- KST_SHADOW.BASE 22 bits and SIZE 23 bits (R131); 0 -/
  shadowBase : Nat
  shadowSize : Nat
  /-- KST_CORE_STATUS KEY_ROWS 32, CATCHUP_ROWS 24, DROPS 8 bits (R131); 0 -/
  keyRows : Nat
  catchupRows : Nat
  drops : Nat
  /-- rings by ring ID 0 to 15 (R233, R251); none posted -/
  rings : Tab Ring
  /-- stream engines 0 to 3 (R250) -/
  engs : Tab StreamEng
  /-- STR_RD_BYTES, STR_WR_BYTES, STR_SMALL_CNT, 64 bits (R252); 0 -/
  strRd : Nat
  strWr : Nat
  strSmall : Nat
  /-- egress buffer of at most 32,768 words: target core, word address, word (R293); empty -/
  egress : List (Nat × Nat × Word)
  /-- most egress words held at once, 16 bits (R307); 0 -/
  egressHwm : Nat
  /-- sequencer -/
  seq : Seq
  /-- block queue, oldest first, at most 256 entries including the running block (R158); empty -/
  bq : List BlockEntry
  /-- pushes held on a full queue, oldest first (R159); none -/
  bqHeld : List BlockEntry
  /-- SEQ_BQ_PUSH bytes most recently written (R175); zero -/
  bqWin : Tab Byte
  /-- images resident in the instruction cache, by device address: their bundles of 512 bits (R153); none -/
  icache : Tab (List Nat)
  /-- kernel banks 0 and 1 (R155); empty -/
  banks : Tab Bank
  /-- SEQ_KSTORE_STATUS.ACTIVE (R173); 0 -/
  active : Nat
  /-- SEQ_KSTORE_STATUS.LOAD_ERR, 4 bits (R173); 0 -/
  loadErr : Nat
  /-- a load in progress (R156, R427); none -/
  load : Option KLoad
  /-- a forced load that waits for the running block's boundary (R157); none -/
  forceWait : Option KLoad
  /-- token counts as this core sees them, and signals on their way to it: token and signaller (R160, R303); none -/
  seen : Tab Nat
  sigq : List (Nat × Nat)
  /-- SEQ_KLOAD_ADDR bits [51:6] as a byte address (R172); 0 -/
  kloadAddr : Nat
  /-- SEQ_KLOAD_CTRL.LEN64 and BANK (R172); 0 -/
  kloadLen : Nat
  kloadBank : Nat
  /-- freeze counters and dispatch counters, 64 bits (R174); 0 -/
  eccFreeze : Nat
  lateFreeze : Nat
  lateFreezeCyc : Nat
  dispatchCnt : Nat
  skipCnt : Nat
  /-- the die's always-on count before which the core dispatches no block: the issue gap after its latest block (R512); 0 -/
  gapUntil : Nat
  /-- audit stamps of writes by row, and by 65,536 + register (R167); none -/
  stamps : Tab Stamp
  /-- words that commands of the running block have written, with the block cycle (R104, R165); none -/
  written : Tab Nat
  /-- job that holds the core: its index in the device's job list (R386); none -/
  job : Option Nat
  /-- function of the last job that ran on the core; none when reset since (R387); none -/
  lastFn : Option Nat
  /-- the core's part in the job has ended (R152); false -/
  partEnded : Bool
  /-- the wipe of R225 is running; false -/
  wiping : Bool
  /-- epoch of the core's link streams, raised at each job start (R329); 0 -/
  epoch : Nat
  deriving DecidableEq, Repr

/-- A stream engine with nothing in it. -/
def StreamEng.reset : StreamEng :=
  { queue := [], prog := none, waitTok := none, fence := none, unpost := none, xfers := [], nextId := 0,
    sigs := [], progs := 0, discards := 0, stopped := false, draining := false }

/-- A sequencer at reset (R171). -/
def Seq.reset : Seq :=
  { runIndex := 0, audit := false, running := none, code := [], cycle := 0, wrote := true, next := none, due := 0,
    cur := none, slotDone := 0, loops := [], curLoops := [], order := 0, openFault := none, halted := false,
    faulted := false, stopNext := 0, peerOp := none, freeze := none, freezeAon := 0, auditRun := 0, eccAt := none }

/-- A core at reset: every register zero (R75, R76, R131, R171 to R174, R226 to R228, R250 to R252). -/
def Core.reset : Core :=
  { ls := [], side := [], upset := [], rewrite := [], scrubRow := 0, segReq := 0, segState := 0, segBusy := 0, lastUe := 0,
    lastCe := 0, ueScrub := false, ueValid := false, ceValid := false, ceCnt := 0, ueCnt := 0, scrubCnt := 0,
    vregs := [], ptab := [], cbuf := [], shapes := [], px := [], newShapes := [], newPx := [], tiles := [],
    quarter := 0, tileDiscards := 0, tileHwm := 0, nttBusy := 0, bcvBusy := 0, eweArith := 0, prmBusy := 0,
    kexWords := 0, freeAt := [], counted := [], endAon := 0, inflight := [], ops := [], closed := [], boot := none, seeds := [], binds := [], shadowBase := 0,
    shadowSize := 0, keyRows := 0, catchupRows := 0, drops := 0, rings := [], engs := [], strRd := 0, strWr := 0,
    strSmall := 0, egress := [], egressHwm := 0, seq := Seq.reset, bq := [], bqHeld := [],
    bqWin := [], icache := [], banks := [], active := 0, loadErr := 0, load := none, forceWait := none,
    seen := [], sigq := [], kloadAddr := 0, kloadLen := 0, kloadBank := 0, eccFreeze := 0, lateFreeze := 0,
    lateFreezeCyc := 0, dispatchCnt := 0, skipCnt := 0, gapUntil := 0, stamps := [], written := [], job := none, lastFn := none,
    partEnded := false, wiping := false, epoch := 0 }

end Sys2Proof.Machine
end

