-- ==== Sys2Proof/Machine/LinkState.lean ====
section
/-! DEFINITION. The state of the Starlane links, optical engines, cartridges, peer table, link groups and
remote windows (R312 to R349). -/

namespace Sys2Proof.Machine

/-- A message as it travels on a link (R329): head fields and payload. -/
structure Msg where
  /-- KIND: 1 stream message, 2 window write, 3 stream catch-up -/
  kind : Nat
  /-- FLAGS bit 0: FORM of R239 -/
  form : Nat
  /-- TARGET: QUEUE of LSEND, or the window in [3:0] -/
  target : Nat
  /-- MSEQ, modulo 65,536 -/
  mseq : Nat
  /-- ORIGIN -/
  origin : Nat
  /-- payload, LEN bytes -/
  data : List Byte
  deriving DecidableEq, Repr

/-- A control record on a link: the answers and probes of R318 to R341. -/
inductive Ctl where
  /-- NAK naming the expected SEQ (R318) -/
  | nak (seq : Nat)
  /-- HELLO with device ID, link number and Starlane version (R320) -/
  | hello (id link version : Nat)
  /-- PROBE, PROBE_ACK, PROBE_NAK (R326) -/
  | probe
  | probeAck
  | probeNak
  /-- MACK of a message: sending core, queue, MSEQ (R333) -/
  | mack (core queue mseq : Nat)
  /-- REFUSE with the first failing condition (R331) -/
  | refuse (core queue mseq reason : Nat)
  /-- RNR (R332) -/
  | rnr (core queue mseq : Nat)
  /-- WINDOW_CLOSED and WINDOW_REFUSED, naming window and byte offset (R341) -/
  | windowClosed (window mseq : Nat)
  | windowRefused (window mseq : Nat)
  /-- acknowledgement of a completed window write (R341, R343) -/
  | windowAck (window mseq : Nat)
  /-- the pairing messages of R460: feed tag, and whether it is accepted -/
  | pairing (feed : Nat)
  | pairingAnswer (accepted : Bool)
  /-- a commit record and its answer (R463, R464) -/
  | commit (record : List Byte)
  | commitAnswer (code detail : Nat) (mirrored : Bool)
  /-- the record of KEEP_ALIVE, once per µs (R320) -/
  | keepAlive
  deriving DecidableEq, Repr

/-- What one flit carries (R317): message bytes, the second and third field naming the message that starts in it, if one does,
and where; a control record; or nothing. -/
inductive FlitBody where
  | data (payload : List Byte) (start : Option Msg) (off : Nat)
  | control (c : Ctl)
  | idle
  deriving DecidableEq, Repr

/-- A message assembled by a receiver, with the receive-buffer flits it fills (R317, R319). -/
structure RxMsg where
  msg : Msg
  flits : Nat
  deriving DecidableEq, Repr

/-- A message of which only a part has arrived: its head, its LEN, the bytes so far, its flits (R317). -/
structure RxPart where
  head : List Byte
  len : Nat
  data : List Byte
  flits : Nat
  deriving DecidableEq, Repr

/-- One Starlane link (R318 to R322, R345, R346). -/
structure Link where
  /-- LNK_CTRL.EN, Config (R345); false before a record is read -/
  en : Bool
  /-- LNK_STATUS.STATE of R320, 4 bits; 0 -/
  state : Nat
  /-- LNK_STATUS.REASON, 4 bits; 0 -/
  reason : Nat
  /-- LNK_STATUS.FAR_ID, 16 bits; 0 -/
  farId : Nat
  /-- LNK_STATUS.FAR_LINK, 8 bits; 0 -/
  farLink : Nat
  /-- LNK_FEC_CORR, LNK_FEC_UNCORR, LNK_REPLAYS, LNK_TX_BYTES, LNK_RX_BYTES, LNK_REFUSED, 64 bits; 0 (R346) -/
  fecCorr : Nat
  fecUncorr : Nat
  replays : Nat
  txBytes : Nat
  rxBytes : Nat
  refused : Nat
  /-- always-on count at which the present state was entered; 0 -/
  since : Nat
  /-- next SEQ to send, 16 bits (R317); 0 -/
  txSeq : Nat
  /-- replay buffer, at most 512 flits, with their SEQ and CREDIT (R318); empty -/
  replay : List (Nat × Nat × FlitBody)
  /-- control records that wait for a flit (R318, R321); empty -/
  txCtl : List Ctl
  /-- messages given to the link and not sent whole, in order (R317 to R319); empty -/
  txMsgs : List Msg
  /-- bytes of the first of them already sent; 0 -/
  txOff : Nat
  /-- a flit has arrived in order that no ACK has covered (R318); false -/
  ackDue : Bool
  /-- credit held for data flits (R319); 0 -/
  credit : Nat
  /-- expected receive SEQ (R318); 0 -/
  rxSeq : Nat
  /-- discarding until the expected SEQ arrives (R318); false -/
  discarding : Bool
  /-- flits in the receive buffer, 0 to 192 (R319); 0 -/
  rxUsed : Nat
  /-- receive-buffer flits to be granted in the next flit sent (R317, R319); 0 -/
  grant : Nat
  /-- the message whose bytes are arriving (R317); none -/
  rxPart : Option RxPart
  /-- messages that have arrived whole and have not been handled (R319, R323); none -/
  rxMsgs : List RxMsg
  deriving DecidableEq, Repr

/-- A link at reset. -/
def Link.reset : Link :=
  { en := false, state := 0, reason := 0, farId := 0, farLink := 0, fecCorr := 0,
    fecUncorr := 0, replays := 0, txBytes := 0, rxBytes := 0, refused := 0, since := 0, txSeq := 0, replay := [],
    txCtl := [], txMsgs := [], txOff := 0, ackDue := false, credit := 0, rxSeq := 0, discarding := false, rxUsed := 0, grant := 0,
    rxPart := none, rxMsgs := [] }

/-- One optical engine (R312, R347). -/
structure OptEng where
  /-- OPT_STATUS.CART, 3 bits; 0 -/
  cart : Nat
  /-- OPT_STATUS.SECONDARY; 0 -/
  secondary : Bool
  /-- OPT_STATUS.STATE: 0 off, 1 up, 2 dark, 3 resetting; 0 -/
  state : Nat
  deriving DecidableEq, Repr

def OptEng.reset : OptEng := { cart := 0, secondary := false, state := 0 }

/-- One laser cartridge (R312 to R314, R347). -/
structure Cart where
  /-- OPT_CART_STATUS.PRESENT; 0 -/
  present : Bool
  /-- OPT_CART_STATUS.STATE: 0 absent, 1 warming, 2 lit, 3 released, 4 failed; 0 -/
  state : Nat
  /-- the bay's lever is closed (R571); true -/
  lever : Bool
  /-- inserted since the links started and not yet restored: it feeds no engine (R314); false -/
  fresh : Bool
  deriving DecidableEq, Repr

def Cart.reset : Cart := { present := false, state := 0, lever := true, fresh := false }

/-- One peer-table entry (R325). -/
structure Peer where
  /-- DEVICE_ID, 16 bits -/
  id : Nat
  /-- STATE: 0 FREE, 1 PROBING, 2 ACTIVE, 3 UNROUTED, 4 DRAINING, 5 REFUSED -/
  state : Nat
  /-- OWNERS, 64 bits -/
  owners : Nat
  /-- always-on count of the last probe or state change -/
  since : Nat
  deriving DecidableEq, Repr

/-- One link group (R337, R349). -/
structure LinkGroup where
  /-- PEER_GRP_CTRL.STALL_LIMIT, 8 bits; 0x14 -/
  stall : Nat
  /-- PEER_GRP_CTRL.COUNT, 5 bits; 0 -/
  count : Nat
  /-- PEER_GRP_MEMBERS 0 to 15, 16 bits each; 0 -/
  members : Tab Nat
  deriving DecidableEq, Repr

def LinkGroup.reset : LinkGroup := { stall := 0x14, count := 0, members := [] }

/-- A message sent and not yet acknowledged (R333). -/
structure TxMsg where
  /-- the message -/
  msg : Msg
  /-- engine and transfer number of the LSEND -/
  eng : Nat
  xfer : Nat
  /-- rows the message carries -/
  rows : Nat
  /-- always-on count of its first flit; none while that waits -/
  sent : Option Nat
  /-- always-on count of an RNR to it not yet resent (R332) -/
  rnr : Option Nat
  /-- the link it was given to; none while its peer has no UP link -/
  link : Option Nat
  /-- its first flit has left on that link: it counts toward the link's bound (R333) -/
  begun : Bool
  deriving DecidableEq, Repr

/-- A stream at its sender (R329, R330). -/
structure TxStream where
  /-- sending global core -/
  core : Nat
  /-- peer device ID -/
  peer : Nat
  /-- QUEUE -/
  queue : Nat
  /-- next MSEQ -/
  next : Nat
  /-- the link it travels on, once chosen -/
  link : Option Nat
  /-- messages outstanding, oldest first -/
  out : List TxMsg
  deriving DecidableEq, Repr

/-- A window write accepted and not yet complete (R341). -/
structure WinWrite where
  /-- the link it came on, and its MSEQ -/
  link : Nat
  mseq : Nat
  /-- HBM device address, and the bytes -/
  addr : Nat
  data : List Byte
  /-- receive-buffer flits it holds until its bytes have landed (R319) -/
  flits : Nat
  deriving DecidableEq, Repr

/-- One remote window (R340 to R342, R348). -/
structure Window where
  /-- WIN_BASE.BASE as a device address; 0 -/
  base : Nat
  /-- WIN_CFG.PEER 16, PART 6, SIZE 28 bits; 0 -/
  peer : Nat
  part : Nat
  size : Nat
  /-- WIN_STATUS.ACCEPTED 32, OPEN_ERR 4, STATE 2 bits; 0 -/
  accepted : Nat
  openErr : Nat
  state : Nat
  /-- WIN_REFUSED, 64 bits; zero after die reset only -/
  refused : Nat
  /-- writes accepted and not yet complete, oldest first -/
  writes : List WinWrite
  deriving DecidableEq, Repr

def Window.reset : Window :=
  { base := 0, peer := 0, part := 0, size := 0, accepted := 0, openErr := 0, state := 0, refused := 0, writes := [] }

/-- A window transfer being sent (R343). -/
structure WinXfer where
  /-- the 32 bytes of the record -/
  record : List Byte
  /-- the function that pushed it -/
  fn : Nat
  /-- bytes handed to the link so far -/
  sent : Nat
  /-- bytes acknowledged so far -/
  acked : Nat
  /-- writes outstanding, oldest first (R333) -/
  out : List Msg
  /-- link of R330; none while the peer has no UP link -/
  link : Option Nat
  deriving DecidableEq, Repr

/-- Links, optics, peers and windows. -/
structure Starlane where
  /-- LNK_ID.DEVICE_ID, Config; 0 before a record is read (R344) -/
  devId : Nat
  /-- LNK_POLICY.SEND_LIMIT, PEER_WAIT 16 bits, RETRY 8 bits, Config (R344) -/
  sendLimit : Nat
  peerWait : Nat
  retry : Nat
  /-- links 0 to 95 -/
  links : Tab Link
  /-- optical engines 0 to 11 -/
  opts : Tab OptEng
  /-- laser cartridges 0 to 5 -/
  carts : Tab Cart
  /-- peer table, entries 0 to 4,095; an unlisted entry is FREE -/
  peers : Tab Peer
  /-- PEER_CMD.DEVICE_ID 16 bits; 0 (R349) -/
  peerCmdId : Nat
  /-- PEER_CMD_DATA.OWNERS 64 bits; 0 (R349) -/
  peerCmdData : Nat
  /-- PEER_RESULT.INDEX 12 bits, RESULT 8 bits; 0 (R349) -/
  peerIndex : Nat
  peerResult : Nat
  /-- link groups 0 to 63 -/
  groups : Tab LinkGroup
  /-- sending streams (R329) -/
  streams : List TxStream
  /-- messages landed whose MACK is due (R333): core, ring, link, sending core, queue, MSEQ; none -/
  macks : List (Nat × Nat × Nat × Nat × Nat × Nat)
  /-- windows 0 to 15 -/
  wins : Tab Window
  /-- WIN_XFER_PUSH bytes most recently written (R348, R175); 0 -/
  xferWin : Tab Byte
  /-- queued window transfers with the pushing function, at most 64 (R343); empty -/
  xfers : List (Nat × List Byte)
  /-- the running window transfer -/
  xfer : Option WinXfer
  deriving DecidableEq, Repr

def Starlane.reset : Starlane :=
  { devId := 0, sendLimit := 0, peerWait := 0, retry := 0, links := [], opts := [], carts := [], peers := [],
    peerCmdId := 0, peerCmdData := 0, peerIndex := 0, peerResult := 0, groups := [], streams := [], macks := [], wins := [],
    xferWin := [], xfers := [], xfer := none }

end Sys2Proof.Machine
end

