-- ==== Sys2Proof/Machine/HostState.lean ====
section
/-! DEFINITION. The state of the host interface, the jobs, the application cores and the key-stream groups, and
what a command puts out of the device (R371 to R418, R122 to R130). -/

namespace Sys2Proof.Machine

/-- A fault record (R393). -/
structure FaultRec where
  /-- CODE, 16 bits -/
  code : Nat
  /-- SEVERITY of R394 -/
  sev : Nat
  /-- FUNCTION -/
  fn : Nat
  /-- LOCATION of R394, 32 bits -/
  loc : Nat
  /-- JOB: bits [31:0] of the sequence number; 0 when no job -/
  job : Nat
  /-- BLOCK_INDEX; 0xFFFF_FFFF when no block -/
  block : Nat
  /-- EXT_START and EXT_LEN (R224) -/
  extStart : Nat
  extLen : Nat
  /-- DETAIL, 64 bits -/
  detail : Nat
  deriving DecidableEq, Repr

/-- A parameter set that a job named, as read at intake (R28). -/
structure PSet where
  /-- PSET_ID -/
  id : Nat
  /-- LOG_N -/
  logN : Nat
  /-- scheme: 0 CKKS, 1 BGV, 2 BFV -/
  scheme : Nat
  /-- forerunner mode -/
  fore : Bool
  /-- REG_LIMBS -/
  reg : Nat
  /-- SPEC_LIMBS -/
  spec : Nat
  /-- DNUM -/
  dnum : Nat
  /-- SCALE_TOL -/
  scaleTol : Nat
  /-- PT_MOD -/
  ptMod : Nat
  /-- NOISE_MARGIN -/
  noiseMargin : Nat
  /-- KS_NOISE -/
  ksNoise : Nat
  /-- MS_NOISE -/
  msNoise : Nat
  /-- PT_GROWTH -/
  ptGrowth : Nat
  /-- PRIME_i and ROOT_i, in chain order -/
  primes : List (Nat × Nat)
  deriving DecidableEq, Repr

/-- Where a job stands (R383 to R389). -/
inductive JobPhase where
  /-- accepted and not yet checked (R382) -/
  | accepted
  /-- checked, waiting to start (R386) -/
  | waiting
  /-- started -/
  | running
  /-- a cause of R388 has ended it; its boundary has not begun -/
  | ending
  /-- in its boundary (R389) -/
  | boundary
  deriving DecidableEq, Repr

/-- An outstanding job (R383). -/
structure Job where
  /-- acceptance order over all functions -/
  id : Nat
  /-- the function -/
  fn : Nat
  /-- sequence number s -/
  seq : Nat
  /-- the 256 bytes copied at acceptance (R382) -/
  rcd : List Byte
  phase : JobPhase
  /-- the function's EXPERT_EN bit at acceptance (R556) -/
  expert : Bool
  /-- die 0 always-on counts at acceptance, at the start, at the cause of its end and at the start of the boundary -/
  acceptAon : Nat
  startAon : Nat
  causeAon : Nat
  endAon : Nat
  /-- cause of R388, 1 to 5; 0 while none has come -/
  cause : Nat
  /-- parameter sets, in job order -/
  psets : List PSet
  /-- token counters, 32 bits (R160); zero at the start -/
  tokens : Tab Nat
  /-- fault records of the job, saturating at 0xFFFF (R392) -/
  faults : Nat
  /-- first fault record of severity BLOCK or higher -/
  first : Option FaultRec
  /-- resources reserved for it: cores, then application cores (R386) -/
  rsvCores : List Nat
  rsvApps : List Nat
  /-- it has waited 1 ms (R386) -/
  reserving : Bool
  deriving DecidableEq, Repr

/-- One PCIe function (R372 to R402). -/
structure Fn where
  /-- HIF_FN_STATUS.TDISP: 0 CONFIG_UNLOCKED, 1 CONFIG_LOCKED, 2 RUN, 3 ERROR (R378, R398); 0 -/
  tdisp : Nat
  /-- HIF_FN_STATUS.IDE_DROP (R377, R398); false -/
  ideDrop : Bool
  /-- HIF_FN_STATUS.EXPERT_DENIED (R5, R398); false -/
  denied : Bool
  /-- HIF_CMPL_BASE.ADDR as a host address (R400); 0 -/
  cmplBase : Nat
  /-- HIF_FAULT_BASE.ADDR as a host address, and SIZE 4 bits (R400); 0 -/
  faultBase : Nat
  faultSize : Nat
  /-- HIF_FAULT_TAIL.COUNT 48 bits and LOST 16 bits (R400); 0 -/
  faultCount : Nat
  faultLost : Nat
  /-- INTK_CTRL.EN, MOD_CNT 8 bits, MOD_US 16 bits (R401); 0 -/
  en : Bool
  modCnt : Nat
  modUs : Nat
  /-- INTK_STATUS.EN_REFUSED (R401); false -/
  enRefused : Bool
  /-- INTK_EXPECT.SEQ, 64 bits (R401); 0 while EN is 0 -/
  expect : Nat
  /-- seals held: the sequence numbers (R381); none -/
  held : List Nat
  /-- INTK_CANCEL_STATUS.RESULT (R402); 0 -/
  cancelRes : Nat
  /-- INTK_ACCEPT_CNT and INTK_BAD_SEAL, 64 bits (R402); 0 -/
  acceptCnt : Nat
  badSeal : Nat
  /-- intake ring, 1 MiB of bytes, canonical, unlisted bytes zero (R380); zero -/
  intake : Tab Byte
  /-- the selective IDE stream the function is bound to (R377); none -/
  ide : Option Nat
  /-- records written and not announced, by vector, with the always-on count of the first (R397); none -/
  unannounced : Tab (Nat × Nat)
  /-- masked MSI-X vectors and their Pending Bits (R397); PCIe resets every vector masked -/
  unmasked : List Nat
  pendingBits : List Nat
  /-- Bus Master Enable (R378); false -/
  busMaster : Bool
  /-- BAR0 and BAR2 addresses as configured; 0 -/
  bar0 : Nat
  bar2 : Nat
  /-- BAR2 size as a power of two, 30 to 40 (R375); 30 -/
  bar2Log : Nat
  /-- the stop of STOP_INTERFACE still wipes its partitions (R378); false -/
  stopping : Bool
  /-- the MPC view (R368, R369): MPC_SLOT_ADDR 52 bits and MPC_SLOT_LEN by slot, MPC_PDEC_PUSH bytes; 0 -/
  slotAddr : Tab Nat
  slotLen : Tab Nat
  pdecWin : Tab Byte
  deriving DecidableEq, Repr

/-- A function at reset (R398 to R402). -/
def Fn.reset : Fn :=
  { tdisp := 0, ideDrop := false, denied := false, cmplBase := 0, faultBase := 0, faultSize := 0, faultCount := 0,
    faultLost := 0, en := false, modCnt := 0, modUs := 0, enRefused := false, expect := 0, held := [],
    cancelRes := 0, acceptCnt := 0, badSeal := 0, intake := [], ide := none, unannounced := [], unmasked := [],
    pendingBits := [], busMaster := false, bar0 := 0, bar2 := 0, bar2Log := 30, stopping := false,
    slotAddr := [], slotLen := [], pdecWin := [] }

/-- The PCIe configuration that concerns every function (R372, R377). -/
structure Pcie where
  /-- NumVFs as it acts (R372); 0 -/
  numVfs : Nat
  /-- VF Enable (R378, R391); false -/
  vfEnable : Bool
  /-- the keys of each IDE stream in use, as a number (R377); 0 -/
  ideKeys : Tab Nat
  deriving DecidableEq, Repr

def Pcie.reset : Pcie := { numVfs := 0, vfEnable := false, ideKeys := [] }

/-- The wait of an application core (R416). -/
structure AppWait where
  /-- token, threshold -/
  token : Nat
  threshold : Nat
  /-- limit in µs, and the die's always-on count when the wait began -/
  limit : Nat
  since : Nat
  deriving DecidableEq, Repr

/-- One application core, seen from the device (R404 to R416). -/
structure AppCore where
  /-- the job that holds it (R405), by its id; none -/
  job : Option Nat
  /-- function of its previous job (R405); none -/
  lastFn : Option Nat
  /-- pc at the start, and a0, a1, a2, a3 and sp as R414 sets them; 0 -/
  pc : Nat
  a0 : Nat
  a1 : Nat
  a2 : Nat
  a3 : Nat
  sp : Nat
  /-- vstvec holds the exit stub's address (R414); false -/
  stub : Bool
  /-- it has ended (R415); false -/
  ended : Bool
  /-- TOKEN_WAIT in progress (R416); none -/
  wait : Option AppWait
  /-- a partial reset or an activation is in progress (R485, R538); false -/
  resetting : Bool
  /-- core switched by R387's rule: its L1 and L2 were written back and invalidated at the last start (R405) -/
  flushed : Bool
  deriving DecidableEq, Repr

def AppCore.reset : AppCore :=
  { job := none, lastFn := none, pc := 0, a0 := 0, a1 := 0, a2 := 0, a3 := 0, sp := 0, stub := false,
    ended := false, wait := none, resetting := false, flushed := false }

/-- One key-stream group of a die (R122 to R130). -/
structure Group where
  /-- KST_GRP_ADDR.HDR_ADDR as a device address (R128); 0 -/
  addr : Nat
  /-- KST_GRP_CTRL.STALL_LIMIT, 8 bits (R129); 0x14 -/
  stall : Nat
  /-- KST_GRP_CTRL.LEVEL, 8 bits (R129); 0 -/
  level : Nat
  /-- KST_GRP_CTRL.MEMBERS, 8 bits (R129); 0 -/
  members : Nat
  /-- KST_GRP_STATUS: CHUNKS_SENT 32, DROPPED 8, SUBSCRIBED 8, ACTIVE 8, OPEN_ERR 4, STATE 4 bits (R130); 0 -/
  chunks : Nat
  dropped : Nat
  subscribed : Nat
  active : Nat
  openErr : Nat
  state : Nat
  /-- members that have left without being dropped, by LEAVE, a stop or a failed header check (R125, R248); 0 -/
  left : Nat
  /-- the job that opened it, by its id; none -/
  job : Option Nat
  /-- the key header once read (256 bytes); none -/
  header : Option (List Byte)
  /-- next key row of the stream to send (R124); 0 -/
  next : Nat
  /-- a member that withholds credit, and the always-on count since when (R124); none -/
  stalled : Tab Nat
  /-- one more than the index of the latest chunk whose head has passed its check (R118); 0 -/
  chunkNo : Nat
  deriving DecidableEq, Repr

def Group.reset : Group :=
  { addr := 0, stall := 0x14, level := 0, members := 0, chunks := 0, dropped := 0, subscribed := 0, active := 0,
    openErr := 0, state := 0, left := 0, job := none, header := none, next := 0, stalled := [], chunkNo := 0 }

/-- What a command puts out of the device. -/
inductive Out where
  /-- the bytes a read returns -/
  | data (bytes : List Byte)
  /-- a read completed with Completer Abort (R376) -/
  | completerAbort
  /-- a request completed as Unsupported Request (R377) -/
  | unsupported
  /-- Request Retry Status (R493) -/
  | retry
  /-- an MSI-X message of a function's vector (R396), on its bound IDE stream if any (R377) -/
  | msix (fn vector : Nat) (stream : Option Nat)
  /-- a memory write to the host for a function (R392, R395), on its bound IDE stream if any -/
  | host (fn addr : Nat) (bytes : List Byte) (stream : Option Nat)
  /-- a flit sent on a link: SEQ, ACK, CREDIT and what it carries (R317) -/
  | flit (link seq ack credit : Nat) (body : FlitBody) (codeword : List Nat)
  /-- registers a runtime call returns to an application core: a0 and a1 (R416) -/
  | call (app a0 a1 : Nat)
  /-- an SPDM or TDISP response: its kind and bytes -/
  | response (kind : Nat) (bytes : List Byte)
  /-- an error answer of a protocol: its code -/
  | error (code : Nat)
  /-- an I3C in-band interrupt with its data byte (R561) -/
  | ibi (byte : Nat)
  /-- an I3C acknowledgement (true) or refusal of a transfer -/
  | ack (ok : Bool)
  deriving DecidableEq, Repr

end Sys2Proof.Machine
end

