-- ==== Sys2Proof/Machine/MemState.lean ====
section
/-! DEFINITION. The state of the stacked memory system (R254 to R291) and of the on-package fabric (R292 to
R310): partitions and regulators, channel controllers, traffic generators, write-combining buffers. -/

namespace Sys2Proof.Machine

/-- Who waits for an access to the stacks: a transfer x of engine e of core g, a key-stream group, a binding's catch-up by its
seed register, the image fetch of a core, the kernel fetch of a core, a host access of BAR2, a cache line of an application
core, or a flush of a write-combining entry (R259, R261, R267, R409). -/
inductive Waiter where
  | xfer (g e x : Nat)
  | group (die n : Nat)
  | catchup (g sreg : Nat)
  | image (g : Nat)
  | kernel (g : Nat)
  | host (no : Nat)
  | line (a : Nat)
  | flush
  deriving DecidableEq, Repr

/-- A host access of BAR2 that has not been served (R261, R267, R376): its number, function, partition, device address, bytes
written or none, and length. -/
structure HostAcc where
  no : Nat
  fn : Nat
  part : Nat
  addr : Nat
  data : Option (List Byte)
  len : Nat
  deriving DecidableEq, Repr

/-- A memory partition with its regulator (R266 to R270, R287, R288). -/
structure Part where
  /-- MREG_PART.VALID, Config; false before a record is read -/
  valid : Bool
  /-- die of the partition, Config; 0 -/
  die : Nat
  /-- MREG_PART.BASE, GiB, 9 bits, Config; 0 -/
  base : Nat
  /-- MREG_PART.SIZE, GiB, 9 bits, Config; 0 -/
  size : Nat
  /-- MREG_RATE.RATE 13 bits, BURST 11 bits, MODE, Config; 0 -/
  rate : Nat
  burst : Nat
  mode : Bool
  /-- MREG_STATUS.TOKENS, two's complement; 0 -/
  tokens : Int
  /-- transfers that wait for tokens, in arrival order: bytes charged and requester (MREG_STATUS.WAITING is their number);
  none -/
  waiting : List (Nat × Waiter)
  /-- MREG_STATUS.THROTTLED; false -/
  throttled : Bool
  /-- a written MREG_RATE that takes effect at the next step (R270): rate, burst, mode; none -/
  newRate : Option (Nat × Nat × Bool)
  /-- MREG_BYTES, 64 bits; 0 -/
  bytes : Nat
  deriving DecidableEq, Repr

def Part.reset : Part :=
  { valid := false, die := 0, base := 0, size := 0, rate := 0, burst := 0, mode := false, tokens := 0,
    waiting := [], throttled := false, newRate := none, bytes := 0 }

/-- MEMC_UE_ADDR or MEMC_CE_ADDR (R284). -/
structure AtomReg where
  valid : Bool
  scrub : Bool
  /-- device address of the atom -/
  atom : Nat
  deriving DecidableEq, Repr

/-- One HBM channel controller with its traffic generator (R254, R282 to R290). -/
structure Chan where
  /-- MEMC_CTRL.PATROL_EN and WB_EN; 1 (R282) -/
  patrol : Bool
  wb : Bool
  /-- MEMC_STATUS.TEMP 8 bits, HOT, STATE 4 bits; 0 (R283) -/
  temp : Nat
  hot : Bool
  state : Nat
  /-- MEMC_UE_ADDR and MEMC_CE_ADDR; 0 (R284) -/
  ue : AtomReg
  ce : AtomReg
  /-- MEMC_CE_CNT, MEMC_UE_CNT, MEMC_RD_BYTES, MEMC_WR_BYTES, MEMC_SMALL_WAIT, 64 bits; 0 (R285) -/
  ceCnt : Nat
  ueCnt : Nat
  rdBytes : Nat
  wrBytes : Nat
  smallWait : Nat
  /-- ns charged to the small path in the present window (R261); 0 -/
  small : Nat
  /-- small-path requests that wait for a window, in arrival order (R261): charge in ns and requester; none -/
  smallQ : List (Nat × Waiter)
  /-- next atom of the patrol scrubber, in local order over the channel's two pseudo-channels (R276); 0 -/
  patrolPos : Nat
  /-- a calibration step's slot counter (R275); 0 -/
  calib : Nat
  /-- TGC_CTRL.PASSES 32, OP 4, PATTERN 4 bits, DESTRUCT; 0 (R289) -/
  passes : Nat
  op : Nat
  pattern : Nat
  destruct : Bool
  /-- TGC_SEED, 31 bits; 1 (R289) -/
  seed : Nat
  /-- TGC_STATUS.ERRORS 32, REASON 4, STATE 4 bits; 0 (R289) -/
  errors : Nat
  reason : Nat
  tstate : Nat
  /-- TGC_ERR_ADDR.PSEUDO, ATOM 26, DQ_MASK 32 bits; 0 (R289) -/
  errPseudo : Bool
  errAtom : Nat
  dqMask : Nat
  /-- TGC_ATOMS, 64 bits; 0 (R290) -/
  atoms : Nat
  /-- a test runs, and it is destructive (R278); false -/
  running : Bool
  full : Bool
  deriving DecidableEq, Repr

def Chan.reset : Chan :=
  { patrol := true, wb := true, temp := 0, hot := false, state := 0, ue := ⟨false, false, 0⟩,
    ce := ⟨false, false, 0⟩, ceCnt := 0, ueCnt := 0, rdBytes := 0, wrBytes := 0, smallWait := 0, small := 0,
    smallQ := [], patrolPos := 0, calib := 0, passes := 0, op := 0, pattern := 0, destruct := false, seed := 1,
    errors := 0, reason := 0, tstate := 0, errPseudo := false, errAtom := 0, dqMask := 0, atoms := 0, running := false, full := false }

/-- A write-combining entry (R262). -/
structure WcbEntry where
  /-- device address of the granule -/
  granule : Nat
  /-- valid bytes by offset within the granule: the mask is the listed keys -/
  data : Tab Byte
  /-- partition number -/
  part : Nat
  /-- id of the job of the latest write merged into it (R265); none when no job wrote -/
  job : Option Nat
  /-- the die's always-on count at its allocation -/
  since : Nat
  deriving DecidableEq, Repr

/-- A die's write-combining buffer (R262 to R265, R291). -/
structure Wcb where
  /-- entries, oldest first, at most 1,024; none -/
  entries : List WcbEntry
  /-- WCB_STATUS.FLUSHING; false -/
  flushing : Bool
  /-- WCB_STATUS.HWM, 11 bits; 0 -/
  hwm : Nat
  /-- WCB_MERGES, WCB_FLUSH_FULL, WCB_FLUSH_AGE, WCB_FLUSH_OTHER, WCB_RMW, 64 bits; 0 -/
  merges : Nat
  full : Nat
  age : Nat
  other : Nat
  rmw : Nat
  deriving DecidableEq, Repr

def Wcb.reset : Wcb := { entries := [], flushing := false, hwm := 0, merges := 0, full := 0, age := 0, other := 0, rmw := 0 }

/-- One mesh link's status, or the bridge's lanes (R304, R305, R308). -/
structure NocLink where
  /-- REPLAYS, 32 bits; 0 -/
  replays : Nat
  /-- consecutive failed replays of one flit (R304); 0 -/
  run : Nat
  /-- SPARE: the spare is in use; false -/
  spare : Bool
  /-- STATE: mesh 0 up, 1 replacing, 2 failed; 0 -/
  state : Nat
  /-- a lane marked bad and not yet replaced (R304); false -/
  bad : Bool
  deriving DecidableEq, Repr

def NocLink.reset : NocLink := { replays := 0, run := 0, spare := false, state := 0, bad := false }

/-- A die's end of the die-to-die bridge and its network counters (R305, R308, R310). -/
structure Fabric where
  /-- mesh links 0 to 37 -/
  links : Tab NocLink
  /-- D2D_STATUS.REPLAYS 32 bits; 0 -/
  d2dReplays : Nat
  /-- consecutive failed replays on the bridge; 0 -/
  d2dRun : Nat
  /-- a lane group marked bad and not yet replaced; false -/
  d2dBad : Bool
  /-- D2D_STATUS.GROUPS 5 bits, SPARE_USED, STATE 2 bits; 0 -/
  d2dGroups : Nat
  d2dSpare : Bool
  d2dState : Nat
  /-- NOC_MCAST_BYTES, NOC_UE_CNT, D2D_BYTES_0TO1, D2D_BYTES_1TO0, 64 bits; 0 -/
  mcast : Nat
  ueCnt : Nat
  bytes01 : Nat
  bytes10 : Nat
  deriving DecidableEq, Repr

def Fabric.reset : Fabric :=
  { links := [], d2dReplays := 0, d2dRun := 0, d2dBad := false, d2dGroups := 0, d2dSpare := false, d2dState := 0,
    mcast := 0, ueCnt := 0, bytes01 := 0, bytes10 := 0 }

/-- A cluster's exchange (R294, R310). -/
structure Xch where
  /-- last served port by target port; 8 after a cluster reset and at every job start (R294); 8 -/
  served : Tab Nat
  /-- XCH_SEND_WORDS and XCH_CONTEND_CYC, 64 bits; 0 (R310) -/
  sendWords : Nat
  contend : Nat
  deriving DecidableEq, Repr

def Xch.reset : Xch := { served := [], sendWords := 0, contend := 0 }

/-- The memory system. -/
structure Mem where
  /-- HBM bytes by device address, canonical, unlisted bytes zero -/
  hbm : Tab Byte
  /-- uncorrectable atoms, by device address of the atom (R273); none -/
  ue : List Nat
  /-- atoms with one bad symbol (R272); none -/
  ce : List Nat
  /-- partitions 0 to 63 -/
  parts : Tab Part
  /-- channels 0 to 127: 64·die + h -/
  chans : Tab Chan
  /-- write-combining buffers by die -/
  wcb : Tab Wcb
  /-- one entry for each granule or regulator that still holds back a requester (R261, R267); none -/
  holds : List Waiter
  /-- requesters whose access has been asked for and not yet made; none -/
  asked : List Waiter
  /-- host accesses of BAR2 that wait, in arrival order, and the number of the next; none, 0 -/
  hostQ : List HostAcc
  hostNo : Nat
  /-- MEMC_DIE_CTRL.MAINT (R286); false -/
  maint : Bool
  /-- MEMC_DIE_STATUS.DENIED (R286); false -/
  denied : Bool
  /-- MEMC_DIE_STATUS.STATE: 0 in service, 1 entering, 2 maintenance, 3 wiping; 0 -/
  mstate : Nat
  /-- fabric by die -/
  fabric : Tab Fabric
  /-- exchange by cluster 0 to 15 -/
  xch : Tab Xch
  deriving DecidableEq, Repr

/-- The memory system at reset: no byte of the stacks is listed. -/
def Mem.reset : Mem :=
  { hbm := [], ue := [], ce := [], parts := [], chans := [], wcb := [], holds := [], asked := [], hostQ := [], hostNo := 0, maint := false, denied := false, mstate := 0,
    fabric := [], xch := [] }

end Sys2Proof.Machine
end

