-- ==== Sys2Proof/Machine/PlatState.lean ====
section
/-! DEFINITION. The state of the platform: NOR contents and slot marks (R525 to R529), reset and start (R478 to
R502), configuration and update (R531 to R544), module hardware (R558 to R572). -/

namespace Sys2Proof.Machine

/-- What the state area records of one image slot (R527). -/
structure SlotInfo where
  /-- the slot holds a verified image (UPD_COMP.VALID); false -/
  valid : Bool
  /-- version, 48 bits: major, minor, patch; 0 -/
  version : Nat
  /-- requires list: component, MIN, MAX; none -/
  requires : List (Nat × Nat × Nat)
  /-- security version of the image; 0 -/
  svn : Nat
  /-- SHA-256 of the image's SIGNER (R422); 0 -/
  signer : Nat
  /-- BODY_DIGEST of the image (R422); 0 -/
  digest : Nat
  /-- COMMIT_SVN of the image (R422); false -/
  commit : Bool
  /-- REVOKE of the image when REVOKE_VALID is set (R422); none -/
  revoke : Option Nat
  /-- body of a kernel-package image (R427); empty -/
  body : List Byte
  deriving DecidableEq, Repr

def SlotInfo.reset : SlotInfo :=
  { valid := false, version := 0, requires := [], svn := 0, signer := 0, digest := 0, commit := false, revoke := none, body := [] }

/-- A slot that holds a configuration record of a version. -/
def SlotInfo.record (version : Nat) : SlotInfo := { SlotInfo.reset with valid := true, version := version }

/-- The marks of one component (R528). -/
structure Marks where
  /-- ACTIVE: 0 slot A, 1 slot B; 0 -/
  active : Nat
  /-- TRIAL; false -/
  trial : Bool
  /-- TRIED; false -/
  tried : Bool
  /-- slots A and B -/
  slotA : SlotInfo
  slotB : SlotInfo
  /-- COPY_BOTH is owed for the image in ACTIVE (R540); false -/
  copyBoth : Bool
  deriving DecidableEq, Repr

def Marks.reset : Marks :=
  { active := 0, trial := false, tried := false, slotA := SlotInfo.reset, slotB := SlotInfo.reset, copyBoth := false }

/-- NOR contents, kept by every reset (R479, R525, R527). -/
structure Nor where
  /-- marks of components 0x01 to 0x08, and of the configuration record at key 0x20 (R528); a blank device -/
  comps : Tab Marks
  /-- configuration slots A and B (R529): the record's bytes; empty for an erased slot -/
  cfgA : List Byte
  cfgB : List Byte
  /-- failed-start count, 0 to 4 (R495); 0 -/
  fails : Nat
  /-- the previous start was confirmed (R495); true on a device that has not started -/
  confirmed : Bool
  /-- START_COUNT (R527, R445); 0 -/
  startCount : Nat
  /-- failed-core marks, as 9·cluster + physical position (R455); none -/
  failedCores : List Nat
  /-- pending SVN raises: component, SVN (R426); none -/
  svnPending : List (Nat × Nat)
  /-- the reservation log: how many blocks of signature indices are logged (R429); 0 -/
  logBlocks : Nat
  /-- PACKAGE_ID and manifest digest of the last package applied in full (R527); 0 -/
  pkgId : Nat
  pkgDigest : Nat
  deriving DecidableEq, Repr

def Nor.reset : Nor :=
  { comps := [], cfgA := [], cfgB := [], fails := 0, confirmed := true, startCount := 0, failedCores := [],
    svnPending := [], logBlocks := 0, pkgId := 0, pkgDigest := 0 }

/-- What the capability lists were built from when the start was confirmed (R547, R549). -/
structure CapSnap where
  /-- logical positions not failed -/
  active : Nat
  /-- VERSION of the platform firmware, 48 bits -/
  version : Nat
  /-- feed tag -/
  feed : Nat
  /-- functions to which the record grants expert level, bit f -/
  granted : Nat
  deriving DecidableEq, Repr

/-- Reset and start (R478 to R502). -/
structure Rst where
  /-- RST_CAUSE.CAUSE, 8 bits; 1 at power-on (R499) -/
  cause : Nat
  /-- the device is held in reset (R483); true at power-on -/
  hold : Bool
  /-- die 0 always-on count at which the hold began; 0 -/
  holdAon : Nat
  /-- PERST# as the glitch filter recognises it: low (R482); false -/
  perst : Bool
  /-- die 0 always-on count at which PERST# rose; 0 -/
  perstAon : Nat
  /-- the supervisor has declared the always-on clock missing (R481); false -/
  clkMissing : Bool
  /-- requests latched while the clock is missing, by cause code (R481); none -/
  latched : List Nat
  /-- thermal hold of R483; false -/
  thermHold : Bool
  /-- AON_FUSE_STATUS.READS 8 bits, REDUNDANT, FAILED, DONE (R502); 0 -/
  fuseReads : Nat
  fuseRedundant : Bool
  fuseFailed : Bool
  fuseDone : Bool
  /-- RST_STRAP.UNSTABLE, CODE 8 bits, SETS 3 bits, VALUE 4 bits (R501); 0 -/
  strapUnstable : Bool
  strapCode : Nat
  strapSets : Nat
  strap : Nat
  /-- the strap measurement of this start is done; false -/
  strapDone : Bool
  /-- start steps 3 to 12 of R492 that have completed; none -/
  steps : List Nat
  /-- die 0 always-on count at the release of the security complex (R494); none -/
  secAon : Option Nat
  /-- RST_START.CONFIRMED and LODESTAR (R501); 0 -/
  confirmed : Bool
  lodestar : Bool
  /-- the ROM halted: no verified loader (R425); false -/
  romHalt : Bool
  /-- the HBM wipe of step 9 has completed (R494); false -/
  hbmWiped : Bool
  /-- a fault of severity DEVICE stands (R498); false -/
  devFault : Bool
  /-- RST_PART_CTRL.INDEX 8 bits and KIND 3 bits (R500); 0 -/
  partCtrlIndex : Nat
  partCtrlKind : Nat
  /-- RST_PART_STATUS.INDEX 8, RESULT 4, KIND 4 bits, WAITING, BUSY (R500); 0 -/
  partIndex : Nat
  partResult : Nat
  partKind : Nat
  partWaiting : Bool
  partBusy : Bool
  /-- the PCIe link: 0 down, 1 L0, 2 L2; 0 -/
  pcie : Nat
  /-- WAKE# driven low (R559); false -/
  wake : Bool
  /-- the contents of the capability lists (R547); none before the start is confirmed -/
  caps : Option CapSnap
  deriving DecidableEq, Repr

/-- Held in reset after a power-on (R478, R499). -/
def Rst.reset : Rst :=
  { cause := 1, hold := true, holdAon := 0, perst := false, perstAon := 0, clkMissing := false, latched := [],
    thermHold := false, fuseReads := 0, fuseRedundant := false, fuseFailed := false, fuseDone := false,
    strapUnstable := false, strapCode := 0, strapSets := 0, strap := 0, strapDone := false, steps := [],
    secAon := none, confirmed := false, lodestar := false, romHalt := false, hbmWiped := false, devFault := false,
    partCtrlIndex := 0, partCtrlKind := 0, partIndex := 0, partResult := 0, partKind := 0, partWaiting := false,
    partBusy := false, pcie := 0, wake := false, caps := none }

/-- The configuration record in use and its registers (R529 to R532, R542). -/
structure Cfg where
  /-- the record in use; empty before step 7 -/
  record : List Byte
  /-- CFG_STATUS.SLOT, DIRTY, MIGRATED, FALLBACK (R542); 0 -/
  slot : Nat
  dirty : Bool
  migrated : Bool
  fallback : Bool
  /-- CFG_CMD.KEY 8 bits and PERSIST, CFG_CMD_VALUE 64 bits, CFG_CMD_RESULT.RESULT 8 bits (R542); 0 -/
  key : Nat
  persist : Bool
  value : Nat
  result : Nat
  deriving DecidableEq, Repr

def Cfg.reset : Cfg :=
  { record := [], slot := 0, dirty := false, migrated := false, fallback := false, key := 0, persist := false,
    value := 0, result := 0 }

/-- A manifest entry of a package being applied (R535). -/
structure PkgEntry where
  comp : Nat
  copyBoth : Bool
  version : Nat
  requires : List (Nat × Nat × Nat)
  image : Image
  deriving DecidableEq, Repr

/-- The update in progress (R538 to R543). -/
structure Upd where
  /-- UPD_STATUS.STATE 4, RESULT 8, COMPONENT 8, STEPS 8, STEP 8 bits, RESET_NEEDED (R543); 0 -/
  state : Nat
  result : Nat
  component : Nat
  steps : Nat
  step : Nat
  resetNeeded : Bool
  /-- the steps of the package, each a list of entries in order; none -/
  plan : List (List PkgEntry)
  /-- entries of the present step that are written; none -/
  written : List PkgEntry
  /-- parts of the present step that have confirmed (R538), as 256·kind + index; none -/
  confirmed : List Nat
  /-- PACKAGE_ID and manifest digest of the package being applied; 0 -/
  pkgId : Nat
  pkgDigest : Nat
  /-- applied offline, in Lodestar mode or by strap value 0xC (R538); false -/
  offline : Bool
  deriving DecidableEq, Repr

def Upd.reset : Upd :=
  { state := 0, result := 0, component := 0, steps := 0, step := 0, resetNeeded := false, plan := [], written := [],
    confirmed := [], pkgId := 0, pkgDigest := 0, offline := false }

/-- Module hardware (R558 to R572). -/
structure Hw where
  /-- the module is on: VIN_54V is in range and the hot-swap controller feeds it (R562, R563); true -/
  on : Bool
  /-- why it is off: 0 not off, 1 undervoltage, 2 overvoltage, 3 overcurrent; 0 -/
  offReason : Nat
  /-- rails in regulation, bit i for rail i of R564; all 16 -/
  rails : Nat
  /-- AON_RAIL_STATUS.FAULTS 16, KIND 2, RAIL 5 bits, VALID (R566); 0 -/
  railFaults : Nat
  railKind : Nat
  railValid : Bool
  rail : Nat
  /-- die 0 always-on counts of the rail faults of the last 60 s (R565); none -/
  railTimes : List Nat
  /-- a rail fault waits for its restart, and the always-on count when it fell (R565); none -/
  railOff : Option Nat
  /-- the third rail fault within 60 s: rails 4 to 15 stay off (R565); false -/
  railDead : Bool
  /-- a RAIL_FAULT record is owed at the next start (R565); false -/
  railRecord : Bool
  /-- rails have risen and the power-on reset request has not acted yet (R567); false -/
  porPending : Bool
  /-- I3C offset: die and region offset, 27 bits (R561); 0 -/
  i3cDie : Nat
  i3cOff : Nat
  /-- I3C dynamic address (R561); none -/
  i3cAddr : Option Nat
  /-- a service card is in its slot, and its package (R534, R572); none -/
  card : Option (Option Package)
  /-- the AON_LED_CODE last reported by an in-band interrupt (R561); 0 -/
  led : Nat
  deriving DecidableEq, Repr

/-- The module at the end of a power-on: on, every rail in regulation. -/
def Hw.reset : Hw :=
  { on := true, offReason := 0, rails := 0xFFFF, railFaults := 0, railKind := 0, railValid := false, rail := 0,
    railTimes := [], railOff := none, railDead := false, railRecord := false, porPending := false, i3cDie := 0, i3cOff := 0, i3cAddr := none,
    card := none, led := 0 }

end Sys2Proof.Machine
end

