-- ==== Sys2Proof/Machine/SecState.lean ====
section
/-! DEFINITION. The state of the security complex (R419 to R450) with its share slots (R351 to R370), and of mirroring
and the spares (R451 to R477). -/

namespace Sys2Proof.Machine

/-- The security fuses (R420), kept by every reset. -/
structure Fuses where
  /-- KEY_HASH0 to KEY_HASH3, 256 bits each; 0 -/
  keyHash : Tab Nat
  /-- KEY_REVOKE, 4 bits; 0 -/
  keyRevoke : Nat
  /-- UDS, 256 bits; 0 -/
  uds : Nat
  /-- DEVICE_UID, 64 bits; 0 -/
  uid : Nat
  /-- fused counts SVN1 to SVN8, 0 to 64, by component; 0 -/
  svn : Tab Nat
  /-- LIFECYCLE, 8 bits; 0x03 PRODUCTION -/
  lifecycle : Nat
  deriving DecidableEq, Repr

def Fuses.reset : Fuses := { keyHash := [], keyRevoke := 0, uds := 0, uid := 0, svn := [], lifecycle := 3 }

/-- A measurement entry (R432). -/
structure Meas where
  comp : Nat
  svn : Nat
  slot : Nat
  version : Nat
  /-- SHA-384 digest as a number -/
  digest : Nat
  deriving DecidableEq, Repr

def Meas.reset : Meas := { comp := 0, svn := 0, slot := 0, version := 0, digest := 0 }

/-- An SPDM session (R379, R434). -/
structure Session where
  sid : Nat
  /-- FINISH has come -/
  established : Bool
  deriving DecidableEq, Repr

/-- A copy of kernel package bytes in progress (R428). -/
structure KCopy where
  kid : Nat
  dst : Nat
  /-- partitions it may write -/
  parts : Nat
  deriving DecidableEq, Repr

/-- The request that the host unit of the big-number engine runs (R436 to R443). -/
structure BnReq where
  /-- the 64-byte record -/
  rcd : List Byte
  /-- the operands as fetched -/
  operands : List Byte
  /-- a function-level reset came while it ran: neither OUT nor DONE is written -/
  discard : Bool
  deriving DecidableEq, Repr

/-- The host unit of the big-number engine (R436 to R449). -/
structure Bne where
  /-- requests held, oldest first, at most 16; none -/
  queue : List (List Byte)
  /-- the running request; none -/
  run : Option BnReq
  /-- BNE_STATUS.STATE: 0 idle, 1 fetch, 2 compute, 3 write, 4 wipe; 0 -/
  state : Nat
  /-- BNE_STATUS.OVERFLOW; false -/
  overflow : Bool
  /-- BNE_REQ_PUSH bytes most recently written (R436); zero -/
  win : Tab Byte
  /-- BNE_REQ_CNT, BNE_REJECT_CNT, BNE_MISMATCH_CNT, 64 bits (R449); 0 -/
  reqCnt : Nat
  rejectCnt : Nat
  mismatchCnt : Nat
  deriving DecidableEq, Repr

def Bne.reset : Bne :=
  { queue := [], run := none, state := 0, overflow := false, win := [], reqCnt := 0, rejectCnt := 0, mismatchCnt := 0 }

/-- A share slot (R358 to R362, R368). -/
structure Share where
  /-- STATE: 0 EMPTY, 1 LOADING, 2 LOADED, 3 WIPING; 0 -/
  state : Nat
  /-- OWNER; 0 -/
  owner : Nat
  /-- ERR; 0 -/
  err : Nat
  /-- BUDGET_LEFT, 32 bits; 0 -/
  budget : Nat
  /-- PARTY 4 bits, SCHEME 2 bits, FORM; 0 -/
  party : Nat
  scheme : Nat
  form : Nat
  /-- THRESHOLD, PARTIES, LOG_N, LIMBS, FLOOD_MIN, KEYSET_ID, PSET_ID of the blob; 0 -/
  threshold : Nat
  parties : Nat
  logN : Nat
  limbs : Nat
  floodMin : Nat
  keyset : Nat
  pset : Nat
  /-- the present NONCE, 128 bits, byte 0 lowest; 0 until one is drawn -/
  nonce : Nat
  /-- the share, as the payload's plaintext; empty -/
  data : List Byte
  /-- address and length of the blob being loaded; 0 -/
  addr : Nat
  len : Nat
  deriving DecidableEq, Repr

def Share.reset : Share :=
  { state := 0, owner := 0, err := 0, budget := 0, party := 0, scheme := 0, form := 0, threshold := 0, parties := 0, logN := 0,
    limbs := 0, floodMin := 0, keyset := 0, pset := 0, nonce := 0, data := [], addr := 0, len := 0 }

/-- A partial-decryption request (R363). -/
structure PdecReq where
  /-- the pushing function, and the job of the application core that pushed -/
  fn : Nat
  job : Option Nat
  rcd : List Byte
  deriving DecidableEq, Repr

/-- The request that the share engine runs, with what its checks read (R364, R365). -/
structure PdecRun where
  req : PdecReq
  slot : Nat
  /-- primes and roots of its limbs -/
  primes : List (Nat × Nat)
  /-- device addresses of the component it takes, by limb -/
  limbs : List Nat
  /-- the ciphertext descriptor's bytes -/
  desc : List Byte
  deriving DecidableEq, Repr

/-- The share engine (R358 to R369). -/
structure Mpc where
  /-- slots 0 to 7 -/
  slots : Tab Share
  /-- requests held, at most 16, oldest first; none -/
  queue : List PdecReq
  /-- pushes that wait on a full queue (R363); none -/
  held : List PdecReq
  /-- the running request; none -/
  run : Option PdecRun
  /-- MPC_PDEC_CNT, 64 bits (R369); 0 -/
  cnt : Nat
  deriving DecidableEq, Repr

def Mpc.reset : Mpc := { slots := [], queue := [], held := [], run := none, cnt := 0 }

/-- The security complex. -/
structure Sec where
  /-- SEC_STATUS.STAGE: 1 ROM, 2 loader, 3 security firmware starting, 4 running, 5 Lodestar mode; 1 (R445) -/
  stage : Nat
  /-- SEC_STATUS.KEY_SLOT; 0 -/
  keySlot : Nat
  /-- the first-stage loader came from the service card (R425); false -/
  fromCard : Bool
  /-- measurement entries 1 to 11 (R432, R447); zero -/
  meas : Tab Meas
  /-- the private SPDM key and slot-wrapping key, and their public points; none until drawn (R419, R424) -/
  spdmKey : Option Nat
  wrapKey : Option Nat
  spdmPub : Nat × Nat
  wrapPub : Nat × Nat
  /-- SEC_ATTEST.NEXT_INDEX, 40 bits (R430) -/
  nextIndex : Nat
  /-- reservation-log writes that have failed in a row, and LOG_ERR (R430); 0 -/
  logFails : Nat
  logErr : Bool
  /-- die 0 always-on counts of the reports of the last second (R433); none -/
  reports : List Nat
  /-- how far the SPDM connection is set up: 1 version, 2 capabilities, 3 algorithms (R434); 0 -/
  spdm : Nat
  /-- SPDM sessions, at most 4, and the next session number (R379); none -/
  sessions : List Session
  nextSid : Nat
  /-- kernel-package registry (R427); empty -/
  registry : List RegEntry
  /-- SEC_KCOPY_DST as a device address, SEC_KCOPY_CTRL.KID, SEC_KCOPY_STATUS LEN and RESULT (R447); 0 -/
  kcopyDst : Nat
  kcopyKid : Nat
  kcopyLen : Nat
  kcopyRes : Nat
  /-- the copy in progress (R428); none -/
  kcopy : Option KCopy
  /-- big-number engine -/
  bne : Bne
  /-- share engine -/
  mpc : Mpc
  deriving DecidableEq, Repr

def Sec.reset : Sec :=
  { stage := 1, keySlot := 0, fromCard := false, meas := [], spdmKey := none, wrapKey := none, spdmPub := (0, 0), wrapPub := (0, 0),
    nextIndex := 0, logFails := 0, logErr := false, reports := [], spdm := 0, sessions := [], nextSid := 1, registry := [], kcopyDst := 0,
    kcopyKid := 0, kcopyLen := 0, kcopyRes := 0, kcopy := none, bne := Bne.reset, mpc := Mpc.reset }

/-! ### Mirroring and spares -/

/-- A mirror slot of a holder (R459 to R469, R474). -/
structure MSlot where
  /-- PDD_SLOT_CFG.SOURCE 16 bits, 0xFFFF for unused, and FRAME64K 22 bits, Config -/
  source : Nat
  frame : Nat
  /-- PDD_SLOT_STATUS.STATE: 0 unused, 1 invalid, 2 empty, 3 one frame, 4 mirrored, 5 SOURCE_LOST, 6 RESTORE_VERIFY,
  7 rebuilding by window; 0 -/
  state : Nat
  /-- frames 0 to 2 that are previous, current and open; 0, 1, 2 -/
  prev : Nat
  cur : Nat
  open' : Nat
  /-- STEP and DIGEST in the header page, of the previous and of the current frame; none where the frame holds no
  committed state -/
  prevStep : Option (Nat × Nat)
  curStep : Option (Nat × Nat)
  /-- the source's pairing message has been accepted (R460, R464); false -/
  paired : Bool
  /-- always-on count since when the source's peer entry has not been ACTIVE; none (R467) -/
  lostAon : Option Nat
  deriving DecidableEq, Repr

def MSlot.reset : MSlot :=
  { source := 0xFFFF, frame := 0, state := 0, prev := 0, cur := 1, open' := 2, prevStep := none, curStep := none, paired := false,
    lostAon := none }

/-- A tap (R461, R462, R475). -/
structure Tap where
  /-- VALID, OVERRUN, SLOT 2, QUEUE 12, SENDER 7, SOURCE 16 bits, LEN64 and OFF64 32 bits, Config but OVERRUN -/
  valid : Bool
  overrun : Bool
  slot : Nat
  queue : Nat
  sender : Nat
  source : Nat
  len : Nat
  off : Nat
  /-- bytes that the stream has landed in the present epoch; 0 -/
  landed : Nat
  /-- the present epoch; none before a message -/
  epoch : Option Nat
  deriving DecidableEq, Repr

def Tap.reset : Tap :=
  { valid := false, overrun := false, slot := 0, queue := 0, sender := 0, source := 0, len := 0, off := 0, landed := 0, epoch := none }

/-- The self-test of a die (R458, R471). -/
structure SelfTest where
  /-- PDD_SELFTEST_CTRL.RETEST, CLUSTER 3 bits, PHYS 4 bits; 0 -/
  retest : Bool
  cluster : Nat
  phys : Nat
  /-- the physical core queued or under test, as 9·cluster + position within the die, and whether this is a retest; 0 -/
  on : Nat
  again : Bool
  /-- PDD_SELFTEST_STATUS.RESULT and STATE: 0 idle, 1 queued, 2 running; 0 -/
  result : Nat
  state : Nat
  deriving DecidableEq, Repr

def SelfTest.reset : SelfTest := { retest := false, cluster := 0, phys := 0, on := 0, again := false, result := 0, state := 0 }

/-- A commit or digest request (R463, R466). -/
structure PddReq where
  /-- the pushing function and its job -/
  fn : Nat
  job : Option Nat
  rcd : List Byte
  deriving DecidableEq, Repr

/-- Mirroring (R459 to R476): pairing, mirror slots, taps; and the spares (R452 to R458). -/
structure Pdd where
  /-- PDD_PAIR_CFG.LOST_WAIT 16 bits, MIRROR_PART 6, OVERRIDE, FEED 8, HOLDER 16 bits, Config (R472); 0, HOLDER 0xFFFF -/
  lostWait : Nat
  mirrorPart : Nat
  override' : Bool
  feed : Nat
  holder : Nat
  /-- PDD_PAIR_STATUS.LAST_STEP 48, HOLDER_FEED 8 bits, FEED_WARN, STATE 4 bits (R472); 0 -/
  lastStep : Nat
  holderFeed : Nat
  feedWarn : Bool
  pair : Nat
  /-- always-on count since when the holder's peer entry has not been ACTIVE; none (R467) -/
  lostAon : Option Nat
  /-- bytes most recently written to PDD_COMMIT_PUSH and PDD_DIGEST_PUSH (R473); zero -/
  commitWin : Tab Byte
  digestWin : Tab Byte
  /-- commits sent and not answered, oldest first (R463); none -/
  commits : List PddReq
  /-- digest requests, oldest first (R466); none -/
  digests : List PddReq
  /-- PDD_SNAP_STEP.STEP, 64 bits; 0 -/
  snapStep : Nat
  /-- mirror slots 0 to 3 -/
  slots : Tab MSlot
  /-- taps 0 to 63 -/
  taps : Tab Tap
  /-- PDD_TAP_BYTES, PDD_COMMITS, PDD_COMMIT_FAILS, 64 bits (R476); 0 -/
  tapBytes : Nat
  commitCnt : Nat
  commitFails : Nat
  /-- PDD_SUBSTITUTIONS by die, 64 bits (R476); 0 -/
  subst : Tab Nat
  /-- failed physical positions of each cluster, bit p for position p, 0 to 8 (R454); none -/
  failed : Tab Nat
  /-- PDD_CORE_MAP by cluster: physical position of logical core k in bits [4k+3:4k], 0xF when failed (R454); 0x76543210 -/
  map : Tab Nat
  /-- logical cores whose physical core has failed and whose spare has not yet taken the position (R454); none -/
  waiting : List Nat
  /-- self-tests by die -/
  tests : Tab SelfTest
  deriving DecidableEq, Repr

def Pdd.reset : Pdd :=
  { lostWait := 0, mirrorPart := 0, override' := false, feed := 0, holder := 0xFFFF, lastStep := 0, holderFeed := 0, feedWarn := false,
    pair := 0, lostAon := none, commitWin := [], digestWin := [], commits := [], digests := [], snapStep := 0, slots := [],
    taps := [], tapBytes := 0, commitCnt := 0, commitFails := 0, subst := [], failed := [], map := [], waiting := [], tests := [] }

end Sys2Proof.Machine
end

