-- ==== Sys2Proof/Machine/DevState.lean ====
section
/-! DEFINITION. The state of the whole device, gathered from the states of its parts. -/

namespace Sys2Proof.Machine

/-- A function's entry of the configuration record (R529). -/
structure Grant where
  /-- CORES, bit g -/
  cores : Nat
  /-- PARTS, bit p -/
  parts : Nat
  /-- APP_CORES, bit a -/
  apps : Nat
  /-- expert level may be granted (R4) -/
  expert : Bool
  deriving DecidableEq, Repr

def Grant.none : Grant := { cores := 0, parts := 0, apps := 0, expert := false }

/-- Power, clocks and thermal state (R504 to R523). -/
structure Pwr where
  /-- PWR_CTRL.LIMIT_W 12 bits, IDLE_US 20 bits, DUSK_EN, Config (R520); 0 before a record is read -/
  limitW : Nat
  idleUs : Nat
  duskEn : Bool
  /-- PWR_STATUS.STATE: 0 awake, 1 entering Dusk, 2 Dusk, 3 waking (R520); 0 -/
  state : Nat
  /-- PWR_STATUS.CLAMPED, AT_FLOOR; 0 -/
  clamped : Bool
  atFloor : Bool
  /-- the input-power samples of the last 1 ms, newest first, at most 100 (R511); none -/
  samples : List Nat
  /-- PWR_GAP(i).RATIO by cluster, 8 bits; 0 (R521) -/
  gap : Tab Nat
  /-- PWR_TEMP(d): DIE_MAX, HBM_MAX, OPT_MAX by die (R521); 0 -/
  dieMax : Tab Nat
  hbmMax : Tab Nat
  optMax : Tab Nat
  /-- thermal level of each sensor class of each die, 3·die + class (0 junction, 1 HBM, 2 optical), 0 to 3 (R513); 0 -/
  level : Tab Nat
  /-- the limit that level 2 sets, in W (R513); none while no die is at level 2 -/
  thermLimit : Option Nat
  /-- thermal frequency step of each die, 0 to 2 (R513); 0 -/
  thermStep : Tab Nat
  /-- the die's always-on count at the latest step of its limit (2·die) and of its frequency (2·die + 1) (R513); 0 -/
  stepAon : Tab Nat
  /-- PWR_DUSK_CNT, 64 bits; 0 (R521) -/
  duskCnt : Nat
  /-- CLK_CLUSTER(i): FREQ_REQ, FREQ_CUR 2 bits, RELOCKING (R522); 0 -/
  freqReq : Tab Nat
  freqCur : Tab Nat
  relocking : Tab Bool
  /-- the PLL of a relocking cluster has begun to relock (R507); false -/
  relock : Tab Bool
  /-- the configuration record's cluster frequency (R507, R529); 0 -/
  freqCfg : Nat
  /-- always-on cycles for which the device has been idle (R515, R516); 0 -/
  idleCnt : Nat
  deriving DecidableEq, Repr

def Pwr.reset : Pwr :=
  { limitW := 0, idleUs := 0, duskEn := false, state := 0, clamped := false, atFloor := false, samples := [],
    gap := [], dieMax := [], hbmMax := [], optMax := [], level := [], thermLimit := none, thermStep := [],
    stepAon := [], duskCnt := 0, freqReq := [], freqCur := [], relocking := [], relock := [], freqCfg := 0,
    idleCnt := 0 }

/-- The device. -/
structure Dev where
  /-- logical cores 0 to 127 -/
  cores : Tab Core
  /-- application cores 0 to 31 -/
  apps : Tab AppCore
  /-- key-stream groups: 32·die + group -/
  groups : Tab Group
  /-- PCIe functions 0 to 63 -/
  fns : Tab Fn
  /-- PCIe configuration -/
  pcie : Pcie
  /-- HIF_EXPERT_EN.EN, 64 bits (R3, R399); 0 -/
  expertEn : Nat
  /-- outstanding jobs in acceptance order (R383); none -/
  jobs : List Job
  /-- acceptance number of the next job; 0 -/
  nextJob : Nat
  /-- function grants of the record in use (R529); none -/
  grants : Tab Grant
  /-- HBM, partitions, controllers and fabrics -/
  mem : Mem
  /-- links, optics, peers, windows -/
  lane : Starlane
  /-- power, clocks, temperature -/
  pwr : Pwr
  /-- reset and start -/
  rst : Rst
  /-- NOR contents -/
  nor : Nor
  /-- configuration record in use -/
  cfg : Cfg
  /-- update -/
  upd : Upd
  /-- mirroring and spares -/
  pdd : Pdd
  /-- security complex -/
  sec : Sec
  /-- security fuses -/
  fuses : Fuses
  /-- SEC_VIOL, 5 bits, kept until the next power-on reset (R444, R446); 0 -/
  viol : Nat
  /-- module hardware -/
  hw : Hw
  /-- fault records logged before the physical function has a fault ring (R423, R495); none -/
  bootLog : List FaultRec
  /-- always-on counters of die 0 and die 1, 64 bits (R504, R523); 0 -/
  aon0 : Nat
  aon1 : Nat
  /-- MODEL'S OWN: a counter from which free values are drawn; 0 -/
  freeCtr : Nat
  /-- what the latest command put out of the device; none -/
  out : List Out
  deriving DecidableEq, Repr

/-- The device at reset. -/
def Dev.reset : Dev :=
  { cores := [], apps := [], groups := [], fns := [], pcie := Pcie.reset, expertEn := 0, jobs := [], nextJob := 0, grants := [],
    mem := Mem.reset, lane := Starlane.reset, pwr := Pwr.reset, rst := Rst.reset, nor := Nor.reset, cfg := Cfg.reset,
    upd := Upd.reset, pdd := Pdd.reset, sec := Sec.reset, fuses := Fuses.reset, viol := 0, hw := Hw.reset, bootLog := [], aon0 := 0, aon1 := 0, freeCtr := 0, out := [] }

end Sys2Proof.Machine
end

