-- ==== Sys2Proof/Machine/Ops.lean ====
section
/-! DEFINITION. The named operations over the device: its parts, jobs, fault records and interrupts (R386 to R397),
and the HBM as every requester reads and writes it (R255 to R266). -/

namespace Sys2Proof.Machine

/-! ### Parts -/

/-- Logical core g. -/
def Dev.core (d : Dev) (g : Nat) : Core := Tab.get Core.reset d.cores g
def Dev.setCore (d : Dev) (g : Nat) (c : Core) : Dev := { d with cores := Tab.set d.cores g c }
def Dev.updCore (d : Dev) (g : Nat) (f : Core → Core) : Dev := d.setCore g (f (d.core g))

/-- Application core a. -/
def Dev.app (d : Dev) (a : Nat) : AppCore := Tab.get AppCore.reset d.apps a
def Dev.setApp (d : Dev) (a : Nat) (c : AppCore) : Dev := { d with apps := Tab.set d.apps a c }
def Dev.updApp (d : Dev) (a : Nat) (f : AppCore → AppCore) : Dev := d.setApp a (f (d.app a))

/-- Function f. -/
def Dev.fn (d : Dev) (f : Nat) : Fn := Tab.get Fn.reset d.fns f
def Dev.setFn (d : Dev) (f : Nat) (x : Fn) : Dev := { d with fns := Tab.set d.fns f x }
def Dev.updFn (d : Dev) (f : Nat) (u : Fn → Fn) : Dev := d.setFn f (u (d.fn f))

/-- Key-stream group n of die die. -/
def Dev.group (d : Dev) (die n : Nat) : Group := Tab.get Group.reset d.groups (32 * die + n)
def Dev.setGroup (d : Dev) (die n : Nat) (x : Group) : Dev := { d with groups := Tab.set d.groups (32 * die + n) x }
def Dev.updGroup (d : Dev) (die n : Nat) (u : Group → Group) : Dev := d.setGroup die n (u (d.group die n))

/-- The memory system with one change. -/
def Dev.updMem (d : Dev) (u : Mem → Mem) : Dev := { d with mem := u d.mem }
/-- Channel h, 64·die + index. -/
def Mem.chan (m : Mem) (h : Nat) : Chan := Tab.get Chan.reset m.chans h
def Mem.updChan (m : Mem) (h : Nat) (u : Chan → Chan) : Mem := { m with chans := Tab.set m.chans h (u (m.chan h)) }
/-- Partition p. -/
def Mem.part (m : Mem) (p : Nat) : Part := Tab.get Part.reset m.parts p
def Mem.updPart (m : Mem) (p : Nat) (u : Part → Part) : Mem := { m with parts := Tab.set m.parts p (u (m.part p)) }
/-- The write-combining buffer of a die. -/
def Mem.wcbOf (m : Mem) (die : Nat) : Wcb := Tab.get Wcb.reset m.wcb die
def Mem.updWcb (m : Mem) (die : Nat) (u : Wcb → Wcb) : Mem := { m with wcb := Tab.set m.wcb die (u (m.wcbOf die)) }
/-- The fabric of a die. -/
def Mem.fab (m : Mem) (die : Nat) : Fabric := Tab.get Fabric.reset m.fabric die
def Mem.updFab (m : Mem) (die : Nat) (u : Fabric → Fabric) : Mem :=
  { m with fabric := Tab.set m.fabric die (u (m.fab die)) }
/-- The exchange of a cluster. -/
def Mem.xchOf (m : Mem) (c : Nat) : Xch := Tab.get Xch.reset m.xch c
def Mem.updXch (m : Mem) (c : Nat) (u : Xch → Xch) : Mem := { m with xch := Tab.set m.xch c (u (m.xchOf c)) }

/-- Die of a core, application core, link or optical engine. -/
def dieOfCore (g : Nat) : Nat := g / 64
def dieOfApp (a : Nat) : Nat := a / 16
def dieOfLink (l : Nat) : Nat := l / 48

/-- The always-on count of a die (R504). -/
def Dev.aon (d : Dev) (die : Nat) : Nat := if die = 0 then d.aon0 else d.aon1

/-- One more thing that the command puts out. -/
def Dev.emit (d : Dev) (o : Out) : Dev := { d with out := d.out ++ [o] }

/-- A free value (the n-th draw of entropy), and the device after drawing it. -/
def Dev.draw (d : Dev) : Nat × Dev := (Config.entropy d.freeCtr, { d with freeCtr := d.freeCtr + 1 })

/-! ### The job record (R384) -/

def Job.irq (j : Job) : Nat := numAt j.rcd 0x05 1
def Job.flags (j : Job) : Nat := numAt j.rcd 0x06 2
def Job.audit (j : Job) : Bool := bit j.flags 0
def Job.aliased (j : Job) : Bool := bit j.flags 1
def Job.noiseOff (j : Job) : Bool := bit j.flags 2
def Job.ordered (j : Job) : Bool := bit j.flags 3
def Job.tag (j : Job) : Nat := numAt j.rcd 0x08 8
def Job.coreMask (j : Job) : Nat := numAt j.rcd 0x10 16
def Job.partMask (j : Job) : Nat := numAt j.rcd 0x20 8
def Job.appMask (j : Job) : Nat := numAt j.rcd 0x28 4
def Job.segments (j : Job) : Nat := numAt j.rcd 0x2C 1
def Job.psetCount (j : Job) : Nat := numAt j.rcd 0x2D 1
def Job.tokenCount (j : Job) : Nat := numAt j.rcd 0x2E 2
/-- TIME_LIMIT in ms, with 0 meaning 10,000. -/
def Job.timeLimit (j : Job) : Nat := if numAt j.rcd 0x30 4 = 0 then 10000 else numAt j.rcd 0x30 4
def Job.streamLimit (j : Job) : Nat := numAt j.rcd 0x34 4
def Job.shadowRow (j : Job) : Nat := numAt j.rcd 0x38 2
def Job.shadowRows (j : Job) : Nat := numAt j.rcd 0x3A 2
def Job.program (j : Job) : Nat := numAt j.rcd 0x40 8
def Job.args (j : Job) : Nat := numAt j.rcd 0x48 8
def Job.psetAddr (j : Job) (i : Nat) : Nat := numAt j.rcd (0x50 + 8 * i) 8
/-- Cores and application cores of a job, ascending. -/
def Job.cores (j : Job) : List Nat := bitsOf 128 j.coreMask
def Job.appCores (j : Job) : List Nat := bitsOf 32 j.appMask

/-- The outstanding job with an acceptance number. -/
def Dev.job (d : Dev) (id : Nat) : Option Job := d.jobs.find? fun j => j.id = id
/-- The outstanding job with a sequence number of a function. -/
def Dev.jobOf (d : Dev) (f seq : Nat) : Option Job := d.jobs.find? fun j => j.fn = f ∧ j.seq = seq
def Dev.updJob (d : Dev) (id : Nat) (u : Job → Job) : Dev :=
  { d with jobs := d.jobs.map fun j => if j.id = id then u j else j }
/-- The job that holds a core. -/
def Dev.coreJob (d : Dev) (g : Nat) : Option Job := (d.core g).job.bind d.job

/-! ### Ends of jobs, fault records and interrupts -/

/-- The running block stops at its next bundle; queued entries and held pushes are discarded (R388). -/
def Core.cut (c : Core) : Core :=
  { c with bq := [], bqHeld := [], seq := { c.seq with stopNext := if c.seq.running.isSome then 2 else c.seq.stopNext } }

/-- Apply a change to every index of a list. -/
def Dev.forAll (d : Dev) (l : List Nat) (f : Dev → Nat → Dev) : Dev := l.foldl f d

/-- A running job ends for a cause of R388; a cause of higher priority in the same always-on cycle replaces an
earlier one, and a cause that arrives after the boundary has begun has no effect. -/
def Dev.endJob (d : Dev) (id cause : Nat) : Dev :=
  match d.job id with
  | none => d
  | some j =>
    match j.phase with
    | .running =>
      let d := d.updJob id fun j => { j with phase := .ending, cause := cause, causeAon := d.aon0 }
      let d := d.forAll j.cores fun d g => d.updCore g Core.cut
      d.forAll j.appCores fun d a => d.updApp a fun x => { x with ended := true, wait := none }
    | .ending =>
      if j.causeAon = d.aon0 ∧ cause < j.cause then d.updJob id fun j => { j with cause := cause } else d
    | _ => d

/-- The 32 bytes of a fault record (R393). -/
def FaultRec.bytes (r : FaultRec) : List Byte :=
  leBytes 2 r.code ++ leBytes 1 r.sev ++ leBytes 1 r.fn ++ leBytes 4 r.loc ++ leBytes 4 r.job ++ leBytes 4 r.block ++
    leBytes 4 r.extStart ++ leBytes 4 r.extLen ++ leBytes 8 r.detail

/-- LOCATION of R394: kind, die, cluster within the die, logical core within the cluster, unit. -/
def location (kind die cluster core unit : Nat) : Nat :=
  put kind 28 4 + put die 27 1 + put cluster 24 3 + put core 20 4 + put unit 12 8

/-- LOCATION of a polynomial core. -/
def coreLoc (g : Nat) : Nat := location 1 (g / 64) (g / 8 % 8) (g % 8) 0
/-- LOCATION of an application core. -/
def appLoc (a : Nat) : Nat := location 7 (a / 16) 0 0 a
/-- LOCATION of an HBM channel (64·die + h). -/
def chanLoc (h : Nat) : Nat := location 3 (h / 64) 0 0 (h % 64)
/-- LOCATION of a link. -/
def linkLoc (l : Nat) : Nat := location 4 (l / 48) 0 0 l

/-- A fault record that names no block and no undefined extent. -/
def plainFault (code sev loc detail : Nat) : FaultRec :=
  { code := code, sev := sev, fn := 0, loc := loc, job := 0, block := 0xFFFF_FFFF, extStart := 0, extLen := 0,
    detail := detail % 2 ^ 64 }

/-- An MSI-X write leaves, for a function whose TDI is in RUN on its bound IDE stream (R377, R396). -/
def Dev.sendMsix (d : Dev) (f v : Nat) : Dev := d.emit (.msix f v (if (d.fn f).tdisp = 2 then (d.fn f).ide else none))

/-- An MSI-X message of a function's vector; a masked vector sets its Pending Bit (R397). -/
def Dev.msix (d : Dev) (f v : Nat) : Dev :=
  if (d.fn f).unmasked.contains v then d.sendMsix f v
  else d.updFn f fun x => { x with pendingBits := if x.pendingBits.contains v then x.pendingBits else x.pendingBits ++ [v] }

/-- A memory write to the host for a function; a function whose TDI is in RUN sends it on its bound IDE stream (R377). -/
def Dev.hostWrite (d : Dev) (f addr : Nat) (bytes : List Byte) : Dev :=
  d.emit (.host f addr bytes (if (d.fn f).tdisp = 2 then (d.fn f).ide else none))

/-- The entries of a function's fault ring: 2^(SIZE + 6), with 11 to 15 acting as 10 (R395, R400). -/
def faultEntries (size : Nat) : Nat := 2 ^ (min size 10 + 6)

/-- A fault record goes to its function's fault ring: bytes 0x02 to 0x1F first, then CODE; without a ring it is
counted in LOST (R395). Vector 16 announces it (R396). A record of severity DEVICE stands until a reset (R498). -/
def Dev.faultRing (d : Dev) (r : FaultRec) : Dev :=
  let d : Dev := if 4 ≤ r.sev then { d with rst := { d.rst with devFault := true } } else d
  let x := d.fn r.fn
  let d := d.updFn r.fn fun x => { x with faultCount := (x.faultCount + 1) % 2 ^ 48 }
  if x.faultBase = 0 then d.updFn r.fn fun x => { x with faultLost := satAdd 16 x.faultLost 1 }
  else
    let at' := x.faultBase + 32 * (x.faultCount % faultEntries x.faultSize)
    let d := d.hostWrite r.fn (at' + 2) (r.bytes.drop 2)
    let d := d.hostWrite r.fn at' (r.bytes.take 2)
    d.msix r.fn 16

/-- A fault record of a job: recorded under its function and number, counted, kept as the first of severity BLOCK
or higher, and ending the job at severity JOB or higher (R388, R392, R395). -/
def Dev.jobFault (d : Dev) (id : Nat) (r : FaultRec) : Dev :=
  match d.job id with
  | none => d.faultRing { r with fn := 0 }
  | some j =>
    let r := { r with fn := j.fn, job := j.seq % 2 ^ 32 }
    let d := d.faultRing r
    let d := d.updJob id fun j =>
      { j with faults := satAdd 16 j.faults 1,
               first := if j.first.isNone && decide (1 ≤ r.sev) then some r else j.first }
    if 2 ≤ r.sev then d.endJob id 4 else d

/-- A fault record that concerns no job goes to the function its rule names; the physical function receives all
others (R395). -/
def Dev.fnFault (d : Dev) (f : Nat) (r : FaultRec) : Dev := d.faultRing { r with fn := f }

/-- A fault record at a core: to the job that holds it, else to the physical function. -/
def Dev.coreFault (d : Dev) (g : Nat) (r : FaultRec) : Dev :=
  match (d.core g).job with
  | some id => d.jobFault id r
  | none => d.fnFault 0 r

/-! ### Expert level (R3 to R5) -/

/-- The function an access counts for: an application core writes for the function of its job (R407). -/
def Dev.agentFn (d : Dev) : Agent → Option Nat
  | .fn f => some f.val
  | .app a => ((d.app a.val).job.bind d.job).map Job.fn
  | .bmc => none
  | .firmware => none

/-- The access may write E-level fields (R5, R553). -/
def Dev.expert (d : Dev) (a : Agent) : Bool :=
  match a with
  | .bmc => true
  | .firmware => true
  | _ => match d.agentFn a with
    | some f => bit d.expertEn f
    | none => false

/-- A refused E-level write sets EXPERT_DENIED of its function (R5). -/
def Dev.deny (d : Dev) (a : Agent) : Dev :=
  match d.agentFn a with
  | some f => d.updFn f fun x => { x with denied := true }
  | none => d

/-- The effect of an E-level write: it happens at expert level, else the function is marked (R5). -/
def Dev.ifExpert (d : Dev) (a : Agent) (eff : Dev → Dev) : Dev := if d.expert a then eff d else d.deny a

/-! ### HBM: interleave and partitions (R257, R258, R266) -/

/-- A device address names HBM. -/
def isHbm (addr : Nat) : Bool := decide (addr < 2 ^ 40)
/-- Die and die offset of an HBM address. -/
def hbmDie (addr : Nat) : Nat := addr / 2 ^ 39
def hbmOff (addr : Nat) : Nat := addr % 2 ^ 39

/-- The fold of the local granule index that the interleave XORs in (R257). -/
def granuleFold (g : Nat) : Nat :=
  (g % 128) ^^^ (fld g 7 7) ^^^ (fld g 14 7) ^^^ (fld g 21 3)

/-- Pseudo-channel number of a die offset: stack in [1:0], channel in [5:2], pseudo-channel in [6] (R257). -/
def pseudoOf (o : Nat) : Nat := (fld o 8 7) ^^^ granuleFold (fld o 15 24)
/-- Local byte address within the pseudo-channel (R257). -/
def localOf (o : Nat) : Nat := (fld o 15 24) * 256 + o % 256
/-- Channel index 64·die + h, h = 16·(stack mod 4) + channel, of an HBM address (R255, R257). -/
def chanOf (addr : Nat) : Nat := 64 * hbmDie addr + 16 * (pseudoOf (hbmOff addr) % 4) + fld (pseudoOf (hbmOff addr)) 2 4
/-- The inverse of the interleave: the device address of a local byte address of a pseudo-channel. -/
def hbmAddrOf (die pseudo local' : Nat) : Nat :=
  die * 2 ^ 39 + (local' / 256) * 2 ^ 15 + ((pseudo ^^^ granuleFold (local' / 256)) % 128) * 256 + local' % 256

/-- An address lies in a test reserve: the top 4 GiB of a die (R258). -/
def inReserve (addr : Nat) : Bool := isHbm addr && decide (0x7F_0000_0000 ≤ hbmOff addr)

/-- `len` bytes at `addr` lie wholly inside partition p, which holds no test reserve (R258, R266). -/
def Mem.inPart (m : Mem) (p addr len : Nat) : Bool :=
  let q := m.part p
  q.valid && isHbm addr && decide (hbmDie addr = q.die) && decide (q.base * 2 ^ 30 ≤ hbmOff addr) &&
    decide (hbmOff addr + len ≤ (q.base + q.size) * 2 ^ 30) && decide (hbmOff addr + len ≤ 0x7F_0000_0000)

/-- The partition of a mask that wholly holds `len` bytes at `addr`. -/
def Mem.partFor (m : Mem) (mask addr len : Nat) : Option Nat :=
  (List.range 64).find? fun p => bit mask p && m.inPart p addr len

/-- The partition that holds an address. -/
def Mem.partAt (m : Mem) (addr : Nat) : Option Nat := m.partFor (2 ^ 64 - 1) addr 1

/-! ### HBM bytes and the write-combining buffers (R255, R262 to R265) -/

/-- An HBM byte. -/
def Mem.byte (m : Mem) (addr : Nat) : Byte := Tab.get 0 m.hbm addr
/-- `len` bytes from an address. -/
def Mem.bytes (m : Mem) (addr len : Nat) : List Byte := Tab.slice 0 m.hbm addr len
/-- Bytes stored from an address. -/
def Mem.store (m : Mem) (addr : Nat) : List Byte → Mem
  | [] => m
  | b :: t => Mem.store { m with hbm := Tab.store 0 m.hbm addr b } (addr + 1) t

/-- An atom reads as uncorrectable: it is marked so, or its channel has failed (R256, R273). -/
def Mem.bad (m : Mem) (addr : Nat) : Bool :=
  m.ue.contains (addr / 64 * 64) || decide ((m.chan (chanOf addr)).state = 5)

/-- The atoms that a range touches, by device address. -/
def atomsOf (addr len : Nat) : List Nat := (List.range (cdiv (addr % 64 + len) 64)).map fun i => addr / 64 * 64 + 64 * i

/-- The first uncorrectable atom of a range, by device address. -/
def Mem.firstBad (m : Mem) (addr len : Nat) : Option Nat := (atomsOf addr len).find? fun a => m.bad a

/-- What a read of an atom finds: at least what is already known of it. -/
def Mem.finding (m : Mem) (atom : Nat) (s : AtomState) : AtomState :=
  if m.bad atom then .uncorrectable
  else match s with
    | .intact => if m.ce.contains atom then .corrected else .intact
    | s => s

/-- The controller's record of a read (R272, R273, R276, R284, R285): a corrected atom is counted, its address kept,
and written back when WB_EN is set; an uncorrectable one is counted, its address kept, and stays as it is. -/
def Mem.eccRead (m : Mem) (atom : Nat) (scrub : Bool) : AtomState → Mem
  | .intact => m
  | .corrected =>
    let c := m.chan (chanOf atom)
    let m := m.updChan (chanOf atom) fun c => { c with ceCnt := satAdd 64 c.ceCnt 1, ce := ⟨true, scrub, atom⟩ }
    if c.wb then { m with ce := m.ce.filter fun a => a ≠ atom }
    else if m.ce.contains atom then m else { m with ce := m.ce ++ [atom] }
  | .uncorrectable =>
    let m := m.updChan (chanOf atom) fun c => { c with ueCnt := satAdd 64 c.ueCnt 1, ue := ⟨true, scrub, atom⟩ }
    if m.bad atom then m else { m with ue := m.ue ++ [atom], ce := m.ce.filter fun a => a ≠ atom }

/-- The atoms of a range as a reader finds them: each one that is not intact is recorded (R272, R273, R285). -/
def Mem.eccSweep (m : Mem) (addr len : Nat) : Mem :=
  ((atomsOf addr len).filter fun a => m.bad a || m.ce.contains a).foldl (fun m a => m.eccRead a false (m.finding a .intact)) m

/-- The pieces of a range by 256-byte granule: address and length of each (R255). -/
def granules (addr len : Nat) : List (Nat × Nat) :=
  (List.range (cdiv (addr % 256 + len) 256)).map fun i =>
    let lo := max addr (addr / 256 * 256 + 256 * i)
    (lo, min (addr + len) (addr / 256 * 256 + 256 * i + 256) - lo)

/-- Bytes read or written for requesters are counted by the channel of each granule (R285). -/
def Mem.countRd (m : Mem) (addr len : Nat) : Mem :=
  (granules addr len).foldl (fun m p => m.updChan (chanOf p.1) fun c => { c with rdBytes := satAdd 64 c.rdBytes p.2 }) m
def Mem.countWr (m : Mem) (addr len : Nat) : Mem :=
  (granules addr len).foldl (fun m p => m.updChan (chanOf p.1) fun c => { c with wrBytes := satAdd 64 c.wrBytes p.2 }) m

/-- A whole atom is written: its contents and its check symbols; a failed channel discards the write (R256, R273). -/
def Mem.putAtom (m : Mem) (addr : Nat) (bytes : List Byte) : Mem :=
  if (m.chan (chanOf addr)).state = 5 then m
  else
    let m := m.store addr bytes
    { m with ue := m.ue.filter fun a => a ≠ addr, ce := m.ce.filter fun a => a ≠ addr }

/-! ### Small path (R261) -/

/-- A granule request of a small transfer is admitted while the window's charges stay within 30 ns; otherwise it waits
for the next window and is counted. -/
def Mem.smallAdmit (m : Mem) (h ns : Nat) (w : Waiter) : Mem :=
  let c := m.chan h
  if c.smallQ.isEmpty ∧ c.small + ns ≤ 30 then m.updChan h fun c => { c with small := c.small + ns }
  else { (m.updChan h fun c => { c with smallQ := c.smallQ ++ [(ns, w)], smallWait := satAdd 64 c.smallWait 1 }) with holds := m.holds ++ [w] }

/-- The fault record of a merge read that finds an uncorrectable atom: to the job of the entry's latest write at
severity BLOCK while it runs or is in its boundary, else at severity NOTICE to the lowest function granted the
partition, or to the physical function (R265). -/
def Dev.mergeFault (d : Dev) (e : WcbEntry) (atom : Nat) : Dev :=
  let r := plainFault 0x0501 1 (chanLoc (chanOf atom)) atom
  match e.job.bind d.job with
  | some j => d.jobFault j.id r
  | none =>
    let f := ((List.range 64).find? fun f => bit (Tab.get Grant.none d.grants f).parts e.part).getD 0
    d.fnFault f { r with sev := 0 }

/-- One atom of a flush (R265): fully valid, written directly; partly valid, read, merged and written, unless the
read finds it uncorrectable; not touched, left alone. -/
def Dev.flushAtom (d : Dev) (die : Nat) (e : WcbEntry) (k : Nat) : Dev :=
  let at' := e.granule + 64 * k
  let offs := (List.range 64).map fun i => 64 * k + i
  let valid := offs.filter fun i => e.data.any fun p => p.1 = i
  if valid.length = 0 then d
  else if valid.length = 64 then
    d.updMem fun m => m.putAtom at' (offs.map fun i => Tab.get 0 e.data i)
  else
    let bad := d.mem.bad at'
    let d := d.updMem fun m => m.eccSweep at' 64
    if bad then d.mergeFault e at'
    else
      d.updMem fun m =>
        (m.putAtom at' (offs.map fun i => Tab.get (m.byte (e.granule + i)) e.data i)).updWcb die fun w =>
          { w with rmw := satAdd 64 w.rmw 1 }

/-- Atoms of its granule that an entry touches. -/
def WcbEntry.atoms (e : WcbEntry) : Nat := ((List.range 4).filter fun k => e.data.any fun p => p.1 / 64 = k).length

/-- An entry flushes: the flush takes the small path (R261), its four atoms go to the controller and the entry leaves the
buffer. -/
def Dev.flushEntry (d : Dev) (die : Nat) (e : WcbEntry) : Dev :=
  let d := d.updMem fun m => (m.updWcb die fun w => { w with entries := w.entries.filter fun x => x.granule ≠ e.granule }).smallAdmit
    (chanOf e.granule) (5 * e.atoms) .flush
  (d.flushAtom die e 0).flushAtom die e 1 |>.flushAtom die e 2 |>.flushAtom die e 3

/-- Flushes counted in WCB_FLUSH_OTHER: by read, eviction, boundary, Dusk or FLUSH (R291). -/
def Dev.flushOther (d : Dev) (die : Nat) (e : WcbEntry) : Dev :=
  (d.flushEntry die e).updMem fun m => m.updWcb die fun w => { w with other := satAdd 64 w.other 1 }

/-- Every entry of a die's buffer that satisfies a condition flushes, oldest first. -/
def Dev.flushWhere (d : Dev) (die : Nat) (p : WcbEntry → Bool) : Dev :=
  ((d.mem.wcbOf die).entries.filter p).foldl (fun d e => d.flushOther die e) d

/-- A read of a granule that has an entry waits until the entry has flushed (R262). -/
def Dev.flushFor (d : Dev) (addr len : Nat) : Dev :=
  d.flushWhere (hbmDie addr) fun e => decide (addr < e.granule + 256) && decide (e.granule < addr + len)

/-- The partition's charge for a transfer: its length rounded up to whole atoms, and the bytes counted (R267, R288).
An unregulated partition keeps its count. -/
def Part.charge (q : Part) (bytes : Nat) : Part :=
  { q with tokens := if q.rate = 0 then q.tokens else q.tokens - (bytes : Int), bytes := satAdd 64 q.bytes bytes }

/-- The whole atoms that a range touches, in bytes. -/
def atomBytes (addr len : Nat) : Nat := 64 * cdiv (addr % 64 + len) 64

/-- Bytes put into a write-combining entry from an offset of its granule on. -/
def wcbMerge (t : Tab Byte) (off : Nat) (bytes : List Byte) : Tab Byte :=
  (bytes.foldl (fun (p : Tab Byte × Nat) b => (Tab.set p.1 p.2 b, p.2 + 1)) (t, off)).1

/-- A partial-granule write enters the write-combining buffer (R262, R264): it merges into the granule's entry, or
allocates one, after the oldest entry has flushed when all 1,024 hold data; a mask that becomes full flushes. -/
def Dev.wcbWrite (d : Dev) (part : Nat) (job : Option Nat) (addr : Nat) (bytes : List Byte) : Dev :=
  let die := hbmDie addr
  let gr := addr / 256 * 256
  let w := d.mem.wcbOf die
  let d := match w.entries.find? fun (e : WcbEntry) => e.granule = gr with
    | some _ =>
      d.updMem fun m => m.updWcb die fun w =>
        { w with entries := w.entries.map fun (e : WcbEntry) => if e.granule = gr then { e with data := wcbMerge e.data (addr % 256) bytes, job := job, part := part } else e,
                 merges := satAdd 64 w.merges 1 }
    | none =>
      let d := match w.entries with
        | e :: _ => if 1024 ≤ w.entries.length then d.flushOther die e else d
        | [] => d
      d.updMem fun m => m.updWcb die fun w =>
        let es := w.entries ++ [(WcbEntry.mk gr (wcbMerge [] (addr % 256) bytes) part job (d.aon die))]
        { w with entries := es, hwm := max w.hwm es.length }
  match (d.mem.wcbOf die).entries.find? fun (e : WcbEntry) => e.granule = gr with
  | some e =>
    if e.data.length = 256 then
      (d.flushEntry die e).updMem fun m => m.updWcb die fun w => { w with full := satAdd 64 w.full 1 }
    else d
  | none => d

/-- A whole aligned granule goes to the controller directly and replaces any entry for it, which is discarded
without a flush (R262). -/
def Dev.granuleWrite (d : Dev) (addr : Nat) (bytes : List Byte) : Dev :=
  d.updMem fun m =>
    let m := m.updWcb (hbmDie addr) fun w => { w with entries := w.entries.filter fun e => e.granule ≠ addr }
    (List.range 4).foldl (fun m k => m.putAtom (addr + 64 * k) (bytesAt bytes (64 * k) 64)) m

/-- A write to HBM by any requester, cut into granule requests (R255, R262). Bytes are counted; the partition is
charged by whoever issues the transfer. -/
def Dev.hbmWrite (d : Dev) (part : Nat) (job : Option Nat) (addr : Nat) (bytes : List Byte) : Dev :=
  let d := (granules addr bytes.length).foldl (fun d p =>
    let piece := bytesAt bytes (p.1 - addr) p.2
    if p.2 = 256 then d.granuleWrite p.1 piece else d.wcbWrite part job p.1 piece) d
  d.updMem fun m => m.countWr addr bytes.length

/-- The controllers serve a read of HBM: entries of its granules flush first, and what the check symbols tell is recorded;
the first uncorrectable atom, if there is one (R262, R272, R273, R285). -/
def Dev.hbmTouch (d : Dev) (addr len : Nat) : Dev × Option Nat :=
  let d := d.flushFor addr len
  let bad := d.mem.firstBad addr len
  let d := d.updMem fun m => m.eccSweep addr len
  match bad with
  | some a => (d, some a)
  | none => (d.updMem fun m => m.countRd addr len, none)

/-- A read of HBM by any requester: a range with an uncorrectable atom delivers no data (R273). -/
def Dev.hbmRead (d : Dev) (addr len : Nat) : Dev × Except Nat (List Byte) :=
  match d.hbmTouch addr len with
  | (d, some a) => (d, .error a)
  | (d, none) => (d, .ok (d.mem.bytes addr len))

/-- A channel that the range lies on is in a partial reset: a request to it waits (R256). -/
def Mem.resetting (m : Mem) (addr len : Nat) : Bool :=
  (granules addr len).any fun q => decide ((m.chan (chanOf q.1)).state = 6)

/-- A transfer into the partition may issue: its count is above zero, or it is unregulated and no partition of the
die whose count is positive has a transfer waiting, or it is work-conserving in the same case (R267, R268). -/
def Mem.mayIssue (m : Mem) (p : Nat) : Bool :=
  let q := m.part p
  let others := (List.range 64).any fun k =>
    decide (k ≠ p) && (m.part k).valid && decide ((m.part k).die = q.die) && !(m.part k).waiting.isEmpty &&
      decide ((m.part k).rate ≠ 0) && decide (0 < (m.part k).tokens)
  if q.rate = 0 then !others else decide (0 < q.tokens) || (q.mode && !others)

/-! ### Requesters that may have to wait (R259, R261, R267) -/

/-- The small path is asked for the granule requests that reach the controllers: all those of a read, the whole granules of a
write, whose other bytes enter the write-combining buffer (R261, R262). -/
def Mem.askSmall (m : Mem) (w : Waiter) (write : Bool) (addr len : Nat) : Mem :=
  ((granules addr len).filter fun q => !write || decide (q.2 = 256)).foldl
    (fun m q => m.smallAdmit (chanOf q.1) (5 * (atomBytes q.1 q.2 / 64)) w) m

/-- The regulator of a partition is asked for a transfer: it is charged and issues, or waits behind those that came before
(R267). -/
def Mem.askTokens (m : Mem) (w : Waiter) (p bytes : Nat) : Mem :=
  if m.mayIssue p && (m.part p).waiting.isEmpty then m.updPart p fun q => q.charge bytes
  else { (m.updPart p fun q => { q with waiting := q.waiting ++ [(bytes, w)] }) with holds := m.holds ++ [w] }

/-- A transfer of `len` bytes at an address is asked for: a partition, when it is charged, and the small path, when it is
below 512 bytes; `w` is listed under `holds` as often as something holds it back. -/
def Mem.ask (m : Mem) (w : Waiter) (p : Option Nat) (small write : Bool) (addr len : Nat) : Mem :=
  let m := if small then m.askSmall w write addr len else m
  match p with
  | some p => m.askTokens w p (atomBytes addr len)
  | none => m

/-- A requester that comes again until its transfer may be made: true once nothing holds it back. -/
def Mem.pass (m : Mem) (w : Waiter) (p : Option Nat) (small : Bool) (addr len : Nat) : Mem × Bool :=
  if m.resetting addr len then (m, false)
  else if m.asked.contains w then
    if m.holds.contains w then (m, false) else ({ m with asked := m.asked.filter fun x => x ≠ w }, true)
  else
    let m := m.ask w p small false addr len
    if m.holds.contains w then ({ m with asked := m.asked ++ [w] }, false) else (m, true)

/-- What requesters have asked for and not had is withdrawn. -/
def Mem.forget (m : Mem) (gone : Waiter → Bool) : Mem :=
  { m with holds := m.holds.filter fun w => !gone w, asked := m.asked.filter fun w => !gone w,
           chans := m.chans.map fun c => (c.1, { c.2 with smallQ := c.2.smallQ.filter fun q => !gone q.2 }),
           parts := m.parts.map fun p => (p.1, { p.2 with waiting := p.2.waiting.filter fun q => !gone q.2 }) }

/-- The requesters of a core. -/
def Waiter.ofCore (g : Nat) : Waiter → Bool
  | .xfer h _ _ => decide (h = g)
  | .catchup h _ => decide (h = g)
  | .image h => decide (h = g)
  | .kernel h => decide (h = g)
  | _ => false

/-! ### The bridge between the dies (R302, R308, R310) -/

/-- Both dies show the bridge. -/
def Mem.bothEnds (m : Mem) (u : Fabric → Fabric) : Mem := (m.updFab 0 u).updFab 1 u

/-- Bytes carried over the bridge (R302, R310): counted on both dies' blocks. -/
def Mem.bridge (m : Mem) (from' to' bytes : Nat) : Mem :=
  if from' = to' then m
  else m.bothEnds fun f =>
    if from' = 0 then { f with bytes01 := satAdd 64 f.bytes01 bytes } else { f with bytes10 := satAdd 64 f.bytes10 bytes }

/-! ### Host accesses of BAR2 (R376) -/

/-- A host access of BAR2 is made over the host port of die 0 (R302): a write enters HBM, a read is answered with its bytes, or with Completer Abort and
MEM_UNCORRECTABLE. -/
def Dev.hostAccess (d : Dev) (x : HostAcc) : Dev :=
  match x.data with
  | some b => (d.hbmWrite x.part none x.addr b).updMem fun m => m.bridge 0 (hbmDie x.addr) x.len
  | none =>
    match d.hbmRead x.addr x.len with
    | (d, .ok b) => (d.updMem fun m => m.bridge (hbmDie x.addr) 0 x.len).emit (.data b)
    | (d, .error atom) => (d.emit .completerAbort).fnFault x.fn (plainFault 0x0501 1 (chanLoc (chanOf atom)) atom)

/-- The first waiting host access that nothing holds back, behind no earlier one of its function. -/
def Mem.hostDue (m : Mem) : Option HostAcc :=
  (m.hostQ.zipIdx.find? fun x => !m.holds.contains (.host x.1.no) && !m.resetting x.1.addr x.1.len &&
    !((m.hostQ.take x.2).any fun y => decide (y.fn = x.1.fn))).map Prod.fst

/-- The host accesses that nothing holds back are made, at most n of them. -/
def Dev.serveHost (d : Dev) : Nat → Dev
  | 0 => d
  | n + 1 => match d.mem.hostDue with
    | some x => ((d.updMem fun m => { m with hostQ := m.hostQ.filter fun y => y.no ≠ x.no }).hostAccess x).serveHost n
    | none => d

/-- A host access of BAR2 arrives: it is charged to its partition, takes the small path when it is below 512 bytes, and is
made at once when nothing holds it back (R261, R269, R376). -/
def Dev.hostAsk (d : Dev) (f p addr : Nat) (data : Option (List Byte)) (len : Nat) : Dev :=
  let no := d.mem.hostNo
  let d := d.updMem fun m => m.ask (.host no) (some p) (decide (len < 512)) data.isSome addr len
  (d.updMem fun m => { m with hostQ := m.hostQ ++ [⟨no, f, p, addr, data, len⟩], hostNo := no + 1 }).serveHost (d.mem.hostQ.length + 1)

end Sys2Proof.Machine
end

