-- ==== Sys2Proof/Machine/Params.lean ====
section
/-! DEFINITION. Parameter sets and the prime table: admissible primes (R22, R25), the checks of R29 and R69 and
the filling of the prime tables (R30, R68, R196). -/

namespace Sys2Proof.Machine

/-! ### Arithmetic -/

/-- a^e mod q by squaring; the first argument bounds the bits of e. -/
def powModAux : Nat → Nat → Nat → Nat → Nat → Nat
  | 0, _, _, _, acc => acc
  | k + 1, a, e, q, acc => powModAux k (a * a % q) (e / 2) q (if e % 2 = 1 then acc * a % q else acc)

/-- a^e mod q for an exponent below 2^64. -/
def powMod (a e q : Nat) : Nat := powModAux 64 (a % q) e q (1 % q)

/-- The largest k with 2^k dividing n, for 0 < n < 2^fuel. -/
def twoAdic : Nat → Nat → Nat
  | 0, _ => 0
  | f + 1, n => if n % 2 = 0 then 1 + twoAdic f (n / 2) else 0

/-- Some square of x, among the first s, equals q − 1. -/
def reachesMinusOne : Nat → Nat → Nat → Bool
  | 0, _, _ => false
  | s + 1, x, q => decide (x = q - 1) || reachesMinusOne s (x * x % q) q

/-- Miller–Rabin with bases 2, 3, 5, 7 and 11, exact below 2^36 (R29). -/
def isPrime (q : Nat) : Bool :=
  if q < 2 then false
  else if [2, 3, 5, 7, 11].contains q then true
  else if q % 2 = 0 then false
  else
    let s := twoAdic 64 (q - 1)
    let m := (q - 1) / 2 ^ s
    [2, 3, 5, 7, 11].all fun a =>
      let x := powMod a m q
      decide (a % q = 0) || decide (x = 1) || reachesMinusOne s x q

/-! ### Admissible primes (R22, R25) -/

/-- The ways to write c as at most k signed powers of two with distinct exponents, ascending: the lowest exponent
is the one at which c is odd. -/
def signedTerms : Nat → Int → List (List (Int × Nat))
  | 0, c => if c = 0 then [[]] else []
  | k + 1, c =>
    if c = 0 then [[]]
    else
      let e := twoAdic 64 c.natAbs
      ((signedTerms k (c - (2 : Int) ^ e)).map fun t => (1, e) :: t) ++
        ((signedTerms k (c + (2 : Int) ^ e)).map fun t => (-1, e) :: t)

/-- A decomposition of R22: w and the terms in descending exponent. -/
structure Decomp where
  w : Nat
  terms : List (Int × Nat)
  deriving DecidableEq, Repr

/-- Every decomposition of q that meets conditions 3 to 5 of R22 at ring dimension 2^n. -/
def decomps (q n : Nat) : List Decomp :=
  (List.range 8).flatMap fun k =>
    let w := 29 + k
    ((signedTerms 3 ((q : Int) - 2 ^ w - 1)).filter fun ts => ts.all fun t => decide (n + 1 ≤ t.2) && decide (t.2 + 8 ≤ w)).map
      fun ts => { w := w, terms := ts.reverse }

/-- The list (w, e1, e2, e3) as one number that orders decompositions lexicographically (R68). -/
def Decomp.rank (x : Decomp) : Nat :=
  let e (i : Nat) : Nat := match x.terms[i]? with | some t => t.2 | none => 0
  ((x.w * 64 + e 0) * 64 + e 1) * 64 + e 2

/-- The decomposition that R68 chooses: fewest terms, then highest in lexicographic order. -/
def chooseDecomp (l : List Decomp) : Option Decomp :=
  l.foldl (fun b x => match b with
    | none => some x
    | some y =>
      if x.terms.length < y.terms.length ∨ (x.terms.length = y.terms.length ∧ y.rank < x.rank) then some x else b) none

/-- Admissible for native mode at N = 2^n (R22). -/
def nativeOk (q n : Nat) : Bool :=
  decide (2 ^ 29 < q) && decide (q < 2 ^ 36) && !(decomps q n).isEmpty && isPrime q

/-- Admissible for forerunner mode at N = 2^n (R25). -/
def foreOk (q n : Nat) : Bool := decide (q < 2 ^ 32) && decide (q % 2 ^ (n + 1) = 1) && isPrime q

/-- lg(q): log2 q to the nearest 2^−16, as 16.16 (R30). -/
def lgOf (q : Nat) : Nat := (Nat.log2 (q ^ 131072) + 1) / 2

/-- −q^(−1) mod 2^32 for an odd q (R26): Newton's iteration doubles the exact low bits each time. -/
def qinvOf (q : Nat) : Nat :=
  let m := 2 ^ 32
  let x := (List.range 6).foldl (fun x _ => x * ((2 * m + 2) - q * x % m) % m) 1
  (m - x % m) % m

/-! ### Reading a parameter-set record (R28, R29) -/

/-- The first field of a record that R29's step 1 fails, as its byte offset, or the set. -/
def parsePSet (b : List Byte) : Except Nat PSet :=
  let id := numAt b 0x004 2
  let n := numAt b 0x006 1
  let flags := numAt b 0x007 1
  let scheme := flags % 4
  let fore := bit flags 2
  let reg := numAt b 0x008 1
  let spec := numAt b 0x009 1
  let dnum := numAt b 0x00A 1
  let pt := numAt b 0x010 8
  let prime (i : Nat) : Nat := numAt b (0x040 + 16 * i) 8
  let root (i : Nat) : Nat := numAt b (0x048 + 16 * i) 8
  let count := reg + spec
  if numAt b 0 4 ≠ 0x7E5A_5053 then .error 0x000
  else if id = 0 then .error 0x004
  else if n < 12 ∨ 17 < n ∨ (fore ∧ n = 17) then .error 0x006
  else if scheme = 3 then .error 0x007
  else if reg = 0 ∨ 72 < reg then .error 0x008
  else if 71 < spec ∨ 72 < count then .error 0x009
  else if dnum = 0 ∨ 8 < dnum ∨ reg < dnum then .error 0x00A
  else if (scheme = 0 ∧ pt ≠ 0) ∨ (scheme ≠ 0 ∧ (pt < 2 ∨ 2 ^ 36 ≤ pt)) then .error 0x010
  else
    let badEntry := (List.range 72).findSome? fun i =>
      let q := prime i
      let r := root i
      if i < count then
        if 2 ^ 36 ≤ q ∨ !(if fore then foreOk q n else nativeOk q n) ∨ ((List.range i).any fun k => prime k = q) ∨
            (scheme ≠ 0 ∧ pt % q = 0) then some (0x040 + 16 * i)
        else if 2 ^ 36 ≤ r ∨ powMod r (2 ^ n) q ≠ q - 1 then some (0x048 + 16 * i)
        else none
      else if q ≠ 0 then some (0x040 + 16 * i)
      else if r ≠ 0 then some (0x048 + 16 * i)
      else none
    match badEntry with
    | some off => .error off
    | none =>
      .ok { id := id, logN := n, scheme := scheme, fore := fore, reg := reg, spec := spec, dnum := dnum,
            scaleTol := numAt b 0x00C 4, ptMod := pt, noiseMargin := numAt b 0x018 4, ksNoise := numAt b 0x01C 4,
            msNoise := numAt b 0x020 4, ptGrowth := numAt b 0x024 4,
            primes := (List.range count).map fun i => (prime i, root i) }

/-- DETAIL of a PARAM_MISMATCH at intake (R29). -/
def psetDetail (id off : Nat) : Nat := put id 48 16 + off % 2 ^ 16

/-- Step 1 of R29: each record is checked completely before the next is read. -/
def parsePSets : List (List Byte) → Except Nat (List PSet)
  | [] => .ok []
  | b :: t => match parsePSet b with
    | .error off => .error (psetDetail (numAt b 4 2) off)
    | .ok p => match parsePSets t with
      | .error x => .error x
      | .ok l => .ok (p :: l)

/-- The pairs of prime value and mode of a record's entries, with the record's ID, mode, n, root and ROOT offset. -/
structure PrimeUse where
  id : Nat
  q : Nat
  fore : Bool
  n : Nat
  root : Nat
  index : Nat

def primeUses (l : List PSet) : List PrimeUse :=
  l.flatMap fun p => p.primes.zipIdx.map fun x => { id := p.id, q := x.1.1, fore := p.fore, n := p.logN, root := x.1.2, index := x.2 }

/-- Step 2 of R29: the first record whose ID an earlier record carries. -/
def dupId : List PSet → List Nat → Option Nat
  | [], _ => none
  | p :: t, seen => if seen.contains p.id then some p.id else dupId t (seen ++ [p.id])

/-- Step 3 of R29: the entry that would take the 97th distinct pair. -/
def overTable : List PrimeUse → List (Nat × Bool) → Option PrimeUse
  | [], _ => none
  | u :: t, seen =>
    if seen.contains (u.q, u.fore) then overTable t seen
    else if seen.length = 96 then some u else overTable t (seen ++ [(u.q, u.fore)])

/-- Step 4 of R29, which is R69: the first entry whose root differs from an earlier record's at the same n. -/
def rootClash : List PrimeUse → List PrimeUse → Option PrimeUse
  | [], _ => none
  | u :: t, seen =>
    if seen.any fun v => v.q = u.q ∧ v.fore = u.fore ∧ v.n = u.n ∧ v.root ≠ u.root then some u
    else rootClash t (seen ++ [u])

/-- The checks of R29 over the records of a job, in its order: the sets, or the DETAIL of PARAM_MISMATCH. -/
def checkPSets (records : List (List Byte)) : Except Nat (List PSet) :=
  match parsePSets records with
  | .error x => .error x
  | .ok l =>
    match dupId l [] with
    | some id => .error (psetDetail id 0x004)
    | none =>
      match overTable (primeUses l) [] with
      | some u => .error (psetDetail u.id (0x040 + 16 * u.index))
      | none =>
        match rootClash (primeUses l) [] with
        | some u => .error (psetDetail u.id (0x048 + 16 * u.index))
        | none => .ok l

/-! ### The prime table (R68, R196) -/

/-- The entry of a prime in a table by value and mode (R68). -/
def primeIndex (t : List PrimeEntry) (q : Nat) (fore : Bool) : Option Nat :=
  t.findIdx? fun e => e.q = q ∧ e.fore = fore

/-- The largest n among the native records that name a prime. -/
def largestN (uses : List PrimeUse) (q : Nat) : Nat :=
  uses.foldl (fun m u => if u.q = q ∧ !u.fore then max m u.n else m) 0

/-- The table that R68 fills: entries in the order of first use, with the roots of every record. -/
def fillPrimes (sets : List PSet) : List PrimeEntry :=
  let uses := primeUses sets
  uses.foldl (fun t u =>
    match primeIndex t u.q u.fore with
    | some i => t.modify i fun e => { e with roots := Tab.set e.roots (u.n - 12) u.root }
    | none =>
      let dec := if u.fore then none else chooseDecomp (decomps u.q (largestN uses u.q))
      t ++ [{ q := u.q, fore := u.fore, w := (dec.map Decomp.w).getD 0, terms := (dec.map Decomp.terms).getD [],
              qinv := if u.fore then qinvOf u.q else 0, lg := lgOf u.q, roots := [(u.n - 12, u.root)] }]) []

/-- The 128 bytes of a prime-table entry, as sixteen 64-bit words (R196). -/
def PrimeEntry.word (e : PrimeEntry) (k : Nat) : Nat :=
  let term (i : Nat) : Nat := match e.terms[i]? with
    | some t => (if t.1 = 1 then 1 else 3) + 4 * t.2
    | none => 0
  if k = 0 then
    e.q + 2 ^ 36 + put (b2n e.fore) 37 1 + put e.w 38 6 + (e.roots.foldl (fun a p => a + 2 ^ (44 + p.1)) 0)
  else if k = 1 then term 0 + put (term 1) 8 8 + put (term 2) 16 8 + put e.qinv 32 32
  else if k = 2 then e.lg
  else if 3 ≤ k ∧ k ≤ 8 then Tab.get 0 e.roots (k - 3)
  else 0

end Sys2Proof.Machine
end

