-- ==== Sys2Proof/Machine/Power.lean ====
section
/-! DEFINITION. Clocks, the power limit and the thermal levels (R504 to R514, R520 to R522), with the strap limits of
R490 and R491. -/

namespace Sys2Proof.Machine

/-- The power limit that the strap value sets (R490). -/
def Dev.strapPower (d : Dev) : Option Nat :=
  match d.rst.strap with
  | 0x4 => some 700
  | 0x5 => some 550
  | 0xB => some 400
  | _ => none

/-- The frequency code that the strap value allows at most: a higher code is a lower frequency (R490, R522). -/
def Dev.strapFreq (d : Dev) : Nat :=
  match d.rst.strap with
  | 0xA => 1
  | 0xB => 2
  | _ => 0

/-- The effective power limit: the lowest of the four, never below 400 W (R510). -/
def Dev.effLimit (d : Dev) : Nat :=
  max 400 (min (min d.pwr.limitW 950) (min (d.strapPower.getD 950) (d.pwr.thermLimit.getD 950)))

/-- The average of the power samples of the last 1 ms (R511). -/
def Pwr.powerW (p : Pwr) : Nat := p.samples.sum / max 1 p.samples.length

/-- LIMIT_W as it is taken: clamped to 950 W, and at least 400 W (R1, R510). -/
def clampLimit (w : Nat) : Nat := max 400 (min w 950)

/-- LIMIT_W is set, and CLAMPED says whether the value was changed (R510). -/
def Pwr.setLimit (p : Pwr) (w : Nat) : Pwr := { p with limitW := clampLimit w, clamped := decide (clampLimit w ≠ w) }

/-- FREQ code 3 acts as 2 (R522). -/
def freqCode (v : Nat) : Nat := min (v % 4) 2

/-- The frequency code a cluster runs at: the lowest frequency of request, record, strap and thermal step (R507). -/
def Dev.freqTarget (d : Dev) (c : Nat) : Nat :=
  max (max (freqCode (Tab.get 0 d.pwr.freqReq c)) (freqCode d.pwr.freqCfg)) (max d.strapFreq (Tab.get 0 d.pwr.thermStep (c / 8)))

/-- When a cluster's value changes, it dispatches no further block until it has relocked (R507). -/
def Dev.retune (d : Dev) : Dev :=
  { d with pwr := { d.pwr with relocking := (List.range 16).foldl (fun t c =>
      if d.freqTarget c ≠ Tab.get 0 d.pwr.freqCur c then Tab.set t c true
      else if Tab.get false d.pwr.relock c then t else Tab.set t c false) d.pwr.relocking } }

/-- A wake event in Dusk begins the wake; WAKE# is driven low while the PCIe link is in L2 (R518, R559). -/
def Dev.wakeUp (d : Dev) : Dev :=
  if d.pwr.state = 2 then
    { d with pwr := { d.pwr with state := 3, idleCnt := 0 }, rst := { d.rst with wake := d.rst.wake || decide (d.rst.pcie = 2) } }
  else { d with pwr := { d.pwr with idleCnt := 0 } }

/-- POWER_SAMPLE (R511): one measurement of the input power enters the 1 ms average; AT_FLOOR is set while the
average exceeds the limit with every ratio at 255, until the average falls to the limit. -/
def fxPowerSample (d : Dev) (w : Nat) : Dev :=
  let p := { d.pwr with samples := (w :: d.pwr.samples).take 100 }
  let d := { d with pwr := p }
  let above := decide (d.effLimit < p.powerW)
  let floor := (List.range 16).all fun c => Tab.get 0 p.gap c = 255
  { d with pwr := { p with atFloor := above && (floor || p.atFloor) } }

/-- One cluster's gap ratio after a 100 µs interval (R511): raised while the average exceeds the limit, lowered while
it is more than 2 % below, by an amount the specification leaves open, within 0 to 255. -/
def gapNext (c r avg lim : Nat) : Nat :=
  let k := 1 + Config.gapStep c r avg % 255
  if lim < avg then min 255 (r + k) else if avg * 100 < lim * 98 then r - k else r

/-- GAP_RATIO_UPDATE (R511). -/
def fxGapRatioUpdate (d : Dev) : Dev :=
  { d with pwr := { d.pwr with gap := (List.range 16).foldl (fun t c =>
      Tab.set t c (gapNext c (Tab.get 0 d.pwr.gap c) d.pwr.powerW d.effLimit)) d.pwr.gap } }

/-- The level a sensor class stands at: a level is entered at its threshold and clears 5 °C below it (R513). -/
def levelOf (th : List Nat) (old t : Nat) : Nat :=
  (List.range th.length).foldl (fun acc k =>
    if th.getD k 0 ≤ t ∨ (k + 1 ≤ old ∧ th.getD k 0 < t + 5) then k + 1 else acc) 0

/-- Thresholds of the levels: die junction, HBM stack, optical engine (R513). -/
def levelTable : Nat → List Nat
  | 0 => [95, 100, 105]
  | 1 => [95, 100]
  | _ => [75, 80]

/-- A die's level: the highest of its three sensor classes (R513). -/
def Pwr.dieLevel (p : Pwr) (die : Nat) : Nat :=
  max (Tab.get 0 p.level (3 * die)) (max (Tab.get 0 p.level (3 * die + 1)) (Tab.get 0 p.level (3 * die + 2)))

/-- The highest level of either die (PWR_STATUS.THERM). -/
def Pwr.therm (p : Pwr) : Nat := max (p.dieLevel 0) (p.dieLevel 1)

/-- THERMAL_LEVEL_CHANGE (R513): the hottest sensor of a class of a die reads t. A change of the die's level writes
THERMAL_LEVEL to the physical function, signals vector 22 and raises an in-band interrupt; reaching level 3 steps the
die's clusters down; the reduced limit is restored when no die is at level 2. -/
def fxThermalLevelChange (d : Dev) (die cls t : Nat) : Dev :=
  let old := d.pwr.dieLevel die
  let oldStack := Tab.get 0 d.pwr.dieMax die
  let p := d.pwr
  let p := match cls with
    | 0 => { p with dieMax := Tab.set p.dieMax die t }
    | 1 => { p with hbmMax := Tab.set p.hbmMax die t }
    | _ => { p with optMax := Tab.set p.optMax die t }
  let key := 3 * die + min cls 2
  let p := { p with level := Tab.set p.level key (levelOf (levelTable cls) (Tab.get 0 p.level key) t) }
  let new := p.dieLevel die
  let p := if old < 2 ∧ 2 ≤ new then { p with stepAon := Tab.set p.stepAon (2 * die) (d.aon die) } else p
  let p := if old < 3 ∧ 3 ≤ new then
      { p with thermStep := Tab.set p.thermStep die (min 2 (Tab.get 0 p.thermStep die + 1)),
               stepAon := Tab.set p.stepAon (2 * die + 1) (d.aon die) } else p
  let p := if cls = 0 ∧ 95 ≤ oldStack ∧ t < 95 then { p with stepAon := Tab.set p.stepAon (2 * die + 1) (d.aon die) } else p
  let p := if p.therm < 2 then { p with thermLimit := none } else p
  let d := ({ d with pwr := p }).retune
  if new = old then d
  else
    let d := d.fnFault 0 (plainFault 0x090D 0 (location 0 die 0 0 0) (new + 256 * (t % 256)))
    let d := (d.msix 0 22).emit (.ibi (0x20 + new))
    if old < new then d.wakeUp else d

/-- THROTTLE_STEP (R513): after each 1 ms at level 2 or above, the effective limit falls by 5 % of itself, down to
400 W. -/
def fxThrottleStep (d : Dev) (die : Nat) : Dev :=
  if 2 ≤ d.pwr.dieLevel die ∧ Tab.get 0 d.pwr.stepAon (2 * die) + 25000 ≤ d.aon die then
    { d with pwr := { d.pwr with thermLimit := some (max 400 (d.effLimit * 95 / 100)),
                                 stepAon := Tab.set d.pwr.stepAon (2 * die) (d.aon die) } }
  else d

/-- FREQ_STEP (R513): after each 10 ms at level 3 the die's clusters step down one frequency, down to 1.6 GHz; after
each 10 ms below 95 °C they step up one. -/
def fxFreqStep (d : Dev) (die : Nat) : Dev :=
  let s := Tab.get 0 d.pwr.thermStep die
  if Tab.get 0 d.pwr.stepAon (2 * die + 1) + 250000 ≤ d.aon die then
    if 3 ≤ d.pwr.dieLevel die then
      ({ d with pwr := { d.pwr with thermStep := Tab.set d.pwr.thermStep die (min 2 (s + 1)),
                                    stepAon := Tab.set d.pwr.stepAon (2 * die + 1) (d.aon die) } }).retune
    else if Tab.get 0 d.pwr.dieMax die < 95 ∧ 0 < s then
      ({ d with pwr := { d.pwr with thermStep := Tab.set d.pwr.thermStep die (s - 1),
                                    stepAon := Tab.set d.pwr.stepAon (2 * die + 1) (d.aon die) } }).retune
    else d
  else d

/-- The logical cores of a cluster. -/
def coresOfCluster (c : Nat) : List Nat := (List.range 8).map fun k => 8 * c + k

/-- CLUSTER_RELOCK (R507): once each running block of the cluster has reached its boundary, the PLL relocks. -/
def fxClusterRelock (d : Dev) (c : Nat) : Dev :=
  if Tab.get false d.pwr.relocking c && (coresOfCluster c).all fun g => (d.core g).seq.running.isNone then
    { d with pwr := { d.pwr with relock := Tab.set d.pwr.relock c true } }
  else d

/-- RELOCK_DONE (R507): the PLL has locked at the new value and dispatch resumes. -/
def fxRelockDone (d : Dev) (c : Nat) : Dev :=
  if Tab.get false d.pwr.relock c then
    { d with pwr := { d.pwr with freqCur := Tab.set d.pwr.freqCur c (d.freqTarget c),
                                 relock := Tab.set d.pwr.relock c false,
                                 relocking := Tab.set d.pwr.relocking c false } }
  else d

/-- PWR_CTRL_WRITE (R510, R520): an E-level write of the limit and the Dusk settings; it wakes the device (R518). -/
def fxPwrCtrlWrite (d : Dev) (v : Nat) (a : Agent) : Dev :=
  (d.ifExpert a fun d =>
    { d with pwr := { d.pwr.setLimit (fld v 32 12) with idleUs := fld v 4 20, duskEn := bit v 0 } }).wakeUp

/-- CLK_CLUSTER_WRITE (R507, R522): an E-level write of FREQ_REQ. -/
def fxClkClusterWrite (d : Dev) (c v : Nat) (a : Agent) : Dev :=
  d.ifExpert a fun d => ({ d with pwr := { d.pwr with freqReq := Tab.set d.pwr.freqReq c (fld v 0 2) } }).retune

end Sys2Proof.Machine
end

