-- ==== Sys2Proof/Machine/Host.lean ====
section
/-! DEFINITION. Intake and the life of a job up to its end: seals, checks, start, reservation, time limit,
cancellation, completion records and moderation (R380 to R402). -/

namespace Sys2Proof.Machine

/-! ### Intake (R380 to R383, R401) -/

/-- Intake may evaluate slots: EN is 1, the start is confirmed and the TDI state does not forbid it (R378, R381, R493). -/
def Dev.intakeOpen (d : Dev) (f : Nat) : Bool :=
  let x := d.fn f
  x.en && d.rst.confirmed && decide (x.tdisp ≠ 1) && decide (x.tdisp ≠ 3)

/-- The seal word of a slot: bytes 0xF8 to 0xFF (R380). -/
def Fn.seal (x : Fn) (slot : Nat) : Nat := leNat ((List.range 8).map fun i => Tab.get 0 x.intake (256 * slot + 0xF8 + i))

/-- The record in the slot of E is accepted: its 256 bytes are copied and E rises by one (R382). -/
def Dev.accept (d : Dev) (f : Nat) : Dev :=
  let x := d.fn f
  let slot := (x.expect - 1) % 4096
  let j : Job := { id := d.nextJob, fn := f, seq := x.expect,
                   rcd := (List.range 256).map fun i => Tab.get 0 x.intake (256 * slot + i),
                   phase := .accepted, expert := bit d.expertEn f, acceptAon := d.aon0, startAon := 0, causeAon := 0,
                   endAon := 0, cause := 0, psets := [], tokens := [], faults := 0, first := none, rsvCores := [],
                   rsvApps := [], reserving := false }
  { d with nextJob := d.nextJob + 1, jobs := d.jobs ++ [j] }.updFn f fun x =>
    { x with expect := (x.expect + 1) % 2 ^ 64, acceptCnt := satAdd 64 x.acceptCnt 1,
             held := x.held.filter fun s => s ≠ x.expect }

/-- The slot of E is evaluated once more, by the intake unit itself: a seal equal to E is accepted (R381, R382). -/
def Dev.evalExpected (d : Dev) (f : Nat) : Dev :=
  let x := d.fn f
  if d.intakeOpen f && decide (d.pwr.state = 0) && decide (x.seal ((x.expect - 1) % 4096) = x.expect) then d.accept f else d

/-- A host write has covered byte 0xFF of a slot (R381). In Dusk the device wakes first, and the seal is held (R382). -/
def Dev.evalSlot (d : Dev) (f slot : Nat) : Dev :=
  let x := d.fn f
  let s := x.seal slot
  let d := d.updFn f fun x => { x with held := x.held.filter fun q => (q - 1) % 4096 ≠ slot }
  if s = x.expect ∧ slot = (x.expect - 1) % 4096 then
    if d.pwr.state = 0 then d.accept f else d.updFn f fun x => { x with held := x.held ++ [s] }
  else if x.expect < s ∧ s ≤ x.expect + 4095 ∧ slot = (s - 1) % 4096 then
    d.updFn f fun x => { x with held := x.held ++ [s] }
  else d.updFn f fun x => { x with badSeal := satAdd 64 x.badSeal 1 }

/-- A host write into a function's intake ring (R374, R381); every slot whose byte 0xFF it covers is evaluated. -/
def Dev.intakeWrite (d : Dev) (f off : Nat) (data : List Byte) : Dev :=
  let data := data.take (2 ^ 20 - off)
  let d := d.wakeUp
  let d := d.updFn f fun x =>
    { x with intake := (data.foldl (fun (p : Tab Byte × Nat) b => (Tab.store 0 p.1 p.2 b, p.2 + 1)) (x.intake, off)).1 }
  if d.intakeOpen f then
    (List.range 4096).foldl (fun d s =>
      if off ≤ 256 * s + 255 ∧ 256 * s + 255 < off + data.length then d.evalSlot f s else d) d
  else d

/-- HELD_SEAL_EVALUATE (R382): in the cycle after an acceptance the slot of the new E is evaluated. -/
def fxHeldSealEvaluate (d : Dev) (f : Nat) : Dev := d.evalExpected f

/-- Jobs outstanding of a function (R383, R401). -/
def Dev.outstanding (d : Dev) (f : Nat) : Nat := (d.jobs.filter fun j => j.fn = f).length

/-- INTK_EN (R380, R401): a write of INTK_CTRL. EN from 0 to 1 zeroes the ring and sets E to 1; a write that is ignored
sets EN_REFUSED. -/
def fxIntkEn (d : Dev) (f v : Nat) : Dev :=
  let x := d.fn f
  if bit v 0 then
    if x.cmplBase = 0 then d.updFn f fun x => { x with enRefused := true }
    else d.updFn f fun x =>
      let x := { x with modCnt := fld v 16 8, modUs := fld v 32 16 }
      if x.en then x else { x with en := true, intake := [], expect := 1, held := [] }
  else if 0 < d.outstanding f then d.updFn f fun x => { x with enRefused := true }
  else d.updFn f fun x => { x with modCnt := fld v 16 8, modUs := fld v 32 16, en := false, expect := 0, held := [] }

/-- HIF_EXPERT_EN_WRITE (R3, R4, R399): only the physical function writes it, and a bit is set only where the record
grants expert level. -/
def fxHifExpertEnWrite (d : Dev) (f v : Nat) : Dev :=
  if f = 0 then { d with expertEn := maskOf 64 fun k => bit v k && (Tab.get Grant.none d.grants k).expert } else d

/-! ### Completion records and moderation (R392, R396, R397) -/

/-- The vector that announces completion records signals, and nothing is unannounced on it any more. -/
def Dev.announce (d : Dev) (f v : Nat) : Dev :=
  (d.updFn f fun x => { x with unannounced := Tab.del x.unannounced v }).msix f v

/-- A completion record for a vector has been written (R397). -/
def Dev.moderate (d : Dev) (f v : Nat) : Dev :=
  let x := d.fn f
  let u := Tab.get (0, d.aon0) x.unannounced v
  if x.modCnt = 0 ∨ x.modUs = 0 ∨ x.modCnt ≤ u.1 + 1 then d.announce f v
  else d.updFn f fun x => { x with unannounced := Tab.set x.unannounced v (u.1 + 1, u.2) }

/-- MSIX_MODERATION_TIMER (R397): MOD_US µs have passed since the first record not announced (25 counts per µs). -/
def fxMsixModerationTimer (d : Dev) (f v : Nat) : Dev :=
  let x := d.fn f
  let u := Tab.get (0, d.aon0) x.unannounced v
  if 0 < u.1 ∧ u.2 + 25 * x.modUs ≤ d.aon0 then d.announce f v else d

/-- The completion record of a job (R392): bytes 0x00 to 0x37 in one write, the SEAL in a second. -/
def Dev.complete (d : Dev) (j : Job) (status : Nat) (fault : Option FaultRec) (endAon : Nat) : Dev :=
  let base := (d.fn j.fn).cmplBase + 64 * ((j.seq - 1) % 4096)
  let fb := match fault with | some r => r.bytes | none => List.replicate 32 0
  let d := d.hostWrite j.fn base
    (fb ++ leBytes 8 j.tag ++ leBytes 6 j.acceptAon ++ leBytes 2 j.faults ++ leBytes 6 endAon ++ leBytes 1 status ++ leBytes 1 0)
  let d := d.hostWrite j.fn (base + 0x38) (leBytes 8 j.seq)
  if bit j.irq 7 then d else d.moderate j.fn (j.irq % 16)

/-- A job is no longer outstanding. -/
def Dev.dropJob (d : Dev) (id : Nat) : Dev := { d with jobs := d.jobs.filter fun j => j.id ≠ id }

/-! ### Intake checks (R385) -/

/-- Check 2 of R385: the first field of a job record that fails. -/
def badJobField (j : Job) : Option Nat :=
  let last := j.shadowRow + j.shadowRows - 1
  let shadowOk := decide (j.shadowRows = 0) || (decide (last ≤ 0xFFFF) &&
    (List.range 8).all fun s => !(decide (j.shadowRow / 8192 ≤ s) && decide (s ≤ last / 8192)) || bit j.segments s)
  let tests : List (Nat × Bool) :=
    [(0x00, decide (numAt j.rcd 0 4 = 0x4A4F_4252)), (0x04, decide (numAt j.rcd 4 1 = 1)), (0x05, decide (fld j.irq 4 3 = 0)),
     (0x06, decide (fld j.flags 4 12 = 0)), (0x10, decide (j.coreMask ≠ 0)), (0x28, decide (j.appMask ≠ 0)),
     (0x2D, decide (j.psetCount ≤ 8)), (0x2E, decide (1 ≤ j.tokenCount) && decide (j.tokenCount ≤ 4096)),
     (0x30, decide (numAt j.rcd 0x30 4 ≤ 3600000)),
     (0x34, decide (j.streamLimit = 0) || (decide (10 ≤ j.streamLimit) && decide (j.streamLimit ≤ 5000))),
     (0x3A, shadowOk), (0x3C, decide (numAt j.rcd 0x3C 4 = 0)), (0x40, decide (j.program % 64 = 0)), (0x48, decide (j.args % 64 = 0))] ++
    ((List.range 8).map fun i => (0x50 + 8 * i, decide (i < j.psetCount) || decide (j.psetAddr i = 0))) ++
    [(0x90, decide (numAt j.rcd 0x90 104 = 0))]
  (tests.find? fun t => !t.2).map Prod.fst

/-- A logical core is failed: no physical core holds its position (R455). -/
def Dev.coreFailed (d : Dev) (g : Nat) : Bool :=
  decide (fld (Tab.get 0x76543210 d.pdd.map (g / 8)) (4 * (g % 8)) 4 = 0xF)

/-- The lowest bit below w of one number that another lacks. -/
def firstExtra (w have' allowed : Nat) : Option Nat := (List.range w).find? fun i => bit have' i && !bit allowed i

/-- Checks 1 to 5 of R385 in their order: fault code and detail of the first that fails. -/
def Dev.jobFail (d : Dev) (j : Job) : Option (Nat × Nat) :=
  let g := Tab.get Grant.none d.grants j.fn
  let pv (what idx : Nat) : Nat × Nat := (0x0502, 2 ^ 62 + what + 256 * idx)
  let fields := [(0x40, j.program, 64), (0x48, j.args, 64)] ++
    ((List.range j.psetCount).map fun i => (0x50 + 8 * i, j.psetAddr i, 1216))
  if d.mem.mstate ≠ 0 then some (0x0906, 0)
  else match badJobField j with
  | some off => some (0x0904, off)
  | none =>
    match if j.expert then none else (List.range 3).find? fun i => bit j.flags i with
    | some i => some (0x0905, i)
    | none =>
      match (List.range 128).find? fun i => bit j.coreMask i && (!bit g.cores i || d.coreFailed i) with
      | some i => some (pv 1 i)
      | none =>
        match firstExtra 32 j.appMask g.apps with
        | some i => some (pv 2 i)
        | none =>
          match firstExtra 64 j.partMask g.parts with
          | some i => some (pv 3 i)
          | none =>
            match fields.find? fun t => (d.mem.partFor j.partMask t.2.1 t.2.2).isNone with
            | some t => some (0x0502, 2 ^ 62 + 4 + t.1 * 2 ^ 16)
            | none => none

/-- The parameter-set records of a job, read from HBM in its order; each is checked before the next is read (R29). An
uncorrectable atom, or a record that fails, ends the reading: the fault code and its detail. -/
def Dev.readPSets (d : Dev) : List Nat → Dev × Except (Nat × Nat) (List (List Byte))
  | [] => (d, .ok [])
  | a :: t =>
    match d.hbmRead a 1216 with
    | (d, .error atom) => (d, .error (0x0501, atom))
    | (d, .ok b) =>
      match parsePSet b with
      | .error off => (d, .error (0x0104, psetDetail (numAt b 4 2) off))
      | .ok _ =>
        match d.readPSets t with
        | (d, .error e) => (d, .error e)
        | (d, .ok l) => (d, .ok (b :: l))

/-- A refused job: a fault record of severity JOB, and its completion record with status REFUSED (R385). -/
def Dev.refuse (d : Dev) (j : Job) (code detail : Nat) : Dev :=
  let r := { plainFault code 2 (location 0xA 0 0 0 0) detail with fn := j.fn, job := j.seq % 2 ^ 32 }
  let d := d.faultRing r
  (d.complete { j with faults := 1 } 2 (some r) d.aon0).dropJob j.id

/-- JOB_CHECK (R29, R385): an accepted record is checked, and refused or kept. Its reads wait for the partial reset of a channel
(R256). -/
def fxJobCheck (d : Dev) (f seq : Nat) : Dev :=
  match d.jobOf f seq with
  | none => d
  | some j =>
    if j.phase ≠ .accepted then d
    else match d.jobFail j with
    | some (code, detail) => d.refuse j code detail
    | none =>
      let addrs := (List.range j.psetCount).map j.psetAddr
      if addrs.any fun a => d.mem.resetting a 1216 then d
      else match d.readPSets addrs with
      | (d, .error e) => d.refuse j e.1 e.2
      | (d, .ok recs) =>
        match checkPSets recs with
        | .error detail => d.refuse j 0x0104 detail
        | .ok sets => d.updJob j.id fun j => { j with phase := .waiting, psets := sets }

/-! ### Start (R386, R387, R405, R413, R414) -/

/-- A wipe of a local store (R225): zero rows and valid check symbols in every powered segment, and the registers and
buffers it names; it runs until LS_WIPE_DONE. -/
def Core.wipe (c : Core) : Core :=
  { c with ls := [], upset := [], rewrite := [], vregs := [], shapes := [], px := [], newShapes := [], newPx := [],
           cbuf := [], tiles := [], quarter := 0, seeds := [], icache := [], lastUe := 0, lastCe := 0, ueScrub := false,
           ueValid := false, ceValid := false, segBusy := c.segState, wiping := true }

/-- The segments of a job are powered, the others powered down (R208, R226): a segment that powers down loses its
contents, one that powers up is zero. A power-up or wipe that has not ended goes on. -/
def Core.power (c : Core) (segs : Nat) : Core :=
  let keep (n : Nat) : Bool := bit c.segState (n / 524288) && bit segs (n / 524288)
  let up := maskOf 8 fun s => bit segs s && !bit c.segState s
  { c with ls := c.ls.filter (fun p => keep p.1), upset := c.upset.filter (fun p => keep (16 * p.1)),
           rewrite := c.rewrite.filter (fun r => keep (64 * r)), segReq := segs, segState := segs,
           segBusy := (c.segBusy &&& segs) ||| up, wiping := c.wiping || decide (up ≠ 0) }

/-- The start of a job on one of its cores: segments, tenant switch, prime table, shadow region and a new epoch of its
link streams (R386, R387, R329). -/
def Core.startJob (c : Core) (j : Job) (ptab : List PrimeEntry) : Core :=
  let c := c.power j.segments
  let c := if c.lastFn = some j.fn then c else c.wipe
  { c with ptab := ptab, shadowBase := 64 * j.shadowRow, shadowSize := 64 * j.shadowRows, job := some j.id,
           lastFn := some j.fn, partEnded := false, epoch := c.epoch + 1, seen := [], sigq := [], seq := { c.seq with audit := j.audit } }

/-- The first field of a control program header that fails (R413), 0xFFFF for the size rule. -/
def Mem.badHeader (m : Mem) (j : Job) (b : List Byte) : Option Nat :=
  let img := numAt b 0x08 4
  let entry := numAt b 0x0C 4
  let stack := numAt b 0x10 4
  if numAt b 0 4 ≠ 0x4354_524C then some 0x00
  else if numAt b 4 1 ≠ 1 then some 0x04
  else if img % 4096 ≠ 0 ∨ img < 4096 ∨ 2 ^ 28 < img ∨ (m.partFor j.partMask j.program img).isNone then some 0x08
  else if entry % 4 ≠ 0 ∨ img ≤ entry then some 0x0C
  else if stack % 4096 ≠ 0 ∨ stack < 4096 ∨ 2 ^ 24 < stack then some 0x10
  else if img < 4096 + j.appCores.length * stack then some 0xFFFF
  else none

/-- The control program starts: every application core of the job begins at its entry point (R405, R414), unless its
header fails (R413). -/
def Dev.startProgram (d : Dev) (j : Job) : Dev :=
  let fail (d : Dev) (code detail : Nat) : Dev := d.jobFault j.id (plainFault code 2 (appLoc (j.appCores.headD 0)) detail)
  match d.hbmRead j.program 64 with
  | (d, .error atom) => fail d 0x0501 atom
  | (d, .ok b) =>
    match d.mem.badHeader j b with
    | some off => fail d 0x0908 off
    | none =>
      j.appCores.zipIdx.foldl (fun d p => d.updApp p.1 fun x =>
        { x with pc := (j.program + numAt b 0x0C 4) % 2 ^ 64, a0 := p.2, a1 := j.args, a2 := j.appCores.length,
                 a3 := j.seq % 2 ^ 32, sp := (j.program + numAt b 0x08 4 - p.2 * numAt b 0x10 4) % 2 ^ 64, stub := true,
                 ended := false, wait := none }) d

/-- A partial reset of a part waits or runs: no job starts on the part (R485). -/
def Dev.partHeld (d : Dev) (kind idx : Nat) : Bool := d.rst.partBusy && decide (d.rst.partKind = kind) && decide (d.rst.partIndex = idx)

/-- The physical core of a logical core is there: it has not failed without a substitute yet, and no self-test or partial
reset runs or waits on it (R454, R458, R485). -/
def Dev.coreReady (d : Dev) (g : Nat) : Bool :=
  let phys := fld (Tab.get 0x76543210 d.pdd.map (g / 8)) (4 * (g % 8)) 4
  let t := Tab.get SelfTest.reset d.pdd.tests (g / 64)
  !d.pdd.waiting.contains g && !(decide (t.state = 2) && decide (t.on = 9 * (g / 8 % 8) + phys)) && !d.partHeld 1 g &&
    !d.partHeld 2 (g / 8)

/-- Resources of a job held by another job, or reserved for a job that is older (R386). -/
def Dev.resourceFree (d : Dev) (j : Job) : Bool :=
  let coreFree (g : Nat) : Bool := (d.core g).job.isNone && d.coreReady g &&
    !(d.jobs.any fun o => decide (o.id < j.id) && decide (o.phase = .waiting) && o.rsvCores.contains g)
  let appFree (a : Nat) : Bool := (d.app a).job.isNone && !(d.app a).resetting && !d.partHeld 6 a &&
    !(d.jobs.any fun o => decide (o.id < j.id) && decide (o.phase = .waiting) && o.rsvApps.contains a)
  j.cores.all coreFree && j.appCores.all appFree

/-- A checked job may start now (R386): its resources are free and, when it is ORDERED, every older job of its function
has completed. -/
def Dev.startable (d : Dev) (j : Job) : Bool :=
  decide (j.phase = .waiting) && d.resourceFree j && !d.mem.resetting j.program 64 &&
    !(j.ordered && d.jobs.any fun o => decide (o.fn = j.fn) && decide (o.id < j.id))

/-- The start of a job (R386): waiting jobs start in acceptance order, so an older one that can start goes first. -/
def Dev.jobStart (d : Dev) (f seq : Nat) : Dev :=
  match d.jobOf f seq with
  | none => d
  | some j =>
    if !d.startable j || (d.jobs.any fun o => decide (o.id < j.id) && d.startable o) || decide (d.pwr.state ≠ 0) then d
    else
      let ptab := fillPrimes j.psets
      let d := d.updJob j.id fun j => { j with phase := .running, startAon := d.aon0, tokens := [], rsvCores := [], rsvApps := [], reserving := false }
      let d := d.forAll j.cores fun d g =>
        (d.updCore g fun c => c.startJob j ptab).updMem fun m => m.updXch (g / 8) fun x => { x with served := [] }
      let d := d.forAll j.appCores fun d a => d.updApp a fun x =>
        { AppCore.reset with job := some j.id, lastFn := some j.fn, flushed := decide (x.lastFn ≠ some j.fn) }
      d.startProgram j

/-- RESOURCE_RESERVE (R386): once a job has waited 1 ms (25,000 counts), each of its resources that is free is reserved
for it. -/
def fxResourceReserve (d : Dev) (f seq : Nat) : Dev :=
  match d.jobOf f seq with
  | none => d
  | some j =>
    if j.phase = .waiting ∧ j.acceptAon + 25000 ≤ d.aon0 then
      d.updJob j.id fun j =>
        { j with reserving := true,
                 rsvCores := j.cores.filter fun g => (d.core g).job.isNone,
                 rsvApps := j.appCores.filter fun a => (d.app a).job.isNone }
    else d

/-- A core or application core that becomes free is reserved at once for the oldest job that has waited 1 ms and needs
it (R386). -/
def Dev.reserveFreed (d : Dev) : Dev :=
  { d with jobs := d.jobs.map fun j =>
      if j.reserving then
        { j with rsvCores := j.cores.filter fun g => (d.core g).job.isNone,
                 rsvApps := j.appCores.filter fun a => (d.app a).job.isNone }
      else j }

/-! ### Causes of end (R388, R390) -/

/-- JOB_TIME_LIMIT (R388): TIME_LIMIT ms on die 0's always-on counter since the start (25,000 counts per ms). -/
def fxJobTimeLimit (d : Dev) (f seq : Nat) : Dev :=
  match d.jobOf f seq with
  | none => d
  | some j =>
    if (j.phase = .running ∨ (j.phase = .ending ∧ j.causeAon = d.aon0)) ∧ j.startAon + 25000 * j.timeLimit ≤ d.aon0 then
      ((d.endJob j.id 2).jobFault j.id (plainFault 0x0907 2 (location 0 0 0 0 0) 0)).wakeUp
    else d

/-- INTK_CANCEL (R390, R402). -/
def fxIntkCancel (d : Dev) (f seq : Nat) : Dev :=
  let res (d : Dev) (v : Nat) : Dev := d.updFn f fun x => { x with cancelRes := v }
  match d.jobOf f seq with
  | none => res d 3
  | some j =>
    match j.phase with
    | .accepted => res ((d.complete j 4 none d.aon0).dropJob j.id) 1
    | .waiting => res ((d.complete j 4 none d.aon0).dropJob j.id).reserveFreed 1
    | .running => res (d.endJob j.id 3) 2
    | .ending => res (d.endJob j.id 3) 2
    | .boundary => res d 4

end Sys2Proof.Machine
end

