-- ==== Sys2Proof/Machine/Crypto.lean ====
section
/-! DEFINITION. The hash functions the specification names: SHA-256 and SHA-384 (FIPS 180-4) and SHAKE-256 (FIPS 202).
The standards are outside the specification; their constants are computed from the standards' definitions. -/

namespace Sys2Proof.Machine

/-- Round constants of SHA-256. -/
def sha256K : List Nat :=
  [0x428A2F98, 0x71374491, 0xB5C0FBCF, 0xE9B5DBA5] ++
  [0x3956C25B, 0x59F111F1, 0x923F82A4, 0xAB1C5ED5] ++
  [0xD807AA98, 0x12835B01, 0x243185BE, 0x550C7DC3] ++
  [0x72BE5D74, 0x80DEB1FE, 0x9BDC06A7, 0xC19BF174] ++
  [0xE49B69C1, 0xEFBE4786, 0x0FC19DC6, 0x240CA1CC] ++
  [0x2DE92C6F, 0x4A7484AA, 0x5CB0A9DC, 0x76F988DA] ++
  [0x983E5152, 0xA831C66D, 0xB00327C8, 0xBF597FC7] ++
  [0xC6E00BF3, 0xD5A79147, 0x06CA6351, 0x14292967] ++
  [0x27B70A85, 0x2E1B2138, 0x4D2C6DFC, 0x53380D13] ++
  [0x650A7354, 0x766A0ABB, 0x81C2C92E, 0x92722C85] ++
  [0xA2BFE8A1, 0xA81A664B, 0xC24B8B70, 0xC76C51A3] ++
  [0xD192E819, 0xD6990624, 0xF40E3585, 0x106AA070] ++
  [0x19A4C116, 0x1E376C08, 0x2748774C, 0x34B0BCB5] ++
  [0x391C0CB3, 0x4ED8AA4A, 0x5B9CCA4F, 0x682E6FF3] ++
  [0x748F82EE, 0x78A5636F, 0x84C87814, 0x8CC70208] ++
  [0x90BEFFFA, 0xA4506CEB, 0xBEF9A3F7, 0xC67178F2]

/-- Initial value of SHA-256. -/
def sha256H : List Nat :=
  [0x6A09E667, 0xBB67AE85, 0x3C6EF372, 0xA54FF53A] ++
  [0x510E527F, 0x9B05688C, 0x1F83D9AB, 0x5BE0CD19]

/-- Round constants of SHA-512. -/
def sha512K : List Nat :=
  [0x428A2F98D728AE22, 0x7137449123EF65CD, 0xB5C0FBCFEC4D3B2F, 0xE9B5DBA58189DBBC] ++
  [0x3956C25BF348B538, 0x59F111F1B605D019, 0x923F82A4AF194F9B, 0xAB1C5ED5DA6D8118] ++
  [0xD807AA98A3030242, 0x12835B0145706FBE, 0x243185BE4EE4B28C, 0x550C7DC3D5FFB4E2] ++
  [0x72BE5D74F27B896F, 0x80DEB1FE3B1696B1, 0x9BDC06A725C71235, 0xC19BF174CF692694] ++
  [0xE49B69C19EF14AD2, 0xEFBE4786384F25E3, 0x0FC19DC68B8CD5B5, 0x240CA1CC77AC9C65] ++
  [0x2DE92C6F592B0275, 0x4A7484AA6EA6E483, 0x5CB0A9DCBD41FBD4, 0x76F988DA831153B5] ++
  [0x983E5152EE66DFAB, 0xA831C66D2DB43210, 0xB00327C898FB213F, 0xBF597FC7BEEF0EE4] ++
  [0xC6E00BF33DA88FC2, 0xD5A79147930AA725, 0x06CA6351E003826F, 0x142929670A0E6E70] ++
  [0x27B70A8546D22FFC, 0x2E1B21385C26C926, 0x4D2C6DFC5AC42AED, 0x53380D139D95B3DF] ++
  [0x650A73548BAF63DE, 0x766A0ABB3C77B2A8, 0x81C2C92E47EDAEE6, 0x92722C851482353B] ++
  [0xA2BFE8A14CF10364, 0xA81A664BBC423001, 0xC24B8B70D0F89791, 0xC76C51A30654BE30] ++
  [0xD192E819D6EF5218, 0xD69906245565A910, 0xF40E35855771202A, 0x106AA07032BBD1B8] ++
  [0x19A4C116B8D2D0C8, 0x1E376C085141AB53, 0x2748774CDF8EEB99, 0x34B0BCB5E19B48A8] ++
  [0x391C0CB3C5C95A63, 0x4ED8AA4AE3418ACB, 0x5B9CCA4F7763E373, 0x682E6FF3D6B2B8A3] ++
  [0x748F82EE5DEFB2FC, 0x78A5636F43172F60, 0x84C87814A1F0AB72, 0x8CC702081A6439EC] ++
  [0x90BEFFFA23631E28, 0xA4506CEBDE82BDE9, 0xBEF9A3F7B2C67915, 0xC67178F2E372532B] ++
  [0xCA273ECEEA26619C, 0xD186B8C721C0C207, 0xEADA7DD6CDE0EB1E, 0xF57D4F7FEE6ED178] ++
  [0x06F067AA72176FBA, 0x0A637DC5A2C898A6, 0x113F9804BEF90DAE, 0x1B710B35131C471B] ++
  [0x28DB77F523047D84, 0x32CAAB7B40C72493, 0x3C9EBE0A15C9BEBC, 0x431D67C49C100D4C] ++
  [0x4CC5D4BECB3E42B6, 0x597F299CFC657E2A, 0x5FCB6FAB3AD6FAEC, 0x6C44198C4A475817]

/-- Initial value of SHA-384. -/
def sha384H : List Nat :=
  [0xCBBB9D5DC1059ED8, 0x629A292A367CD507, 0x9159015A3070DD17, 0x152FECD8F70E5939] ++
  [0x67332667FFC00B31, 0x8EB44A8768581511, 0xDB0C2E0D64F98FA7, 0x47B5481DBEFA4FA4]

/-- The parameters of one member of the SHA-2 family: word width, rotation counts of the two big and the two small
sigmas, round constants. -/
structure Sha2 where
  w : Nat
  big0 : Nat × Nat × Nat
  big1 : Nat × Nat × Nat
  small0 : Nat × Nat × Nat
  small1 : Nat × Nat × Nat
  k : List Nat

def sha256P : Sha2 := ⟨32, (2, 13, 22), (6, 11, 25), (7, 18, 3), (17, 19, 10), sha256K⟩
def sha512P : Sha2 := ⟨64, (28, 34, 39), (14, 18, 41), (1, 8, 7), (19, 61, 6), sha512K⟩

/-- Rotation to the right within w bits. -/
def rotr (w x n : Nat) : Nat := (x >>> n) ||| ((x <<< (w - n)) % 2 ^ w)

def bigSigma (w x : Nat) (r : Nat × Nat × Nat) : Nat := rotr w x r.1 ^^^ rotr w x r.2.1 ^^^ rotr w x r.2.2
def smallSigma (w x : Nat) (r : Nat × Nat × Nat) : Nat := rotr w x r.1 ^^^ rotr w x r.2.1 ^^^ (x >>> r.2.2)

/-- A big-endian number. -/
def beNat (l : List Byte) : Nat := l.foldl (fun a b => 256 * a + b.toNat) 0
/-- The big-endian bytes of a number. -/
def beBytes (k n : Nat) : List Byte := (leBytes k n).reverse

/-- The message schedule, latest word first: `n` further words. -/
def sha2Sched (p : Sha2) : Nat → List Nat → List Nat
  | 0, l => l
  | n + 1, l =>
    sha2Sched p n ((l.getD 15 0 + smallSigma p.w (l.getD 14 0) p.small0 + l.getD 6 0 + smallSigma p.w (l.getD 1 0) p.small1) % 2 ^ p.w :: l)

/-- One round on the working variables a to h. -/
def sha2Round (p : Sha2) (v : List Nat) (kw : Nat × Nat) : List Nat :=
  match v with
  | [a, b, c, d, e, f, g, h] =>
    let m := 2 ^ p.w
    let t1 := h + bigSigma p.w e p.big1 + ((e &&& f) ^^^ ((m - 1 - e) &&& g)) + kw.1 + kw.2
    let t2 := bigSigma p.w a p.big0 + ((a &&& b) ^^^ (a &&& c) ^^^ (b &&& c))
    [(t1 + t2) % m, a, b, c, (d + t1) % m, e, f, g]
  | l => l

/-- One block. -/
def sha2Block (p : Sha2) (h : List Nat) (block : List Byte) : List Nat :=
  let b := p.w / 8
  let w0 := (List.range 16).map fun i => beNat ((block.drop (b * i)).take b)
  let w := (sha2Sched p (p.k.length - 16) w0.reverse).reverse
  let v := (p.k.zip w).foldl (sha2Round p) h
  (h.zip v).map fun x => (x.1 + x.2) % 2 ^ p.w

/-- Every block of a padded message, `n` blocks. -/
def sha2Blocks (p : Sha2) : Nat → List Nat → List Byte → List Nat
  | 0, h, _ => h
  | n + 1, h, m => sha2Blocks p n (sha2Block p h (m.take (2 * p.w))) (m.drop (2 * p.w))

/-- The padded message. -/
def sha2Pad (p : Sha2) (m : List Byte) : List Byte :=
  let used := m.length + 1 + p.w / 4
  m ++ [0x80] ++ List.replicate (alignUp used (2 * p.w) - used) 0 ++ beBytes (p.w / 4) (8 * m.length)

/-- A digest of `n` bytes. -/
def sha2 (p : Sha2) (h : List Nat) (n : Nat) (m : List Byte) : List Byte :=
  let padded := sha2Pad p m
  ((sha2Blocks p (padded.length / (2 * p.w)) h padded).flatMap fun x => beBytes (p.w / 8) x).take n

/-- SHA-256. -/
def sha256 (m : List Byte) : List Byte := sha2 sha256P sha256H 32 m
/-- SHA-384. -/
def sha384 (m : List Byte) : List Byte := sha2 sha512P sha384H 48 m

/-- Round constants of Keccak-f[1600]. -/
def keccakRC : List Nat :=
  [0x0000000000000001, 0x0000000000008082, 0x800000000000808A, 0x8000000080008000] ++
  [0x000000000000808B, 0x0000000080000001, 0x8000000080008081, 0x8000000000008009] ++
  [0x000000000000008A, 0x0000000000000088, 0x0000000080008009, 0x000000008000000A] ++
  [0x000000008000808B, 0x800000000000008B, 0x8000000000008089, 0x8000000000008003] ++
  [0x8000000000008002, 0x8000000000000080, 0x000000000000800A, 0x800000008000000A] ++
  [0x8000000080008081, 0x8000000000008080, 0x0000000080000001, 0x8000000080008008]

/-- Rotation offsets of lane x + 5y. -/
def keccakRot : List Nat :=
  [0, 1, 62, 28, 27, 36, 44, 6, 55, 20, 3, 10, 43, 25, 39, 41, 45, 15, 21, 8, 18, 2, 61, 56, 14]

/-- Rotation of a lane to the left. -/
def rotl64 (x n : Nat) : Nat := ((x <<< n) % 2 ^ 64) ||| (x >>> (64 - n))

/-- One round of Keccak-f[1600] on 25 lanes, lane x + 5y at index x + 5y. -/
def keccakRound (a : List Nat) (rc : Nat) : List Nat :=
  let l (v : List Nat) (i : Nat) := v.getD i 0
  let c := (List.range 5).map fun x => l a x ^^^ l a (x + 5) ^^^ l a (x + 10) ^^^ l a (x + 15) ^^^ l a (x + 20)
  let t := (List.range 25).map fun i => l a i ^^^ l c ((i + 4) % 5) ^^^ rotl64 (l c ((i + 1) % 5)) 1
  -- lane (X, Y) of the result of rho and pi comes from x = X + 3Y, y = X
  let b := (List.range 25).map fun i =>
    let s := (i % 5 + 3 * (i / 5)) % 5 + 5 * (i % 5)
    rotl64 (l t s) (l keccakRot s)
  let e := (List.range 25).map fun i =>
    l b i ^^^ ((2 ^ 64 - 1 - l b ((i + 1) % 5 + 5 * (i / 5))) &&& l b ((i + 2) % 5 + 5 * (i / 5)))
  match e with
  | h :: tl => (h ^^^ rc) :: tl
  | [] => []

/-- Keccak-f[1600]. -/
def keccakF (a : List Nat) : List Nat := keccakRC.foldl keccakRound a

/-- SHAKE-256's rate in bytes. -/
def shakeRate : Nat := 136

/-- Absorb `n` blocks. -/
def shakeAbsorb : Nat → List Nat → List Byte → List Nat
  | 0, a, _ => a
  | n + 1, a, m =>
    shakeAbsorb n (keccakF ((List.range 25).map fun i =>
      if i < 17 then a.getD i 0 ^^^ leNat ((m.drop (8 * i)).take 8) else a.getD i 0)) (m.drop shakeRate)

/-- Squeeze `n` blocks. -/
def shakeSqueeze : Nat → List Nat → List Byte
  | 0, _ => []
  | n + 1, a => (a.take 17).flatMap (leBytes 8) ++ shakeSqueeze n (keccakF a)

/-- SHAKE-256 with `n` bytes of output. -/
def shake256 (m : List Byte) (n : Nat) : List Byte :=
  let k := alignUp (m.length + 1) shakeRate
  let padded := m ++ [0x1F] ++ List.replicate (k - m.length - 1) 0
  let padded := (padded.take (k - 1)) ++ [(padded.getD (k - 1) 0) ||| 0x80]
  (shakeSqueeze (cdiv n shakeRate) (shakeAbsorb (k / shakeRate) (List.replicate 25 0) padded)).take n

end Sys2Proof.Machine
end

