-- ==== Sys2Proof/Machine/Encoding.lean ====
section
/-! DEFINITION. The bundle (R177, R178), operand patterns (R180 to R182, R211, R217), effective values (R185, R186), the
decoding reasons of BUNDLE_ILLEGAL (R183 to R195, R198) and the resolution of each slot into an engine command with
what R179 checks of it. -/

namespace Sys2Proof.Machine

/-! ### Slots of a bundle (R177) -/

def delayOf (b : Nat) : Nat := fld b 0 16
def sclSlot (b : Nat) : Nat := fld b 16 128
def nttSlot (b : Nat) : Nat := fld b 144 59
def bcvSlot (b : Nat) : Nat := fld b 203 60
def eweSlot (b : Nat) : Nat := fld b 263 101
def prmSlot (b : Nat) : Nat := fld b 364 60
def kexSlot (b : Nat) : Nat := fld b 424 60
def strSlot (b : Nat) : Nat := fld b 484 28

/-- The opcode field of the command with a slot code (R178): zero when the command is absent. -/
def slotOpcode (b : Nat) : Nat → Nat
  | 0 => fld (sclSlot b) 0 4
  | 1 => fld (nttSlot b) 0 3
  | 2 => fld (bcvSlot b) 0 2
  | 3 => fld (eweSlot b) 33 2
  | 4 => fld (eweSlot b) 56 2
  | 5 => fld (eweSlot b) 0 4
  | 6 => fld (eweSlot b) 79 1
  | 7 => fld (prmSlot b) 0 3
  | 8 => fld (kexSlot b) 0 2
  | 9 => fld (strSlot b) 0 2
  | _ => 0

/-- The slot codes of a bundle's commands, in issue order (R178). -/
def slotsOf (b : Nat) : List Nat := (List.range 10).filter fun s => decide (slotOpcode b s ≠ 0)

/-! ### Patterns (R181, R182, R211, R216, R217) -/

/-- Words of a pattern. -/
def Shape.count (h : Shape) : Nat := h.e0 * h.e1 * h.e2
/-- The word address of (i0, i1, i2) at a base. -/
def Shape.at (h : Shape) (base i0 i1 i2 : Nat) : Nat :=
  (((base : Int) + i0 + i1 * h.s1 + i2 * h.s2) % (2 ^ 22 : Int)).toNat
/-- The j-th word address in iteration order: i0 fastest, then i1, then i2. -/
def Shape.word (h : Shape) (base j : Nat) : Nat := h.at base (j % h.e0) (j / h.e0 % h.e1) (j / (h.e0 * h.e1))
/-- The prime index of run i1 (R181). -/
def Shape.prime (h : Shape) (i1 : Nat) : Nat := h.pidx + i1 * h.pstep

/-- Lowest and highest address (R182): a stride counts only when its extent is above 1 (R216). -/
def Shape.range (h : Shape) (base : Nat) : Int × Int :=
  let a := ((h.e1 : Int) - 1) * h.s1
  let b := ((h.e2 : Int) - 1) * h.s2
  ((base : Int) + min 0 a + min 0 b, (base : Int) + h.e0 - 1 + max 0 a + max 0 b)

/-- A dense run of words. -/
def dense (n : Nat) : Shape := { e0 := n, e1 := 1, e2 := 1, s1 := 0, s2 := 0, pidx := 0, pstep := 0 }

/-- Row-aligned operand pattern (R211). -/
def Shape.aligned (h : Shape) (base : Nat) : Bool :=
  decide (base % 64 = 0) && decide (h.e0 % 16 = 0) && (decide (h.e1 = 1) || decide (h.s1 % 64 = 0)) &&
    (decide (h.e2 = 1) || decide (h.s2 % 64 = 0))

/-- The dimension whose condition of R217 fails; none when the pattern writes each word at most once. -/
def Shape.aliasDim (h : Shape) : Option Nat :=
  if h.e1 ≠ 1 ∧ h.s1.natAbs < h.e0 then some 1
  else if h.e2 ≠ 1 ∧ h.s2.natAbs < (if h.e1 = 1 then 0 else (h.e1 - 1) * h.s1.natAbs) + h.e0 then some 2
  else none

/-- The field of SHAPE.SET (R183). -/
def shapeOf (s : Nat) : Shape :=
  { e0 := fld s 10 17 + 1, e1 := fld s 27 12 + 1, e2 := fld s 39 12 + 1, s1 := sext (fld s 51 32) 32,
    s2 := sext (fld s 83 32) 32, pstep := fld s 115 4, pidx := fld s 119 7 }

/-! ### Loops and effective values (R149, R185, R186) -/

/-- The loop that a LOOP command at bundle i starts. -/
def loopOf (s i : Nat) : Loop :=
  { start := i + 1, len := fld s 4 8 + 1, reps := fld s 12 16 + 1, rep := 0, rd0 := sext (fld s 28 12) 12,
    rd1 := sext (fld s 40 12) 12, st := sext (fld s 52 12) 12, px := fld s 64 4, w0 := sext (fld s 68 16) 16,
    m0 := fld s 84 7, w1 := sext (fld s 91 16) 16, m1 := fld s 107 7 }

/-- The rows that the enclosing loops add to the address field with mask bit m. -/
def loopRows (l : List Loop) (m : Nat) : Int :=
  l.foldl (fun a x => a + x.rep * ((if bit x.m0 m then x.w0 else 0) + (if bit x.m1 m then x.w1 else 0))) 0

/-- Some enclosing loop's mask selects the field with mask bit m (R185). -/
def loopMasks (l : List Loop) (m : Nat) : Bool := l.any fun x => bit x.m0 m || bit x.m1 m

/-- Effective word address and row (R186). -/
def effWord (base : Nat) (rows : Int) : Nat := (((base : Int) + 64 * rows) % (2 ^ 22 : Int)).toNat
def effRow (row : Nat) (rows : Int) : Nat := (((row : Int) + rows) % (2 ^ 16 : Int)).toNat

/-- The bundle that issues after bundle i, with the loops that then enclose it (R149); none at the end of the block. -/
def nextBundle (len i : Nat) : List Loop → Option (Nat × List Loop)
  | [] => if i + 1 < len then some (i + 1, []) else none
  | x :: t =>
    if i + 1 = x.start + x.len then
      if x.rep + 1 < x.reps then some (x.start, { x with rep := x.rep + 1 } :: t) else nextBundle len i t
    else some (i + 1, x :: t)

/-- A LOOP at bundle i breaks R149: its body passes the block's end, it would be a fifth level, or it does not lie
wholly inside every enclosing body. -/
def loopBad (len i : Nat) (l : List Loop) (s : Nat) : Bool :=
  let b := fld s 4 8 + 1
  decide (len < i + 1 + b) || decide (4 ≤ l.length) || l.any fun x => decide (x.start + x.len < i + 1 + b)

/-! ### What a slot is decoded against -/

/-- The core's state and the bundle that a slot is checked against. -/
structure Cx where
  core : Core
  /-- logical index within the cluster, to refuse a PRM.SEND to itself (R192) -/
  self : Nat
  bundle : Nat
  index : Nat
  /-- enclosing loops -/
  loops : List Loop
  /-- DELAY of the bundle that issues next, if any (R78) -/
  nextDelay : Option Nat
  /-- the issue cycle -/
  cycle : Nat
  /-- length of the block -/
  len : Nat
  /-- the ALIAS flag of the job (R218) -/
  aliased : Bool
  /-- the parameter sets of the job -/
  psets : List PSet

/-- A shape entry written in the present block before this cycle (R180, R184). -/
def Core.shape? (c : Core) (h : Nat) : Option Shape := (c.shapes.find? fun p => p.1 = h).map Prod.snd
/-- A shape entry, for uses where it is known to be written. -/
def Core.shape (c : Core) (h : Nat) : Shape := (c.shape? h).getD (dense 1)
/-- A permute parameter register (R187). -/
def Core.pxReg (c : Core) (i : Nat) : Nat := Tab.get 0 c.px i

/-- A power of two from 2^12 to 2^17 (R188, R192). -/
def ringSize (n : Nat) : Bool := [12, 13, 14, 15, 16, 17].any fun k => decide (n = 2 ^ k)

/-- A reason and whether it applies, kept when it does. -/
def reason (r : Nat) (b : Bool) : List Nat := if b then [r] else []

/-! ### Decoding reasons by slot (R183 to R195, R198) -/

def sclReasons (x : Cx) : List Nat :=
  let s := sclSlot x.bundle
  match slotOpcode x.bundle 0 with
  | 0 => reason 3 (decide (s ≠ 0))
  | 1 =>
    let open' := (x.core.ops.any fun p => p.1 = fld s 12 2)
    reason 3 (decide (fld s 125 3 ≠ 0)) ++ reason 7 open' ++ reason 8 (match x.nextDelay with | some n => decide (n < 8) | none => false)
  | 2 => reason 3 (decide (s / 2 ^ 6 ≠ 0)) ++ reason 7 (!(x.core.ops.any fun p => p.1 = fld s 4 2))
  | 3 => reason 3 (decide (s / 2 ^ 114 ≠ 0)) ++ reason 4 (loopBad x.len x.index x.loops s)
  | 4 => reason 3 (decide (s / 2 ^ 126 ≠ 0))
  | 5 => reason 3 (decide (s / 2 ^ 46 ≠ 0))
  | _ => [2]

def nttReasons (x : Cx) : List Nat :=
  let s := nttSlot x.bundle
  let op := fld s 0 3
  if op = 0 then reason 3 (decide (s ≠ 0))
  else if 5 ≤ op then [2]
  else
    let queue := decide (3 ≤ op)
    let src := x.core.shape? (fld s 3 6)
    let dst := if queue then some (dense 1) else x.core.shape? (fld s 9 6)
    let bad6 : Bool := match src, dst with
      | some a, some b =>
        !ringSize a.e0 || decide (72 < a.e1) || decide (a.e2 ≠ 1) ||
          (!queue && (decide (b.e2 ≠ 1) || decide (b.e0 ≠ a.e0) || decide (b.e1 ≠ a.e1))) ||
          (queue && (decide (fld s 37 8 < 2) || decide (fld s 9 6 ≠ 0)))
      | _, _ => false
    reason 3 (queue && (decide (fld s 9 6 ≠ 0) || decide (fld s 45 14 ≠ 0))) ++ reason 4 (queue && loopMasks x.loops 1) ++
      reason 5 (src.isNone || dst.isNone) ++ reason 6 bad6

def bcvReasons (x : Cx) : List Nat :=
  let s := bcvSlot x.bundle
  let op := fld s 0 2
  if op = 0 then reason 3 (decide (s ≠ 0))
  else
    let src := x.core.shape? (fld s 3 6)
    let dst := if op = 1 then some (dense 1) else x.core.shape? (fld s 9 6)
    let bad6 : Bool := match src, dst with
      | some a, some b =>
        if op = 1 then decide (5184 < a.count)
        else if op = 2 then
          decide (a.e0 % 32 ≠ 0) || decide (a.e1 < 2) || decide (72 < a.e1) || decide (a.e2 ≠ 1) || decide (b.e0 ≠ a.e0) ||
            decide (b.e1 < 2) || decide (72 < b.e1) || decide (b.e2 ≠ 1)
        else
          decide (a.e1 < 2) || decide (4096 < a.e1) || decide (a.e2 ≠ 1) || decide (b.e0 ≠ a.e0) || decide (b.e2 ≠ 1) ||
            decide (5184 < b.e1 * a.e1)
      | _, _ => false
    reason 3 ((decide (op ≠ 3) && bit s 2) || bit s 59 || (decide (op = 1) && (decide (fld s 9 6 ≠ 0) || decide (fld s 37 22 ≠ 0)))) ++
      reason 5 (src.isNone || dst.isNone) ++ reason 6 bad6

/-- Element-wise read 0 (lo = 33) or 1 (lo = 56). -/
def readReasons (x : Cx) (lo : Nat) : List Nat :=
  let s := eweSlot x.bundle
  match fld s lo 2 with
  | 0 => reason 3 (decide (fld s (lo + 2) 21 ≠ 0))
  | 1 => []
  | 2 => reason 3 (decide (fld s (lo + 7) 16 ≠ 0))
  | _ => [2]

def arithReasons (x : Cx) : List Nat :=
  let s := eweSlot x.bundle
  let vb := decide (fld s 14 5 ≠ 0)
  let aux := decide (fld s 19 7 ≠ 0)
  let pidx := decide (fld s 26 7 ≠ 0)
  match fld s 0 4 with
  | 0 => reason 3 (decide (fld s 4 29 ≠ 0))
  | 1 => reason 3 aux
  | 2 => reason 3 aux
  | 3 => reason 3 (vb || aux)
  | 4 => reason 3 aux
  | 5 => reason 3 aux
  | 8 => reason 3 (pidx || decide (fld s 24 2 ≠ 0))
  | 9 => reason 3 (vb || pidx)
  | 10 => reason 3 (vb || pidx)
  | 15 => [2]
  | _ => reason 3 (aux || pidx)

def storeReasons (x : Cx) : List Nat :=
  let s := eweSlot x.bundle
  reason 3 (!bit s 79 && decide (fld s 80 21 ≠ 0))

def prmReasons (x : Cx) : List Nat :=
  let s := prmSlot x.bundle
  let op := fld s 0 3
  if op = 0 then reason 3 (decide (s ≠ 0))
  else
    let auto := decide (op ≤ 2)
    let trans := decide (op = 3) || decide (op = 4)
    let par := fld s 9 6
    let src := x.core.shape? (fld s 3 6)
    let dst := if trans then x.core.shape? par else some (dense 1)
    let same := decide (effWord (fld s 15 22) (loopRows x.loops 4) = effWord (fld s 37 22) (loopRows x.loops 5))
    let bad6 : Bool := match src, dst with
      | some a, some b =>
        (auto && !ringSize a.e0) || (trans && decide (a.count ≠ b.count)) ||
          ((decide (op = 2) || decide (op = 4)) && same && decide (57344 < a.count)) || (decide (op = 7) && decide (par % 8 = x.self))
      | _, _ => false
    let bad9 : Bool := match src with
      | some a =>
        let k := fld (x.core.pxReg (par % 4)) 0 18
        auto && (decide (k % 2 = 0) || decide (2 * a.e0 ≤ k))
      | none => false
    reason 3 (bit s 59 || (auto && decide (par / 8 ≠ 0)) || ((decide (op = 5) || decide (op = 6)) && decide (par / 4 ≠ 0)) ||
        (decide (op = 7) && decide (par / 8 ≠ 0))) ++
      reason 5 (src.isNone || dst.isNone) ++ reason 6 bad6 ++ reason 9 bad9

/-- The seed register that a key-expander command names (R193). -/
def Cx.sreg (x : Cx) : Nat := fld (kexSlot x.bundle) 2 3
def Cx.seed (x : Cx) : SeedReg := Tab.get SeedReg.empty x.core.seeds x.sreg
/-- The engine of its binding, and whether the header checks of the binding have still to be made (R116, R117, R194). -/
def Cx.seedEng (x : Cx) : Nat := match x.core.binds.find? fun b => b.sreg = x.sreg with | some b => b.eng | none => 0
def Cx.seedUnchecked (x : Cx) : Bool := x.core.binds.any fun b => decide (b.sreg = x.sreg) && b.expected.isNone && b.bad.isNone

def kexReasons (x : Cx) : List Nat :=
  let s := kexSlot x.bundle
  let op := fld s 0 2
  let cnt := fld s 33 11 + 1
  if op = 0 then reason 3 (decide (s ≠ 0))
  else if op = 3 then [2]
  else
    let badA := match x.seed with
      | .empty => true
      | .filled _ logN digits => !x.seedUnchecked && (decide (digits ≤ fld s 5 3) || decide (2 ^ logN / 64 < fld s 22 11 + cnt))
      | _ => false
    reason 3 (decide (op = 2) && decide (fld s 44 16 ≠ 0)) ++ reason 4 (decide (op = 2) && loopMasks x.loops 6) ++
      reason 0xA (badA || decide (71 < fld s 8 7) || (decide (op = 2) && decide (cnt % 8 ≠ 0)))

def strReasons (x : Cx) : List Nat :=
  let s := strSlot x.bundle
  match fld s 0 2 with
  | 0 => reason 3 (decide (s ≠ 0))
  | 1 => reason 3 (decide (fld s 26 2 ≠ 0))
  | _ => [2]

/-- The decoding reasons of a slot; the lowest decides (R179). -/
def slotReasons (x : Cx) : Nat → List Nat
  | 0 => sclReasons x
  | 1 => nttReasons x
  | 2 => bcvReasons x
  | 3 => readReasons x 33
  | 4 => readReasons x 56
  | 5 => arithReasons x
  | 6 => storeReasons x
  | 7 => prmReasons x
  | 8 => kexReasons x
  | 9 => strReasons x
  | _ => []

/-- DETAIL of BUNDLE_ILLEGAL (R198). -/
def illegalDetail (slot why index : Nat) : Nat := slot + 256 * why + put index 16 16

/-! ### Resolved commands -/

/-- A decoded engine command with what steps 2 to 5 of R179 check of it. -/
structure Cmd where
  op : EngOp
  /-- engine code of R51; none for transfers -/
  eng : Option Nat
  /-- occupancy (R47) -/
  occ : Nat
  /-- prime-table indices named, in order, and n when a root is needed (R70) -/
  primes : List Nat
  rootN : Option Nat
  /-- operands in the order of R182: code, lowest and highest address -/
  operands : List (Nat × Int × Int)
  /-- failure of step 5 of R179: fault code and detail -/
  accept : Option (Nat × Nat)

/-- Half rate of a forerunner entry (R52). -/
def Core.fm (c : Core) (primes : List Nat) : Nat :=
  match primes.head?.bind fun i => c.ptab[i]? with
  | some e => if e.fore then 2 else 1
  | none => 1

/-- Half speed of misaligned operands (R212). -/
def amOf (aligned : Bool) : Nat := if aligned then 1 else 2

/-- WRITE_ALIAS of a destination pattern (R217), unless the ALIAS flag skips the test (R218). -/
def aliasFault (x : Cx) (slot : Nat) (h : Shape) : Option (Nat × Nat) :=
  match if x.aliased then none else h.aliasDim with
  | some dim =>
    some (0x0302, slot + 256 * dim + put x.index 16 16 + put ((if dim = 1 then h.s1 else h.s2) % (2 ^ 32 : Int)).toNat 32 32)
  | none => none

/-- Two address ranges intersect. -/
def meets (a b : Int × Int) : Bool := decide (a.1 ≤ b.2) && decide (b.1 ≤ a.2)

/-- OVERLAP of one command's operands (R222). -/
def overlapFault (x : Cx) (slot operand : Nat) : Nat × Nat := (0x0301, slot + 256 * operand + put x.index 16 16 + 2 ^ 63)

/-- The primes of the runs of a pattern. -/
def runPrimes (h : Shape) : List Nat := (List.range h.e1).map h.prime

def nttCmd (x : Cx) : Cmd :=
  let s := nttSlot x.bundle
  let op := fld s 0 3
  let sh := x.core.shape (fld s 3 6)
  let queue := decide (3 ≤ op)
  let dsh := if queue then sh else x.core.shape (fld s 9 6)
  let src := effWord (fld s 15 22) (loopRows x.loops 0)
  let dst := if queue then 0 else effWord (fld s 37 22) (loopRows x.loops 1)
  let primes := runPrimes sh
  let fm := x.core.fm primes
  let am := amOf (sh.aligned src && (queue || dsh.aligned dst))
  let n := Nat.log2 sh.e0
  let t := sh.e0 * n / 512 * fm * am
  let tq := if queue then max t (fld s 37 8 * sh.e0 / 512 * am) else t
  { op := .ntt (op % 2 == 0) (if queue then some (fld s 37 8) else none) src dst sh dsh fm am, eng := some 0,
    occ := sh.e1 * tq, primes := primes, rootN := some n,
    operands := (0, sh.range src) :: (if queue then [] else [(1, dsh.range dst)]),
    accept := if queue then none else aliasFault x 1 dsh }

def bcvCmd (x : Cx) : Cmd :=
  let s := bcvSlot x.bundle
  let op := fld s 0 2
  let sh := x.core.shape (fld s 3 6)
  let src := effWord (fld s 15 22) (loopRows x.loops 2)
  if op = 1 then
    let am := amOf (sh.aligned src)
    { op := .ldm src sh am, eng := some 1, occ := cdiv sh.count 64 * am, primes := [], rootN := none,
      operands := [(0, sh.range src)], accept := none }
  else
    let dsh := x.core.shape (fld s 9 6)
    let dst := effWord (fld s 37 22) (loopRows x.loops 3)
    let primes := if op = 2 then runPrimes dsh else [dsh.pidx]
    let fm := x.core.fm primes
    let am := amOf (sh.aligned src && dsh.aligned dst)
    { op := if op = 2 then .ext src dst sh dsh fm am else .matmul (bit s 2) src dst sh dsh fm am, eng := some 1,
      occ := (if op = 2 then cdiv dsh.e1 16 * sh.e1 * sh.e0 / 32 else cdiv dsh.e1 16 * cdiv sh.e0 32 * sh.e1) * fm * am,
      primes := primes, rootN := none, operands := [(0, sh.range src), (1, dsh.range dst)], accept := aliasFault x 2 dsh }

/-- The two rows of an LD or ST as operands (R190, R209). -/
def rowOperands (code row : Nat) : List (Nat × Int × Int) :=
  let r2 := (row + 1) % 2 ^ 16
  [(code, (64 * row : Nat), (64 * row + 63 : Nat)), (code, (64 * r2 : Nat), (64 * r2 + 63 : Nat))]

/-- The row address of element-wise read 0 (slot 3), read 1 (slot 4) or the store (slot 6), effective (R186). -/
def eweRow (x : Cx) (slot : Nat) : Nat :=
  let s := eweSlot x.bundle
  let steps (f : Loop → Int) : Int := x.loops.foldl (fun a l => a + l.rep * f l) 0
  if slot = 3 then effRow (fld s 40 16) (steps Loop.rd0)
  else if slot = 4 then effRow (fld s 63 16) (steps Loop.rd1)
  else effRow (fld s 85 16) (steps Loop.st)

/-- The effective PIDX of the arithmetic instruction (R186). -/
def ewePidx (x : Cx) : Nat := fld (eweSlot x.bundle) 26 7 + x.loops.foldl (fun a l => a + l.rep * l.px) 0

/-- The arithmetic instruction names a prime (R191). -/
def modular (aop : Nat) : Bool := decide (1 ≤ aop) && decide (aop ≤ 5)

/-- Occupancy of the arithmetic instruction: 1, in forerunner mode 2, MUL64 always 2 (R59). -/
def arithOcc (aop fm : Nat) : Nat := if aop = 13 then 2 else fm

/-- Latency of the arithmetic instruction (R59). -/
def arithLat (aop fm : Nat) : Nat :=
  match aop with
  | 1 => if fm = 2 then 3 else 2
  | 2 => if fm = 2 then 3 else 2
  | 3 => if fm = 2 then 3 else 2
  | 4 => if fm = 2 then 10 else 6
  | 5 => if fm = 2 then 10 else 6
  | 9 => 3
  | 13 => 8
  | _ => 2

/-- A transfer: no engine code, no primes. -/
def transferCmd (op : EngOp) (operands : List (Nat × Int × Int)) : Cmd :=
  { op := op, eng := none, occ := 1, primes := [], rootN := none, operands := operands, accept := none }

def prmCmd (x : Cx) : Cmd :=
  let s := prmSlot x.bundle
  let op := fld s 0 3
  let sh := x.core.shape (fld s 3 6)
  let par := fld s 9 6
  let src := effWord (fld s 15 22) (loopRows x.loops 4)
  let dst := effWord (fld s 37 22) (loopRows x.loops 5)
  let pxr := x.core.pxReg (par % 4)
  if op ≤ 4 then
    let auto := decide (op ≤ 2)
    let inPlace := decide (op = 2) || decide (op = 4)
    let way := if !inPlace then 0 else if dst = src then 1 else 2
    let dsh := if auto then sh else x.core.shape par
    let dbase := if inPlace then src else dst
    let scr := if auto then sh else dense sh.count
    let dom := auto && bit par 2
    let primes := if dom then runPrimes sh else []
    let fm := x.core.fm primes
    let am := amOf (sh.aligned src && dsh.aligned dbase && (decide (way ≠ 2) || scr.aligned dst))
    let p := cdiv sh.count 64 * fm * am
    let r := sh.range src
    let q := dsh.range dbase
    let transIp : Option (Nat × Nat) :=
      if op = 4 ∧ (sh.aliasDim.isSome ∨ dsh.aliasDim.isSome ∨ r ≠ q ∨ (sh.count : Int) ≠ r.2 - r.1 + 1) then some (overlapFault x 7 1) else none
    let lap : Option (Nat × Nat) :=
      if way = 0 ∧ meets r q then some (overlapFault x 7 1)
      else if way = 2 ∧ meets r (scr.range dst) then some (overlapFault x 7 2) else none
    { op := .move way (if auto then some (fld pxr 0 18, dom) else none) src dbase dst sh dsh fm am, eng := some 4,
      occ := if way = 0 then p else if way = 1 then 2 * p else 2 * p + 40, primes := primes, rootN := none,
      operands := (0, r) :: (if op = 2 then [] else [(1, q)]) ++ (if way = 2 then [(2, scr.range dst)] else []),
      accept := (aliasFault x 7 dsh).or (transIp.or lap) }
  else if op ≤ 6 then
    let scatter := decide (op = 6)
    let laddr := fld pxr 0 22
    let e := fld pxr 22 13 + 1
    let pack := dense (e * sh.e0)
    let grid := if scatter then dst else src
    let al := if sh.e0 < 64 then 16 else 64
    let am := amOf (decide (sh.e0 % 16 = 0) && decide (grid % al = 0) && (decide (sh.e1 = 1) || decide (sh.s1 % (al : Int) = 0)) &&
      (decide (sh.e2 = 1) || decide (sh.s2 % (al : Int) = 0)))
    let rs := if scatter then pack.range src else sh.range src
    let rd := if scatter then sh.range dst else pack.range dst
    { op := .list scatter laddr e src dst sh am, eng := some 4,
      occ := cdiv e 8 + (if sh.e0 < 64 then e else cdiv (e * sh.e0) 64) * am, primes := [], rootN := none,
      operands := [(3, (dense e).range laddr), (0, rs), (1, rd)],
      accept := (if scatter then aliasFault x 7 sh else none).or (if meets rs rd then some (overlapFault x 7 1) else none) }
  else
    let am := amOf (sh.aligned src)
    { op := .send src (par % 8) dst sh am, eng := some 4, occ := cdiv sh.count 56 * am, primes := [], rootN := none,
      operands := [(0, sh.range src)], accept := none }

def kexCmd (x : Cx) : Cmd :=
  let s := kexSlot x.bundle
  let queue := decide (fld s 0 2 = 2)
  let cnt := fld s 33 11 + 1
  let row := if queue then 0 else effRow (fld s 44 16) (loopRows x.loops 6)
  let sd := match x.seed with
    | .filled seed logN _ => (seed, logN)
    | _ => ([], 0)
  { op := .kex queue sd.1 sd.2 (fld s 5 3) (fld s 8 7) (fld s 15 7) (fld s 22 11) cnt row, eng := some 5, occ := cnt,
    primes := [fld s 15 7], rootN := none,
    operands := if queue then [] else (List.range cnt).map fun i =>
      (1, ((64 * ((row + i) % 2 ^ 16) : Nat) : Int), ((64 * ((row + i) % 2 ^ 16) + 63 : Nat) : Int)),
    accept := none }

/-! ### Steps 2 to 5 of R179 -/

/-- PARAM_MISMATCH of R70 lap the prime indices of a command. -/
def primeFault (t : List PrimeEntry) (rootN : Option Nat) : List Nat → Option Bool → Option Nat
  | [], _ => none
  | i :: l, first =>
    match t[i]? with
    | none => some (i % 128 + put 0xF 8 4)
    | some e =>
      if first.isSome ∧ first ≠ some e.fore then some (i % 128 + put 0xE 8 4)
      else match rootN with
        | some n => if (e.roots.any fun p => p.1 = n - 12) then primeFault t rootN l (first.or (some e.fore)) else some (i % 128 + put (n - 12) 8 4)
        | none => primeFault t rootN l (first.or (some e.fore))

/-- COORD_RANGE lap the operands (R182). -/
def rangeFault (slot index : Nat) (ops : List (Nat × Int × Int)) : Option Nat :=
  match ops.find? fun o => decide (o.2.1 < 0) || decide (2 ^ 22 - 1 < o.2.2) with
  | some o =>
    let bad := if o.2.1 < 0 then o.2.1 else o.2.2
    some (slot + 256 * o.1 + put index 16 16 + put (bad % (2 ^ 32 : Int)).toNat 32 32)
  | none => none

/-- The lowest address of a range that lies in a powered-down segment (R209). -/
def offWord (segs lo hi : Nat) : Option Nat :=
  ((List.range 8).find? fun s => decide (lo / 524288 ≤ s) && decide (s ≤ hi / 524288) && !bit segs s).map fun s => max lo (s * 524288)

/-- SEGMENT_OFF lap the operands (R209). -/
def segmentFault (slot index segs : Nat) (ops : List (Nat × Int × Int)) : Option Nat :=
  ops.findSome? fun o => (offWord segs o.2.1.toNat o.2.2.toNat).map fun a => slot + 256 * o.1 + put index 16 16 + put a 32 32

/-- Steps 2 to 5 of R179 of one command: fault code and detail of the first that fails. -/
def Cmd.fault (m : Cmd) (x : Cx) (slot : Nat) : Option (Nat × Nat) :=
  match primeFault x.core.ptab m.rootN m.primes none with
  | some dt => some (0x0104, dt)
  | none =>
    match m.eng with
    | some e =>
      if x.cycle < Tab.get 0 x.core.freeAt e then some (0x0404, e + put x.index 16 16)
      else match rangeFault slot x.index m.operands with
        | some dt => some (0x0303, dt)
        | none => match segmentFault slot x.index x.core.segState m.operands with
          | some dt => some (0x0305, dt)
          | none => m.accept
    | none =>
      match segmentFault slot x.index x.core.segState m.operands with
      | some dt => some (0x0305, dt)
      | none => m.accept

/-- Quarter-tiles that can be taken now (R62). -/
def Core.quarters (c : Core) : Nat := 4 * c.tiles.length - c.quarter

/-- The checks of one slot in the order of R179: fault code and detail of the first that fails. -/
def slotFault (x : Cx) (slot : Nat) : Option (Nat × Nat) :=
  match (slotReasons x slot).min? with
  | some why => some (0x0403, illegalDetail slot why x.index)
  | none =>
    if slotOpcode x.bundle slot = 0 then none
    else match slot with
    | 1 => (nttCmd x).fault x 1
    | 2 => (bcvCmd x).fault x 2
    | 3 => if slotOpcode x.bundle 3 = 2 then (if x.core.quarters < 1 then some (0x0404, 3 + put x.index 16 16) else none)
      else (transferCmd (.ld 0 0) (rowOperands 0 (eweRow x 3))).fault x 3
    | 4 => if slotOpcode x.bundle 4 = 2 then
        (if x.core.quarters < (if slotOpcode x.bundle 3 = 2 then 2 else 1) then some (0x0404, 3 + put x.index 16 16) else none)
      else (transferCmd (.ld 0 0) (rowOperands 0 (eweRow x 4))).fault x 4
    | 5 =>
      let aop := slotOpcode x.bundle 5
      match if modular aop then primeFault x.core.ptab none [ewePidx x] none else none with
      | some dt => some (0x0104, dt)
      | none => if x.cycle < Tab.get 0 x.core.freeAt 2 then some (0x0404, 2 + put x.index 16 16) else none
    | 6 => (transferCmd (.st 0 []) (rowOperands 1 (eweRow x 6))).fault x 6
    | 7 => (prmCmd x).fault x 7
    | 8 => (kexCmd x).fault x 8
    | _ => none

/-- All checks of a bundle (R179): DELAY first, then every slot in slot order. -/
def bundleFault (x : Cx) : Option (Nat × Nat) :=
  if delayOf x.bundle = 0 then some (0x0403, illegalDetail 0xFF 1 x.index)
  else (List.range 10).findSome? fun s => slotFault x s

end Sys2Proof.Machine
end

