-- ==== Sys2Proof/Machine/Engine.lean ====
section
/-! DEFINITION. What an issued engine command reads and writes, in which cycle, and the values it writes (R47 to R67,
R21, R31, R32, R65, R93, R113, R218, R219, R221). A cycle is counted from the command's issue. -/

namespace Sys2Proof.Machine

/-! ### Arithmetic of the engines -/

/-- The n low bits of a number in reverse order (R31). -/
def brv : Nat → Nat → Nat
  | 0, _ => 0
  | n + 1, j => j % 2 * 2 ^ n + brv n (j / 2)

/-- The open word of R21, below the prime. -/
def openMod (q : Nat) (args : List Nat) : Word := BitVec.ofNat 36 (Config.openWord args % q)

/-- Sum of a list of numbers modulo q. -/
def sumMod (q : Nat) (l : List Nat) : Nat := l.foldl (fun a x => (a + x) % q) 0

/-- The prime and the entry of an index. -/
def primeAt (t : List PrimeEntry) (i : Nat) : Nat := match t[i]? with | some e => e.q | none => 1
def rootAt (t : List PrimeEntry) (i n : Nat) : Nat := match t[i]? with | some e => Tab.get 0 e.roots (n - 12) | none => 0

/-- Word j of the forward transform of a limb of 2^n words (R31, R32). -/
def nttWord (q psi n : Nat) (a : List Nat) (j : Nat) : Nat :=
  sumMod q (a.zipIdx.map fun p => p.1 * powMod psi ((2 * brv n j + 1) * p.2 % 2 ^ (n + 1)) q)

/-- Word j of the inverse transform, with N^(−1) applied (R32). -/
def inttWord (q psi n : Nat) (a : List Nat) (j : Nat) : Nat :=
  powMod (2 ^ n) (q - 2) q *
    sumMod q (a.zipIdx.map fun p => p.1 * powMod psi (2 ^ (n + 1) - (2 * brv n p.2 + 1) * j % 2 ^ (n + 1)) q) % q

/-- The source word, and whether it is negated, of word p of an automorphism with Galois element k (R65, R93). -/
def autoSource (k : Nat) (coef : Bool) (n p : Nat) : Nat × Bool :=
  if coef then
    let j := p * powMod k (2 ^ (n - 1) - 1) (2 ^ (n + 1)) % 2 ^ (n + 1)
    (j % 2 ^ n, decide (2 ^ n ≤ j))
  else (brv n ((k * (2 * brv n p + 1) % 2 ^ (n + 1) - 1) / 2), false)

/-- The 64-bit value of lane pair i (R60). -/
def pairAt (v : List Word) (i : Nat) : Nat :=
  ((v.getD (2 * i) 0).toNat % 2 ^ 32) + 2 ^ 32 * ((v.getD (2 * i + 1) 0).toNat % 2 ^ 32)

/-- 128 lanes from 64 values on lane pairs (R60). -/
def fromPairs (f : Nat → Nat) : List Word :=
  (List.range 128).map fun l => BitVec.ofNat 36 (f (l / 2) / 2 ^ (32 * (l % 2)) % 2 ^ 32)

/-- A lane of a modular instruction: operands below the prime give the exact value, others an open word (R21). -/
def modLane (code q : Nat) (ops : List Nat) (v : Nat) : Word :=
  if ops.all fun x => decide (x < q) then BitVec.ofNat 36 (v % q) else openMod q (code :: q :: ops)

/-- The result of an arithmetic instruction (R59, R60, R191): opcode, prime, sources a and b, old destination d, SEL's
mask m and the AUX field. -/
def arithVal (aop q : Nat) (a b d m : List Word) (aux : Nat) : List Word :=
  let lane (f : Nat → Word) : List Word := (List.range 128).map f
  let av (i : Nat) : Nat := (a.getD i 0).toNat
  let bv (i : Nat) : Nat := (b.getD i 0).toNat
  let dv (i : Nat) : Nat := (d.getD i 0).toNat
  match aop with
  | 1 => lane fun i => modLane 1 q [av i, bv i] (av i + bv i)
  | 2 => lane fun i => modLane 2 q [av i, bv i] (av i + q - bv i)
  | 3 => lane fun i => modLane 3 q [av i] (q - av i)
  | 4 => lane fun i => modLane 4 q [av i, bv i] (av i * bv i)
  | 5 => lane fun i => modLane 5 q [av i, bv i, dv i] (dv i + av i * bv i)
  | 6 => lane fun i => if av i < bv i then 1 else 0
  | 7 => lane fun i => if av i = bv i then 1 else 0
  | 8 => lane fun i => if m.getD i 0 ≠ 0 then a.getD i 0 else b.getD i 0
  | 9 => lane fun i => a.getD ((i + aux) % 128) 0
  | 10 => lane fun _ => a.getD aux 0
  | 11 => fromPairs fun i => (pairAt a i + pairAt b i) % 2 ^ 64
  | 12 => fromPairs fun i => (pairAt a i + 2 ^ 64 - pairAt b i) % 2 ^ 64
  | 13 => fromPairs fun i => pairAt a i * pairAt b i % 2 ^ 64
  | 14 => lane fun i => if pairAt a (i / 2) < pairAt b (i / 2) then 1 else 0
  | _ => d

/-- Word w of block b of a seeded a-half (R113). -/
def kexWord (seed : List Byte) (logN d e b q w : Nat) : Nat :=
  let tag : List Byte := [0x48, 0x4E, 0x54, 0x4B, 0x45, 0x59, 0x41, 0x31]
  let out := shake256 (tag ++ seed ++ [BitVec.ofNat 8 d, BitVec.ofNat 8 e, BitVec.ofNat 8 logN, 0] ++ leBytes 2 b) 576
  numAt out (9 * w) 9 % q

/-! ### Windows -/

/-- Keys of captured constants and of the old words of an accumulating product. -/
def constKey : Nat := 2 ^ 40
def accKey : Nat := 2 ^ 41

/-- The timing terms of an NTT command: T and the spacing of its limbs (R53, R55, R212). -/
def nttT (sh : Shape) (fm am : Nat) : Nat := sh.e0 * Nat.log2 sh.e0 / 512 * fm * am
def nttSpace (queue : Option Nat) (sh : Shape) (fm am : Nat) : Nat :=
  match queue with
  | some p => max (nttT sh fm am) (p * sh.e0 / 512 * am)
  | none => nttT sh fm am

/-- Steps of a tiled product: the number of tiles across the columns, and the row group and column block of tile t. BCV.EXT
runs through the row groups of a column block first, BCV.MATMUL through the column blocks of a row block (R57, R58). -/
def tilePos (ext : Bool) (sh dsh : Shape) (t : Nat) : Nat × Nat :=
  let g := cdiv dsh.e1 16
  let cb := cdiv sh.e0 32
  if ext then (t % g, t / g) else (t / cb, t % cb)
def tileCount (sh dsh : Shape) : Nat := cdiv dsh.e1 16 * cdiv sh.e0 32

/-- The elements of a tile that lie inside the destination: row and column within the tile. -/
def tileCells (ext : Bool) (sh dsh : Shape) (t : Nat) : List (Nat × Nat) :=
  let p := tilePos ext sh dsh t
  ((List.range 512).map fun i => (i / 32, i % 32)).filter fun x =>
    decide (p.1 * 16 + x.1 < dsh.e1) && decide (p.2 * 32 + x.2 < sh.e0)

/-- Word reads of a tiled product: step k of tile t reads its 32 words in cycle 1 + (t·K + k)·sp. -/
def tileReads (ext : Bool) (src : Nat) (sh dsh : Shape) (sp : Nat) : List (Nat × Nat × Nat) :=
  (List.range (tileCount sh dsh)).flatMap fun t => (List.range sh.e1).flatMap fun k =>
    ((List.range 32).filter fun x => decide ((tilePos ext sh dsh t).2 * 32 + x < sh.e0)).map fun x =>
      (1 + (t * sh.e1 + k) * sp, (t * sh.e1 + k) * 32 + x, sh.at src ((tilePos ext sh dsh t).2 * 32 + x) k 0)

/-- Writes of a tiled product: rows 0 to 7 of tile t in cycle (t + 1)·K·sp + 29, rows 8 to 15 one later (R57, R58). -/
def tileWrites (ext : Bool) (dst : Nat) (sh dsh : Shape) (sp : Nat) : List (Nat × Nat × Nat) :=
  (List.range (tileCount sh dsh)).flatMap fun t => (tileCells ext sh dsh t).map fun x =>
    ((t + 1) * sh.e1 * sp + 29 + x.1 / 8,
     dsh.at dst ((tilePos ext sh dsh t).2 * 32 + x.2) ((tilePos ext sh dsh t).1 * 16 + x.1) 0, t * 512 + x.1 * 32 + x.2)

/-- Only the last write of each word in iteration order remains (R218, R221); entries carry their place in that order. -/
def lastWrites (l : List (Nat × Nat × Nat)) (place : Nat → Nat) : List (Nat × Nat × Nat) :=
  l.filter fun x => !(l.any fun y => decide (y.2.1 = x.2.1) && decide (place x.2.2 < place y.2.2))

/-- Place in iteration order of element i of a tiled product. -/
def tilePlace (ext : Bool) (sh dsh : Shape) (i : Nat) : Nat :=
  let p := tilePos ext sh dsh (i / 512)
  (p.1 * 16 + i % 512 / 32) * sh.e0 + p.2 * 32 + i % 32

/-- The writes of a permuting move: entries (destination word, cycle its source was read, result index), by rows. A row
is written in a cycle of the window that is at least 40 after the last of its sources was read; which one the
specification leaves open (R66). -/
def rowWrites (args : List Nat) (lo hi : Nat) (l : List (Nat × Nat × Nat)) : List (Nat × Nat × Nat) :=
  let l := (l.zipIdx.filter fun x => !(l.zipIdx.any fun y => decide (y.1.1 = x.1.1) && decide (x.2 < y.2))).map Prod.fst
  l.map fun x =>
    let first := (l.filter fun y => decide (y.1 / 64 = x.1 / 64)).foldl (fun a y => max a (y.2.1 + 40)) lo
    (first + Config.prmCycle args (x.1 / 64) % (hi + 1 - first), x.1, x.2.2)

/-- The coordinate of a list at index i, once read: x and y (R219). -/
def coordAt (cap : Tab Word) (i : Nat) : Nat × Nat :=
  let w := (Tab.get 0 cap i).toNat
  (fld w 0 12, fld w 12 12)

/-- A coordinate fails the list phase (R220). -/
def coordBad (sh : Shape) (cap : Tab Word) (i : Nat) : Bool :=
  let c := coordAt cap i
  decide (sh.e1 ≤ c.1) || decide (sh.e2 ≤ c.2) || decide ((Tab.get 0 cap i).toNat / 2 ^ 24 ≠ 0)

/-- Cycle in which word j of the data phase of a gather or scatter is read (R66, R212). -/
def listCycle (e : Nat) (sh : Shape) (am j : Nat) : Nat :=
  cdiv e 8 + 1 + (if sh.e0 < 64 then j / sh.e0 * am else j * am / 64)

/-- The grid word of word j of the data phase. -/
def gridWord (sh : Shape) (base : Nat) (cap : Tab Word) (j : Nat) : Nat :=
  let c := coordAt cap (j / sh.e0)
  sh.at base (j % sh.e0) c.1 c.2

/-- The words of the scratch operand of an in-place move: its pattern for an automorphism, a dense run for a
transposition (R223). -/
def scratchShape (auto : Option (Nat × Bool)) (sh : Shape) : Shape := if auto.isSome then sh else dense sh.count

/-- Words the command reads from local store: cycle, key under which the word is captured, word address. -/
def EngOp.reads (op : EngOp) (cap : Tab Word) : List (Nat × Nat × Nat) :=
  match op with
  | .ntt _ queue src _ sh _ fm am =>
    (List.range sh.e1).flatMap fun j => (List.range sh.e0).map fun i =>
      (j * nttSpace queue sh fm am + 1 + i * am / 256, j * sh.e0 + i, sh.at src i j 0)
  | .ldm src sh am => (List.range sh.count).map fun k => (1 + k * am / 64, k, sh.word src k)
  | .ext src _ sh dsh fm am => tileReads true src sh dsh (fm * am)
  | .matmul acc src dst sh dsh fm am =>
    tileReads false src sh dsh (fm * am) ++
      (if acc then (tileWrites false dst sh dsh (fm * am)).map fun w => (w.1 - 2, accKey + w.2.2, w.2.1) else [])
  | .reg _ _ _ => []
  | .ld _ row => (List.range 128).map fun k => (0, k, (64 * row + k) % 2 ^ 22)
  | .st _ _ => []
  | .move way auto src _ scratch sh _ fm am =>
    let p := cdiv sh.count 64 * fm * am
    ((List.range sh.count).map fun j => (1 + j * fm * am / 64, j, sh.word src j)) ++
      (if way = 2 then (List.range sh.count).map fun j =>
        (p + 41 + j * fm * am / 64, constKey + j, (scratchShape auto sh).word scratch j) else [])
  | .list scatter laddr e src _ sh am =>
    ((List.range e).map fun i => (1 + i / 8, i, (laddr + i) % 2 ^ 22)) ++
      ((List.range (e * sh.e0)).map fun j =>
        (listCycle e sh am j, constKey + j, if scatter then (src + j) % 2 ^ 22 else gridWord sh src cap j))
  | .send src _ _ sh am => (List.range sh.count).map fun j => (1 + j * am / 56, j, sh.word src j)
  | .kex _ _ _ _ _ _ _ _ _ => []
  | .close _ _ => []

/-- Constants of the buffer that a tiled product uses: cycle, key, index in the buffer (R57, R58, R189). -/
def EngOp.consts (op : EngOp) : List (Nat × Nat × Nat) :=
  let go (ext : Bool) (sh dsh : Shape) (sp : Nat) : List (Nat × Nat × Nat) :=
    (List.range (tileCount sh dsh)).flatMap fun t => (List.range sh.e1).flatMap fun k =>
      ((List.range 16).filter fun r => decide ((tilePos ext sh dsh t).1 * 16 + r < dsh.e1)).map fun r =>
        (1 + (t * sh.e1 + k) * sp, constKey + (t * sh.e1 + k) * 16 + r, ((tilePos ext sh dsh t).1 * 16 + r) * sh.e1 + k)
  match op with
  | .ext _ _ sh dsh fm am => go true sh dsh (fm * am)
  | .matmul _ _ _ sh dsh fm am => go false sh dsh (fm * am)
  | _ => []

/-- Words the command writes to local store: cycle, word address, result index. -/
def EngOp.writes (op : EngOp) (cap : Tab Word) : List (Nat × Nat × Nat) :=
  match op with
  | .ntt _ none _ dst sh dsh fm am =>
    let l := (List.range sh.e1).flatMap fun j => (List.range sh.e0).map fun i =>
      (j * nttT sh fm am + nttT sh fm am + 25 + i * am / 256, dsh.at dst i j 0, j * sh.e0 + i)
    if dsh.aliasDim.isSome then lastWrites l id else l
  | .ntt _ (some _) _ _ _ _ _ _ => []
  | .ldm _ _ _ => []
  | .ext _ dst sh dsh fm am =>
    let l := tileWrites true dst sh dsh (fm * am)
    if dsh.aliasDim.isSome then lastWrites l (tilePlace true sh dsh) else l
  | .matmul _ _ dst sh dsh fm am =>
    let l := tileWrites false dst sh dsh (fm * am)
    if dsh.aliasDim.isSome then lastWrites l (tilePlace false sh dsh) else l
  | .reg _ _ _ => []
  | .ld _ _ => []
  | .st row _ => (List.range 128).map fun k => (3, (64 * row + k) % 2 ^ 22, k)
  | .move way auto src dst scratch sh dsh fm am =>
    let p := cdiv sh.count 64 * fm * am
    let n := Nat.log2 sh.e0
    let args := [way, src, dst, scratch, sh.count]
    let from' (j : Nat) : Nat := match auto with
      | some (k, coef) => j / sh.e0 * sh.e0 + (autoSource k coef n (j % sh.e0)).1
      | none => j
    let direct := (List.range sh.count).map fun j => (dsh.word dst j, 1 + from' j * fm * am / 64, j)
    if way = 0 then rowWrites args 41 (p + 40) direct
    else if way = 1 then rowWrites args (p + 41) (2 * p + 40) direct
    else
      rowWrites args 41 (p + 40) ((List.range sh.count).map fun j =>
        ((scratchShape auto sh).word scratch j, 1 + from' j * fm * am / 64, j)) ++
      rowWrites (1 :: args) (p + 81) (2 * p + 80) ((List.range sh.count).map fun j =>
        (dsh.word dst j, p + 41 + j * fm * am / 64, constKey + j))
  | .list scatter _ e _ dst sh am =>
    let p := (if sh.e0 < 64 then e else cdiv (e * sh.e0) 64) * am
    rowWrites [3, b2n scatter, dst, e] (cdiv e 8 + 41) (cdiv e 8 + p + 40) ((List.range (e * sh.e0)).map fun j =>
      (if scatter then gridWord sh dst cap j else (dst + j) % 2 ^ 22, listCycle e sh am j, constKey + j))
  | .send _ _ _ _ _ => []
  | .kex queue _ _ _ _ _ _ cnt row =>
    if queue then [] else (List.range (64 * cnt)).map fun k => (61 + k / 64, (64 * row + k) % 2 ^ 22, k)
  | .close _ l => l.zipIdx.flatMap fun p => p.1.2.zipIdx.map fun w => (2 + p.2, (p.1.1 + w.2) % 2 ^ 22, p.2 * 16 + w.2)

/-- Tiles the command deposits: cycle and tile number (R55, R67). -/
def EngOp.tiles (op : EngOp) : List (Nat × Nat) :=
  match op with
  | .ntt _ (some p) _ _ sh _ fm am =>
    (List.range sh.e1).flatMap fun j => (List.range (sh.e0 / 512)).map fun t =>
      (j * nttSpace (some p) sh fm am + nttT sh fm am + 25 + t * p * am, j * (sh.e0 / 512) + t)
  | .kex true _ _ _ _ _ _ cnt _ => (List.range (cnt / 8)).map fun t => (68 + 8 * t, t)
  | _ => []

/-- The vector register a command writes, and when. -/
def EngOp.regOut (op : EngOp) : Option (Nat × Nat) :=
  match op with
  | .reg vd _ lat => some (vd, lat)
  | .ld vd _ => some (vd, 5)
  | _ => none

/-- The cycle in which BCV.LDM's words replace the constant buffer: its latency (R56). -/
def EngOp.cbufAt (op : EngOp) : Option Nat :=
  match op with
  | .ldm _ sh am => some (cdiv sh.count 64 * am + 10)
  | _ => none

/-- The number of words of a constant-buffer load (R56). -/
def EngOp.ldmWords (op : EngOp) : Nat :=
  match op with
  | .ldm _ sh _ => sh.count
  | _ => 0

/-- The cycle after the list phase of a gather or scatter (R220). -/
def EngOp.listEnd (op : EngOp) : Option Nat :=
  match op with
  | .list _ _ e _ _ _ _ => some (cdiv e 8 + 1)
  | _ => none

/-- The last cycle of anything the command does (R150); for PRM.SEND the end of its read window (R293). -/
def EngOp.last (op : EngOp) : Nat :=
  match op with
  | .ntt _ queue _ _ sh _ fm am =>
    match queue with
    | none => (sh.e1 - 1) * nttT sh fm am + nttT sh fm am + sh.e0 / 256 * am + 24
    | some p => (sh.e1 - 1) * nttSpace queue sh fm am + nttT sh fm am + 25 + (sh.e0 / 512 - 1) * p * am
  | .ldm _ sh am => cdiv sh.count 64 * am + 10
  | .ext _ _ sh dsh fm am => tileCount sh dsh * sh.e1 * fm * am + 30
  | .matmul _ _ _ sh dsh fm am => tileCount sh dsh * sh.e1 * fm * am + 30
  | .reg _ _ lat => lat
  | .ld _ _ => 5
  | .st _ _ => 3
  | .move way _ _ _ _ sh _ fm am =>
    let p := cdiv sh.count 64 * fm * am
    if way = 0 then p + 40 else if way = 1 then 2 * p + 40 else 2 * p + 80
  | .list _ _ e _ _ sh am => cdiv e 8 + (if sh.e0 < 64 then e else cdiv (e * sh.e0) 64) * am + 40
  | .send _ _ _ sh am => cdiv sh.count 56 * am
  | .kex queue _ _ _ _ _ _ cnt _ => if queue then 60 + cnt else 60 + cnt
  | .close _ l => 1 + l.length

/-! ### Values -/

/-- Element i of a tiled product. -/
def tileVal (ext : Bool) (q : Nat) (acc : Bool) (sh : Shape) (cap : Tab Word) (i : Nat) : Word :=
  let t := i / 512
  let ks := List.range sh.e1
  let a := ks.map fun k => (Tab.get 0 cap (constKey + (t * sh.e1 + k) * 16 + i % 512 / 32)).toNat
  let b := ks.map fun k =>
    let w := (Tab.get 0 cap ((t * sh.e1 + k) * 32 + i % 32)).toNat
    if ext then w % q else w
  let d := if acc then [(Tab.get 0 cap (accKey + i)).toNat] else []
  if (a ++ b ++ d).all fun x => decide (x < q) then
    BitVec.ofNat 36 (sumMod q (d ++ (a.zip b).map fun p => p.1 * p.2))
  else openMod q ((if ext then 20 else 21) :: q :: (d ++ a ++ b))

/-- The word of a result index (R21, R31, R32, R57, R58, R65, R113). -/
def EngOp.value (op : EngOp) (t : List PrimeEntry) (cap : Tab Word) (i : Nat) : Word :=
  match op with
  | .ntt inv _ _ _ sh _ _ _ =>
    let n := Nat.log2 sh.e0
    let j := i / sh.e0
    let q := primeAt t (sh.prime j)
    let psi := rootAt t (sh.prime j) n
    let a := (Tab.slice 0 cap (j * sh.e0) sh.e0).map BitVec.toNat
    if a.all fun x => decide (x < q) then
      BitVec.ofNat 36 (if inv then inttWord q psi n a (i % sh.e0) else nttWord q psi n a (i % sh.e0))
    else openMod q ((if inv then 31 else 30) :: q :: psi :: (i % sh.e0) :: a)
  | .ldm _ _ _ => 0
  | .ext _ _ sh dsh _ _ =>
    tileVal true (primeAt t (dsh.prime ((tilePos true sh dsh (i / 512)).1 * 16 + i % 512 / 32))) false sh cap i
  | .matmul acc _ _ sh dsh _ _ => tileVal false (primeAt t dsh.pidx) acc sh cap i
  | .reg _ val _ => val.getD i 0
  | .ld _ _ => Tab.get 0 cap i
  | .st _ val => val.getD i 0
  | .move _ auto _ _ _ sh _ _ _ =>
    if constKey ≤ i then Tab.get 0 cap i
    else match auto with
    | some (k, coef) =>
      let s := autoSource k coef (Nat.log2 sh.e0) (i % sh.e0)
      let w := Tab.get 0 cap (i / sh.e0 * sh.e0 + s.1)
      let q := primeAt t (sh.prime (i / sh.e0 % sh.e1))
      if coef then modLane (if s.2 then 3 else 32) q [w.toNat] (if s.2 then q - w.toNat else w.toNat) else w
    | none => Tab.get 0 cap i
  | .list _ _ _ _ _ _ _ => Tab.get 0 cap i
  | .send _ _ _ _ _ => Tab.get 0 cap i
  | .kex _ seed logN d e p blk _ _ => BitVec.ofNat 36 (kexWord seed logN d e (blk + i / 64) (primeAt t p) (i % 64))
  | .close _ l => ((l.getD (i / 16) (0, [])).2).getD (i % 16) 0

/-- The 512 words of a deposited tile. -/
def EngOp.tileWords (op : EngOp) (t : List PrimeEntry) (cap : Tab Word) (n : Nat) : List Word :=
  (List.range 512).map fun i => op.value t cap (512 * n + i)

/-- The lowest and highest address of the command's destination pattern (R224); none when it writes no local store. -/
def EngOp.dest (op : EngOp) : Option (Int × Int) :=
  match op with
  | .ntt _ none _ dst _ dsh _ _ => some (dsh.range dst)
  | .ext _ dst _ dsh _ _ => some (dsh.range dst)
  | .matmul _ _ dst _ dsh _ _ => some (dsh.range dst)
  | .st row _ => some ((64 * row : Nat), (64 * row + 127 : Nat))
  | .move _ _ _ dst _ _ dsh _ _ => some (dsh.range dst)
  | .list scatter _ e _ dst sh _ => some (if scatter then sh.range dst else (dense (e * sh.e0)).range dst)
  | .kex false _ _ _ _ _ _ cnt row => some ((64 * row : Nat), (64 * (row + cnt) - 1 : Nat))
  | _ => none

end Sys2Proof.Machine
end

