-- ==== Sys2Proof/Machine/OpCheck.lean ====
section
/-! DEFINITION. OP.OPEN: the descriptors it reads, its checks in their order and the descriptors OP.CLOSE will write
(R34 to R45, R77 to R101, R119, R120, R213, R214, R355 to R357, R578, R579), and the input rules of a bootstrap (R133, R135,
R138, R139, R144). -/

namespace Sys2Proof.Machine

/-! ### Descriptors and limb lists (R34, R35, R578) -/

/-- A local-store word. -/
def Core.word (c : Core) (a : Nat) : Word := Tab.get 0 c.ls (a % 2 ^ 22)
/-- Bits [31:0] of a word. DESIGN CHOICE (log 183): bits [35:32] of a descriptor or limb-list word are not looked at. -/
def Core.half (c : Core) (a : Nat) : Nat := (c.word a).toNat % 2 ^ 32

/-- A descriptor: word j holds bytes 4j to 4j + 3 (R34). -/
def descrOf (w : Nat → Nat) : Descr :=
  { magic := fld (w 0) 0 16, version := fld (w 0) 16 8, boundExceeded := bit (w 0) 30, scheme := fld (w 0) 28 2,
    extended := bit (w 0) 27, mode := bit (w 0) 26, domain := bit (w 0) 25, kind := bit (w 0) 24, psetId := fld (w 1) 0 16,
    level := fld (w 1) 16 8, components := fld (w 1) 24 8, keysetId := w 2 + 2 ^ 32 * w 3, scale := w 4, noise := w 5,
    slots := w 6, layout := fld (w 7) 0 8, limbs := fld (w 7) 8 8, limbList := w 8 + 2 ^ 32 * w 9 }

/-- The descriptor whose word 0 lies at an address of the local store. -/
def Core.descr (c : Core) (a : Nat) : Descr := descrOf fun k => c.half (a + k)

/-- The 16 words of a descriptor, reserved fields zero (R34, R79). -/
def Descr.words (d : Descr) : List Word :=
  let w0 := put d.magic 0 16 + put d.version 16 8 + put (b2n d.kind) 24 1 + put (b2n d.domain) 25 1 + put (b2n d.mode) 26 1 +
    put (b2n d.extended) 27 1 + put d.scheme 28 2 + put (b2n d.boundExceeded) 30 1
  let w1 := put d.psetId 0 16 + put d.level 16 8 + put d.components 24 8
  [w0, w1, d.keysetId % 2 ^ 32, d.keysetId / 2 ^ 32, d.scale, d.noise, d.slots, put d.layout 0 8 + put d.limbs 8 8,
   d.limbList % 2 ^ 32, d.limbList / 2 ^ 32, 0, 0, 0, 0, 0, 0].map fun n => BitVec.ofNat 36 (n % 2 ^ 32)

/-- Base of the narrow view of a core (R200). -/
def narrowBase (g : Nat) : Nat := 0x8_0000_0000_0000 + g * 0x200_0000

/-- A well-formed limb-list entry: in HBM or not, the core, the address; none when malformed (R35). -/
def limbEntry (e : Nat) : Option (Bool × Nat × Nat) :=
  if bit e 63 then if fld e 52 11 = 0 ∧ e % 64 = 0 then some (true, 0, fld e 0 52) else none
  else if fld e 29 34 = 0 then some (false, fld e 22 7, fld e 0 22) else none

/-- The word address of a readable limb list of n entries in the core's own store (R578). -/
def Core.listWord (c : Core) (g : Nat) (d : Descr) (n : Nat) : Option Nat :=
  let a := (d.limbList - narrowBase g) / 8
  if d.limbList % 8 = 0 ∧ narrowBase g ≤ d.limbList ∧ a + 2 * n ≤ 2 ^ 22 ∧ a < 2 ^ 22 ∧
      (offWord c.segState a (a + max 1 (2 * n) - 1)).isNone then some a else none

/-- The entries of a limb list; an unreadable list has no well-formed entry (R578). -/
def Core.limbs (c : Core) (g : Nat) (d : Descr) (n : Nat) : List (Option (Bool × Nat × Nat)) :=
  match c.listWord g d n with
  | some a => (List.range n).map fun i => limbEntry (c.half (a + 2 * i) + 2 ^ 32 * c.half (a + 2 * i + 1))
  | none => List.replicate n none

/-! ### Operands of the operations (R77, R85) -/

/-- The fields of OP.OPEN (R77, R183). -/
structure OpenArgs where
  opcode : Nat
  slot : Nat
  dst : Nat
  src1 : Nat
  src2 : Nat
  count : Nat
  count2 : Nat
  param : Nat
  xout : Bool

def openArgs (s : Nat) : OpenArgs :=
  { opcode := fld s 4 8, slot := fld s 12 2, dst := fld s 14 22, src1 := fld s 36 22, src2 := fld s 58 22, count := fld s 80 6,
    count2 := fld s 86 6, param := fld s 92 32, xout := bit s 124 }

/-- What a source is: a ciphertext, a plaintext, or either (R85). -/
inductive Role where
  | ct
  | pt
  | either
  deriving DecidableEq, Repr

/-- Sources of an operation: address and role, those at SRC1 first (R85, R98, R99, R579). -/
def OpenArgs.sources (x : OpenArgs) : List (Nat × Role) :=
  let list (a n : Nat) (r : Role) : List (Nat × Role) := (List.range n).map fun i => ((a + 16 * i) % 2 ^ 22, r)
  match x.opcode with
  | 0x01 => [(x.src1, .ct), (x.src2, .ct)]
  | 0x02 => [(x.src1, .ct), (x.src2, .ct)]
  | 0x03 => [(x.src1, .ct), (x.src2, .pt)]
  | 0x04 => [(x.src1, .ct), (x.src2, .pt)]
  | 0x08 => [(x.src1, .ct), (x.src2, .pt)]
  | 0x09 => [(x.src1, .ct), (x.src2, .ct)]
  | 0x0C => [(x.src1, .either)]
  | 0x12 => [(x.src1, .either)]
  | 0x13 => [(x.src1, .either)]
  | 0x14 => list x.src1 (x.count + 1) .ct ++ list x.src2 (x.count + 1) .pt
  | 0x15 => list x.src1 (x.count + 1) .ct
  | 0x16 => list x.src1 (x.count2 + 1) .ct ++ [(x.src2, .pt)]
  | _ => [(x.src1, .ct)]

/-- Destinations: R of a ROTATE_SET, M of a LINCOMB, else one (R95, R99). -/
def OpenArgs.dests (x : OpenArgs) : List Nat :=
  if x.opcode = 0x0F ∨ x.opcode = 0x16 then (List.range (x.count + 1)).map fun i => (x.dst + 16 * i) % 2 ^ 22 else [x.dst]

/-- Words of constants, constant tables and Galois tables at SRC2 (R87, R95, R98). -/
def OpenArgs.tableWords (x : OpenArgs) : Nat :=
  match x.opcode with
  | 0x06 => 2
  | 0x07 => 2
  | 0x0F => x.count + 1
  | 0x15 => 2 * (x.count + 2)
  | _ => 0

/-- Operand index of destination j (R579). -/
def destIndex (j : Nat) : Nat := if j = 0 then 0 else 0xC0 + j

/-- Key-switching operations (R92). -/
def keySwitching (op : Nat) : Bool := op == 0x0A || op == 0x0D || op == 0x0E || op == 0x0F
/-- Operations that accept a joint source (R356, R357). -/
def jointOp (op : Nat) : Bool := [0x01, 0x02, 0x03, 0x04, 0x05, 0x06, 0x07, 0x08, 0x0B, 0x0C, 0x12, 0x13].contains op
/-- Operations that work in place (R85). -/
def inPlaceOp (op : Nat) : Bool := !([0x09, 0x0F, 0x14, 0x15, 0x16].contains op)
/-- Operations whose sources are in either domain, all alike (R85). -/
def eitherDomain (op : Nat) : Bool := [0x01, 0x02, 0x03, 0x04, 0x05, 0x0C].contains op

/-- A joint key-set ID, its party mask and group tag (R355). -/
def Descr.joint (d : Descr) : Bool := bit d.keysetId 63
def Descr.parties (d : Descr) : Nat := fld d.keysetId 0 16
def Descr.tag (d : Descr) : Nat := fld d.keysetId 16 47

/-- A ciphertext by its role or, for either, its KIND. -/
def isCt (r : Role) (d : Descr) : Bool := match r with | .ct => true | .pt => false | .either => !d.kind

/-- What OP.OPEN has read. -/
structure Opened where
  x : OpenArgs
  dests : List Descr
  srcs : List (Descr × Role)
  /-- the opening of a bootstrap: whether of a BGV ciphertext, and the word address of the destination descriptor (R138) -/
  boot : Option (Bool × Nat)

/-- The descriptors that OP.OPEN names, as they stand. -/
def OpenArgs.opened (x : OpenArgs) (c : Core) (boot : Option (Bool × Nat)) : Opened :=
  { x := x, dests := x.dests.map c.descr, srcs := x.sources.map fun q => (c.descr q.1, q.2), boot := boot }

def Opened.cts (o : Opened) : List Descr := (o.srcs.filter fun p => isCt p.2 p.1).map Prod.fst
def Opened.first (o : Opened) : Descr := match o.srcs with | p :: _ => p.1 | [] => { magic := 0, version := 0, boundExceeded := false, scheme := 0, extended := false, mode := false, domain := false, kind := false, psetId := 0, level := 0, components := 0, keysetId := 0, scale := 0, noise := 0, slots := 0, layout := 0, limbs := 0, limbList := 0 }
/-- The first ciphertext source, from which KEYSET_ID and SLOTS come (R79). -/
def Opened.ref (o : Opened) : Descr := o.cts.headD o.first

/-- Every operand in operand order, with its index (R579). -/
def Opened.operands (o : Opened) : List (Nat × Descr) :=
  (o.dests.zipIdx.map fun p => (destIndex p.2, p.1)) ++ (o.srcs.zipIdx.map fun p => (p.2 + 1, p.1.1))

/-! ### The result's descriptor (R39, R41, R79, R85, R94, R96, R100, R356) -/

/-- Saturation and clamp of 32-bit sums and differences (R39, R41). -/
def sat32 (n : Nat) : Nat := min n 0xFFFF_FFFF

def PSet.lgAt (p : PSet) (i : Nat) : Nat := match p.primes[i]? with | some x => lgOf x.1 | none => 0
/-- lg P, the sum over the special primes. -/
def PSet.lgP (p : PSet) : Nat := ((List.range p.spec).map fun i => p.lgAt (p.reg + i)).sum
/-- The noise limit at a level; raised by lg P for an extended result (R42, R100). -/
def PSet.noiseLimit (p : PSet) (level : Nat) (ext : Bool) : Nat :=
  ((List.range (level + 1)).map p.lgAt).sum - p.noiseMargin + (if ext then p.lgP else 0)
/-- ⌈log2 n⌉ for n ≥ 1, in 16.16 form. -/
def clog16 (n : Nat) : Nat := (if n ≤ 1 then 0 else Nat.log2 (n - 1) + 1) * 65536
/-- α of R106. -/
def PSet.alpha (p : PSet) : Nat := cdiv p.reg p.dnum

/-- The result's level; none when it would lie below 0 (R38, R90, R91). -/
def Opened.level (o : Opened) : Option Nat :=
  if o.x.opcode = 0x0B then if o.ref.level = 0 then none else some (o.ref.level - 1)
  else if o.x.opcode = 0x0C then if o.ref.level < o.x.param then none else some (o.ref.level - o.x.param)
  else some o.ref.level

/-- EXTENDED of the result (R85, R94, R96). -/
def Opened.extended (o : Opened) : Bool :=
  if o.x.opcode = 0x10 then true else if keySwitching o.x.opcode then o.x.xout
  else if [0x01, 0x02, 0x05, 0x14].contains o.x.opcode then o.first.extended else false

/-- Both sources of an ADD or SUB are joint: the union of their masks (R356). -/
def Opened.union (o : Opened) : Option Nat :=
  match o.x.opcode, o.srcs with
  | 0x01, [a, b] => if a.1.joint && b.1.joint then some (a.1.parties ||| b.1.parties) else none
  | 0x02, [a, b] => if a.1.joint && b.1.joint then some (a.1.parties ||| b.1.parties) else none
  | _, _ => none

def Opened.components (o : Opened) : Nat :=
  match o.union with
  | some m => 1 + popCount 16 m
  | none =>
    if o.x.opcode = 0x09 then 3
    else if keySwitching o.x.opcode || [0x14, 0x15, 0x16].contains o.x.opcode then 2 else o.first.components

/-- SCALE of a CKKS result (R39, R85). -/
def Opened.scale (o : Opened) (p : PSet) : Nat :=
  let s := o.ref.scale
  let pt := (o.srcs.find? fun q => !isCt q.2 q.1).map fun q => q.1.scale
  match o.x.opcode with
  | 0x07 => sat32 (s + o.x.param)
  | 0x15 => sat32 (s + o.x.param)
  | 0x08 => sat32 (s + pt.getD 0)
  | 0x14 => sat32 (s + pt.getD 0)
  | 0x16 => sat32 (s + pt.getD 0)
  | 0x09 => sat32 (s + match o.srcs with | [_, b] => b.1.scale | _ => 0)
  | 0x0B => s - p.lgAt o.ref.level
  | 0x10 => sat32 (s + p.lgP)
  | 0x11 => s - p.lgP
  | op => if keySwitching op && o.x.xout && !o.ref.extended then sat32 (s + p.lgP) else s

/-- NOISE of a BGV or BFV result (R41, R100). -/
def Opened.noise (o : Opened) (p : PSet) : Nat :=
  let one := 65536
  let b1 := o.ref.noise
  let b2 := match o.srcs with | [_, b] => b.1.noise | _ => 0
  let bmax := (o.srcs.map fun s => s.1.noise).foldl max 0
  sat32 (match o.x.opcode with
    | 0x01 => max b1 b2 + one
    | 0x02 => max b1 b2 + one
    | 0x07 => b1 + p.ptGrowth
    | 0x08 => b1 + p.ptGrowth
    | 0x09 => b1 + b2 + p.logN * one
    | 0x0B => max (b1 - p.lgAt o.ref.level) p.msNoise + one
    | 0x10 => b1 + p.lgP
    | 0x11 => max (b1 - p.lgP) p.msNoise + one
    | 0x14 => bmax + p.ptGrowth + clog16 (o.x.count + 1)
    | 0x15 => bmax + p.ptGrowth + clog16 (o.x.count + 1)
    | 0x16 => bmax + p.ptGrowth + clog16 (o.x.count2 + 1)
    | op =>
      if keySwitching op then
        if !o.x.xout then max b1 p.ksNoise + one
        else if !o.ref.extended then max b1 p.ksNoise + one + p.lgP
        else max (b1 - p.lgP) p.ksNoise + 2 * one + p.lgP
      else b1)

/-- Limbs of the result. DESIGN CHOICE (log 184): a result below level 0, which LEVEL_EXHAUSTED refuses after checks 8 and 10
of R37, has none. -/
def Opened.limbCount (o : Opened) (p : PSet) : Nat :=
  match o.level with
  | some l => l + 1 + (if o.extended then p.spec else 0)
  | none => 0

/-- The descriptor fields of the result, but for LAYOUT and LIMB_LIST (R79). -/
def Opened.result (o : Opened) (p : PSet) (noiseOff : Bool) : Descr :=
  let lv := o.level.getD 0
  let ext := o.extended
  let op := o.x.opcode
  let over' := decide (p.scheme ≠ 0) && noiseOff && decide (p.noiseLimit lv ext < o.noise p)
  { magic := 0xC7D5, version := 1, boundExceeded := over' || (o.srcs.any fun s => s.1.boundExceeded), scheme := p.scheme,
    extended := ext, mode := o.first.mode, domain := if op = 0x12 then true else if op = 0x13 then false else if eitherDomain op then o.first.domain else true,
    kind := if op = 0x0C ∨ op = 0x12 ∨ op = 0x13 then o.first.kind else false, psetId := o.first.psetId, level := lv,
    components := o.components,
    keysetId := match o.union with | some m => o.ref.keysetId - o.ref.parties + m | none => o.ref.keysetId,
    scale := if p.scheme = 0 then o.scale p else 0, noise := if p.scheme = 0 then 0 else o.noise p, slots := o.ref.slots,
    layout := 0, limbs := o.limbCount p, limbList := 0 }

/-! ### Checks of R37 -/

/-- Layouts that the operation accepts: of ciphertexts, destinations and plaintexts, and whether all must be alike; of
ROTATE and CONJUGATE with XOUT an extended source lies in CLUSTER_EXT (R94, R214). -/
def layoutsOf (op : Nat) (xout ext : Bool) : List Nat × List Nat × List Nat × Bool :=
  if [0x01, 0x02, 0x05].contains op then ([1, 2, 3], [1, 2, 3], [], true)
  else if keySwitching op then (if ext && xout && (op == 0x0D || op == 0x0E) then [2] else [1], if xout then [2] else [1], [], false)
  else if op = 0x10 then ([1], [2], [], false)
  else if op = 0x11 then ([2], [1], [], false)
  else if op = 0x14 then ([1, 2], [1, 2], [1, 2], true)
  else if op = 0x16 then ([1], [1], [4], false)
  else ([1, 3], [1, 3], [1, 3], true)

/-- The well-formed entries stand where the layout places them (R213, R214). -/
def placed (layout regular : Nat) (l : List (Option (Bool × Nat × Nat))) : Bool :=
  let es := l.zipIdx.filterMap fun p => p.1.map fun e => (p.2, e)
  let home := match es with | (_, e) :: _ => e.2.1 | [] => 0
  es.all fun p =>
    !p.2.1 && (if layout = 3 then decide (p.2.2.1 = home)
      else decide (p.2.2.1 / 8 = home / 8) && (if p.1 < regular then decide (p.2.2.1 % 8 = p.1 % 8) else decide (layout ≠ 2) || decide (p.2.2.1 % 8 = 0)))

/-- A source of LINCOMB lies at one fixed stride from source 0 in every limb (R99). -/
def strided (base l : List (Option (Bool × Nat × Nat))) (step : Int) : Bool :=
  (base.zip l).all fun p => match p.1, p.2 with
    | some a, some b => decide (a.2.1 = b.2.1) && decide ((b.2.2 : Int) - a.2.2 = step)
    | _, _ => true

/-- The fixed stride of LINCOMB's sources, from the first pair of well-formed entries of source 0 and a later one (R99): entries
that are malformed say nothing of it. -/
def strideOf (base : List (Option (Bool × Nat × Nat))) (others : List (List (Option (Bool × Nat × Nat)))) : Int :=
  (others.zipIdx.findSome? fun s => (base.zip s.1).findSome? fun p => match p with
    | (some a, some b) => some (((b.2.2 : Int) - a.2.2) / ((s.2 : Int) + 1))
    | _ => none).getD 0

/-- Words of one component of limb i: a special limb of CLUSTER_EXT is a range of N/8 words (R213). -/
def limbSpan (layout regular n i : Nat) : Nat := if layout = 2 ∧ regular ≤ i then 2 ^ n / 8 else 2 ^ n

/-- Check 10 of one entry: a core of the job with the whole limb in its store, or an HBM range of its partitions. -/
def Dev.limbOk (d : Dev) (j : Job) (comps n span : Nat) : Option (Bool × Nat × Nat) → Bool
  | none => false
  | some (true, _, a) => (d.mem.partFor j.partMask a (comps * 2 ^ n * 9 / 2)).isSome
  | some (false, g, a) => bit j.coreMask g && decide (a + (comps - 1) * 2 ^ n + span ≤ 2 ^ 22)

/-- KIND and COMPONENTS (R37 check 7, R85, R355, R357). -/
def componentsOk (op : Nat) (r : Role) (d : Descr) : Bool :=
  if isCt r d then
    !d.kind && (if d.joint then jointOp op && decide (d.parties ≠ 0) && decide (d.components = 1 + popCount 16 d.parties)
      else if op = 0x0A then d.components == 3
      else if keySwitching op || [0x09, 0x14, 0x15, 0x16].contains op then d.components == 2
      else d.components == 2 || d.components == 3)
  else d.kind && d.components == 1

/-- DOMAIN and EXTENDED of a source (R37 check 6, R85, R94). -/
def domainOk (o : Opened) (d : Descr) : Bool :=
  let op := o.x.opcode
  let dom := if op = 0x12 then !d.domain else if eitherDomain op then d.domain == o.first.domain else d.domain
  let ext := if op = 0x11 then d.extended else if [0x01, 0x02, 0x05, 0x14].contains op then d.extended == o.first.extended
    else !d.extended || ((op == 0x0D || op == 0x0E) && o.x.xout)
  dom && ext && (o.boot.isNone || (d.domain && !d.extended))

/-- Check 4 of a ciphertext source against the first: same key set, or joint under ADD and SUB (R355, R356). -/
def keysetOk (o : Opened) (d : Descr) : Bool :=
  !(d.joint && d.scheme != 0) && (d.keysetId == o.ref.keysetId ||
    ((o.x.opcode == 0x01 || o.x.opcode == 0x02) && d.joint && o.ref.joint && d.tag == o.ref.tag))

/-- The first operand that fails a test, as PARAM_MISMATCH with its check number (R37). -/
def failCheck (check : Nat) (l : List (Nat × Bool)) : Option (Nat × Nat) :=
  (l.find? fun p => !p.2).map fun p => (0x0104, check + 256 * p.1)

/-- OP_PARAM with an operand code (R101). -/
def opParam (op code : Nat) : Nat × Nat := (0x0106, op + 256 * code)

/-- The sources, each with its operand index. -/
def Opened.sources (o : Opened) : List (Nat × Descr × Role) := o.srcs.zipIdx.map fun p => (p.2 + 1, p.1)

/-- Checks 1 to 7 of R37 (R81). -/
def Opened.checks1to7 (o : Opened) (j : Job) : Option (Nat × Nat) :=
  let all' (f : Descr → Bool) : List (Nat × Bool) := o.operands.map fun p => (p.1, f p.2)
  let src (f : Descr → Role → Bool) : List (Nat × Bool) := o.sources.map fun p => (p.1, f p.2.1 p.2.2)
  let lead := (o.dests.headD o.first)
  (failCheck 1 (all' fun d => d.magic == 0xC7D5 && d.version == 1)).or <|
  (failCheck 2 (all' fun d => j.psets.any fun p => p.id == d.psetId)).or <|
  (failCheck 3 (all' fun d => d.psetId == lead.psetId && d.mode == lead.mode)).or <|
  (failCheck 4 (src fun d r => !isCt r d || keysetOk o d)).or <|
  (failCheck 5 (src fun d r => if isCt r d then d.level == o.ref.level else o.cts.isEmpty || decide (o.ref.level ≤ d.level))).or <|
  (failCheck 6 (src fun d _ => domainOk o d)).or <|
  (failCheck 7 ((src fun d r => componentsOk o.x.opcode r d && (o.boot.isNone || (!d.kind && d.components == 2))) ++
    (if (o.x.opcode = 1 ∨ o.x.opcode = 2) ∧ o.union.isNone then (o.sources.drop 1).map fun p => (p.1, p.2.1.components == o.first.components) else [])))

/-- The limb lists of all operands, in operand order; a destination's has as many entries as the result has limbs
(R81). -/
def Opened.lists (o : Opened) (c : Core) (g : Nat) (res : Descr) : List (List (Option (Bool × Nat × Nat))) :=
  (o.dests.map fun d => c.limbs g d res.limbs) ++ (o.srcs.map fun p => c.limbs g p.1 p.1.limbs)

/-- Whether the limb list of each operand is readable (R578). -/
def Opened.readable (o : Opened) (c : Core) (g : Nat) (res : Descr) : List Bool :=
  (o.dests.map fun d => (c.listWord g d res.limbs).isSome) ++ (o.srcs.map fun p => (c.listWord g p.1 p.1.limbs).isSome)

/-- Check 8 of R37 (R99, R214). DESIGN CHOICE (log 185): where layouts must be the same, each operand is compared with the first
source, so that a differing destination is reported before a differing source. -/
def Opened.check8 (o : Opened) (res : Descr) (lists : List (List (Option (Bool × Nat × Nat)))) : Option (Nat × Nat) :=
  let lay := layoutsOf o.x.opcode o.x.xout o.first.extended
  let nd := o.dests.length
  let base := lists.getD nd []
  let step : Int := strideOf base ((lists.drop (nd + 1)).take o.x.count2)
  failCheck 8 ((o.operands.zip lists).zipIdx.map fun p =>
    let d := p.1.1.2
    let role := (o.srcs.map Prod.snd).getD (p.2 - nd) .ct
    let allowed := if p.2 < nd then lay.2.1 else if isCt role d then lay.1 else if lay.2.2.1.isEmpty then lay.1 else lay.2.2.1
    let regular := if p.2 < nd then res.level + 1 else d.level + 1
    (p.1.1.1, allowed.contains d.layout && (!lay.2.2.2 || d.layout == o.first.layout) && placed d.layout regular p.1.2 &&
      !(o.x.opcode == 0x16 && decide (nd < p.2) && decide (p.2 - nd ≤ o.x.count2) && !strided base p.1.2 ((p.2 - nd : Nat) * step))))

/-- Check 9 of a source. -/
def check9 (p : PSet) (d : Descr) : Bool :=
  decide (d.level < p.reg) && d.limbs == d.level + 1 + (if d.extended then p.spec else 0) && decide (d.slots ≠ 0) &&
    decide (d.slots = 2 ^ Nat.log2 d.slots) && decide (d.slots ≤ if p.scheme = 0 then 2 ^ p.logN / 2 else 2 ^ p.logN)

/-- Check 10 of R37. -/
def Opened.check10 (o : Opened) (d : Dev) (j : Job) (p : PSet) (res : Descr) (readable : List Bool)
    (lists : List (List (Option (Bool × Nat × Nat)))) : Option (Nat × Nat) :=
  let nd := o.dests.length
  failCheck 10 ((o.operands.zip lists).zipIdx.map fun q =>
    let x := q.1.1.2
    let regular := if q.2 < nd then res.level + 1 else x.level + 1
    let comps := if q.2 < nd then res.components else x.components
    (q.1.1.1, readable.getD q.2 false && q.1.2.zipIdx.all fun e => d.limbOk j comps p.logN (limbSpan x.layout regular p.logN e.2) e.1))

/-! ### After the descriptor checks -/

/-- SCALE_MISMATCH (R40, R85). -/
def Opened.scaleBad (o : Opened) (p : PSet) : Bool :=
  let others := if [1, 2, 3, 4].contains o.x.opcode then (o.srcs.drop 1).map Prod.fst
    else if [0x14, 0x15, 0x16].contains o.x.opcode then o.cts.drop 1 else []
  decide (p.scheme = 0) && others.any fun d => decide (p.scaleTol < (max d.scale o.first.scale) - (min d.scale o.first.scale))

/-! ### The opening of a bootstrap (R133, R135, R138, R139, R144) -/

/-- Bits of a number. -/
def bitLen (n : Nat) : Nat := if n = 0 then 0 else Nat.log2 n + 1

/-- A row of the table of R133: REG_LIMBS, SPEC_LIMBS, DNUM and the last regular prime of 33 bits. -/
def PSet.isBts (p : PSet) (reg spec dnum last33 : Nat) : Bool :=
  p.scheme == 0 && p.logN == 16 && p.reg == reg && p.spec == spec && p.dnum == dnum &&
    p.primes.zipIdx.all fun x => bitLen x.1.1 == if x.2 = 0 ∨ reg ≤ x.2 then 35 else if x.2 ≤ last33 then 33 else 34

/-- The parameter set may be bootstrapped: BTS16-D4 or BTS16-D1 of R133, BGV16-D4 of R144. -/
def PSet.boots (p : PSet) (bgv : Bool) : Bool :=
  if bgv then p.scheme == 1 && p.logN == 16 && p.reg == 40 && p.spec == 10 && p.dnum == 4 && p.ptMod == 65537
  else p.isBts 40 10 4 30 || p.isBts 25 25 1 15

/-- SLOTS that a bootstrap accepts (R135, R144). -/
def bootSlots (bgv : Bool) (slots : Nat) : Bool :=
  if bgv then slots == 32768 else (List.range 6).any fun k => slots == 2 ^ (10 + k)

/-- LEVEL of a bootstrap's output (R135, R144). -/
def PSet.bootLevel (p : PSet) (bgv : Bool) (slots : Nat) : Nat :=
  if bgv then 13 else p.reg - 1 - 9 - 2 * cdiv (Nat.log2 slots) 5

/-- SCALE of a bootstrap's input and output: 33 in 16.16 form (R138, R139). -/
def bootScale : Nat := 0x0021_0000

/-- Steps 2 and 3 of R138 for the input, the first source. -/
def Opened.bootFault (o : Opened) (p : PSet) : Option (Nat × Nat) :=
  match o.boot with
  | none => none
  | some (bgv, _) =>
    if !(p.boots bgv && bootSlots bgv o.first.slots) then some (0x0104, 0x20 + 256)
    else if !bgv && decide (p.scaleTol < (max o.first.scale bootScale) - (min o.first.scale bootScale)) then some (0x0103, 0)
    else none

/-- A Galois element that R93 refuses. -/
def badGalois (p : PSet) (k : Nat) : Bool := decide (k % 2 = 0) || decide (2 * 2 ^ p.logN ≤ k)

/-- The elements of ROTATE_SET (R95). -/
def Opened.elements (o : Opened) (c : Core) : List Nat :=
  if o.x.opcode = 0x0F then (List.range (o.x.count + 1)).map fun i => (c.word (o.x.src2 + i)).toNat % 2 ^ 18 else []

/-- A binding of the slot that the operation consumes (R247). -/
def consumes (op count element : Nat) : Bool :=
  ((op == 0x0A || op == 0x0D || op == 0x0E) && element == 0) || (op == 0x0F && decide (element ≤ count))

/-- Conditions 5 to 8 of OP_PARAM (R101). -/
def Opened.params (o : Opened) (c : Core) (p : PSet) : Option (Nat × Nat) :=
  let op := o.x.opcode
  if (op = 0x0D ∧ badGalois p o.x.param) ∨ (op = 0x0C ∧ o.x.param = 0) then some (opParam op 1)
  else match (o.elements c).zipIdx.find? fun q => badGalois p q.1 with
  | some q => some (0x0106, op + 256 * 6 + 65536 * q.2)
  | none =>
    if (keySwitching op && decide (p.spec = 0)) || (decide (op = 0x09) && decide (p.scheme = 2) && decide (p.spec < o.ref.level + 2)) then
      some (opParam op 5)
    else if c.binds.any fun b => decide (b.slot = o.x.slot) && !b.attached && !consumes op o.x.count b.element then some (opParam op 7)
    else none

/-- Words of the shadow region that a key-switching operation needs (R119). -/
def Opened.shadow (o : Opened) (p : PSet) : Nat :=
  let n := 2 ^ p.logN
  let per := 2 * cdiv (o.ref.level + 1) 8 * n + 2 * p.spec * n / 8
  let x := if p.logN ≤ 16 then 4 * n else 57344
  if o.x.opcode = 0x0F then (o.x.count + 1) * per + cdiv (o.ref.level + 1 + p.spec - p.alpha) 8 * n + x else per + x

/-- The word ranges of limb i of an operand over its components: core, first and last word (R35, R213). -/
def limbRanges (layout regular comps n i : Nat) : Option (Bool × Nat × Nat) → List (Nat × Nat × Nat)
  | some (false, g, a) =>
    let cores := if layout = 2 ∧ regular ≤ i then (List.range 8).map fun k => g / 8 * 8 + k else [g]
    cores.flatMap fun h => (List.range comps).map fun k => (h, a + k * 2 ^ n, a + k * 2 ^ n + limbSpan layout regular n i - 1)
  | _ => []

def rangesMeet (a b : List (Nat × Nat × Nat)) : Bool :=
  a.any fun x => b.any fun y => decide (x.1 = y.1) && decide (x.2.1 ≤ y.2.2) && decide (y.2.1 ≤ x.2.2)

/-- The ranges of every limb of every operand, in operand order. -/
def Opened.ranges (o : Opened) (p : PSet) (res : Descr) (lists : List (List (Option (Bool × Nat × Nat)))) :
    List (Nat × List (List (Nat × Nat × Nat))) :=
  let nd := o.dests.length
  (o.operands.zip lists).zipIdx.map fun q =>
    let x := q.1.1.2
    let regular := if q.2 < nd then res.level + 1 else x.level + 1
    let comps := if q.2 < nd then res.components else x.components
    (q.1.1.1, q.1.2.zipIdx.map fun e => limbRanges x.layout regular comps p.logN e.2 e.1)

/-- The destination occupies the words of the first source (R82, R356). -/
def Opened.inPlace (o : Opened) (lists : List (List (Option (Bool × Nat × Nat)))) : Bool :=
  let a := lists.getD 0 []
  let b := lists.getD o.dests.length []
  inPlaceOp o.x.opcode && (match o.union with | some m => m == o.first.parties | none => true) && !a.isEmpty && !b.isEmpty &&
    (a.zip b).all fun q => q.1 == q.2

/-- OVERLAP at OP.OPEN: each destination against each source, then each earlier destination, then each operand against
the shadow region (R82, R120). -/
def Opened.overlap (o : Opened) (c : Core) (inPlace : Bool) (rs : List (Nat × List (List (Nat × Nat × Nat)))) : Option (Nat × Nat) :=
  let nd := o.dests.length
  let ds := (rs.take nd).zipIdx
  let ss := (rs.drop nd).zipIdx
  let pair (a b : List (List (Nat × Nat × Nat))) (same : Bool) : Bool :=
    a.zipIdx.any fun x => b.zipIdx.any fun y => !(same && x.2 == y.2) && rangesMeet x.1 y.1
  let one := ds.findSome? fun x =>
    ((ss.find? fun y => pair x.1.2 y.1.2 (inPlace && y.2 == 0)).map fun y => (0x0301, 256 * x.2 + y.1.1)).or
      ((ds.find? fun y => decide (y.2 < x.2) && pair x.1.2 y.1.2 false).map fun y => (0x0301, 256 * x.2 + y.1.1))
  one.or (if keySwitching o.x.opcode && decide (0 < c.shadowSize) then
    (rs.find? fun x => x.2.any fun l => l.any fun w => decide (w.2.1 < c.shadowBase + c.shadowSize) && decide (c.shadowBase ≤ w.2.2)).map
      fun x => (0x0301, 256 * x.1 + 0xFF) else none)

/-- The bootstrap that an opening begins: what its output will be, and the limbs of the destination that the job names (R139). -/
def Opened.bootOf (o : Opened) (c : Core) (g : Nat) (p : PSet) (bgv : Bool) (dst : Nat) : Boot :=
  let lv := p.bootLevel bgv o.first.slots
  let dd := c.descr dst
  { bgv := bgv, dst := dst, level := lv, keysetId := o.first.keysetId, slots := o.first.slots, psetId := o.first.psetId,
    runs := (c.limbs g dd (lv + 1)).zipIdx.flatMap fun e => (limbRanges dd.layout (lv + 1) 2 p.logN e.2 e.1).map fun w => (w.1, w.2.1, w.2.2 + 1 - w.2.1) }

/-- The destination of a bootstrap overlaps its input (R139, R82). -/
def Boot.overlaps (b : Boot) (input : List (List (Nat × Nat × Nat))) : Bool :=
  input.any fun l => rangesMeet l (b.runs.map fun r => (r.1, r.2.1, r.2.1 + r.2.2 - 1))

/-- The constants at SRC2, each reduced modulo the prime of every limb of the result (R87, R98). -/
def Opened.residues (o : Opened) (c : Core) (p : PSet) : List (List Nat) :=
  let n := if o.x.opcode = 6 ∨ o.x.opcode = 7 then 1 else if o.x.opcode = 0x15 then o.x.count + 2 else 0
  let qs := ((p.primes.take ((o.level.getD 0) + 1)) ++ (if o.extended then p.primes.drop p.reg else [])).map Prod.fst
  (List.range n).map fun k =>
    let v := sext (c.half (o.x.src2 + 2 * k) + 2 ^ 32 * c.half (o.x.src2 + 2 * k + 1)) 64
    qs.map fun q => (v % (q : Int)).toNat

/-! ### OP.OPEN as a whole (R78) -/

/-- Conditions 1 to 4 of OP_PARAM, which fix the operands (R101). -/
def OpenArgs.early (x : OpenArgs) : Option (Nat × Nat) :=
  if x.opcode = 0 ∨ 0x16 < x.opcode then some (opParam x.opcode 0)
  else if x.xout && !(x.opcode == 0x0D || x.opcode == 0x0E || x.opcode == 0x0F) then some (opParam x.opcode 4)
  else if [0x0F, 0x14, 0x15].contains x.opcode && decide (15 < x.count) then some (opParam x.opcode 2)
  else if (x.opcode = 0x16) ≠ (x.count2 ≠ 0) then some (opParam x.opcode 3)
  else none

/-- The parameter set of the first source, where the job names it. -/
def Opened.pset (o : Opened) (psets : List PSet) : Option PSet := psets.find? fun p => p.id == o.first.psetId

/-- Runs of words that OP.OPEN reads in its issue cycle: descriptors, constants and tables, limb lists; of a destination's list
as many entries as the result has limbs (R78, R81, R578). -/
def Core.openReads (c : Core) (g : Nat) (x : OpenArgs) (psets : List PSet) : List (Nat × Nat) :=
  if x.early.isSome then []
  else
    let o := x.opened c none
    let n := match o.pset psets with | some p => o.limbCount p | none => 0
    let ls := (o.dests.map fun d => (d, n)) ++ o.srcs.map fun s => (s.1, s.1.limbs)
    (x.dests.map fun a => (a, 16)) ++ (x.sources.map fun q => (q.1, 16)) ++
      (if x.tableWords = 0 then [] else [(x.src2, x.tableWords)]) ++
      ls.filterMap fun p => (c.listWord g p.1 p.2).map fun w => (w, 2 * p.2)

/-- The checks of OP.OPEN in their order: the first failure, or the opened operation (R78). DESIGN CHOICE (log 186): the DETAIL of
LEVEL_EXHAUSTED, SCALE_MISMATCH and NOISE_BOUND is 0. -/
def Dev.openOp (d : Dev) (g : Nat) (j : Job) (x : OpenArgs) (boot : Option (Bool × Nat)) (cycle serial : Nat) : Except (Nat × Nat) OpSlot :=
  let c := d.core g
  match x.early with
  | some f => .error f
  | none =>
    let o := x.opened c boot
    match o.checks1to7 j with
    | some f => .error f
    | none =>
      match o.pset j.psets with
      | none => .error (0x0104, 2 + 256)
      | some p =>
        let res := o.result p j.noiseOff
        let lists := o.lists c g res
        let inPlace := o.inPlace lists
        let rs := o.ranges p res lists
        let shadowFault := if keySwitching x.opcode && decide (c.shadowSize < o.shadow p) then
          some (0x0204, fld (o.shadow p) 0 23 + put c.shadowSize 32 23) else none
        let noiseBad := decide (p.scheme ≠ 0) && !j.noiseOff && decide (p.noiseLimit res.level res.extended < res.noise)
        let fault := (o.check8 res lists).or <| (failCheck 9 (o.sources.map fun q => (q.1, check9 p q.2.1))).or <|
          (o.check10 d j p res (o.readable c g res) lists).or <| (o.bootFault p).or <| (if o.level.isNone then some (0x0101, 0) else none).or <|
          (if o.scaleBad p then some (0x0103, 0) else none).or <| (if noiseBad then some (0x0102, 0) else none).or <|
          (o.params c p).or <| shadowFault.or <| (o.overlap c inPlace rs).or
            (match boot with
              | some b => if (o.bootOf c g p b.1 b.2).overlaps ((rs.getD o.dests.length (0, [])).2) then some (0x0301, 1) else none
              | none => none)
        match fault with
        | some f => .error f
        | none =>
          let dr := (rs.take o.dests.length).flatMap fun q => q.2.flatten
          let lo := dr.foldl (fun a w => min a w.2.1) (2 ^ 22)
          let hi := dr.foldl (fun a w => max a w.2.2) 0
          .ok { opcode := x.opcode, dst := x.dst, results := o.dests.map fun q => { res with layout := q.layout, limbList := q.limbList },
                keySwitch := keySwitching x.opcode, elements := if x.opcode = 0x0F then x.count + 1 else if keySwitching x.opcode then 1 else 0,
                level := o.ref.level, keysetId := o.ref.keysetId, psetId := o.ref.psetId, param := x.param, galois := o.elements c,
                opened := cycle, extStart := if dr.isEmpty then 0 else lo, extLen := if dr.isEmpty then 0 else hi + 1 - lo,
                cores := (List.range 128).filter fun h => rs.any fun q => q.2.any fun l => l.any fun w => decide (w.1 = h),
                dstLimbs := (dr.filter fun w => decide (w.1 = g)).map fun w => (w.2.1, w.2.2 + 1 - w.2.1),
                inPlace := inPlace, issued := false, serial := serial, closing := 2 ^ 40, residues := o.residues c p }

end Sys2Proof.Machine
end

