-- ==== Sys2Proof/Machine/Cycle.lean ====
section
/-! DEFINITION. One block cycle of a core: rings and freezes, reads and writes of the commands in flight, ECC, schedule
audit, and the stop of a block (R48, R62, R63, R83, R84, R104, R163, R165 to R169, R205, R206, R220, R224, R234,
R235, R245, R293, R295). -/

namespace Sys2Proof.Machine

/-! ### Rings (R233 to R235, R244) -/

/-- The state of a row at the post (R233). -/
def Ring.init (q : Ring) : RowState := if q.typ = 1 then .released else if q.typ = 2 then .notLanded else .free

/-- A transfer issued before the ring failed still fills row i (R244). -/
def Ring.kept (q : Ring) (i : Nat) : Bool := decide ((i + (q.rows - q.land)) % max 1 q.rows < q.keep)

/-- The state of row i of a ring: after a failure, every row, or every row that has not landed and that no issued transfer
fills, is failed (R117, R244). -/
def Ring.state (q : Ring) (i : Nat) : RowState :=
  let s := Tab.get q.init q.row i
  match q.fail with
  | none => s
  | some (all', code, detail) => if all' || ((s = .free || s = .notLanded) && !q.kept i) then .failed code detail else s

def Ring.setRow (q : Ring) (i : Nat) (s : RowState) : Ring := { q with row := Tab.set q.row i s }

/-- The row at the land pointer takes a state, and the pointer moves on. -/
def Ring.landed (q : Ring) (s : RowState) : Ring := { q.setRow q.land s with land := (q.land + 1) % max 1 q.rows, keep := q.keep - 1 }

/-- Ring r, when posted. -/
def Core.ring? (c : Core) (r : Nat) : Option Ring := (c.rings.find? fun p => p.1 = r).map Prod.snd
def Core.updRing (c : Core) (r : Nat) (u : Ring → Ring) : Core :=
  { c with rings := c.rings.map fun p => if p.1 = r then (p.1, u p.2) else p }

/-- The posted ring that holds a row: its ID, the ring and the row's index in it. -/
def Core.ringAt (c : Core) (row : Nat) : Option (Nat × Ring × Nat) :=
  c.rings.findSome? fun p => if p.2.base ≤ row ∧ row < p.2.base + p.2.rows then some (p.1, p.2, row - p.2.base) else none

/-- Rows read with REL = 0 are released in the cycle after the read (R234). -/
def Core.release (c : Core) : Core :=
  { c with rings := c.rings.map fun p =>
      (p.1, p.2.releasing.foldl (fun q i => { q.setRow i .free with drain := (i + 1) % max 1 q.rows }) { p.2 with releasing := [] }) }

/-- The header checks of a key-stream binding have still to be made: its expected tag is not ready (R116, R117). -/
def Binding.unchecked (b : Binding) : Bool := b.expected.isNone && b.bad.isNone

/-- An engine read of a row: it must wait, it fails, or it may go on (R163, R245). No word of a key stream is read before the
header checks of its binding (R117). -/
def Core.readWaits (c : Core) (row : Nat) : Option Ring :=
  match c.ringAt row with
  | some (r, q, i) =>
    if q.typ ≠ 1 ∧ (q.state i = .free ∨ q.state i = .notLanded ∨
        q.state i = .landed ∧ (c.binds.any fun b => decide (b.ring = r) && b.unchecked) = true) then some q else none
  | none => none
def Core.readFails (c : Core) (row : Nat) : Option (Nat × Nat) :=
  match c.ringAt row with
  | some (_, q, i) => match q.state i with
    | .failed code detail => some (code, detail)
    | _ => none
  | none => none
/-- An engine write of a row of an outbound ring that is not released must wait (R163). -/
def Core.writeWaits (c : Core) (row : Nat) : Option Ring :=
  match c.ringAt row with
  | some (_, q, i) => if q.typ = 1 ∧ q.state i ≠ .released then some q else none
  | none => none

/-- An engine read of a landed row of a REL = 0 ring marks it for release (R234). -/
def Core.noteRead (c : Core) (row : Nat) : Core :=
  match c.ringAt row with
  | some (r, q, i) =>
    if (q.typ = 0 ∨ q.typ = 3) ∧ !q.rel ∧ !q.releasing.contains i then c.updRing r fun q => { q with releasing := q.releasing ++ [i] }
    else c
  | none => c

/-- A write of word 63 of a row makes an outbound row ready, or a row of a region landed (R235). -/
def Core.noteWrite (c : Core) (addr : Nat) : Core :=
  if addr % 64 ≠ 63 then c
  else match c.ringAt (addr / 64) with
  | some (r, q, i) =>
    if q.typ = 1 then c.updRing r fun q => q.setRow i .ready
    else if q.typ = 2 then c.updRing r fun q => q.setRow i .landed else c
  | none => c

/-! ### ECC (R205 to R207) -/

/-- Upsets that have struck the store up to a command; environment supplies them (R205, R206). -/
def Core.strike (c : Core) (up : List Upset) : Core :=
  { c with upset := up.foldl (fun t u => if u.row < 65536 ∧ u.word < 4 then
      Tab.set t (4 * u.row + u.word) (u.uncorrectable || Tab.get false t (4 * u.row + u.word)) else t) c.upset }

/-- A codeword (16 words) holds an error: some true when uncorrectable. -/
def Core.upsetOf (c : Core) (cw : Nat) : Option Bool := (c.upset.find? fun p => p.1 = cw).map Prod.snd

/-- Codewords that an access corrects: counted, recorded, and their rows put down for rewriting (R205). -/
def Core.correct (c : Core) (cws : List Nat) : Core :=
  cws.foldl (fun c cw =>
    if c.upsetOf cw = some false then
      { c with ceCnt := satAdd 64 c.ceCnt 1, lastCe := cw / 4, ceValid := true,
               rewrite := if c.rewrite.contains (cw / 4) then c.rewrite else c.rewrite ++ [cw / 4] }
    else c) c

/-- Uncorrectable codewords found by an access (R206, R227). -/
def Core.foundUe (c : Core) (cws : List Nat) : Core :=
  cws.foldl (fun c cw =>
    if c.upsetOf cw = some true then { c with ueCnt := satAdd 64 c.ueCnt 1, lastUe := cw / 4, ueValid := true } else c) c

/-- MEM_UNCORRECTABLE detail of a row and the codewords read of it (R206). -/
def Core.ueDetail (c : Core) (row : Nat) (cws : List Nat) : Nat :=
  2 ^ 63 + row + put (maskOf 4 fun k => cws.contains (4 * row + k) && c.upsetOf (4 * row + k) == some true) 16 4

/-- Distinct values. -/
def distinct (l : List Nat) : List Nat := l.foldl (fun a x => if a.contains x then a else a ++ [x]) []

/-- A set of words is written at once: fresh check symbols for the codewords it touches, their rewrites cancelled, and
the words stored; the rows become ready or landed (R205, R206, R235). -/
def Core.store (c : Core) (l : List (Nat × Word)) : Core :=
  let c := { c with ls := l.foldl (fun t x => Tab.store 0 t x.1 x.2) c.ls,
                    upset := c.upset.filter fun p => !(l.any fun x => x.1 / 16 = p.1),
                    rewrite := c.rewrite.filter fun r => !(l.any fun x => x.1 / 64 = r) }
  l.foldl (fun c x => c.noteWrite x.1) c

/-- The codewords a set of addresses covers in part: each needs a merge read (R205). -/
def partials (l : List Nat) : List Nat :=
  (distinct (l.map fun a => a / 16)).filter fun cw => decide ((distinct (l.filter fun a => a / 16 = cw)).length < 16)

/-! ### Data through the side port (R204 to R206) -/

/-- A side-port read: correctable codewords are counted and rewritten later, an uncorrectable one delivers no data. -/
def Core.sideRead (c : Core) (l : List Nat) : Core × Option Nat :=
  let cws := distinct (l.map fun a => a % 2 ^ 22 / 16)
  let c := (c.correct cws).foundUe cws
  match cws.find? fun cw => c.upsetOf cw == some true with
  | some cw => (c, some (c.ueDetail (cw / 4) cws))
  | none => (c, none)

/-- Words written through the side port while engine writes of the present cycle are still to land: what the cycle's reads see,
and the value that remains (R204). -/
def Core.noteSide (c : Core) (l : List (Nat × Word)) : Core :=
  if c.seq.wrote then c
  else { c with side := l.foldl (fun t x => Tab.set t x.1 ((Tab.get (c.word x.1, 0) t x.1).1, x.2)) c.side }

/-- The store as the engine reads of the present cycle see it, and as the side port leaves it (R204). -/
def Core.sideHidden (c : Core) : Core := { c with ls := c.side.foldl (fun t p => Tab.store 0 t p.1 p.2.1) c.ls }
def Core.sideShown (c : Core) : Core := { c with ls := c.side.foldl (fun t p => Tab.store 0 t p.1 p.2.2) c.ls }

/-- A side-port write: words that would be merged into an uncorrectable codeword are not written. -/
def Core.sideWrite (c : Core) (l : List (Nat × Word)) : Core × Option Nat :=
  let part := partials (l.map Prod.fst)
  let c := (c.correct part).foundUe part
  let bad := part.filter fun cw => c.upsetOf cw == some true
  let ok := l.filter fun x => !bad.contains (x.1 / 16)
  ((c.noteSide ok).store ok, (bad.head?).map fun cw => c.ueDetail (cw / 4) bad)

/-! ### Accesses of a cycle -/

/-- Reads that commands in flight make in block cycle r: command, key, address. -/
def Core.readsAt (c : Core) (r : Nat) : List (InFlight × Nat × Nat) :=
  c.inflight.flatMap fun f => ((f.op.reads f.cap).filter fun x => f.issue + x.1 = r).map fun x => (f, x.2.1, x.2.2)

/-- Local-store writes of block cycle r, in issue order: command, address, result index. -/
def Core.writesAt (c : Core) (r : Nat) : List (InFlight × Nat × Nat) :=
  c.inflight.flatMap fun f => ((f.op.writes f.cap).filter fun x => f.issue + x.1 = r).map fun x => (f, x.2.1, x.2.2)

/-- Register writes of block cycle r: command and register. -/
def Core.regsAt (c : Core) (r : Nat) : List (InFlight × Nat) :=
  c.inflight.filterMap fun f => match f.op.regOut with
    | some (v, lat) => if f.issue + lat = r then some (f, v) else none
    | none => none

/-- The rows of R104 by which a stop treats commands in flight and operands. -/
inductive StopKind where
  /-- a key fault: commands in flight complete, every operand is unchanged (R117, R118) -/
  | key
  /-- a check at a bundle's issue: commands in flight complete and their words hold; in-place operands are undefined (R51) -/
  | check
  /-- MEM_UNCORRECTABLE or STREAM_TIMEOUT: commands in flight are cancelled; before the commit point of a key-switching
  operation every operand is unchanged -/
  | memory
  /-- as STREAM_TIMEOUT at any other point -/
  | point
  /-- SCHEDULE_HAZARD: outside an operation nothing is undefined (R168) -/
  | hazard
  deriving DecidableEq, Repr

/-- Why a block stops: code and detail of the record, its treatment, the issue order of the offending command (0: none, as
for an operation that failed to open), and the codewords found uncorrectable (R206, R224). -/
structure Stop where
  code : Nat
  detail : Nat
  kind : StopKind
  order : Nat
  found : List Nat
  deriving DecidableEq, Repr

/-- The commands in flight are cancelled (R104, R165). -/
def Stop.cancel (s : Stop) : Bool := s.kind == .memory || s.kind == .point || s.kind == .hazard
/-- A stop of a kind. -/
def Stop.of (kind : StopKind) (code detail order : Nat) : Stop := { code := code, detail := detail, kind := kind, order := order, found := [] }
/-- A failed row: key faults leave every operand unchanged, others are as R104 gives for MEM_UNCORRECTABLE (R117, R118, R245). -/
def Stop.row (code detail order : Nat) : Stop := .of (if code / 256 = 2 then .key else .memory) code detail order

/-- A reader of words in a cycle: issue order, slot code, bundle, and the addresses it reads. -/
abbrev Access := Nat × Nat × Nat × List Nat

/-- The first read of a list that fails: a failed row, else an uncorrectable codeword (R206, R245). -/
def Core.accessStop (c : Core) (a : Access) : Option Stop :=
  let rows := distinct (a.2.2.2.map fun x => x / 64)
  rows.findSome? fun row =>
    match c.readFails row with
    | some (code, detail) => some (.row code detail a.1)
    | none =>
      let cws := distinct ((a.2.2.2.filter fun x => x / 64 = row).map fun x => x / 16)
      if cws.any fun cw => c.upsetOf cw == some true then
        some { code := 0x0501, detail := c.ueDetail row cws, kind := .memory, order := a.1, found := cws } else none

/-- The in-flight accesses of cycle r as readers: reads, then merge reads of partial writes. -/
def Core.accesses (c : Core) (r : Nat) : List Access :=
  let rd := c.readsAt r
  let wr := c.writesAt r
  (c.inflight.filterMap fun f =>
    let l := (rd.filter fun x => x.1.order = f.order).map fun x => x.2.2
    if l.isEmpty then none else some (f.order, f.slot, f.bundle, l)) ++
  (c.inflight.filterMap fun f =>
    let l := (partials ((wr.filter fun x => x.1.order = f.order).map fun x => x.2.1)).map fun cw => 16 * cw
    if l.isEmpty then none else some (f.order, f.slot, f.bundle, l))

/-! ### Schedule audit (R167, R168) -/

/-- SCHEDULE_HAZARD (R168): slot and bundle of the offender, kind, register or row, bundle of the other command. -/
def hazard (order slot bundle kind : Nat) (reg : Bool) (other what : Nat) : Stop :=
  { code := 0x0401, kind := .hazard, order := order, found := [],
    detail := slot + put kind 8 4 + put (b2n reg) 12 1 + put bundle 16 16 + put other 32 16 + put what 48 16 }

/-- Kind 1: a read of a row whose write by an earlier-issued command is not yet visible. -/
def Core.readHazard (c : Core) (r order slot bundle row : Nat) : Option Stop :=
  (c.inflight.find? fun b => decide (b.order < order) &&
    (b.op.writes b.cap).any fun w => decide (r ≤ b.issue + w.1) && decide (w.2.1 / 64 = row)).map
      fun b => hazard order slot bundle 1 false b.bundle row

/-- Kind 1 for a vector register. -/
def Core.regHazard (c : Core) (r order slot bundle v : Nat) : Option Stop :=
  (c.inflight.find? fun b => decide (b.order < order) && match b.op.regOut with
    | some (w, lat) => decide (w = v) && decide (r ≤ b.issue + lat)
    | none => false).map fun b => hazard order slot bundle 1 true b.bundle v

/-- Kinds 2 and 3 of the row writes of cycle r. -/
def Core.writeHazard (c : Core) (r : Nat) : Option Stop :=
  let ws := distinctRows ((c.writesAt r).map fun x => (x.1, x.2.1 / 64)) []
  ws.findSome? fun x =>
    let a := x.1
    match c.inflight.find? fun b => decide (b.order < a.order) &&
        (b.op.reads b.cap).any fun y => decide (r < b.issue + y.1) && decide (y.2.2 / 64 = x.2) with
    | some b => some (hazard a.order a.slot a.bundle 2 false b.bundle x.2)
    | none =>
      match c.stamps.find? fun p => decide (p.1 = x.2) && decide (a.order < p.2.order) with
      | some p => some (hazard a.order a.slot a.bundle 3 false p.2.bundle x.2)
      | none => (ws.find? fun y => decide (y.2 = x.2) && decide (a.order < y.1.order)).map
          fun y => hazard a.order a.slot a.bundle 3 false y.1.bundle x.2
where
  /-- each command and row once -/
  distinctRows : List (InFlight × Nat) → List (InFlight × Nat) → List (InFlight × Nat)
    | [], acc => acc
    | x :: t, acc => distinctRows t (if acc.any fun y => decide (y.1.order = x.1.order) && decide (y.2 = x.2) then acc else acc ++ [x])

/-- Kind 3 of the register writes of cycle r. -/
def Core.regWriteHazard (c : Core) (r : Nat) : Option Stop :=
  (c.regsAt r).findSome? fun x =>
    match c.stamps.find? fun p => decide (p.1 = 65536 + x.2) && decide (x.1.order < p.2.order) with
    | some p => some (hazard x.1.order x.1.slot x.1.bundle 3 true p.2.bundle x.2)
    | none => ((c.regsAt r).find? fun y => decide (y.2 = x.2) && decide (x.1.order < y.1.order)).map
        fun y => hazard x.1.order x.1.slot x.1.bundle 3 true y.1.bundle x.2

/-- The first hazard of the commands in flight in cycle r, when the job runs under audit. -/
def Core.auditStop (c : Core) (r : Nat) : Option Stop :=
  if !c.seq.audit then none
  else ((c.readsAt r).findSome? fun x => c.readHazard r x.1.order x.1.slot x.1.bundle (x.2.2 / 64)).or
    ((c.writeHazard r).or (c.regWriteHazard r))

/-! ### What ends or holds a cycle -/

/-- The list phase of a gather or scatter fails in the cycle after it (R220). -/
def Core.listStop (c : Core) (r : Nat) : Option Stop :=
  c.inflight.findSome? fun f => match f.op with
    | .list _ _ e _ _ sh _ =>
      if f.issue + cdiv e 8 + 1 = r then
        ((List.range e).find? fun i => coordBad sh f.cap i).map fun i =>
          .of .point 0x0303 (f.slot + put 3 8 8 + put f.bundle 16 16 + put i 32 32) f.order
      else none
    | _ => none

/-- Tiles that enter the finished-tile queue in a cycle, in issue order (R62). -/
def Core.tilesAt (c : Core) (r : Nat) : List (InFlight × Nat) :=
  c.inflight.flatMap fun f => (f.op.tiles.filter fun t => f.issue + t.1 = r).map fun t => (f, t.2)
/-- A tile deposit into a full queue (R63). DESIGN CHOICE (log 187): the bundle index reported is that of the depositing
command. -/
def Core.tileStop (c : Core) (r : Nat) : Option Stop :=
  match (c.tilesAt r).drop (16 - c.tiles.length) with
  | x :: _ => some (.of .check 0x0404 (3 + put x.1.bundle 16 16) x.1.order)
  | [] => none

/-- Egress words of cycle r: command, target, address (R293). -/
def Core.sendsAt (c : Core) (r : Nat) : List (InFlight × Nat × Nat × Nat) :=
  (c.readsAt r).filterMap fun x => match x.1.op with
    | .send _ target dst _ _ => some (x.1, target, (dst + x.2.1) % 2 ^ 22, x.2.2)
    | _ => none
/-- EXCHANGE_OVERRUN: a word finds the egress buffer full (R295). -/
def Core.egressStop (c : Core) (r : Nat) : Option Stop :=
  match (c.sendsAt r).drop (32768 - c.egress.length) with
  | x :: _ => some (.of .point 0x0604 (x.2.1 + put x.1.bundle 16 16) x.1.order)
  | [] => none

/-- An OP.OPEN failed: the block stops in cycle 8 after its issue (R78). -/
def Core.openStop (c : Core) (r : Nat) : Option Stop :=
  match c.seq.openFault with
  | some (at', code, detail) => if at' = r then some (.of .check code detail 0) else none
  | none => none

/-- What the accesses and landings of cycle r stop the block for; a block that has stopped does not stop again while its commands in
flight finish (R152). -/
def Core.stopAt (c : Core) (r : Nat) : Option Stop :=
  if c.seq.halted then none
  else ((c.accesses r).findSome? c.accessStop).or <| (c.auditStop r).or <| (c.tileStop r).or (c.egressStop r)

/-- What stops the block before anything of cycle r takes place, a failed OP.OPEN or list phase (R78, R220). -/
def Core.firstStop (c : Core) (r : Nat) : Option Stop := if c.seq.halted then none else (c.listStop r).or (c.openStop r)

/-- A row that a command in flight waits for in cycle r: the ring, the command and the row (R163). -/
def Core.waitAt (c : Core) (r : Nat) : Option (Ring × InFlight × Nat) :=
  ((c.readsAt r).findSome? fun x => (c.readWaits (x.2.2 / 64)).map fun q => (q, x.1, x.2.2 / 64)).or
    ((c.writesAt r).findSome? fun x => (c.writeWaits (x.2.1 / 64)).map fun q => (q, x.1, x.2.1 / 64))

/-! ### Entering and finishing a cycle -/

/-- The word that an engine reads. A codeword that is uncorrectable delivers none; only a command that finishes after its block
has stopped gets as far, and the value it reads is free (R206). -/
def Core.readWord (c : Core) (a : Nat) : Word :=
  if c.upsetOf (a % 2 ^ 22 / 16) = some true then BitVec.ofNat 36 (Config.undefWord (c.ueCnt + 2 ^ 64 * c.dispatchCnt) a) else c.word a

/-- The egress words of cycle r that fit are placed in the buffer (R293, R295). -/
def Core.placeSends (c : Core) (r : Nat) : Core :=
  let eg := ((c.sendsAt r).take (32768 - c.egress.length)).map fun x => (x.2.1, x.2.2.1, c.word x.2.2.2)
  { c with egress := c.egress ++ eg, egressHwm := max c.egressHwm (min 0xFFFF (c.egress.length + eg.length)) }

/-- The words of cycle r are captured, egress words placed, ECC counted, busy cycles counted (R75, R162, R205, R228, R293). -/
def Core.capture (c : Core) (r : Nat) : Core :=
  let cws := distinct ((c.accesses r).flatMap fun a => a.2.2.2.map fun x => x / 16)
  let corrected := cws.any fun cw => c.upsetOf cw == some false
  let rows := distinct ((c.readsAt r).map fun x => x.2.2 / 64)
  let take (f : InFlight) : InFlight :=
    let cap := ((f.op.reads f.cap).filter fun x => f.issue + x.1 = r).foldl (fun t x => Tab.set t x.2.1 (c.readWord x.2.2)) f.cap
    let cap := (f.op.consts.filter fun x => f.issue + x.1 = r).foldl (fun t x => Tab.set t x.2.1 (c.cbuf.getD x.2.2 0)) cap
    { f with cap := cap }
  let flight := c.inflight.map take
  let c := ((rows.foldl Core.noteRead (c.placeSends r)).correct cws).foundUe cws
  let busy (e n : Nat) : Nat := if Tab.get 0 c.counted e < r ∧ r ≤ Tab.get 0 c.freeAt e then satAdd 64 n 1 else n
  { c with inflight := flight, side := [],
           nttBusy := busy 0 c.nttBusy, bcvBusy := busy 1 c.bcvBusy, prmBusy := busy 4 c.prmBusy,
           eccFreeze := if corrected then satAdd 64 c.eccFreeze 1 else c.eccFreeze,
           seq := { c.seq with cycle := r, wrote := false, cur := none, eccAt := if corrected then some r else c.seq.eccAt,
                               auditRun := if c.seq.audit then c.seq.auditRun + 1 else 0 } }

/-- A word that a command writes at an address: OP.CLOSE keeps LAYOUT and LIMB_LIST as software wrote them (R79). -/
def Core.landWord (c : Core) (f : InFlight) (a i : Nat) : Word :=
  match f.op with
  | .close _ _ =>
    if i % 16 = 7 then BitVec.ofNat 36 ((f.op.value c.ptab f.cap i).toNat / 256 * 256 + c.half a % 256)
    else if i % 16 = 8 ∨ i % 16 = 9 then c.word a
    else f.op.value c.ptab f.cap i
  | _ => f.op.value c.ptab f.cap i

/-- The writes of cycle r that take place: a write of part of an uncorrectable codeword fails, and the codeword stays as it is
(R206). -/
def Core.landsAt (c : Core) (r : Nat) : List (InFlight × Nat × Nat) :=
  let wr := c.writesAt r
  let bad (f : InFlight) : List Nat :=
    (partials ((wr.filter fun x => x.1.order = f.order).map fun x => x.2.1)).filter fun cw => c.upsetOf cw == some true
  let lost := (c.inflight.map fun f => (f.order, bad f)).filter fun p => !p.2.isEmpty
  wr.filter fun x => !(lost.any fun p => decide (p.1 = x.1.order) && p.2.contains (x.2.1 / 16))

/-- The writes of the present cycle take place: local store, registers, tiles, constant buffer, shape table and permute
parameters; a word that the side port has written in the cycle keeps that value; commands that have done everything leave
(R48, R62, R184, R204). -/
def Core.land (c : Core) : Core :=
  if c.seq.wrote then c
  else
    let r := c.seq.cycle
    let ws := ((c.landsAt r).filter fun x => !(c.side.any fun p => p.1 = x.2.1)).map fun x => (x.2.1, c.landWord x.1 x.2.1 x.2.2)
    let regs := (c.regsAt r).map fun x => (x.2, (List.range 128).map fun i => x.1.op.value c.ptab x.1.cap i, x.1)
    let tl := (c.tilesAt r).map fun x => x.1.op.tileWords c.ptab x.1.cap x.2
    let kexW := ((c.writesAt r).filter fun x => match x.1.op with | .kex _ _ _ _ _ _ _ _ _ => true | _ => false).length
    let kexT := (((c.tilesAt r).take (16 - c.tiles.length)).filter fun x => match x.1.op with | .kex _ _ _ _ _ _ _ _ _ => true | _ => false).length
    let cb := c.inflight.findSome? fun f => match f.op.cbufAt with
      | some n => if f.issue + n = r then some ((List.range f.op.ldmWords).map fun k => Tab.get 0 f.cap k) else none
      | none => none
    let stamp (t : Tab Stamp) (k : Nat) (f : InFlight) : Tab Stamp := Tab.set t k { cycle := r, order := f.order, bundle := f.bundle }
    let stamps := if c.seq.audit then
      regs.foldl (fun t x => stamp t (65536 + x.1) x.2.2) ((c.writesAt r).foldl (fun t x => stamp t (x.2.1 / 64) x.1) c.stamps)
      else c.stamps
    let written := ws.foldl (fun t x => Tab.set t x.1 r) c.written
    let c := c.store ws
    { c with vregs := regs.foldl (fun t x => Tab.set t x.1 x.2.1) c.vregs, tiles := (c.tiles ++ tl).take 16,
             tileHwm := max c.tileHwm (min 16 (c.tiles.length + tl.length)), kexWords := satAdd 64 c.kexWords (kexW + 512 * kexT),
             cbuf := cb.getD c.cbuf, stamps := stamps, written := written,
             shapes := c.newShapes.foldl (fun t p => Tab.set t p.1 p.2) c.shapes, newShapes := [],
             px := c.newPx.foldl (fun t p => Tab.set t p.1 p.2) c.px, newPx := [],
             side := [], inflight := c.inflight.filter fun f => decide (r < f.issue + f.op.last),
             seq := { c.seq with wrote := true } }

end Sys2Proof.Machine
end

