-- ==== Sys2Proof/Machine/Groups.lean ====
section
/-! DEFINITION. Key objects and the rows of a key stream, bindings and the membership of key-stream groups
(R105 to R112, R116, R121 to R125, R247, R580). -/

namespace Sys2Proof.Machine

/-! ### Key headers (R108) -/

structure KeyHdr where
  magic : Nat
  version : Nat
  kind : Nat
  seeded : Bool
  fore : Bool
  logN : Nat
  tag : Nat
  keyset : Nat
  pset : Nat
  lo : Nat
  hi : Nat
  galois : Nat
  digits : Nat
  alpha : Nat
  reg : Nat
  spec : Nat
  chunkLog : Nat
  chunks : Nat
  body : Nat
  seed : List Byte
  check : Nat
  deriving DecidableEq, Repr

def keyHdr (b : List Byte) : KeyHdr :=
  { magic := numAt b 0 4, version := numAt b 4 1, kind := numAt b 5 1, seeded := bit (numAt b 6 1) 0, fore := bit (numAt b 6 1) 1,
    logN := numAt b 7 1, tag := numAt b 8 8, keyset := numAt b 0x10 8, pset := numAt b 0x18 2, lo := numAt b 0x1A 1, hi := numAt b 0x1B 1,
    galois := numAt b 0x1C 4, digits := numAt b 0x20 1, alpha := numAt b 0x21 1, reg := numAt b 0x22 1, spec := numAt b 0x23 1,
    chunkLog := numAt b 0x24 1, chunks := numAt b 0x28 4, body := numAt b 0x30 8, seed := bytesAt b 0x40 32, check := numAt b 0x60 4 }

/-- "KEYTAG01", "CHKTAG01" and "HNTKEYS1" (R111, R112, R114). -/
def asciiKeyTag : List Byte := [0x4B, 0x45, 0x59, 0x54, 0x41, 0x47, 0x30, 0x31]
def asciiChunkTag : List Byte := [0x43, 0x48, 0x4B, 0x54, 0x41, 0x47, 0x30, 0x31]
def asciiSeedCheck : List Byte := [0x48, 0x4E, 0x54, 0x4B, 0x45, 0x59, 0x53, 0x31]

/-- The key tag (R111). -/
def keyTag (keyset pset kind lo hi galois : Nat) : Nat :=
  leNat ((sha256 (asciiKeyTag ++ leBytes 8 keyset ++ leBytes 2 pset ++ leBytes 1 kind ++ leBytes 1 lo ++ leBytes 1 hi ++ [0] ++ leBytes 4 galois)).take 8)
/-- The chunk tag of chunk i (R112). -/
def chunkTag (tag i : Nat) : Nat := leNat ((sha256 (asciiChunkTag ++ leBytes 8 tag ++ leBytes 4 i)).take 8)
/-- SEED_CHECK (R114). -/
def seedCheck (seed : List Byte) : Nat := leNat (shake256 (asciiSeedCheck ++ seed) 4)

/-! ### Rows of a key stream (R109, R110, R121) -/

/-- Payload bytes of a chunk (R110). -/
def payload : Nat := 1048512

/-- Halves per prime: a forerunner key stores two (R109). -/
def KeyHdr.halves (h : KeyHdr) : Nat := if h.fore then 2 else 1
/-- Rows of one limb. -/
def KeyHdr.limbRows (h : KeyHdr) : Nat := 2 ^ h.logN / 64
/-- Limbs that a stream for level ℓ reads of one digit. -/
def KeyHdr.digitLimbs (h : KeyHdr) (level : Nat) : Nat := (level + 1 + h.spec) * h.halves
/-- Rows of a stream for level ℓ: digits 0 to ⌈(ℓ + 1)/α⌉ − 1 (R121). -/
def KeyHdr.rows (h : KeyHdr) (level : Nat) : Nat := cdiv (level + 1) h.alpha * h.digitLimbs level * h.limbRows

/-- Prime position within the stream's digit of a stream row. -/
def KeyHdr.primeOf (h : KeyHdr) (level row : Nat) : Nat := row / h.limbRows % h.digitLimbs level / h.halves

/-- Byte offset in the body of a stream row: regular limbs above ℓ are skipped (R109, R121). -/
def KeyHdr.offset (h : KeyHdr) (level row : Nat) : Nat :=
  let limb := row / h.limbRows
  let d := limb / h.digitLimbs level
  let p := h.primeOf level row
  let pos := d * (h.reg + h.spec) + (if p ≤ level then p else h.reg + (p - level - 1))
  (pos * h.halves + limb % h.digitLimbs level % h.halves) * (2 ^ h.logN * 9 / 2) + row % h.limbRows * 288

/-- The core of each cluster that a stream row goes to (R121). -/
def KeyHdr.coreOf (h : KeyHdr) (level row : Nat) : Nat :=
  let p := h.primeOf level row
  if p ≤ level then p % 8 else row % h.limbRows * 512 / 2 ^ h.logN

/-- The chunks that a stream row lies in: first and last. -/
def KeyHdr.chunkOf (h : KeyHdr) (level row : Nat) : Nat := h.offset level row / payload
def KeyHdr.chunkEnd (h : KeyHdr) (level row : Nat) : Nat := (h.offset level row + 287) / payload

/-- Device address of chunk i of a key object (R107). -/
def chunkAddr (base i : Nat) : Nat := base + 0x1000 + i * 0x100000

/-- The first row at or after `row` that goes to core k of a cluster; none when no further row of the stream does (R121). -/
def KeyHdr.nextRow (h : KeyHdr) (level k row : Nat) : Nat → Option Nat
  | 0 => none
  | n + 1 =>
    if h.rows level ≤ row then none
    else if h.coreOf level row = k then some row
    else
      let base := row / h.limbRows * h.limbRows
      if h.primeOf level row ≤ level ∨ k * h.limbRows / 8 ≤ row - base then h.nextRow level k (base + h.limbRows) n
      else h.nextRow level k (base + k * h.limbRows / 8) n

/-- Where a stream row stands in HBM: address and length, with the chunk head between its parts when it straddles chunks
(R107, R110). -/
def KeyHdr.span (h : KeyHdr) (level base row : Nat) : Nat × Nat :=
  let o := h.offset level row
  (chunkAddr base (o / payload) + 64 + o % payload, if payload < o % payload + 288 then 352 else 288)

/-- The bytes of a stream row, without the chunk head between its parts (R110). -/
def KeyHdr.join (h : KeyHdr) (level row : Nat) (b : List Byte) : List Byte :=
  if b.length = 288 then b
  else
    let first := payload - h.offset level row % payload
    b.take first ++ b.drop (first + 64)

/-- The first stream row with a byte in chunk i or a later one (R121). -/
def KeyHdr.firstRow (h : KeyHdr) (level i : Nat) : Nat :=
  ((List.range (cdiv (level + 1) h.alpha * h.digitLimbs level)).findSome? fun l =>
    let r := cdiv (i * payload - 287 - h.offset level (l * h.limbRows)) 288
    if r < h.limbRows then some (l * h.limbRows + r) else none).getD (h.rows level)

/-- The bytes of chunk i of a key object: its head and its payload (R107, R110). -/
def KeyHdr.chunkBytes (h : KeyHdr) (i : Nat) : Nat := 64 + min payload (h.body - i * payload)

/-! ### Bindings and membership -/

/-- The bindings of a group on its die that still receive: core and binding. -/
def Dev.bindings (d : Dev) (die n : Nat) : List (Nat × Binding) :=
  (List.range 64).flatMap fun k => ((d.core (64 * die + k)).binds.filter fun b => b.group = n ∧ !b.ended).map fun b => (64 * die + k, b)

/-- The bindings of a core that satisfy a condition are changed. -/
def Core.updBinds (c : Core) (p : Binding → Bool) (u : Binding → Binding) : Core :=
  { c with binds := c.binds.map fun b => if p b then u b else b }

/-- A group whose multicast has no member left is in catch-up, and idle when nothing is bound to it (R125). -/
def Dev.groupSettle (d : Dev) (die n : Nat) : Dev :=
  let x := d.group die n
  let st := if x.state = 2 ∧ x.active = 0 then 3 else x.state
  let st := if st = 3 ∧ ((d.bindings die n).all fun p => p.2.bad.isSome) then 0 else st
  let d := d.setGroup die n { x with state := st }
  if st = 2 then d else d.updMem fun m => m.forget fun w => decide (w = .group die n)

/-- The chunk from which catch-up continues: that of the next row, or none for the header (R124). -/
def Binding.chunk (b : Binding) : Option Nat := b.header.map fun h => (keyHdr h).chunkOf b.level b.pos

/-- A cluster is a member that the group waits for or that receives its multicast (R123, R124, R125). -/
def Group.memberNow (x : Group) (m : Nat) : Bool :=
  (decide (x.state = 1) || decide (x.state = 2)) && bit x.members m && !bit x.dropped m && !bit x.left m

/-- A binding's stream goes on by catch-up: from the header, or from the head of the chunk in which delivery stopped, whose
words already delivered are discarded (R124). -/
def Binding.catchUp (b : Binding) : Binding :=
  match b.header, b.chunk with
  | some h, some i => { b with catchup := some i, recheck := some i, seen := b.pos, pos := (keyHdr h).firstRow b.level i }
  | _, _ => { b with catchup := some 0 }

/-- A member cluster no longer receives by multicast: its cores complete by catch-up, and the others wait for it no longer
(R124, R125, R248). -/
def Dev.leaveMember (d : Dev) (die n m : Nat) : Dev :=
  let d := d.updGroup die n fun x =>
    let left := withBit x.left m true
    { x with active := withBit x.active m false, left := left, stalled := x.stalled.filter fun p => p.1 ≠ m,
             state := if x.state = 1 ∧ (bitsOf 8 x.members).all (bit (x.subscribed ||| x.dropped ||| left)) then 2 else x.state }
  let d := d.forAll (List.range 8) fun d k => d.updCore (64 * die + 8 * m + k) fun c =>
    c.updBinds (fun b => decide (b.group = n) && b.catchup.isNone && !b.ended) Binding.catchUp
  d.groupSettle die n

/-- A binding ends: its seed register is emptied and its slot and element are free again (R247). -/
def Dev.endBinding (d : Dev) (g : Nat) (b : Binding) : Dev :=
  let d := d.updCore g fun c =>
    { c with binds := c.binds.filter fun x => x.sreg ≠ b.sreg, seeds := Tab.set c.seeds b.sreg SeedReg.empty }
  let d := d.updMem fun m => m.forget fun w => decide (w = .catchup g b.sreg)
  d.groupSettle (g / 64) b.group

/-- The cluster of a core leaves the groups that the core is bound to, without MULTICAST_DROPPED (R125, R249). -/
def Dev.leaveBound (d : Dev) (g : Nat) : Dev :=
  ((d.core g).binds.filter fun b => !b.ended).foldl (fun d b => d.leaveMember (g / 64) b.group (g / 8 % 8)) d

/-- The block of a core stops: its cluster leaves every group that it is a member of, without MULTICAST_DROPPED, and the
bindings of the core's operations end (R125, R247). -/
def Dev.leaveGroups (d : Dev) (g : Nat) : Dev :=
  let d := d.forAll (List.range 32) fun d n =>
    if (d.group (g / 64) n).memberNow (g / 8 % 8) then d.leaveMember (g / 64) n (g / 8 % 8) else d
  ((d.core g).binds.filter fun b => b.attached).foldl (fun d b => d.endBinding g b) d

/-- A ring's rows that have not landed are failed, but for the `keep` rows that issued transfers still fill: with a code and
detail (R244), or every row when the header failed, whatever failed before (R117). -/
def Core.failRing (c : Core) (r : Nat) (all' : Bool) (keep code detail : Nat) : Core :=
  c.updRing r fun q =>
    if (match q.fail with | some (whole, _, _) => whole || !all' | none => false) then q
    else { q with fail := some (all', code, detail), keep := keep }

end Sys2Proof.Machine
end

