-- ==== Sys2Proof/Machine/Block.lean ====
section
/-! DEFINITION. The course of a block: the check of a bundle in its issue cycle, freezes, the advance of the block
cycle, the stop of a block, and the cluster exchange (R36, R51, R78, R83, R84, R104, R125, R140, R146 to R152, R162 to R165, R179,
R194, R224, R292 to R297). -/

namespace Sys2Proof.Machine

/-! ### The stop of a block -/

/-- Values that nothing defines: the words of a list of addresses become free values (R224). -/
def Core.undefine (c : Core) (n : Nat) (l : List Nat) : Core :=
  { c with ls := l.foldl (fun t a => Tab.store 0 t a (BitVec.ofNat 36 (Config.undefWord n a))) c.ls }

/-- The key streams of an operation have passed every chunk check: its commit point (R92). -/
def Core.committed (c : Core) (slot elements : Nat) : Bool :=
  decide (elements ≤ (c.binds.filter fun b => decide (b.slot = slot) && b.attached && b.tagsOk).length)

/-- A key-switching operation that has not committed (R92, R104). -/
def Core.held (c : Core) (o : OpSlot) : Bool :=
  match c.ops.find? fun p => p.2.serial = o.serial with
  | some p => o.keySwitch && !c.committed p.1 o.elements
  | none => false

/-- The operation that holds a command: of those opened before it and not closed before it, the latest opened (R77). DESIGN
CHOICE (log 188): the specification does not say which, when several are open. -/
def Core.opOf (c : Core) (order : Nat) : Option OpSlot :=
  ((c.ops.map Prod.snd ++ c.closed).filter fun o => decide (o.serial < order) && decide (order ≤ o.closing)).foldl (fun a o => match a with
    | some q => if q.serial < o.serial then some o else a
    | none => some o) none

/-- Addresses of the destination limbs of an operation on this core. -/
def OpSlot.words (o : OpSlot) : List Nat := o.dstLimbs.flatMap fun r => (List.range r.2).map fun i => r.1 + i

/-- The commands that a stop outside an operation cancels: all in flight, but for the gather or scatter whose own list failed,
which moves no data word (R220, R224). -/
def Core.cancelled (c : Core) (s : Stop) : List InFlight :=
  if s.kind = .hazard then [] else if s.code = 0x0303 then c.inflight.filter fun f => decide (f.order ≠ s.order) else c.inflight

/-- What a stop does to the destination of the operation it lies in: 0 nothing, 1 undefined when in place, 2 undefined (R51,
R104). -/
def Core.harm (c : Core) (s : Stop) (o : OpSlot) : Nat :=
  match s.kind with
  | .key => 0
  | .check => 1
  | .memory => if c.held o then 0 else 2
  | _ => 2

/-- The same of an operation that the stop lies in here, or on another core of a cluster operation (R83, R224); none for an
operation that is only abandoned. -/
def Core.harmTo (c : Core) (s : Stop) (o : OpSlot) : Option Nat :=
  let own := if (c.opOf s.order).any fun q => q.serial = o.serial then some (c.harm s o) else none
  let peer := c.seq.peerOp.bind fun p => if c.ops.any fun q => decide (q.1 = p.1) && decide (q.2.serial = o.serial) then some p.2 else none
  match own, peer with
  | some a, some b => some (max a b)
  | a, b => a.or b

/-- Words of an operation's destination that a stop leaves undefined (R84, R104, R224): those the operation has written keep their
values when its commands are cancelled; an abandoned operation loses all once a command of it has issued. -/
def Core.lostOf (c : Core) (s : Stop) (o : OpSlot) : List Nat :=
  let fresh (a : Nat) : Bool := match c.written.find? fun p => p.1 = a with
    | some p => decide (p.2 < o.opened)
    | none => true
  match c.harmTo s o with
  | some 0 => []
  | some 1 => if o.inPlace then o.words else []
  | some _ => if o.inPlace || !s.cancel then o.words else o.words.filter fresh
  | none => if o.inPlace || o.issued then o.words else []

/-- Words left undefined by a stop: of open operations and of the closed one it lies in, or of the commands that it cancels
outside an operation, those not yet written. A descriptor that OP.CLOSE has still to write stays as it was (R36). -/
def Core.lost (c : Core) (s : Stop) : List Nat :=
  let r := c.seq.cycle
  let own := c.opOf s.order
  let cmds := if s.cancel ∧ own.isNone then
    ((c.cancelled s).filter fun f => f.op.dest.isSome).flatMap fun f =>
      ((f.op.writes f.cap).filter fun w => decide (r < f.issue + w.1)).map fun w => w.2.1 else []
  (c.ops.map Prod.snd ++ c.closed.filter fun o => own.any fun q => q.serial = o.serial).flatMap (c.lostOf s) ++ cmds

/-- The undefined extent of the record (R51, R92, R104, R224): start and length. -/
def Core.extent (c : Core) (s : Stop) : Nat × Nat :=
  if !s.cancel then (0, 0)
  else match c.opOf s.order with
  | some o => if c.harm s o = 0 then (0, 0) else (o.extStart, o.extLen)
  | none =>
    let ds := (c.cancelled s).filterMap fun f => f.op.dest
    match ds with
    | [] => (0, 0)
    | x :: t =>
      let r := t.foldl (fun a y => (min a.1 y.1, max a.2 y.2)) x
      (r.1.toNat, (r.2 + 1 - r.1).toNat)

/-- Words of a core become undefined. -/
def Dev.undefine (d : Dev) (g : Nat) (l : List Nat) : Dev :=
  if l.isEmpty then d else { d.updCore g (fun c => c.undefine d.freeCtr l) with freeCtr := d.freeCtr + 1 }

/-- The kernels of a bootstrap (R133, R144). -/
def bootKernel (b : BlockEntry) : Bool := b.kernel && (decide (0x0B01 ≤ b.kid) && decide (b.kid ≤ 0x0B06) || decide (0x0B11 ≤ b.kid) && decide (b.kid ≤ 0x0B13))

/-- A block of a bootstrap has stopped: the bootstrap is abandoned on every core of its destination, which is undefined over its
whole extent (R140). -/
def Dev.abandonBoot (d : Dev) (g : Nat) : Dev :=
  let c := d.core g
  match c.boot with
  | none => d
  | some b =>
    if c.seq.running.any bootKernel then
      let d := b.runs.foldl (fun d r => d.undefine r.1 ((List.range r.2.2).map fun i => r.2.1 + i)) d
      d.forAll (distinct (g :: b.runs.map Prod.fst)) fun d h => d.updCore h fun c =>
        { c with boot := if c.boot.any fun x => decide (x.dst = b.dst) && decide (x.runs = b.runs) then none else c.boot }
    else d

/-- A freeze that a stop ends: its clock cycles count (R163), and how many there were is not known here. -/
def Dev.endFreeze (d : Dev) (g : Nat) : Dev :=
  if (d.core g).seq.freeze.isNone then d
  else { d.updCore g (fun c => { c with lateFreezeCyc := satAdd 64 c.lateFreezeCyc (Config.frozenCycles d.freeCtr),
                                        seq := { c.seq with freeze := none } }) with freeCtr := d.freeCtr + 1 }

/-- Another core of an open cluster operation of which this core is one must stop at its next bundle (R83): the operation that
the fault lies in is known there by its code and destination. -/
def Core.mustStop (c : Core) (g : Nat) (own : Option OpSlot) (harm : Nat) : Core :=
  let open' := c.ops.filter fun p => p.2.cores.contains g
  if c.seq.running.isSome && !c.seq.halted && decide (c.seq.stopNext = 0) && !open'.isEmpty then
    let same := open'.find? fun p => own.any fun o => decide (o.opcode = p.2.opcode) && decide (o.dst = p.2.dst)
    { c with seq := { c.seq with stopNext := 1, peerOp := same.map fun p => (p.1, harm) } }
  else c

/-- The block stops: no further bundle issues, operations are abandoned, and the core's part in the job ends (R84, R140, R152). -/
def Dev.cutBlock (d : Dev) (g : Nat) (s : Stop) : Dev :=
  let d := d.endFreeze g
  let c := d.core g
  let own := c.opOf s.order
  let harm := match own with | some o => c.harm s o | none => 0
  let d := (d.undefine g (c.lost s)).abandonBoot g
  let d := d.leaveGroups g
  let d := d.updCore g fun c =>
    { c with ops := [], closed := [], partEnded := true,
             inflight := if s.cancel then [] else c.inflight,
             freeAt := if s.cancel then c.freeAt.map (fun p => (p.1, min p.2 c.seq.cycle)) else c.freeAt,
             seq := { c.seq with next := none, cur := none, openFault := none, halted := true, faulted := true, stopNext := 0, peerOp := none, freeze := none } }
  d.forAll ((d.cores.map Prod.fst).filter fun h => decide (h ≠ g)) fun d h => d.updCore h fun c => c.mustStop g own harm

/-- A fault stops the block of a core: uncorrectable codewords are noted, its record written (R227, R228, R393), then the stop. -/
def Dev.stopBlock (d : Dev) (g : Nat) (s : Stop) : Dev :=
  let d := d.updCore g fun c => c.foundUe s.found
  let c := d.core g
  let e := c.extent s
  let rcd : FaultRec := { code := s.code, sev := 1, fn := 0, loc := coreLoc g, job := 0,
                          block := match c.seq.running with | some b => b.index | none => 0xFFFF_FFFF,
                          extStart := e.1, extLen := e.2, detail := s.detail % 2 ^ 64 }
  (d.cutBlock g s).coreFault g rcd

/-! ### Cluster exchange (R292 to R297) -/

/-- The port of a logical core: the spare's port 8 serves the position that the spare holds (R292). -/
def Dev.port (d : Dev) (g : Nat) : Nat := fld (Tab.get 0x76543210 d.pdd.map (g / 8)) (4 * (g % 8)) 4

/-- The cores of the target's cluster whose egress buffer has a word for it first, with their ports. -/
def Dev.contenders (d : Dev) (g : Nat) : List (Nat × Nat) :=
  (((List.range 8).map fun k => g / 8 * 8 + k).filter fun h => match (d.core h).egress with
    | x :: _ => decide (x.1 = g % 8)
    | [] => false).map fun h => (h, d.port h)

/-- The first contender after a port number in ascending order, wrapping (R294). -/
def nextPort (last : Nat) (l : List (Nat × Nat)) : Option (Nat × Nat) :=
  ((List.range 9).map fun i => (last + 1 + i) % 9).findSome? fun p => l.find? fun x => x.2 = p

/-- A word is accepted by a region that the target has posted, on a core of the sender's job (R296). -/
def Dev.accepts (d : Dev) (h g addr : Nat) : Bool :=
  (d.core h).job.isSome && (d.core h).job == (d.core g).job && (match (d.core g).ringAt (addr / 64) with | some (_, q, _) => q.typ == 2 | none => false)

/-- A word of core h is refused at a target port: the core's part in the job ends, with one record; a block that runs stops at its
next bundle (R296). DESIGN CHOICE (log 189): the record's extent is that of the latest opened operation of that block. -/
def Dev.refusedWord (d : Dev) (h g addr : Nat) : Dev :=
  let c := d.core h
  if c.partEnded then d
  else
    let code := if c.job.isSome && c.job == (d.core g).job then 0x0605 else 0x0502
    let detail := g % 8 + put addr 32 22
    let runs := c.seq.running.isSome && !c.seq.halted
    let e := if runs then c.extent (.of .point code detail (2 ^ 40)) else (0, 0)
    (d.updCore h fun c => { c with partEnded := true, seq := { c.seq with faulted := true, stopNext := if runs then 2 else c.seq.stopNext } }).coreFault h
      { plainFault code 1 (coreLoc h) detail with
        block := match c.seq.running with | some b => b.index | none => 0xFFFF_FFFF, extStart := e.1, extLen := e.2 }

/-- The target's port serves one egress buffer; up to 56 words land. Words that are not accepted are discarded (R292, R294,
R296). -/
def Dev.exchangeLand (d : Dev) (g : Nat) : Dev :=
  let cs := d.contenders g
  let port := d.port g
  let last := Tab.get 8 (d.mem.xchOf (g / 8)).served port
  match nextPort last cs with
  | none => d
  | some (h, p) =>
    let batch := ((d.core h).egress.takeWhile fun x => decide (x.1 = g % 8)).take 56
    let ok := batch.filter fun x => d.accepts h g x.2.1
    let bad := batch.find? fun x => !d.accepts h g x.2.1
    let d := d.updMem fun m => m.updXch (g / 8) fun x =>
      { x with served := Tab.set x.served port p, sendWords := satAdd 64 x.sendWords ok.length,
               contend := if 2 ≤ cs.length then satAdd 64 x.contend 1 else x.contend }
    let d := d.updCore h fun c => { c with egress := c.egress.drop batch.length }
    let r := (d.core g).sideWrite (ok.map fun x => (x.2.1, x.2.2))
    let d := d.setCore g r.1
    let d := match r.2 with | some detail => d.coreFault g (plainFault 0x0501 0 (coreLoc g) detail) | none => d
    match bad with
    | none => d
    | some x => d.refusedWord h g x.2.1

/-- An egress buffer that no other contends with drains as fast as the sender fills it (R295): words at its head land while the
words of cycle r would not fit. -/
def Dev.makeRoom (d : Dev) (g r : Nat) : Dev :=
  (List.range 56).foldl (fun d _ =>
    let c := d.core g
    match c.egress with
    | x :: _ =>
      let target := g / 8 * 8 + x.1
      if 32768 < c.egress.length + (c.sendsAt r).length ∧ (d.contenders target).length = 1 then d.exchangeLand target else d
    | [] => d) d

/-! ### Freezes (R163, R194) -/

/-- A remote write is in flight to a row of the core: the source of a freeze on a region (R165). -/
def Dev.remoteTo (d : Dev) (g row : Nat) : Bool :=
  d.cores.any fun p => p.2.engs.any fun e => e.2.xfers.any fun x =>
    decide (x.opc = 9) && decide (x.core = g) && decide (x.remote / 64 ≤ row) &&
      decide (64 * row < x.remote + (x.len - x.done) * (if x.unit then 16 else 64))

/-- The core freezes for a reason of R163 (R163, R165). -/
def Dev.startFreeze (d : Dev) (g source bundle row order : Nat) (sreg : Option Nat) : Dev :=
  d.updCore g fun c =>
    { c with lateFreeze := satAdd 64 c.lateFreeze 1,
             seq := { c.seq with freeze := some { source := source, bundle := bundle, row := row, sreg := sreg, order := order }, freezeAon := d.aon (dieOfCore g) } }

/-- A freeze on a row of a ring. -/
def Dev.freezeOn (d : Dev) (g : Nat) (q : Ring) (bundle row order : Nat) : Dev :=
  d.startFreeze g (if q.typ = 2 then (if d.remoteTo g row then 5 else 4) else q.eng) bundle row order none

/-! ### The bundle in its issue cycle -/

/-- The bundle that issues in cycle r. -/
def Core.dueAt (c : Core) (r : Nat) : Option Nat :=
  match c.seq.next with
  | some i => if c.seq.due = r ∧ !c.seq.halted then some i else none
  | none => none

def Core.bundle (c : Core) (i : Nat) : Nat := c.seq.code.getD i 0

/-- The loops in force after a bundle: its own LOOP among them. -/
def Core.loopsAfter (c : Core) (i : Nat) : List Loop :=
  if slotOpcode (c.bundle i) 0 = 3 then loopOf (sclSlot (c.bundle i)) i :: c.seq.loops else c.seq.loops

/-- The bundle that follows bundle i (R149). -/
def Core.follow (c : Core) (i : Nat) : Option (Nat × List Loop) := nextBundle c.seq.code.length i (c.loopsAfter i)

/-- What the checks of bundle i in cycle r are made against. -/
def Dev.cx (d : Dev) (g i r : Nat) : Cx :=
  let c := d.core g
  { core := c, self := g % 8, bundle := c.bundle i, index := i, loops := c.seq.loops,
    nextDelay := (c.follow i).map fun n => delayOf (c.bundle n.1), cycle := r, len := c.seq.code.length,
    aliased := match d.coreJob g with | some j => j.aliased | none => false,
    psets := match d.coreJob g with | some j => j.psets | none => [] }

/-- Words of a stream command record: its length is in its word 0 (R195, R230). -/
def Core.recordLen (c : Core) (a : Nat) : Nat := max 1 (fld (c.word a).toNat 8 9)

/-- What the commands of a bundle read in their issue cycle: LD rows, OP.OPEN's words, stream records (R59, R78, R195). -/
def issueReads (x : Cx) (g base : Nat) : List Access :=
  let c := x.core
  let one (s : Nat) : Option (List Nat) :=
    let op := slotOpcode x.bundle s
    if s = 0 ∧ op = 1 then
      some ((c.openReads g (openArgs (sclSlot x.bundle)) x.psets).flatMap fun p => (List.range p.2).map fun k => (p.1 + k) % 2 ^ 22)
    else if (s = 3 ∨ s = 4) ∧ op = 1 then some ((List.range 128).map fun k => (64 * eweRow x s + k) % 2 ^ 22)
    else if s = 9 ∧ op = 1 then
      let a := fld (strSlot x.bundle) 4 22
      some ((List.range (c.recordLen a)).map fun k => (a + k) % 2 ^ 22)
    else none
  (slotsOf x.bundle).filterMap fun s => (one s).map fun l => (base + s, s, x.index, l)

/-- Registers that a slot reads in its issue cycle (R59, R191). -/
def regsRead (b : Nat) : List (Nat × Nat) :=
  let s := eweSlot b
  let aop := fld s 0 4
  (if aop = 0 then [] else [(5, fld s 9 5)] ++
    (if [1, 2, 4, 5, 6, 7, 8, 11, 12, 13, 14].contains aop then [(5, fld s 14 5)] else []) ++
    (if aop = 5 then [(5, fld s 4 5)] else []) ++ (if aop = 8 then [(5, fld s 19 5)] else [])) ++
  (if bit s 79 then [(6, fld s 80 5)] else [])

/-- The engine command of a slot, for the slots that carry one with an operand pattern. -/
def slotCmd (x : Cx) (s : Nat) : Option Cmd :=
  if slotOpcode x.bundle s = 0 then none
  else if s = 1 then some (nttCmd x) else if s = 2 then some (bcvCmd x) else if s = 7 then some (prmCmd x)
  else if s = 8 then some (kexCmd x) else none

/-- A command that would read a row of a failed key stream stops the block when it would issue (R117, R118), as does a
key-expander command whose seed register is failed (R126, R194). -/
def keyStop (x : Cx) (rd : List Access) (base : Nat) : Option Stop :=
  let rowBad (row : Nat) : Option Stop := match x.core.readFails row with
    | some (code, detail) => if code / 256 = 2 then some (.row code detail base) else none
    | none => none
  let seed := if slotOpcode x.bundle 8 = 0 then none else match x.seed with
    | .failed code detail => some (Stop.row code detail base)
    | _ => none
  (rd.findSome? fun a => (distinct (a.2.2.2.map fun w => w / 64)).findSome? rowBad).or <|
    ([1, 2, 7].findSome? fun s => (slotCmd x s).bind fun m => ((m.op.reads []).findSome? fun w => rowBad (w.2.2 / 64))).or seed

/-- What a bundle would wait for (R163, R194). -/
inductive BundleWait where
  /-- a row of a ring -/
  | row (q : Ring) (row : Nat)
  /-- a stream engine that holds 128 commands -/
  | engine (e : Nat)
  /-- a seed register whose header has not landed: the binding's engine -/
  | seed (sreg eng : Nat)

/-- Commands that an engine holds, the running program's among them (R170). -/
def StreamEng.held (e : StreamEng) : Nat := e.queue.length + (if e.prog.isSome then 1 else 0)

def Core.eng (c : Core) (e : Nat) : StreamEng := Tab.get StreamEng.reset c.engs e
def Core.setEng (c : Core) (e : Nat) (x : StreamEng) : Core := { c with engs := Tab.set c.engs e x }
def Core.updEng (c : Core) (e : Nat) (u : StreamEng → StreamEng) : Core := c.setEng e (u (c.eng e))

def bundleWait (x : Cx) (rd : List Access) : Option BundleWait :=
  let c := x.core
  (rd.findSome? fun a => (distinct (a.2.2.2.map fun w => w / 64)).findSome? fun row =>
      (c.readWaits row).map fun q => BundleWait.row q row).or <|
    (if slotOpcode x.bundle 9 = 1 ∧ 128 ≤ (c.eng (fld (strSlot x.bundle) 2 2)).held then
      some (BundleWait.engine (fld (strSlot x.bundle) 2 2)) else none).or <|
    (if slotOpcode x.bundle 8 = 0 then none else match x.seed with
      | .waiting => some (BundleWait.seed x.sreg x.seedEng)
      | .filled _ _ _ => if x.seedUnchecked then some (BundleWait.seed x.sreg x.seedEng) else none
      | _ => none)

/-- The register that element-wise read 0 or 1 writes (R190). -/
def readReg (x : Cx) (slot : Nat) : Nat := fld (eweSlot x.bundle) (if slot = 3 then 35 else 58) 5

/-- The descriptors that OP.CLOSE writes: word address and words (R79). -/
def OpSlot.descrs (o : OpSlot) : List (Nat × List Word) := o.results.zipIdx.map fun p => ((o.dst + 16 * p.2) % 2 ^ 22, p.1.words)

/-- What a slot will have in flight, as far as its writes go. -/
def slotOp (x : Cx) (s : Nat) : Option EngOp :=
  match s with
  | 0 => if slotOpcode x.bundle 0 = 2 then
      (x.core.ops.find? fun p => p.1 = fld (sclSlot x.bundle) 4 2).map fun p => .close p.1 p.2.descrs else none
  | 3 => some (if slotOpcode x.bundle 3 = 1 then .ld (readReg x 3) (eweRow x 3) else .reg (readReg x 3) [] 3)
  | 4 => some (if slotOpcode x.bundle 4 = 1 then .ld (readReg x 4) (eweRow x 4) else .reg (readReg x 4) [] 3)
  | 5 =>
    let aop := slotOpcode x.bundle 5
    some (.reg (fld (eweSlot x.bundle) 4 5) [] (arithLat aop (if modular aop then x.core.fm [ewePidx x] else 1)))
  | 6 => some (.st (eweRow x 6) [])
  | _ => (slotCmd x s).map Cmd.op

/-- The commands of the bundle as they will be in flight. -/
def bundleFlight (x : Cx) (base : Nat) : List InFlight :=
  (slotsOf x.bundle).filterMap fun s => (slotOp x s).map fun op =>
    { slot := s, bundle := x.index, order := base + s, issue := x.cycle, op := op, aliased := x.aliased, cap := [] }

/-- Hazards of the reads that commands make in their issue cycle, against commands in flight and earlier slots of the same
bundle (R167). -/
def bundleHazard (x : Cx) (rd : List Access) (r base : Nat) : Option Stop :=
  let c := { x.core with inflight := x.core.inflight ++ bundleFlight x base }
  if !x.core.seq.audit then none
  else (rd.findSome? fun a => (distinct (a.2.2.2.map fun w => w / 64)).findSome? fun row => c.readHazard r a.1 a.2.1 a.2.2.1 row).or
    ((regsRead x.bundle).findSome? fun p => c.regHazard r (base + p.1) p.1 x.index p.2)

/-- The bundle enters its issue cycle: its successor is fixed, its codewords read are counted (R149, R205). -/
def Core.enter (c : Core) (i : Nat) (rd : List Access) : Core :=
  let cws := distinct (rd.flatMap fun a => a.2.2.2.map fun x => x / 16)
  let fresh := decide (c.seq.eccAt ≠ some c.seq.cycle) && cws.any fun cw => c.upsetOf cw == some false
  let rows := distinct (rd.flatMap fun a => a.2.2.2.map fun x => x / 64)
  let nx := c.follow i
  let due := match nx with | some n => c.seq.cycle + max 1 (delayOf (c.bundle n.1)) | none => 0
  let c := (rows.foldl Core.noteRead c).correct cws
  { c with eccFreeze := if fresh then satAdd 64 c.eccFreeze 1 else c.eccFreeze,
           seq := { c.seq with cur := some i, slotDone := 0, curLoops := c.seq.loops, next := nx.map Prod.fst,
                               loops := match nx with | some n => n.2 | none => [], due := due, order := c.seq.order + 16,
                               eccAt := if fresh then some c.seq.cycle else c.seq.eccAt } }

/-! ### The advance -/

/-- A stop in cycle r: of the cycle's egress words those that fit are placed when it is EXCHANGE_OVERRUN (R295). -/
def Dev.stopIn (d : Dev) (g r : Nat) (s : Stop) : Dev :=
  (if s.code = 0x0604 then d.updCore g fun c => c.placeSends r else d).stopBlock g s

/-- The core enters its next block cycle: false when a freeze, a stop, or the end of the block's work holds it (R146,
R147, R163, R179). -/
def Dev.tick (d : Dev) (g : Nat) : Dev × Bool :=
  let d := d.updCore g fun c => c.land.release
  let c := d.core g
  let r := c.seq.cycle + 1
  if c.seq.running.isNone || c.seq.freeze.isSome then (d, false)
  else match c.waitAt r with
  | some (q, f, row) => (d.freezeOn g q f.bundle row f.order, false)
  | none =>
    let d := d.makeRoom g r
    let c := d.core g
    match c.firstStop r, c.dueAt r with
    | some s, _ => (d.stopBlock g s, false)
    | none, none =>
      match c.stopAt r with
      | some s => (d.stopIn g r s, false)
      | none => (d.updCore g fun c => c.capture r, true)
    | none, some i =>
      let base := c.seq.order + 16
      let x := d.cx g i r
      let rd := issueReads x g base
      if c.seq.stopNext ≠ 0 then
        (d.cutBlock g (if c.seq.stopNext = 2 then .of .point 0 0 (2 ^ 40) else .of .check 0 0 0), false)
      else
        let early := (bundleFault x).map fun p => Stop.of .check p.1 p.2 base
        match early, bundleWait x rd with
        | none, some (.row q row) => (d.freezeOn g q i row base, false)
        | none, some (.engine e) =>
          ({ d with freeCtr := d.freeCtr + 1 }.startFreeze g e i (Config.undefWord d.freeCtr 0 % 65536) base none, false)
        | none, some (.seed s e) =>
          ({ d with freeCtr := d.freeCtr + 1 }.startFreeze g e i (Config.undefWord d.freeCtr 0 % 65536) base (some s), false)
        | _, _ =>
          let late := (keyStop x rd base).or <| (rd.findSome? fun a => c.accessStop a).or (bundleHazard x rd r base)
          match (c.stopAt r).or (early.or late) with
          | some s => (d.stopIn g r s, false)
          | none => (d.updCore g fun c => (c.capture r).enter i rd, true)

/-- Advance to a block cycle, at most n cycles on. -/
def Dev.advance (d : Dev) (g target : Nat) : Nat → Dev
  | 0 => d
  | n + 1 =>
    if target ≤ (d.core g).seq.cycle then d
    else match d.tick g with
      | (d, true) => d.advance g target n
      | (d, false) => d

/-- Commands of the bundle in issue have still to issue. -/
def Core.pendingSlot (c : Core) : Option Nat :=
  match c.seq.cur with
  | some i => (slotsOf (c.bundle i)).find? fun s => decide (c.seq.slotDone ≤ s)
  | none => none

/-- Bundles without a command issue as time passes. -/
def Dev.skipEmpty (d : Dev) (g : Nat) : Nat → Dev
  | 0 => d
  | n + 1 =>
    let c := d.core g
    match c.seq.next with
    | some i =>
      if c.pendingSlot.isNone ∧ (slotsOf (c.bundle i)).isEmpty ∧ c.seq.freeze.isNone then
        let d' := d.advance g c.seq.due (c.seq.due - c.seq.cycle)
        if (d'.core g).seq.cycle = c.seq.due then d'.skipEmpty g n else d'
      else d
    | none => d

/-- The bundle that the next bundle-slot command belongs to is brought to its issue cycle: the command's slot is the
first that has not issued. True when the command may issue now. A bundle whose first command has no defined opcode stops
the block whichever command is named. -/
def Dev.reach (d : Dev) (g slot op : Nat) : Dev × Bool :=
  let d := d.skipEmpty g 65536
  let c := d.core g
  let firstIs (i from' : Nat) : Option Nat := (slotsOf (c.bundle i)).find? fun s => decide (from' ≤ s)
  match c.pendingSlot with
  | some s => (d, decide (s = slot) && decide (slotOpcode (c.bundle (c.seq.cur.getD 0)) s = op) && c.seq.freeze.isNone)
  | none =>
    match c.seq.next with
    | none => (d, false)
    | some i =>
      match firstIs i 0 with
      | none => (d, false)
      | some s =>
        let o := slotOpcode (c.bundle i) s
        if (s = slot ∧ o = op) ∨ !(defined s o) then
          let d := d.advance g c.seq.due (c.seq.due - c.seq.cycle)
          let c := d.core g
          (d, decide (c.seq.cur = some i) && decide (s = slot) && decide (o = op))
        else (d, false)
where
  /-- the opcodes that a slot defines (R183 to R195) -/
  defined (s o : Nat) : Bool :=
    match s with
    | 0 => decide (o ≤ 5)
    | 1 => decide (o ≤ 4)
    | 3 => decide (o ≤ 2)
    | 4 => decide (o ≤ 2)
    | 5 => decide (o ≤ 14)
    | 8 => decide (o ≤ 2)
    | 9 => decide (o ≤ 1)
    | _ => true

/-- A slot of the current bundle has issued. -/
def Core.issued (c : Core) (slot : Nat) : Core :=
  { c with seq := { c.seq with slotDone := slot + 1 },
           ops := c.ops.map fun p => if p.2.serial < c.seq.order then (p.1, { p.2 with issued := true }) else p }

/-- A command is in flight: issued in the present cycle at a slot, with captured words (R47, R48). -/
def Core.launch (c : Core) (slot : Nat) (op : EngOp) (aliased : Bool) (cap : Tab Word) : Core :=
  { c with inflight := c.inflight ++ [{ slot := slot, bundle := c.seq.cur.getD 0, order := c.seq.order + slot, issue := c.seq.cycle,
                                        op := op, aliased := aliased, cap := cap }] }

/-- The engine accepts its next command from this cycle on (R47). -/
def Core.busyUntil (c : Core) (e occ : Nat) : Core := { c with freeAt := Tab.set c.freeAt e (c.seq.cycle + occ) }

end Sys2Proof.Machine
end

