-- ==== Sys2Proof/Machine/Memory.lean ====
section
/-! DEFINITION. The commands of the stacked memory system: ECC results, the small path, the write-combining buffer,
regulators, refresh and patrol, traffic generators, maintenance (R255 to R291), and the fabric's own errors (R304,
R305, R309). -/

namespace Sys2Proof.Machine

/-! ### Small path (R261) -/

/-- The waiting requests that a new window admits, in arrival order: charge, admitted, still waiting. -/
def smallPrefix : Nat → List (Nat × Waiter) → Nat × List (Nat × Waiter) × List (Nat × Waiter)
  | s, [] => (s, [], [])
  | s, q :: t =>
    if s + q.1 ≤ 30 then
      let r := smallPrefix (s + q.1) t
      (r.1, q :: r.2.1, r.2.2)
    else (s, [], q :: t)

/-- A transfer of a stream engine, by its number, with one change. -/
def Core.updXfer (c : Core) (e x : Nat) (f : Transfer → Transfer) : Core :=
  let s := Tab.get StreamEng.reset c.engs e
  { c with engs := Tab.set c.engs e { s with xfers := s.xfers.map fun t => if t.id = x then f t else t } }

/-- One thing less holds a requester back: a stream's request that nothing holds back any more issues. -/
def Dev.letGo (d : Dev) (w : Waiter) : Dev :=
  let d := d.updMem fun m => { m with holds := m.holds.erase w }
  if d.mem.holds.contains w then d
  else match w with
  | .xfer g e x => d.updCore g fun c => c.updXfer e x fun t => { t with requested := t.requested + t.pend, pend := 0 }
  | _ => d

/-- SMALL_PATH_WINDOW (R261): a new 1 µs window of a channel admits waiting requests in arrival order. -/
def fxSmallPathWindow (d : Dev) (h : Nat) : Dev :=
  let r := smallPrefix 0 (d.mem.chan h).smallQ
  let d := d.updMem fun m => m.updChan h fun c => { c with small := r.1, smallQ := r.2.2 }
  let d := r.2.1.foldl (fun d q => d.letGo q.2) d
  d.serveHost d.mem.hostQ.length

/-! ### Write-combining buffer (R262 to R265) -/

/-- WCB_PARTIAL_WRITE (R262, R269): a write that covers part of a granule enters the buffer of its die and is charged to its
partition. -/
def fxWcbPartialWrite (d : Dev) (part : Nat) (job : Option Nat) (addr : Nat) (data : List Byte) : Dev :=
  if isHbm addr && decide (0 < data.length) && decide (addr % 256 + data.length ≤ 256) then
    (d.updMem fun m => m.updPart part fun q => q.charge (atomBytes addr data.length)).wcbWrite part job addr data
  else d

/-- WCB_AGE_FLUSH (R263): the oldest entry flushes 2 µs after its allocation, on the die's always-on counter. -/
def fxWcbAgeFlush (d : Dev) (die : Nat) : Dev :=
  match (d.mem.wcbOf die).entries with
  | e :: _ =>
    if e.since + 50 ≤ d.aon die then
      (d.flushEntry die e).updMem fun m => m.updWcb die fun w => { w with age := satAdd 64 w.age 1 }
    else d
  | [] => d

/-- WCB_FLUSH (R263, R291): an E-level write of WCB_CTRL.FLUSH flushes every entry of the die. -/
def fxWcbFlush (d : Dev) (die : Nat) (a : Agent) : Dev := d.ifExpert a fun d => d.flushWhere die fun _ => true

/-! ### Regulators (R267 to R270) -/

/-- RATE and BURST as they act (R287): above 5,120 as 5,120; BURST 0 as 16. -/
def Part.rateOf (q : Part) : Nat := min q.rate 5120
def Part.cap (q : Part) : Nat := (if q.burst = 0 then 16 else q.burst) * 65536

/-- One 40 ns step of a regulator: a written MREG_RATE takes effect and the count is clamped, then RATE × 40 bytes are
added up to the capacity; THROTTLED says whether a transfer waited. -/
def Part.tick (q : Part) : Part :=
  let q := match q.newRate with
    | some (r, b, m) =>
      let q := { q with rate := r, burst := b, mode := m, newRate := none }
      { q with tokens := min q.tokens (q.cap : Int) }
    | none => q
  { q with tokens := if q.rate = 0 then q.tokens else min (q.tokens + (q.rateOf * 40 : Nat)) (q.cap : Int),
           throttled := !q.waiting.isEmpty }

/-- REGULATOR_TICK (R267, R270). -/
def fxRegulatorTick (d : Dev) (p : Nat) : Dev := d.updMem fun m => m.updPart p Part.tick

/-- REGULATED_ISSUE (R267, R268): the first waiting transfer of a partition issues once the partition may issue. -/
def fxRegulatedIssue (d : Dev) (p : Nat) : Dev :=
  match (d.mem.part p).waiting with
  | (bytes, w) :: t =>
    if d.mem.mayIssue p then
      let d := (d.updMem fun m => m.updPart p fun q => ({ q with waiting := t }).charge bytes).letGo w
      d.serveHost d.mem.hostQ.length
    else d
  | [] => d

/-- MREG_RATE_WRITE (R270, R287): an E-level write that takes effect at the next 40 ns step. -/
def fxMregRateWrite (d : Dev) (p v : Nat) (a : Agent) : Dev :=
  d.ifExpert a fun d => d.updMem fun m => m.updPart p fun q => { q with newRate := some (fld v 0 13, fld v 32 11, bit v 16) }

/-! ### Refresh, calibration, patrol (R274 to R276) -/

/-- The atom the patrol scrubber of a channel reads next: its local order runs over pseudo-channel 0, then 1. -/
def patrolAtom (h pos : Nat) : Nat :=
  hbmAddrOf (h / 64) (64 * (pos / 2 ^ 26 % 2) + 4 * (h % 16) + h % 64 / 16) (pos % 2 ^ 26 * 64)

/-- REFRESH_SLOT (R274 to R276): the stack reports its temperature; above 85 °C refresh is doubled and HOT is set; one
calibration step runs; with PATROL_EN the scrubber reads one atom, and an uncorrectable one is recorded with SCRUB set
and reported to the physical function at the lowest severity. A channel in self-refresh or off has no slot. -/
def fxRefreshSlot (d : Dev) (h temp : Nat) (s : AtomState) : Dev :=
  let c := d.mem.chan h
  if c.state = 2 ∨ c.state = 5 then
    let d := d.updMem fun m => m.updChan h fun c => { c with temp := temp % 256, hot := decide (85 < temp), calib := c.calib + 1 }
    if c.patrol then
      let atom := patrolAtom h c.patrolPos
      let f := d.mem.finding atom s
      let d := d.updMem fun m => (m.eccRead atom true f).updChan h fun c => { c with patrolPos := (c.patrolPos + 1) % 2 ^ 27 }
      match f with
      | .uncorrectable => d.fnFault 0 (plainFault 0x0501 0 (chanLoc h) atom)
      | _ => d
    else d
  else d

/-! ### Traffic generator (R277 to R279, R289, R290) -/

/-- The PRBS31 sequence as its last 31 bits, the latest lowest: bit n is the sum of bits n − 28 and n − 31. -/
def prbsState (seed : Nat) : Nat → Nat
  | 0 => seed % 2 ^ 31
  | n + 1 =>
    let s := prbsState seed n
    s * 2 % 2 ^ 31 + (fld s 27 1 + fld s 30 1) % 2

/-- The 32-bit beat that a pattern puts at a beat of a pseudo-channel (R289): a test pattern's data on the 32 lanes. -/
def patternBeat (pattern seed beat : Nat) : Nat :=
  match pattern with
  | 0 => 0
  | 1 => 0xFFFF_FFFF
  | 2 => if (beat % 2 = 0) = (Config.checkerFirst = true) then 0x5555_5555 else 0xAAAA_AAAA
  | 3 => 2 ^ ((Config.walkLane + (if Config.walkUp then beat else 31 * beat)) % 32)
  | 4 => ((List.range 32).map fun i => prbsState (if seed = 0 then 1 else seed) (Config.prbsIndex (32 * beat + i)) % 2 * 2 ^ i).sum
  | _ => 4 * beat % 2 ^ 32

/-- The byte a pattern puts at a local byte address. -/
def patternByte (pattern seed local' : Nat) : Byte := BitVec.ofNat 8 (fld (patternBeat pattern seed (local' / 4)) (8 * (local' % 4)) 8)

/-- The device address of the k-th atom of a test's range, in local order over the channel's two pseudo-channels: the
test reserve in service, the whole channel when destructive (R258, R277, R278). -/
def testAtom (h : Nat) (full : Bool) (k : Nat) : Nat :=
  let per := if full then 2 ^ 26 else 2 ^ 19
  let base := if full then 0 else 0xFE00_0000
  hbmAddrOf (h / 64) (64 * (k / per % 2) + 4 * (h % 16) + h % 64 / 16) (base + k % per * 64)

/-- The first `n` atoms of a test's range hold its pattern. -/
def Mem.fill (m : Mem) (h : Nat) (full : Bool) (pattern seed n : Nat) : Mem :=
  (List.range n).foldl (fun m k =>
    let a := testAtom h full k
    let per := if full then 2 ^ 26 else 2 ^ 19
    let base := if full then 0 else 0xFE00_0000
    m.putAtom a ((List.range 64).map fun i => patternByte pattern seed (base + k % per * 64 + i))) m

/-- A start of the traffic generator is refused for the first reason that holds (R278); a wipe counts as maintenance
state (R281). -/
def tgcRefusal (m : Mem) (c : Chan) (destruct expert : Bool) : Nat :=
  if destruct && !expert then 5
  else if destruct && decide (m.mstate ≠ 2 ∧ m.mstate ≠ 3) then 1
  else if 5 < c.pattern ∨ 2 < c.op then 2
  else if c.running then 3
  else if c.state = 5 then 4
  else 0

/-- TGC_START (R278, R289): a write of TGC_CTRL with START. PASSES, OP and PATTERN are stored; DESTRUCT is an E-level
field: a write of it from a function without expert level is denied, and a start with it is refused, never run in service. -/
def fxTgcStart (d : Dev) (h v : Nat) (a : Agent) : Dev :=
  let ex := d.expert a
  let want := bit v 2
  let d := if ex then d else d.deny a
  d.updMem fun m =>
    let m := m.updChan h fun c =>
      { c with passes := fld v 32 32, op := fld v 8 4, pattern := fld v 4 4, destruct := if ex then want else c.destruct }
    let c := m.chan h
    let why := tgcRefusal m c (want || c.destruct) ex
    m.updChan h fun c =>
      if why ≠ 0 then { c with tstate := 4, reason := why }
      else { c with tstate := 1, reason := 0, errors := 0, errPseudo := false, errAtom := 0, dqMask := 0, atoms := 0,
                    running := true, full := c.destruct }

/-- A test ends in a state: the atoms written so far hold the pattern when the operation writes; the mismatches found
and the first of them are what the checker saw. -/
def Dev.tgcEnd (d : Dev) (h written checked errs : Nat) (first : Option (Bool × Nat × Nat)) (stopped : Bool) : Dev :=
  let c := d.mem.chan h
  if !c.running then d
  else
    d.updMem fun m =>
      let m := if c.op = 1 then m else m.fill h c.full c.pattern c.seed written
      m.updChan h fun c =>
        { c with running := false, errors := min errs (2 ^ 32 - 1), atoms := min checked (2 ^ 64 - 1),
                 tstate := if stopped then 5 else if errs = 0 then 2 else 3,
                 errPseudo := (first.map fun f => f.1).getD false, errAtom := (first.map fun f => f.2.1 % 2 ^ 26).getD 0,
                 dqMask := (first.map fun f => f.2.2 % 2 ^ 32).getD 0 }

/-- Atoms a test of a channel covers in all. -/
def testAtoms (full : Bool) : Nat := if full then 2 ^ 27 else 2 ^ 20

/-- TGC_STOP (R279): software stops a running test; `written` atoms of the range hold the pattern by then. -/
def fxTgcStop (d : Dev) (h written checked errs : Nat) (first : Option (Bool × Nat × Nat)) : Dev :=
  d.tgcEnd h (min written (testAtoms (d.mem.chan h).full)) checked errs first true

/-- TGC_TEST_END (R279): the test ends after its passes; PASSES = 0 runs until STOP. -/
def fxTgcTestEnd (d : Dev) (h errs : Nat) (first : Option (Bool × Nat × Nat)) : Dev :=
  let c := d.mem.chan h
  if c.passes = 0 then d
  else d.tgcEnd h (testAtoms c.full) (if c.op = 2 then 0 else c.passes * testAtoms c.full) errs first false

/-! ### Maintenance state (R280, R281) -/

/-- MAINT_SET (R280): an E-level write of MAINT = 1 on die 0; ignored with DENIED while any job exists. -/
def fxMaintSet (d : Dev) (a : Agent) : Dev :=
  d.ifExpert a fun d =>
    if d.jobs.isEmpty then d.updMem fun m => { m with maint := true, mstate := if m.mstate = 3 then 3 else 2 }
    else d.updMem fun m => { m with denied := true }

/-- MAINT_CLEAR (R281): leaving maintenance state starts the wipe. -/
def fxMaintClear (d : Dev) (a : Agent) : Dev :=
  d.ifExpert a fun d => d.updMem fun m => { m with maint := false, mstate := if m.mstate = 2 then 3 else m.mstate }

/-- Every atom of both dies is written with zero data and valid check symbols (R281, R479). -/
def Mem.wipe (m : Mem) : Mem :=
  { m with hbm := [], ue := [], ce := [], wcb := m.wcb.map fun p => (p.1, { p.2 with entries := [] }) }

/-- MAINT_WIPE_DONE (R281): the wipe completes and records are checked as usual again. -/
def fxMaintWipeDone (d : Dev) : Dev :=
  if d.mem.mstate = 3 then d.updMem fun m => { m.wipe with mstate := if m.maint then 2 else 0 } else d

/-! ### Fabric errors (R304, R305, R309) -/

/-- The record of a lane event: to the physical function at the lowest severity, with the link as the location. -/
def Dev.laneFault (d : Dev) (die i : Nat) : Dev :=
  d.fnFault 0 (plainFault Config.laneCode 0 (location 9 die 0 0 (if i < 38 then i else Config.bridgeUnit)) 0)

/-- FLIT_CRC_REPLAY (R304): a flit of mesh link i, or of the bridge for i = 38, fails its CRC and is replayed; sixteen
consecutive failed replays mark the lane bad. With the spare in use a mesh link has failed, and the bridge goes on with one
group fewer (R305). -/
def fxFlitCrcReplay (d : Dev) (die i : Nat) (ok : Bool) : Dev :=
  if i < 38 then
    let l := Tab.get NocLink.reset (d.mem.fab die).links i
    let run := if ok then 0 else l.run + 1
    let l := { l with replays := satAdd 32 l.replays 1, run := run % 16 }
    if run < 16 then d.updMem fun m => m.updFab die fun f => { f with links := Tab.set f.links i l }
    else if l.spare then
      (d.updMem fun m => m.updFab die fun f => { f with links := Tab.set f.links i { l with state := 2 } }).laneFault die i
    else d.updMem fun m => m.updFab die fun f => { f with links := Tab.set f.links i { l with bad := true, state := 1 } }
  else
    let f := d.mem.fab die
    let run := if ok then 0 else f.d2dRun + 1
    let d := d.updMem fun m => m.updFab die fun f => { f with d2dReplays := satAdd 32 f.d2dReplays 1, d2dRun := run % 16 }
    if run < 16 then d
    else if f.d2dSpare then (d.updMem fun m => m.bothEnds fun f => { f with d2dGroups := f.d2dGroups - 1, d2dState := 3 }).laneFault die i
    else d.updMem fun m => m.bothEnds fun f => { f with d2dBad := true, d2dState := 2 }

/-- LANE_SPARE_REPLACE (R305): a bad lane or lane group is replaced by the spare; the bridge has one for both its ends. -/
def fxLaneSpareReplace (d : Dev) (die i : Nat) : Dev :=
  if i < 38 then
    let l := Tab.get NocLink.reset (d.mem.fab die).links i
    if l.bad then
      (d.updMem fun m => m.updFab die fun f =>
        { f with links := Tab.set f.links i { l with bad := false, spare := true, state := 0, run := 0 } }).laneFault die i
    else d
  else if (d.mem.fab die).d2dBad then
    (d.updMem fun m => m.bothEnds fun f => { f with d2dBad := false, d2dRun := 0, d2dSpare := true, d2dState := 1 }).laneFault die i
  else d

/-- D2D_RETRAIN (R309): an E-level write retrains the bridge, both ends of it, and tries every lane group again. -/
def fxD2dRetrain (d : Dev) (a : Agent) : Dev :=
  d.ifExpert a fun d => d.updMem fun m =>
    m.bothEnds fun f => { f with d2dBad := false, d2dRun := 0, d2dSpare := false, d2dGroups := 16, d2dState := 1 }

/-- A consumer's flit lost under R306 is counted. -/
def Mem.countNocUe (m : Mem) (die : Nat) : Mem := m.updFab die fun f => { f with ueCnt := satAdd 64 f.ueCnt 1 }

end Sys2Proof.Machine
end

