-- ==== Sys2Proof/Machine/Streams.lean ====
section
/-! DEFINITION. Stream engines: records and their checks, rings, stream programs, transfers and stream faults (R230 to
R249). -/

namespace Sys2Proof.Machine

/-! ### Faults (R244, R245) -/

/-- STREAM_RECORD detail (R245). -/
def recordDetail (e why instr addr : Nat) : Nat := e + put why 8 8 + put instr 16 8 + put addr 24 22

/-- Rows that an engine's issued transfers have still to land in a ring. -/
def StreamEng.unlanded (x : StreamEng) (r : Nat) : Nat :=
  ((x.xfers.filter fun t => decide (t.ring = some r) && (t.opc == 6 || t.opc == 8)).map fun t => t.len - t.done).sum

/-- A stream fault of an engine (R244): its record, the program stopped, SIGs of it and later commands discarded, and the
unlanded rows of the engine's landing rings that it was filling marked failed, but for those that its issued transfers land; the
core dispatches no later block of the job. -/
def Dev.streamFault (d : Dev) (g e code detail block prog : Nat) (ring : Option Nat) : Dev :=
  let x := (d.core g).eng e
  let filling := (distinct ((x.xfers.filter fun t => decide (t.prog = prog) && (t.opc == 6 || t.opc == 8)).filterMap Transfer.ring ++ ring.toList)).filter
    fun r => match (d.core g).ring? r with | some q => decide (q.eng = e) && decide (q.typ = 0) | none => false
  let left := x.queue.length + (match x.prog with | some p => p.instrs.length - p.pc | none => 0)
  let d := d.updCore g fun c =>
    let c := filling.foldl (fun c r => c.failRing r false (x.unlanded r) code detail) c
    let c := c.updEng e fun x =>
      { x with prog := none, queue := [], waitTok := none, fence := none, unpost := none, stopped := true,
               discards := satAdd 32 x.discards left, sigs := x.sigs.filter fun s => decide (s.2.2 < prog) }
    { c with partEnded := true }
  d.coreFault g { code := code, sev := 1, fn := 0, loc := coreLoc g, job := 0, block := block, extStart := 0, extLen := 0,
                  detail := detail % 2 ^ 64 }

/-- The program that a refused record stops: the running one, else the one that would follow the latest (R244). -/
def StreamEng.refusedProg (x : StreamEng) : Nat := match x.prog with | some p => p.serial | none => x.progs + 1

/-- The stream engines of a core pause while its cluster's PLL relocks (R507). -/
def Dev.unlessRelock (d : Dev) (g : Nat) (f : Dev → Dev) : Dev := if Tab.get false d.pwr.relock (g / 8) then d else f d

/-! ### Records (R230 to R232, R237, R238) -/

/-- The 64-bit instruction i of a RUN record. -/
def recInstr (ws : List Nat) (i : Nat) : Nat := ws.getD (2 + 2 * i) 0 % 2 ^ 32 + 2 ^ 32 * (ws.getD (3 + 2 * i) 0 % 2 ^ 32)

/-- Opcode of an instruction. -/
def instrOp (i : Nat) : Nat := fld i 0 6

/-- A reserved field of an instruction is nonzero, or its opcode undefined (R237, R238). -/
def instrBad (i : Nat) : Bool :=
  let z (lo len : Nat) : Bool := decide (fld i lo len = 0)
  let loc := bit i 13 || decide (fld i 11 2 = 0)
  !(match instrOp i with
    | 0 => z 6 58
    | 1 => z 9 3
    | 2 => z 9 23
    | 3 => z 8 2 && z 32 32
    | 4 => z 8 24
    | 5 => z 11 5 && z 32 32
    | 6 => z 28 36 && loc
    | 7 => z 28 36 && loc
    | 8 => z 8 1 && z 14 1 && z 28 4 && z 39 25 && loc
    | 9 => z 8 1 && z 14 1 && z 28 4 && z 39 25 && loc
    | 10 => z 6 3 && z 15 1 && z 28 4 && z 60 4 && loc
    | 11 => true
    | 12 => z 18 46
    | 13 => z 6 58
    | _ => false)

/-- LOOP bodies of a program that hold instruction k: first index and end. -/
def enclosing (l : List Nat) (k : Nat) : List (Nat × Nat) :=
  (l.zipIdx.filter fun p => decide (instrOp p.1 = 5) && decide (p.2 < k) && decide (k ≤ p.2 + fld p.1 6 5 + 1)).map fun p =>
    (p.2 + 1, p.2 + 1 + fld p.1 6 5 + 1)

/-- The LOOP at index k breaks R238: its body leaves the program or an enclosing body, or nests above 2. -/
def loopWrong (l : List Nat) (k : Nat) : Bool :=
  let e := k + 1 + fld (l.getD k 0) 6 5 + 1
  let outer := enclosing l k
  decide (l.length < e) || decide (2 ≤ outer.length) || outer.any fun p => decide (p.2 < e)

/-- The check of instruction k of a program: STREAM_RECORD reason, or none (R232, R238, R338). -/
def instrReason (l : List Nat) (k : Nat) : Option Nat :=
  let i := l.getD k 0
  let op := instrOp i
  if instrBad i then some 2
  else if op = 5 ∧ loopWrong l k then some 3
  else if (op = 6 ∨ op = 7 ∨ op = 8 ∨ op = 9) ∧ bit i 15 ∧ bit i 13 then some 8
  else if op = 10 ∧ 0xFF00 ≤ fld i 32 16 ∧ fld i 32 16 ≤ 0xFF3F ∧ bit i 13 then some 9
  else none

/-- The token an instruction names. -/
def instrToken (i : Nat) : Option Nat := if instrOp i = 11 ∨ instrOp i = 12 then some (fld i 6 12) else none

/-- Reserved fields and LENGTH of a record by its KIND: a reason, or none (R230, R232). -/
def recordReason (ws : List Nat) : Option Nat :=
  let w (i : Nat) : Nat := ws.getD i 0
  let len := fld (w 0) 8 9
  let fits := match fld (w 0) 0 8 with
    | 1 => decide (len % 2 = 0) && decide (4 ≤ len) && decide (len ≤ 256)
    | 2 => decide (len = 4)
    | 3 => decide (len = 3)
    | 4 => decide (len = 2)
    | 5 => decide (len = 2)
    | 6 => decide (len = 3)
    | _ => false
  let rsv := match fld (w 0) 0 8 with
    | 1 => decide (w 1 = 0)
    | 2 => decide (w 1 / 2 ^ 16 = 0) && decide (w 2 / 2 ^ 17 = 0) && decide (w 3 / 2 ^ 7 = 0)
    | 3 => decide (w 1 / 2 ^ 19 = 0)
    | 4 => decide (w 1 / 2 ^ 5 = 0)
    | 5 => decide (w 1 / 2 ^ 4 = 0)
    | _ => decide (w 1 / 2 ^ 4 = 0) && decide (w 2 / 2 ^ 17 = 0)
  if !fits then some 1
  else if decide (fld (w 0) 17 19 ≠ 0) || !rsv || ws.any fun x => decide (2 ^ 32 ≤ x) then some 2
  else none

/-- The check of a record at its copy (R232): fault code and detail, or none. -/
def recordFault (ws : List Nat) (e addr tokens : Nat) : Option (Nat × Nat) :=
  match recordReason ws with
  | some why => some (0x0306, recordDetail e why 0xFF addr)
  | none =>
    if fld (ws.getD 0 0) 0 8 ≠ 1 then none
    else
      let l := (List.range ((fld (ws.getD 0 0) 8 9 - 2) / 2)).map (recInstr ws)
      (List.range l.length).findSome? fun k =>
        match instrReason l k with
        | some why => some (0x0306, recordDetail e why k addr)
        | none => match instrToken (l.getD k 0) with
          | some t => if tokens ≤ t then some (0x0406, t) else none
          | none => none

/-- STR.ISSUE (R195, R232, R244): the engine copies the record at a word address; a refused record is a stream fault, and
an engine that has stopped discards it. -/
def Dev.issueRecord (d : Dev) (g e addr : Nat) : Dev :=
  let c := d.core g
  let ws := (List.range (c.recordLen addr)).map fun k => (c.word (addr + k)).toNat
  let block := match c.seq.running with | some b => b.index | none => 0xFFFF_FFFF
  if (c.eng e).stopped then d.updCore g fun c => c.updEng e fun x => { x with discards := satAdd 32 x.discards 1 }
  else match recordFault ws e addr (match d.coreJob g with | some j => j.tokenCount | none => 0) with
  | some (code, detail) => d.streamFault g e code detail block (c.eng e).refusedProg none
  | none => d.updCore g fun c => c.updEng e fun x => { x with queue := x.queue ++ [{ words := ws, addr := addr, block := block }] }

/-! ### Commands of an engine (R231) -/

/-- The engine may start its next command: none runs, and it has neither stopped nor begun to drain. -/
def StreamEng.ready (x : StreamEng) : Bool := x.prog.isNone && x.unpost.isNone && !x.stopped && !x.draining

/-- The next command of an engine, when it has the given KIND. -/
def Core.nextRecord (c : Core) (e kind : Nat) : Option StrCmd :=
  let x := c.eng e
  match x.queue with
  | q :: _ => if x.ready ∧ fld (q.words.getD 0 0) 0 8 = kind then some q else none
  | [] => none

/-- The command at the head of an engine's queue has completed. -/
def Core.popRecord (c : Core) (e : Nat) : Core := c.updEng e fun x => { x with queue := x.queue.drop 1 }

/-- A stream fault of the command at the head of the queue. -/
def Dev.recordFail (d : Dev) (g e : Nat) (q : StrCmd) (code detail : Nat) : Dev :=
  (d.updCore g fun c => c.popRecord e).streamFault g e code detail q.block ((d.core g).eng e).refusedProg none

/-- RUN (R231, R236): the engine starts the program with its registers zero. -/
def fxRun (d : Dev) (g e : Nat) : Dev :=
  match (d.core g).nextRecord e 1 with
  | none => d
  | some q => d.updCore g fun c => (c.popRecord e).updEng e fun x =>
    { x with progs := x.progs + 1,
             prog := some { instrs := (List.range ((fld (q.words.getD 0 0) 8 9 - 2) / 2)).map (recInstr q.words), pc := 0,
                            a := List.replicate 8 0, l := List.replicate 4 0, loops := [], addr := q.addr, block := q.block, serial := x.progs + 1 } }

/-- A POST that R233 refuses. -/
def Core.postBad (c : Core) (base rows r : Nat) : Bool :=
  decide (rows = 0) || decide (65536 < rows) || (c.ring? r).isSome || decide (65536 < base + rows) ||
    (offWord c.segState (64 * base) (64 * (base + rows) - 1)).isSome ||
    (c.rings.any fun p => decide (p.2.base < base + rows) && decide (base < p.2.base + p.2.rows)) ||
    (decide (0 < c.shadowSize) && decide (c.shadowBase < 64 * (base + rows)) && decide (64 * base < c.shadowBase + c.shadowSize))

/-- POST (R233). -/
def fxPost (d : Dev) (g e : Nat) : Dev :=
  match (d.core g).nextRecord e 2 with
  | none => d
  | some q =>
    let base := fld (q.words.getD 1 0) 0 16
    let rows := fld (q.words.getD 2 0) 0 17
    let w3 := q.words.getD 3 0
    let r := fld w3 0 4
    if (d.core g).postBad base rows r then d.recordFail g e q 0x0306 (recordDetail e 5 0xFF q.addr)
    else d.updCore g fun c =>
      let c := c.popRecord e
      { c with rings := Tab.set c.rings r { eng := e, typ := fld w3 4 2, rel := bit w3 6, base := base, rows := rows, land := 0,
                                            drain := 0, row := [], releasing := [], rx := [], fail := none, keep := 0 } }

/-- UNPOST (R236): a ring of this engine; the removal waits for its transfers. -/
def fxUnpost (d : Dev) (g e : Nat) : Dev :=
  match (d.core g).nextRecord e 5 with
  | none => d
  | some q =>
    let r := fld (q.words.getD 1 0) 0 4
    match (d.core g).ring? r with
    | some x =>
      if x.eng = e then d.updCore g fun c => c.updEng e fun y => { y with unpost := some r }
      else d.recordFail g e q 0x0306 (recordDetail e 4 0xFF q.addr)
    | none => d.recordFail g e q 0x0306 (recordDetail e 4 0xFF q.addr)

/-- A ring is removed; its words stay (R236, R251). -/
def Core.unpostRing (c : Core) (r : Nat) : Core := { c with rings := Tab.del c.rings r }

/-- Something is on its way into a region of a core: an RWR of some core, or exchange words of its cluster (R236). -/
def Dev.incoming (d : Dev) (g : Nat) (q : Ring) : Bool :=
  let lo := 64 * q.base
  let hi := 64 * (q.base + q.rows)
  (d.cores.any fun c => c.2.engs.any fun x => x.2.xfers.any fun t =>
    decide (t.opc = 9) && decide (t.core = g) && decide (t.remote < hi) &&
      decide (lo < t.remote + (t.len - t.done) * (if t.unit then 16 else 64))) ||
    ((List.range 8).any fun k => (d.core (g / 8 * 8 + k)).egress.any fun x =>
      decide (x.1 = g % 8) && decide (lo ≤ x.2.1) && decide (x.2.1 < hi))

/-- UNPOST_COMPLETE (R236): no transfer into or out of the ring is in flight. -/
def fxUnpostComplete (d : Dev) (g e : Nat) : Dev :=
  let x := (d.core g).eng e
  match x.unpost with
  | some r =>
    if (x.xfers.any fun t => t.ring == some r) ||
        (match (d.core g).ring? r with | some q => decide (q.typ = 2) && d.incoming g q | none => false) then d
    else d.updCore g fun c => ((c.popRecord e).updEng e fun x => { x with unpost := none }).unpostRing r
  | none => d

/-- Landed rows released in ring order from the release pointer (R234). -/
def Ring.releaseRows (q : Ring) : Nat → Ring
  | 0 => q
  | n + 1 => if q.state q.drain = .landed then Ring.releaseRows { q.setRow q.drain .free with drain := (q.drain + 1) % max 1 q.rows } n else q

/-- RELEASE (R234). -/
def fxRelease (d : Dev) (g e : Nat) : Dev :=
  match (d.core g).nextRecord e 6 with
  | none => d
  | some q =>
    let r := fld (q.words.getD 1 0) 0 4
    match (d.core g).ring? r with
    | some x =>
      if x.eng = e ∧ (x.typ = 0 ∨ x.typ = 3) then
        d.updCore g fun c => (c.popRecord e).updRing r fun y => y.releaseRows (min (fld (q.words.getD 2 0) 0 17) y.rows)
      else d.recordFail g e q 0x0306 (recordDetail e 4 0xFF q.addr)
    | none => d.recordFail g e q 0x0306 (recordDetail e 4 0xFF q.addr)

/-- LEAVE (R248): the cluster leaves a group it is a member of, and completes its key by catch-up. -/
def fxLeave (d : Dev) (g e : Nat) : Dev :=
  match (d.core g).nextRecord e 4 with
  | none => d
  | some q =>
    let n := fld (q.words.getD 1 0) 0 5
    let d := d.updCore g fun c => c.popRecord e
    if (d.group (g / 64) n).memberNow (g / 8 % 8) then d.leaveMember (g / 64) n (g / 8 % 8) else d

/-- PARTITION_VIOLATION detail of a device address (R245). -/
def streamAddr (e addr : Nat) : Nat := fld addr 0 52 + put e 60 2

/-- A member subscribes once all eight of its cores have bound the group; the header is read once every member has
(R123). The stall time of the others runs from the first subscription. -/
def Dev.subscribe (d : Dev) (die n m : Nat) : Dev :=
  let x := d.group die n
  let all' := (List.range 8).all fun k => (d.core (64 * die + 8 * m + k)).binds.any fun b => b.group = n ∧ b.catchup.isNone ∧ !b.ended
  if x.state = 1 ∧ all' ∧ !bit x.subscribed m ∧ x.memberNow m then
    let sub := withBit x.subscribed m true
    let st := if x.stalled.isEmpty then
        ((bitsOf 8 x.members).filter fun k => !bit sub k).map fun k => (k, d.aon die)
      else x.stalled.filter fun p => p.1 ≠ m
    d.setGroup die n { x with subscribed := sub, active := withBit x.active m true, stalled := st,
                              state := if (bitsOf 8 x.members).all (bit (sub ||| x.dropped ||| x.left)) then 2 else 1 }
  else d

/-- KBIND (R123, R246, R247): refusals first, then the binding. -/
def fxKbind (d : Dev) (g e : Nat) : Dev :=
  match (d.core g).nextRecord e 3 with
  | none => d
  | some q =>
    let w1 := q.words.getD 1 0
    let n := fld w1 0 5
    let slot := fld w1 5 2
    let sreg := fld w1 7 3
    let r := fld w1 10 4
    let el := fld w1 14 4
    let die := g / 64
    let m := g / 8 % 8
    let c := d.core g
    let x := d.group die n
    let mask := match d.coreJob g with | some j => j.partMask | none => 0
    let foreign := (d.mem.partFor mask x.addr 4096).isNone
    let op := (c.ops.find? fun p => p.1 = slot).map Prod.snd
    let ringOk := match c.ring? r with | some y => decide (y.typ = 0) && decide (y.eng = e) && !y.rel | none => false
    let taken := c.binds.any fun b => decide (b.sreg = sreg) || (decide (b.slot = slot) && decide (b.element = el))
    let unfit := match op with | some o => !consumes o.opcode (o.elements - 1) el | none => false
    if foreign || !bit x.members m then d.recordFail g e q 0x0502 (streamAddr e x.addr)
    else if (decide (x.state ≠ 1) && decide (x.state ≠ 2)) || !ringOk || taken || unfit then
      d.recordFail g e q 0x0306 (recordDetail e 7 0xFF q.addr)
    else
      let b : Binding :=
        { group := n, slot := slot, sreg := sreg, ring := r, element := el, aux := if bit w1 18 then some (q.words.getD 2 0) else none,
          eng := e, attached := op.isSome, header := none, expected := none, bad := none, pos := 0,
          catchup := if x.state = 1 ∧ x.memberNow m then none else some 0, recheck := none, seen := 0, addr := x.addr, level := x.level, tagsOk := false,
          ended := false }
      let d := d.updCore g fun c =>
        let c := c.popRecord e
        { c with binds := c.binds ++ [b], seeds := Tab.set c.seeds sreg SeedReg.waiting }
      d.subscribe die n m

/-! ### Programs (R236 to R241) -/

/-- The program of an engine and its next instruction, when it has the given opcode and nothing holds the engine: a
transfer occupies it until its last request (R240). -/
def Core.nextInstr (c : Core) (e op : Nat) : Option (Prog × Nat) :=
  let x := c.eng e
  match x.prog with
  | some p =>
    let i := p.instrs.getD p.pc 0
    if x.waitTok.isNone ∧ x.fence.isNone ∧ !x.stopped ∧ !x.draining ∧ (x.xfers.all fun t => decide (t.len ≤ t.requested)) ∧ p.pc < p.instrs.length ∧ instrOp i = op then some (p, i) else none
  | none => none

/-- The instruction after index i: loops back at the end of a body (R237). -/
def nextPc (i : Nat) : List (Nat × Nat × Nat × Nat) → Nat × List (Nat × Nat × Nat × Nat)
  | [] => (i + 1, [])
  | (a, len, reps, rep) :: t =>
    if i + 1 = a + len then if rep + 1 < reps then (a, (a, len, reps, rep + 1) :: t) else nextPc i t
    else (i + 1, (a, len, reps, rep) :: t)

/-- The instruction has issued: the program goes on, or ends after its last instruction (R231). -/
def Core.stepProg (c : Core) (e : Nat) (p : Prog) : Core :=
  let nx := nextPc p.pc p.loops
  let p := { p with pc := nx.1, loops := nx.2 }
  c.updEng e fun x => { x with prog := if p.pc < p.instrs.length then some p else none }

/-- An instruction that only changes the program's registers. -/
def Dev.simpleInstr (d : Dev) (g e op : Nat) (u : Prog → Nat → Prog) : Dev :=
  match (d.core g).nextInstr e op with
  | some (p, i) => d.updCore g fun c => c.stepProg e (u p i)
  | none => d

/-- END (R237): the program ends. -/
def fxStrEnd (d : Dev) (g e : Nat) : Dev :=
  match (d.core g).nextInstr e 0 with
  | some _ => d.updCore g fun c => c.updEng e fun x => { x with prog := none }
  | none => d

/-- SETA, ADDA, SETL, ADDL (R237). -/
def fxSeta (d : Dev) (g e : Nat) : Dev := d.simpleInstr g e 1 fun p i => { p with a := p.a.set (fld i 6 3) (fld i 12 52) }
def fxAdda (d : Dev) (g e : Nat) : Dev :=
  d.simpleInstr g e 2 fun p i => { p with a := p.a.set (fld i 6 3) ((((p.a.getD (fld i 6 3) 0 : Nat) : Int) + sext (fld i 32 32) 32) % (2 ^ 52 : Int)).toNat }
def fxSetl (d : Dev) (g e : Nat) : Dev := d.simpleInstr g e 3 fun p i => { p with l := p.l.set (fld i 6 2) (fld i 10 22) }
def fxAddl (d : Dev) (g e : Nat) : Dev :=
  d.simpleInstr g e 4 fun p i => { p with l := p.l.set (fld i 6 2) ((((p.l.getD (fld i 6 2) 0 : Nat) : Int) + sext (fld i 32 32) 32) % (2 ^ 22 : Int)).toNat }

/-- LOOP of a stream program (R237). -/
def fxStrLoop (d : Dev) (g e : Nat) : Dev :=
  match (d.core g).nextInstr e 5 with
  | some (p, i) => d.updCore g fun c => c.updEng e fun x =>
    { x with prog := some { p with pc := p.pc + 1, loops := (p.pc + 1, fld i 6 5 + 1, fld i 16 16 + 1, 0) :: p.loops } }
  | none => d

/-- A token's count, and as a core sees it (R160). -/
def Job.token (j : Job) (t : Nat) : Nat := Tab.get 0 j.tokens t
def Core.token (c : Core) (t : Nat) : Nat := Tab.get 0 c.seen t
def Core.see (c : Core) (t : Nat) : Core := { c with seen := Tab.set c.seen t (satAdd 32 (c.token t) 1) }

/-- A signal of a job's token: the counter rises; the signalling core sees it at once, every other core of the job once the
signal has travelled to it (R160). Cores signal under their number, application core a under 128 + a. -/
def Dev.signal (d : Dev) (id t by' : Nat) : Dev :=
  match d.job id with
  | none => d
  | some j =>
    (d.updJob id fun j => { j with tokens := Tab.set j.tokens t (satAdd 32 (j.token t) 1) }).forAll j.cores fun d g =>
      d.updCore g fun c => if g = by' then c.see t else { c with sigq := c.sigq ++ [(t, by')] }

/-- TOKEN_SIGNAL_ARRIVES (R160, R303): the oldest signal on its way from a signaller takes effect at a core. -/
def fxTokenSignalArrives (d : Dev) (g by' : Nat) : Dev :=
  d.updCore g fun c => match c.sigq.find? fun s => s.2 = by' with
    | some s => { c.see s.1 with sigq := c.sigq.erase s }
    | none => c

/-- WAITT (R237): the threshold grows by STEP for each repetition of the innermost loop. -/
def fxWaitt (d : Dev) (g e : Nat) : Dev :=
  match (d.core g).nextInstr e 11 with
  | some (p, i) =>
    let rep := match p.loops with | (_, _, _, r) :: _ => r | [] => 0
    let thr := fld i 32 32 + fld i 18 14 * rep
    let now := (d.core g).token (fld i 6 12)
    if thr ≤ now then d.updCore g fun c => c.stepProg e p
    else d.updCore g fun c => c.updEng e fun x => { x with waitTok := some (fld i 6 12, thr) }
  | none => d

/-- WAITT_SATISFIED (R160, R237). -/
def fxWaittSatisfied (d : Dev) (g e : Nat) : Dev :=
  let x := (d.core g).eng e
  match x.waitTok, x.prog with
  | some (t, thr), some p =>
    if thr ≤ (d.core g).token t ∧ !x.draining then d.updCore g fun c => (c.updEng e fun x => { x with waitTok := none }).stepProg e p else d
  | _, _ => d

/-- SIG (R241): recorded with the number of the next transfer. -/
def fxSig (d : Dev) (g e : Nat) : Dev :=
  match (d.core g).nextInstr e 12 with
  | some (p, i) => d.updCore g fun c =>
    (c.updEng e fun x => { x with sigs := x.sigs ++ [(fld i 6 12, x.nextId, p.serial)] }).stepProg e p
  | none => d

/-- Every transfer before a number has completed. -/
def StreamEng.doneBefore (x : StreamEng) (n : Nat) : Bool := !(x.xfers.any fun t => decide (t.id < n))

/-- SIG_SIGNALLED (R241): the oldest SIG whose transfers have completed signals its token. -/
def fxSigSignalled (d : Dev) (g e : Nat) : Dev :=
  let x := (d.core g).eng e
  match x.sigs.find? fun s => x.doneBefore s.2.1, (d.core g).job with
  | some s, some id => (d.updCore g fun c => c.updEng e fun x => { x with sigs := x.sigs.erase s }).signal id s.1 g
  | _, _ => d

/-- FENCE and FENCE_COMPLETE (R237). -/
def fxFence (d : Dev) (g e : Nat) : Dev :=
  match (d.core g).nextInstr e 13 with
  | some (p, _) =>
    let x := (d.core g).eng e
    if x.xfers.isEmpty then d.updCore g fun c => c.stepProg e p
    else d.updCore g fun c => c.updEng e fun x => { x with fence := some x.nextId }
  | none => d
def fxFenceComplete (d : Dev) (g e : Nat) : Dev :=
  let x := (d.core g).eng e
  match x.fence, x.prog with
  | some n, some p =>
    if x.doneBefore n ∧ !x.draining then d.updCore g fun c => (c.updEng e fun x => { x with fence := none }).stepProg e p else d
  | _, _ => d

/-! ### Transfers (R239 to R243) -/

/-- Words of one row or unit, and its bytes in HBM (R239). -/
def Transfer.words (t : Transfer) : Nat := if t.unit then 16 else 64
def formBytes (form words : Nat) : Nat := if form = 0 then words * 9 / 2 else words * 4
def Transfer.bytes (t : Transfer) : Nat := formBytes t.form t.words

/-- Words as bytes in a form (R33, R239). -/
def packWords (form : Nat) (l : List Word) : List Byte :=
  if form = 0 then leBytes (l.length * 9 / 2) (l.foldr (fun w a => w.toNat + 2 ^ 36 * a) 0)
  else l.flatMap fun w => leBytes 4 (w.toNat % 2 ^ 32)
def unpackWords (form n : Nat) (b : List Byte) : List Word :=
  if form = 0 then (List.range n).map fun i => BitVec.ofNat 36 (leNat b / 2 ^ (36 * i))
  else (List.range n).map fun i => BitVec.ofNat 36 (numAt b (4 * i) 4)

/-- A local run of words is allowed: inside the store, off every posted ring, in powered segments (R243). -/
def Core.runOk (c : Core) (a n : Nat) : Bool :=
  decide (a + n ≤ 2 ^ 22) && (offWord c.segState a (a + n - 1)).isNone &&
    !(c.rings.any fun p => decide (64 * p.2.base < a + n) && decide (a < 64 * (p.2.base + p.2.rows)))

/-- The words of an RWR's target lie inside one TYPE 2 region of the target core (R243). -/
def Core.regionHolds (c : Core) (a n : Nat) : Bool :=
  c.rings.any fun p => decide (p.2.typ = 2) && decide (64 * p.2.base ≤ a) && decide (a + n ≤ 64 * (p.2.base + p.2.rows))

/-- Where a PARTITION_VIOLATION of a word address is reported (R245). -/
def streamWord (e g a : Nat) : Nat := fld a 0 22 + put g 22 7 + 2 ^ 63 + put e 60 2

/-- The check of a transfer instruction when it issues (R243): fault code and detail, or none. -/
def Dev.xferFault (d : Dev) (g e : Nat) (p : Prog) (t : Transfer) : Option (Nat × Nat) :=
  let c := d.core g
  let rec' (why : Nat) : Nat × Nat := (0x0306, recordDetail e why p.pc p.addr)
  let j := d.coreJob g
  let hbm := if t.opc = 6 ∨ t.opc = 7 then
      if (j.bind fun j => d.mem.partFor j.partMask t.addr (t.len * t.bytes)).isSome then none else some (0x0502, streamAddr e t.addr)
    else none
  let far := if t.opc = 8 ∨ t.opc = 9 then
      if !(match j with | some j => bit j.coreMask t.core | none => false) then some (0x0502, streamWord e t.core t.remote)
      else if t.opc = 9 ∧ !(d.core t.core).regionHolds t.remote (t.len * t.words) then some (0x0502, streamWord e t.core t.remote)
      else if t.opc = 8 ∧ 2 ^ 22 < t.remote + t.len * t.words then some (0x0502, streamWord e t.core t.remote) else none
    else none
  let near := match t.ring with
    | some r => match c.ring? r with
      | some q => if q.eng = e ∧ q.typ = (if t.opc = 6 ∨ t.opc = 8 then 0 else 1) then none else some (rec' 4)
      | none => some (rec' 4)
    | none => if c.runOk t.local' (t.len * t.words) then none else some (rec' 6)
  hbm.or (far.or near)

/-- The transfer of an RD, WR, RRD, RWR or LSEND instruction (R237, R238). -/
def transferOf (p : Prog) (i id : Nat) : Transfer :=
  let op := instrOp i
  { id := id, opc := op, addr := if op = 6 ∨ op = 7 then p.a.getD (fld i 6 3) 0 else 0,
    local' := if bit i 13 then 0 else p.l.getD (fld i 9 2) 0, ring := if bit i 13 then some (fld i 9 4) else none,
    form := if op = 8 ∨ op = 9 then 0 else fld i 14 1, unit := bit i 15, len := fld i 16 12 + 1, requested := 0, done := 0,
    core := if op = 8 ∨ op = 9 then fld i 32 7 else 0, remote := if op = 8 ∨ op = 9 then p.l.getD (fld i 6 2) 0 else 0,
    peer := if op = 10 then fld i 32 16 else 0, queue := if op = 10 then fld i 48 12 else 0, pend := 0,
    dests := [], buf := [], skip := 0, block := p.block, prog := p.serial }

/-- A transfer advances its A or L register and its remote L register by its length (R238). -/
def Prog.advance (p : Prog) (i : Nat) (t : Transfer) : Prog :=
  let words := t.len * t.words
  let p := if t.opc = 6 ∨ t.opc = 7 then { p with a := p.a.set (fld i 6 3) ((p.a.getD (fld i 6 3) 0 + t.len * t.bytes) % 2 ^ 52) } else p
  let p := if t.opc = 8 ∨ t.opc = 9 then { p with l := p.l.set (fld i 6 2) ((p.l.getD (fld i 6 2) 0 + words) % 2 ^ 22) } else p
  if bit i 13 then p else { p with l := p.l.set (fld i 9 2) ((p.l.getD (fld i 9 2) 0 + words) % 2 ^ 22) }

/-- A transfer instruction issues (R240, R242, R243). -/
def Dev.issueTransfer (d : Dev) (g e op : Nat) (extra : Dev → Transfer → Option (Nat × Nat)) : Dev :=
  match (d.core g).nextInstr e op with
  | none => d
  | some (p, i) =>
    let t := transferOf p i ((d.core g).eng e).nextId
    match (d.xferFault g e p t).or (extra d t) with
    | some (code, detail) => d.streamFault g e code detail p.block p.serial t.ring
    | none => d.updCore g fun c =>
      let c := if t.len * t.bytes < 512 then { c with strSmall := satAdd 64 c.strSmall 1 } else c
      (c.updEng e fun x => { x with nextId := x.nextId + 1, xfers := x.xfers ++ [t] }).stepProg e (p.advance i t)

/-- RD, WR, RRD and RWR (R237). -/
def fxRd (d : Dev) (g e : Nat) : Dev := d.issueTransfer g e 6 fun _ _ => none
def fxWr (d : Dev) (g e : Nat) : Dev := d.issueTransfer g e 7 fun _ _ => none
def fxRrd (d : Dev) (g e : Nat) : Dev := d.issueTransfer g e 8 fun _ _ => none
def fxRwr (d : Dev) (g e : Nat) : Dev := d.issueTransfer g e 9 fun _ _ => none

/-! ### Rows of a transfer -/

/-- The transfer of an engine with a number. -/
def StreamEng.xfer (x : StreamEng) (n : Nat) : Option Transfer := x.xfers.find? fun t => t.id = n

/-- A transfer that has moved k more rows or units. -/
def Transfer.moved (t : Transfer) (k : Nat) : Transfer :=
  { t with done := t.done + k, addr := if t.opc = 6 ∨ t.opc = 7 then t.addr + k * t.bytes else t.addr,
           local' := if t.ring.isNone then (t.local' + k * t.words) % 2 ^ 22 else t.local',
           remote := if t.opc = 8 ∨ t.opc = 9 then (t.remote + k * t.words) % 2 ^ 22 else t.remote }

/-- A transfer has moved k more rows or units; when it has moved all it leaves (R241). -/
def Core.moved (c : Core) (e n k : Nat) : Core :=
  c.updEng e fun x =>
    { x with xfers := (x.xfers.map fun t => if t.id = n then t.moved k else t).filter fun t => decide (t.done < t.len) }

/-- Rows that have left the source, for the transfers of a ring: an LSEND's rows leave before they are acknowledged. -/
def Transfer.drained (t : Transfer) : Nat :=
  if t.opc = 10 then (t.dests.headD ⟨0, false, 0, 0, none, none⟩).sent + t.buf.length / t.bytes + t.skip else t.done

/-- Rows requested of a ring and not yet moved, over the transfers of its engine. -/
def StreamEng.pendingRows (x : StreamEng) (r : Nat) : Nat :=
  ((x.xfers.filter fun t => t.ring == some r).map fun t => t.requested + t.pend - t.drained).sum

/-- The ring has k rows free, or ready, behind those already requested (R240). -/
def Core.ringHas (c : Core) (e r k : Nat) : Bool :=
  match c.ring? r with
  | some q =>
    let at' := (if q.typ = 1 then q.drain else q.land) + (c.eng e).pendingRows r
    decide ((c.eng e).pendingRows r + k ≤ q.rows) &&
      (List.range k).all fun i => q.state ((at' + i) % max 1 q.rows) == (if q.typ = 1 then .ready else .free)
  | none => false

/-- A stream fault of a transfer. -/
def Dev.xferFail (d : Dev) (g e : Nat) (t : Transfer) (code detail : Nat) : Dev :=
  (d.updCore g fun c => c.updEng e fun x => { x with xfers := x.xfers.filter fun y => y.id ≠ t.id }).streamFault g e code detail
    t.block t.prog t.ring

/-- A ready row of an outbound ring has been read: it is released to the block (R235). -/
def Ring.drained (q : Ring) : Ring := { q.setRow q.drain .released with drain := (q.drain + 1) % max 1 q.rows }

/-- A row of a transfer met uncorrectable data (R244): a stream fault; the row does not land or is not sent, and the
transfer goes on past it. -/
def Dev.xferSkip (d : Dev) (g e : Nat) (t : Transfer) (code detail : Nat) : Dev :=
  (d.streamFault g e code detail t.block t.prog none).updCore g fun c =>
    let c := c.moved e t.id 1
    match t.ring with
    | some r => c.updRing r fun q => if t.opc = 6 ∨ t.opc = 8 then q.landed (.failed code detail) else q.drained
    | none => c

/-- The words of the transfer's next row from its source: HBM, the local store or another core's (R206, R237, R241). -/
def Dev.fetchRow (d : Dev) (g e : Nat) (t : Transfer) (from' : Nat) : Dev × Option (List Word) :=
  if t.opc = 6 then
    match d.hbmRead t.addr t.bytes with
    | (d, .ok b) =>
      let d := d.updMem fun m => m.bridge (hbmDie t.addr) (g / 64) t.bytes
      (d, some (unpackWords t.form t.words b))
    | (d, .error atom) => (d.xferSkip g e t 0x0501 (streamAddr e atom), none)
  else
    let h := if t.opc = 8 then t.core else g
    let a := if t.opc = 8 then t.remote else from'
    let l := (List.range t.words).map fun k => (a + k) % 2 ^ 22
    match (d.core h).sideRead l with
    | (c, none) => (d.setCore h c, some (l.map fun x => c.word x))
    | (c, some detail) => ((d.setCore h c).xferSkip g e t 0x0501 (detail + put e 60 2), none)

/-- The words of a row reach their place: HBM, the local store or another core's (R241, R242). -/
def Dev.putRow (d : Dev) (g : Nat) (t : Transfer) (at' : Nat) (ws : List Word) : Dev :=
  if t.opc = 7 then
    let job := (d.core g).job
    let mask := match d.coreJob g with | some j => j.partMask | none => 0
    let d := d.hbmWrite ((d.mem.partFor mask t.addr t.bytes).getD 0) job t.addr (packWords t.form ws)
    let d := d.updMem fun m => m.bridge (g / 64) (hbmDie t.addr) t.bytes
    d.updCore g fun c => { c with strWr := satAdd 64 c.strWr t.bytes }
  else
    let h := if t.opc = 9 then t.core else g
    let a := if t.opc = 9 then t.remote else at'
    let r := (d.core h).sideWrite (ws.zipIdx.map fun x => ((a + x.2) % 2 ^ 22, x.1))
    let d := (d.setCore h r.1).updMem fun m => if t.opc = 6 then m else m.bridge (if t.opc = 9 then g / 64 else t.core / 64) (if t.opc = 9 then t.core / 64 else g / 64) t.bytes
    let d := d.updCore g fun c =>
      if t.opc = 9 then { c with strWr := satAdd 64 c.strWr t.bytes } else { c with strRd := satAdd 64 c.strRd t.bytes }
    match r.2 with
    | some detail => d.coreFault h (plainFault 0x0501 0 (coreLoc h) detail)
    | none => d

/-- The next row of a transfer waits for the partial reset of a channel (R256). -/
def Dev.rowWaits (d : Dev) (t : Transfer) : Bool := (decide (t.opc = 6) || decide (t.opc = 7)) && d.mem.resetting t.addr t.bytes

/-- One row of a transfer whose local operand is a run of words moves. -/
def Dev.moveRun (d : Dev) (g e n : Nat) : Dev :=
  match ((d.core g).eng e).xfer n with
  | none => d
  | some t =>
    if d.rowWaits t then d else
    match d.fetchRow g e t t.local' with
    | (d, some ws) => (d.putRow g t t.local' ws).updCore g fun c => c.moved e n 1
    | (d, none) => d

/-- The requested rows of a transfer with a local run move, in order. -/
def Dev.moveRuns (d : Dev) (g e n : Nat) : Nat → Dev
  | 0 => d
  | k + 1 => (d.moveRun g e n).moveRuns g e n k

/-- Where the next request of a transfer begins in HBM. -/
def Transfer.nextAddr (t : Transfer) : Nat := t.addr + (t.requested - t.done) * t.bytes

/-- A request of k rows goes to the regulator and the small path, which let it issue or hold it (R242, R261, R267). -/
def Dev.letPass (d : Dev) (g e : Nat) (t : Transfer) (k : Nat) : Dev :=
  let len := k * t.bytes
  let mask := match d.coreJob g with | some j => j.partMask | none => 0
  let w := Waiter.xfer g e t.id
  let d := d.updMem fun m => m.ask w (some ((m.partFor mask t.nextAddr len).getD 0)) (decide (t.len * t.bytes < 512)) (decide (t.opc = 7)) t.nextAddr len
  let held := d.mem.holds.contains w
  d.updCore g fun c => c.updXfer e t.id fun t => if held then { t with pend := k } else { t with requested := t.requested + k }

/-- The granule requests of a transfer that its controllers hold: the channel of each. -/
def Transfer.granulesOut (t : Transfer) : List Nat := (granules t.addr ((t.requested - t.done) * t.bytes)).map fun q => chanOf q.1

/-- The HBM transfers of an opcode that stream engines have in flight. -/
def Dev.hbmXfers (d : Dev) (opc : Nat) : List Transfer :=
  d.cores.flatMap fun c => c.2.engs.flatMap fun x => x.2.xfers.filter fun t => decide (t.opc = opc) && decide (t.done < t.requested)

/-- A request of k rows meets no bound of R170: 128 reads or 64 writes of each channel controller, and 32,768 requests of the
device. -/
def Dev.inBounds (d : Dev) (t : Transfer) (k : Nat) : Bool :=
  let l := (granules t.nextAddr (k * t.bytes)).map fun q => chanOf q.1
  let out := (d.hbmXfers t.opc).flatMap Transfer.granulesOut
  (l.all fun h => decide (out.count h + l.count h ≤ if t.opc = 6 then 128 else 64)) &&
    decide ((d.hbmXfers 6).length + (d.hbmXfers 7).length < 32768)

/-- Rows of the next request: at most 8 rows (R240). -/
def Transfer.batch (t : Transfer) : Nat := min (if t.unit then 32 else 8) (t.len - t.requested)

/-- A request of an HBM or inter-core transfer (R240): what has been requested of a local run moves, then the next
request issues. -/
def Dev.request (d : Dev) (g e n : Nat) : Dev :=
  match ((d.core g).eng e).xfer n with
  | none => d
  | some t =>
    if t.pend ≠ 0 then d
    else
      let d := if t.ring.isNone then d.moveRuns g e n (t.requested - t.done) else d
      match ((d.core g).eng e).xfer n with
      | none => d
      | some t =>
        let k := t.batch
        if decide (k = 0) || ((d.core g).eng e).draining || (t.ring.isNone && decide (t.done < t.requested)) || (match t.ring with | some r => !(d.core g).ringHas e r k | none => false) then d
        else if t.opc = 6 ∨ t.opc = 7 then
          if d.mem.resetting t.nextAddr (k * t.bytes) || !d.inBounds t k then d else d.letPass g e t k
        else d.updCore g fun c => c.updXfer e n fun t => { t with requested := t.requested + k }

/-- The oldest transfer of a ring with rows that have not moved: rings move rows in transfer order. -/
def Core.ringXfer (c : Core) (r : Nat) : Option (Nat × Transfer) :=
  match c.ring? r with
  | some q => ((c.eng q.eng).xfers.find? fun t => decide (t.ring = some r) && decide (t.drained < t.len)).map
      fun t => (q.eng, t)
  | none => none

/-- RING_ROW_LANDS (R234, R240, R244): the next requested row of an RD or RRD lands in ring order. -/
def fxRingRowLands (d : Dev) (g r : Nat) (up : List Upset) : Dev :=
  let d := d.updCore g fun c => (c.strike up).release
  match (d.core g).ring? r, (d.core g).ringXfer r with
  | some q, some (e, t) =>
    if q.typ = 0 ∧ q.state q.land = .free ∧ t.done < t.requested ∧ !d.rowWaits t then
      match d.fetchRow g e t 0 with
      | (d, some ws) =>
        (d.putRow g t (64 * (q.base + q.land)) ws).updCore g fun c =>
          (c.moved e t.id 1).updRing r fun q => q.landed .landed
      | (d, none) => d
    else d
  | _, _ => d

/-- An outbound row of a WR or RWR drains in ring order (R235, R240); one with uncorrectable data is not sent (R244). -/
def Dev.drainRow (d : Dev) (g r : Nat) (q : Ring) (e : Nat) (t : Transfer) : Dev :=
  if d.rowWaits t then d else
  match d.fetchRow g e t (64 * (q.base + q.drain)) with
  | (d, some ws) => (d.putRow g t 0 ws).updCore g fun c => (c.moved e t.id 1).updRing r Ring.drained
  | (d, none) => d

end Sys2Proof.Machine
end

