-- ==== Sys2Proof/Machine/Sequencer.lean ====
section
/-! DEFINITION. The sequencer: the commands of a bundle slot by slot, the landing of their results, freezes and timeouts,
the end of a block, the block queue and dispatch (R59, R62 to R64, R77 to R84, R146 to R169, R183 to R195). -/

namespace Sys2Proof.Machine

/-! ### Bundle slots -/

/-- The context of the bundle in issue: its own loops, the present cycle. -/
def Dev.cxNow (d : Dev) (g : Nat) : Cx :=
  let c := d.core g
  let i := c.seq.cur.getD 0
  { core := c, self := g % 8, bundle := c.bundle i, index := i, loops := c.seq.curLoops, nextDelay := none, cycle := c.seq.cycle,
    len := c.seq.code.length, aliased := match d.coreJob g with | some j => j.aliased | none => false,
    psets := match d.coreJob g with | some j => j.psets | none => [] }

/-- A command of a slot: when it is next to issue, it has its effect and the slot has issued. What the side port has written in
the cycle, its reads do not see (R204). -/
def Dev.slot (d : Dev) (g slot op : Nat) (u : Dev → Cx → Dev) : Dev :=
  match d.reach g slot op with
  | (d, true) =>
    let d := d.updCore g Core.sideHidden
    (u d (d.cxNow g)).updCore g fun c => c.sideShown.issued slot
  | (d, false) => d

/-- An engine command issues: the engine is occupied, the command is in flight. -/
def Dev.launch (d : Dev) (g slot : Nat) (x : Cx) (m : Cmd) : Dev :=
  d.updCore g fun c =>
    let c := match m.eng with | some e => c.busyUntil e m.occ | none => c
    c.launch slot m.op x.aliased []

/-- The opening of a bootstrap: the first OP.OPEN of a block of BT_SPARSE_IN or BT_BGV_C2S. Whether of a BGV ciphertext, and the
word address of the destination descriptor that the job names (R138, R139, R144). -/
def Dev.bootOpening (d : Dev) (g : Nat) (j : Job) : Option (Bool × Nat) :=
  let c := d.core g
  match c.seq.running with
  | some b =>
    if b.kernel ∧ (b.kid = 0x0B01 ∨ b.kid = 0x0B11) ∧ c.ops.isEmpty ∧ c.closed.isEmpty then
      some (decide (b.kid = 0x0B11), Config.bootDst (d.mem.bytes (j.args + 704) 64) % 2 ^ 22) else none
  | none => none

/-- Step 4 of R138: the bootstrap key table, 88 entries at ARGS. A zero entry, or one outside the HBM of the core's die, is
BOOT_KEYS_INCOMPLETE with its index (R137). -/
def Dev.bootKeys (d : Dev) (g : Nat) (j : Job) : Dev × Option (Nat × Nat) :=
  match d.hbmRead j.args 704 with
  | (d, .error atom) => (d, some (0x0501, atom))
  | (d, .ok b) =>
    (d, ((List.range 88).find? fun i =>
      let a := numAt b (8 * i) 8
      decide (a = 0) || !isHbm a || decide (hbmDie a ≠ g / 64)).map fun i => (0x0205, i))

/-- An operation fails to open: the block stops in cycle 8, and the bindings that waited for the operation end (R78, R247). -/
def Dev.openFails (d : Dev) (g slot : Nat) (x : Cx) (code detail : Nat) : Dev :=
  let d := (x.core.binds.filter fun b => decide (b.slot = slot) && !b.attached).foldl (fun d b => d.endBinding g b) d
  d.updCore g fun c => { c with seq := { c.seq with openFault := some (x.cycle + 8, code, detail) } }

/-- OP_OPEN (R77 to R83, R138, R247): the checks; a failure stops the block in cycle 8. -/
def fxOpOpen (d : Dev) (g : Nat) : Dev :=
  d.slot g 0 1 fun d x =>
    let a := openArgs (sclSlot x.bundle)
    match d.coreJob g with
    | none => d
    | some j =>
      let boot := d.bootOpening g j
      match d.openOp g j a boot x.cycle (x.core.seq.order + 15) with
      | .error (code, detail) => d.openFails g a.slot x code detail
      | .ok o =>
        let k := if boot.isSome then d.bootKeys g j else (d, none)
        match k.2 with
        | some (code, detail) => k.1.openFails g a.slot x code detail
        | none => k.1.updCore g fun c =>
          let ob := a.opened x.core boot
          let c := match boot, ob.pset j.psets with
            | some b, some p => { c with boot := some (ob.bootOf x.core g p b.1 b.2) }
            | _, _ => c
          ({ c with ops := Tab.set c.ops a.slot o }).updBinds (fun b => b.slot = a.slot) fun b => { b with attached := true }

/-- The descriptor that completes a bootstrap (R139): LEVEL and SCALE of the output, EXTENDED 0, DOMAIN 1, and the input's key
set, slots and parameter set. DEDUCED (log 190): a BGV output keeps SCALE 0. -/
def Boot.descr (b : Boot) (r : Descr) : Descr :=
  { r with level := b.level, limbs := b.level + 1, scale := if b.bgv then 0 else bootScale, extended := false, domain := true,
           keysetId := b.keysetId, slots := b.slots, psetId := b.psetId }

/-- OP.CLOSE completes the core's bootstrap: the last kernel, BT_S2C or BT_BGV_S2C, closes the operation on the destination that
the job names (R139). -/
def Core.bootDone (c : Core) (o : OpSlot) : Option Boot :=
  match c.boot, c.seq.running with
  | some b, some e => if e.kernel ∧ e.kid = (if b.bgv then 0x0B13 else 0x0B06) ∧ o.dst = b.dst then some b else none
  | _, _ => none

/-- OP_CLOSE (R79, R139, R247): the descriptors are written from cycle 2 on, the slot closes and its bindings end. -/
def fxOpClose (d : Dev) (g : Nat) : Dev :=
  d.slot g 0 2 fun d x =>
    let s := fld (sclSlot x.bundle) 4 2
    match x.core.ops.find? fun p => p.1 = s with
    | none => d
    | some (_, o) =>
      let o := match x.core.bootDone o with
        | some b => { o with results := o.results.map b.descr }
        | none => o
      let d := d.updCore g fun c =>
        { c.launch 0 (.close s o.descrs) x.aliased [] with
          ops := Tab.del c.ops s, closed := c.closed ++ [{ o with closing := x.core.seq.order + 15 }],
          boot := if (c.bootDone o).isSome then none else c.boot }
      (x.core.binds.filter fun b => decide (b.slot = s) && b.attached).foldl (fun d b => d.endBinding g b) d

/-- LOOP (R149): the loop is in force for the bundles that follow. -/
def fxLoop (d : Dev) (g : Nat) : Dev := d.slot g 0 3 fun d _ => d

/-- SHAPE_SET and PX_SET (R183, R184, R187): seen from the next cycle on. -/
def fxShapeSet (d : Dev) (g : Nat) : Dev :=
  d.slot g 0 4 fun d x => d.updCore g fun c => { c with newShapes := Tab.set c.newShapes (fld (sclSlot x.bundle) 4 6) (shapeOf (sclSlot x.bundle)) }
def fxPxSet (d : Dev) (g : Nat) : Dev :=
  d.slot g 0 5 fun d x => d.updCore g fun c => { c with newPx := Tab.set c.newPx (fld (sclSlot x.bundle) 4 2) (fld (sclSlot x.bundle) 6 40) }

/-- The NTT commands (R53, R55, R188). -/
def fxNttFwd (d : Dev) (g : Nat) (up : List Upset) : Dev :=
  (d.updCore g fun c => c.strike up).slot g 1 1 fun d x => d.launch g 1 x (nttCmd x)
def fxNttInv (d : Dev) (g : Nat) : Dev := d.slot g 1 2 fun d x => d.launch g 1 x (nttCmd x)
def fxNttFwdq (d : Dev) (g : Nat) : Dev := d.slot g 1 3 fun d x => d.launch g 1 x (nttCmd x)
def fxNttInvq (d : Dev) (g : Nat) : Dev := d.slot g 1 4 fun d x => d.launch g 1 x (nttCmd x)

/-- The basis-conversion commands (R56 to R58, R189). -/
def fxBcvLdm (d : Dev) (g : Nat) : Dev := d.slot g 2 1 fun d x => d.launch g 2 x (bcvCmd x)
def fxBcvExt (d : Dev) (g : Nat) : Dev := d.slot g 2 2 fun d x => d.launch g 2 x (bcvCmd x)
def fxBcvMatmul (d : Dev) (g : Nat) : Dev := d.slot g 2 3 fun d x => d.launch g 2 x (bcvCmd x)

/-- LD in read slot 3 or 4 (R59, R190): its two rows are read in the issue cycle. -/
def Dev.load (d : Dev) (g slot : Nat) : Dev :=
  d.slot g slot 1 fun d x => d.updCore g fun c =>
    let row := eweRow x slot
    c.launch slot (.ld (readReg x slot) row) x.aliased ((List.range 128).map fun k => (k, c.word (64 * row + k)))

/-- The read slot in which the next command stands: 4 when read 0 has issued or is absent. -/
def Dev.readSlot (d : Dev) (g : Nat) : Nat :=
  let d := d.skipEmpty g 65536
  let c := d.core g
  let first := match c.pendingSlot with
    | some s => some s
    | none => c.seq.next.bind fun i => (slotsOf (c.bundle i)).head?
  if first = some 4 then 4 else 3

/-- LD (R59). -/
def fxLd (d : Dev) (g : Nat) (up : List Upset) : Dev :=
  let d := d.updCore g fun c => c.strike up
  d.load g (d.readSlot g)

/-- QPOP (R59, R62, R63): the next quarter of the oldest tile. -/
def fxQpop (d : Dev) (g : Nat) : Dev :=
  let slot := d.readSlot g
  d.slot g slot 2 fun d x => d.updCore g fun c =>
    let q := quarterOf (c.tiles.headD []) c.quarter
    let c := if c.quarter = 3 then { c with tiles := c.tiles.drop 1, quarter := 0 } else { c with quarter := c.quarter + 1 }
    c.launch slot (.reg (readReg x slot) q 3) x.aliased []
where
  /-- quarter k of a tile -/
  quarterOf (t : List Word) (k : Nat) : List Word := (t.drop (128 * k)).take 128

/-- ST (R59): the register is read at issue, its rows land in cycle 3. -/
def fxSt (d : Dev) (g : Nat) : Dev :=
  d.slot g 6 1 fun d x => d.updCore g fun c =>
    c.launch 6 (.st (eweRow x 6) (Tab.get (List.replicate 128 0) c.vregs (fld (eweSlot x.bundle) 80 5))) x.aliased []

/-- An arithmetic instruction (R59, R60, R191). -/
def Dev.arith (d : Dev) (g aop : Nat) : Dev :=
  d.slot g 5 aop fun d x => d.updCore g fun c =>
    let s := eweSlot x.bundle
    let v (lo : Nat) : List Word := Tab.get (List.replicate 128 0) c.vregs (fld s lo 5)
    let fm := if modular aop then c.fm [ewePidx x] else 1
    let val := arithVal aop (primeAt c.ptab (ewePidx x)) (v 9) (v 14) (v 4) (v 19) (fld s 19 7)
    ({ c with eweArith := satAdd 64 c.eweArith 1 }.busyUntil 2 (arithOcc aop fm)).launch 5 (.reg (fld s 4 5) val (arithLat aop fm)) x.aliased []

def fxAdd (d : Dev) (g : Nat) : Dev := d.arith g 1
def fxSub (d : Dev) (g : Nat) : Dev := d.arith g 2
def fxNeg (d : Dev) (g : Nat) : Dev := d.arith g 3
def fxMul (d : Dev) (g : Nat) : Dev := d.arith g 4
def fxMac (d : Dev) (g : Nat) : Dev := d.arith g 5
def fxCmplt (d : Dev) (g : Nat) : Dev := d.arith g 6
def fxCmpeq (d : Dev) (g : Nat) : Dev := d.arith g 7
def fxSel (d : Dev) (g : Nat) : Dev := d.arith g 8
def fxShuf (d : Dev) (g : Nat) : Dev := d.arith g 9
def fxBcast (d : Dev) (g : Nat) : Dev := d.arith g 10
def fxAdd64 (d : Dev) (g : Nat) : Dev := d.arith g 11
def fxSub64 (d : Dev) (g : Nat) : Dev := d.arith g 12
def fxMul64 (d : Dev) (g : Nat) : Dev := d.arith g 13
def fxCmplt64 (d : Dev) (g : Nat) : Dev := d.arith g 14

/-- The permute commands (R65, R66, R192). -/
def fxPrmAuto (d : Dev) (g : Nat) : Dev := d.slot g 7 1 fun d x => d.launch g 7 x (prmCmd x)
def fxPrmAutoip (d : Dev) (g : Nat) : Dev := d.slot g 7 2 fun d x => d.launch g 7 x (prmCmd x)
def fxPrmTrans (d : Dev) (g : Nat) : Dev := d.slot g 7 3 fun d x => d.launch g 7 x (prmCmd x)
def fxPrmTransip (d : Dev) (g : Nat) : Dev := d.slot g 7 4 fun d x => d.launch g 7 x (prmCmd x)
def fxPrmGather (d : Dev) (g : Nat) : Dev := d.slot g 7 5 fun d x => d.launch g 7 x (prmCmd x)
def fxPrmScatter (d : Dev) (g : Nat) : Dev := d.slot g 7 6 fun d x => d.launch g 7 x (prmCmd x)
def fxPrmSend (d : Dev) (g : Nat) : Dev := d.slot g 7 7 fun d x => d.launch g 7 x (prmCmd x)

/-- The key-expander commands (R67, R193, R194). -/
def fxKexGen (d : Dev) (g : Nat) : Dev := d.slot g 8 1 fun d x => d.launch g 8 x (kexCmd x)
def fxKexGenq (d : Dev) (g : Nat) : Dev := d.slot g 8 2 fun d x => d.launch g 8 x (kexCmd x)

/-- STR_ISSUE (R195). -/
def fxStrIssue (d : Dev) (g : Nat) : Dev :=
  d.slot g 9 1 fun d x => d.issueRecord g (fld (strSlot x.bundle) 2 2) (fld (strSlot x.bundle) 4 22)

/-! ### Landing -/

/-- Block cycles in which commands in flight write local store, registers, descriptors or the constant buffer. -/
def Core.writeCycles (c : Core) : List Nat :=
  c.inflight.flatMap fun f =>
    ((f.op.writes f.cap).map fun w => f.issue + w.1) ++ (f.op.regOut.map fun v => f.issue + v.2).toList ++ (f.op.cbufAt.map fun n => f.issue + n).toList

/-- Block cycles in which they deposit tiles. -/
def Core.tileCycles (c : Core) : List Nat := c.inflight.flatMap fun f => f.op.tiles.map fun t => f.issue + t.1

/-- The core runs on to the next of some cycles, unless a bundle is due before then or is in issue, and finishes it. -/
def Dev.runTo (d : Dev) (g : Nat) (cycles : Core → List Nat) : Dev :=
  let d := d.skipEmpty g 65536
  let c := d.core g
  let from' := if c.seq.wrote then c.seq.cycle + 1 else c.seq.cycle
  match ((cycles c).filter fun w => decide (from' ≤ w)).min? with
  | some w =>
    if c.pendingSlot.isSome ∨ c.seq.freeze.isSome ∨ (c.seq.next.isSome ∧ c.seq.due ≤ w) then d
    else
      let d := d.advance g w (w - c.seq.cycle)
      if (d.core g).seq.cycle = w then d.updCore g Core.land else d
  | none => d

/-- ENGINE_WRITE_LANDS (R47, R48): the writes of the next cycle that has any. -/
def fxEngineWriteLands (d : Dev) (g : Nat) : Dev := d.runTo g Core.writeCycles
/-- TILE_DEPOSIT (R55, R62, R63). -/
def fxTileDeposit (d : Dev) (g : Nat) : Dev := d.runTo g Core.tileCycles

/-- COORD_LIST_FAIL (R220): a list phase ends with a failing coordinate, and the block stops. -/
def fxCoordListFail (d : Dev) (g : Nat) : Dev :=
  let c := d.core g
  match ((c.inflight.filterMap fun f => f.op.listEnd.map fun n => f.issue + n).filter fun w => decide (c.seq.cycle < w)).min? with
  | some w =>
    if c.pendingSlot.isSome ∨ (c.seq.next.isSome ∧ c.seq.due < w) then d
    else
      let d := d.advance g (w - 1) (w - c.seq.cycle)
      if (d.core g).seq.cycle = w - 1 ∧ ((d.core g).listStop w).isSome then (d.tick g).1 else d
  | none => d

/-! ### Freezes, stops and timeouts -/

/-- The core still waits for a row, an engine or a seed register (R163). -/
def Dev.stillWaits (d : Dev) (g : Nat) : Bool :=
  let c := d.core g
  let r := c.seq.cycle + 1
  (c.waitAt r).isSome || (match c.dueAt r with
    | some i =>
      let x := d.cx g i r
      (bundleFault x).isNone && (bundleWait x (issueReads x g (c.seq.order + 16))).isSome
    | none => false)

/-- FREEZE_END (R163): the awaited row has landed or been released, or the engine accepts the command; n clock cycles were
frozen. -/
def fxFreezeEnd (d : Dev) (g n : Nat) : Dev :=
  let free := d.updCore g fun c => { c.release with lateFreezeCyc := satAdd 64 c.lateFreezeCyc n, seq := { c.seq with freeze := none } }
  if (d.core g).seq.freeze.isSome && !free.stillWaits g then free else d.updCore g Core.release

/-- STREAM_TIMEOUT (R165): a freeze has lasted longer than the job's stream limit, 50 µs when it is 0 (25 counts per µs); n
clock cycles were frozen. -/
def fxStreamTimeout (d : Dev) (g n : Nat) : Dev :=
  let c := d.core g
  match c.seq.freeze, d.coreJob g with
  | some f, some j =>
    if c.seq.freezeAon + 25 * (if j.streamLimit = 0 then 50 else j.streamLimit) ≤ d.aon (dieOfCore g) then
      (d.updCore g fun c => { c with lateFreezeCyc := satAdd 64 c.lateFreezeCyc n, seq := { c.seq with freeze := none } }).stopBlock g
        (.of .memory 0x0304 (f.source + put f.bundle 16 16 + put f.row 48 16) f.order)
    else d
  | _, _ => d

/-- AUDIT_FREEZE (R169): 22 unfrozen cycles have passed under audit; the three frozen cycles change nothing else. -/
def fxAuditFreeze (d : Dev) (g : Nat) : Dev :=
  d.updCore g fun c => if c.seq.audit ∧ 22 ≤ c.seq.auditRun then { c with seq := { c.seq with auditRun := c.seq.auditRun - 22 } } else c

/-- CLUSTER_OPERATION_STOP (R83, R388): a core that has to stop reaches its next bundle and stops there; a frozen core whose
job has ended stops where it is. -/
def fxClusterOperationStop (d : Dev) (g : Nat) : Dev :=
  let c := d.core g
  if c.seq.stopNext = 2 ∧ c.seq.freeze.isSome ∧ c.seq.running.isSome then
    d.cutBlock g (.of .point 0 0 (2 ^ 40))
  else if c.seq.stopNext = 0 ∨ c.pendingSlot.isSome ∨ c.seq.next.isNone then d else d.advance g c.seq.due (c.seq.due - c.seq.cycle)

/-! ### The end of a block (R64, R80, R150, R152) -/

/-- Ticks until nothing of the block is in flight. -/
def Dev.drain (d : Dev) (g : Nat) : Nat → Dev
  | 0 => d
  | n + 1 =>
    let c := (d.core g).land
    if c.inflight.isEmpty ∧ c.seq.openFault.isNone then d.updCore g Core.land
    else match d.tick g with
      | (d, true) => d.drain g n
      | (d, false) => d

/-- OP_UNCLOSED of one slot (R80, R104): the record, the in-place operand undefined in full. -/
def Dev.unclosed (d : Dev) (g index : Nat) (p : Nat × OpSlot) : Dev :=
  let d := d.coreFault g { code := 0x0105, sev := 1, fn := 0, loc := coreLoc g, job := 0, block := index, extStart := 0, extLen := 0, detail := p.1 }
  if p.2.inPlace then d.undefine g p.2.words else d

/-- Clock cycles of a cluster in one always-on cycle of 40 ns, by its frequency code (R504, R522). -/
def cyclesPerCount : Nat → Nat
  | 0 => 120
  | 1 => 96
  | _ => 64

/-- The always-on count in which the issue gap after a block of L cycles ends: ⌈r·L/256⌉ cycles of the cluster (R512). -/
def Dev.gapEnd (d : Dev) (g L : Nat) : Nat :=
  d.aon (dieOfCore g) + cdiv (Tab.get 0 d.pwr.gap (g / 8) * L) 256 / cyclesPerCount (Tab.get 0 d.pwr.freqCur (g / 8))

/-- The occupancy that outlasts a block: its cycles are counted, and it goes on into the next block, whose cycle 0 is the boundary
cycle at the earliest (R51, R75, R150). -/
def Core.outlast (c : Core) (aon : Nat) : Core :=
  let left (e : Nat) : Nat := Tab.get 0 c.freeAt e - max c.seq.cycle (Tab.get 0 c.counted e)
  let rest := c.freeAt.map fun p => (p.1, p.2 - (c.seq.cycle + 1))
  { c with nttBusy := satAdd 64 c.nttBusy (left 0), bcvBusy := satAdd 64 c.bcvBusy (left 1), prmBusy := satAdd 64 c.prmBusy (left 4),
           freeAt := rest, counted := rest, endAon := aon }

/-- The image of an entry is resident, whole. DESIGN CHOICE (log 193): an image that an earlier block left in the cache is not
fetched again. -/
def Core.resident (c : Core) (e : BlockEntry) : Bool := c.icache.any fun p => decide (p.1 = e.image) && decide (e.length ≤ p.2.length)

/-- The bank that holds a kernel, valid: the active one first (R155). -/
def Core.kernelBank (c : Core) (kid : Nat) : Option Nat :=
  [c.active, 1 - c.active].find? fun b =>
    let k := Tab.get { state := 0, kid := 0, code := [] } c.banks b
    decide (k.state = 2) && decide (k.kid = kid)

/-- An entry is ready (R153, R155, R160, R161). -/
def Core.ready (c : Core) (i : Nat) (e : BlockEntry) : Bool :=
  (if e.kernel then (c.kernelBank e.kid).isSome else c.resident e) &&
    (e.waits.all fun w => decide (w.1 = 0xFFFF) || decide (w.2 ≤ c.token w.1)) && (!e.ordered || decide (i = 0))

/-- The bank swap of the boundary cycle (R150, R155): the oldest ready block runs a kernel that only the idle bank holds. -/
def Core.swapBank (c : Core) : Core :=
  match c.bq.zipIdx.find? fun p => c.ready p.2 p.1 with
  | some (e, _) => if e.kernel ∧ !c.partEnded then { c with active := (c.kernelBank e.kid).getD c.active } else c
  | none => c

/-- The boundary cycle's work (R140, R150, R512). DESIGN CHOICE (log 191): a block abandoned with OP_UNCLOSED counts as one that
stopped, so its tokens are not signalled and the core's part in the job ends. -/
def Dev.boundary (d : Dev) (g : Nat) (b : BlockEntry) : Dev :=
  let c := d.core g
  let d := d.updCore g fun c => { c.outlast (d.aon (dieOfCore g)) with gapUntil := d.gapEnd g c.seq.cycle }
  let open' := !c.ops.isEmpty
  let d := d.updCore g fun c => { c with tileDiscards := min 0xFFFF (c.tileDiscards + c.tiles.length), tiles := [], quarter := 0 }
  let d := c.ops.foldl (fun d p => d.unclosed g b.index p) d
  let d := if open' then (d.abandonBoot g).leaveGroups g else d
  let d := d.updCore g fun c => { c with ops := [], closed := [], stamps := [], written := [], partEnded := c.partEnded || open',
                                         seq := { c.seq with running := none, code := [], next := none, cur := none, halted := false, stopNext := 0, peerOp := none,
                                                             faulted := c.seq.faulted || open', loops := [], curLoops := [] } }
  let d := if c.seq.halted ∨ open' then d else match c.job with
    | some id => (b.signals.filter fun t => t ≠ 0xFFFF).foldl (fun d t => d.signal id t g) d
    | none => d
  d.updCore g fun c => match c.forceWait with
    | some l => { c with forceWait := none, load := some { l with registry := d.sec.registry }, banks := Tab.set c.banks l.bank { state := 1, kid := 0, code := [] } }
    | none => c.swapBank

/-- BLOCK_BOUNDARY (R150): every bundle has issued, or the block has stopped, and everything in flight has finished. -/
def fxBlockBoundary (d : Dev) (g : Nat) : Dev :=
  let d := d.skipEmpty g 65536
  let c := d.core g
  if c.seq.running.isNone ∨ c.seq.next.isSome ∨ c.pendingSlot.isSome ∨ c.seq.freeze.isSome then d
  else
    let last := (c.inflight.map fun f => f.issue + f.op.last).foldl max (match c.seq.openFault with | some f => f.1 | none => 0)
    let d := d.drain g (last + 2 - c.seq.cycle)
    let c := d.core g
    match c.seq.running with
    | some b => if c.inflight.isEmpty ∧ c.seq.openFault.isNone ∧ c.seq.freeze.isNone then d.boundary g b else d
    | none => d

/-! ### The block queue and dispatch (R153 to R161) -/

/-- A block entry from its 64 bytes (R158). -/
def blockEntry (b : List Byte) : BlockEntry :=
  let code := numAt b 0 8
  { kernel := bit code 63, image := fld code 6 46 * 64, kid := fld code 32 16, entry := fld code 0 16, index := numAt b 8 4,
    length := numAt b 0xC 2, ordered := bit (numAt b 0xE 2) 0,
    waits := (List.range 4).map fun i => (numAt b (0x10 + 8 * i) 2, numAt b (0x14 + 8 * i) 4),
    signals := [numAt b 0x30 2, numAt b 0x32 2] }

/-- The check of an entry at the push (R159): fault code and detail, or none. DESIGN CHOICE (log 192): of several failures the
token comes first, then the partition, then the illegal entry, and among tokens the waits come before the signals. -/
def Dev.entryFault (d : Dev) (j : Option Job) (b : List Byte) : Option (Nat × Nat) :=
  let e := blockEntry b
  let code := numAt b 0 8
  let ids := (e.waits.map Prod.fst) ++ e.signals
  let rsv := decide (numAt b 0xE 2 / 2 ≠ 0) || ((List.range 4).any fun i => decide (numAt b (0x12 + 8 * i) 2 ≠ 0)) || decide (numAt b 0x34 12 ≠ 0) ||
    (if e.kernel then decide (fld code 16 16 ≠ 0) || decide (fld code 48 15 ≠ 0) else decide (fld code 0 6 ≠ 0) || decide (fld code 52 11 ≠ 0))
  match ids.find? fun t => decide (t ≠ 0xFFFF) && decide ((match j with | some j => j.tokenCount | none => 0) ≤ t) with
  | some t => some (0x0406, t)
  | none =>
    if !e.kernel ∧ (d.mem.partFor (match j with | some j => j.partMask | none => 0) e.image (64 * max 1 e.length)).isNone then some (0x0502, e.image)
    else if rsv ∨ (if e.kernel then e.length ≠ 0 else e.length = 0 ∨ 512 < e.length) then some (0x0403, illegalDetail 0xFF 0xB 0xFFFF)
    else none

/-- Entries a queue holds, the running block among them (R158). -/
def Core.queued (c : Core) : Nat := c.bq.length + (if c.seq.running.isSome then 1 else 0)

/-- A push of the bytes in the window (R159, R175): refused with a record to the pushing function, queued, or held. A core that no
job holds has no tokens and no partitions, and takes no entry. -/
def Dev.push (d : Dev) (g : Nat) (a : Option Agent) : Dev :=
  let c := d.core g
  let b := (List.range 64).map fun i => Tab.get 0 c.bqWin i
  let job := d.coreJob g
  match d.entryFault job b with
  | some (code, detail) =>
    let r := { plainFault code 1 (coreLoc g) detail with block := (blockEntry b).index }
    match a.bind d.agentFn, job with
    | some f, some j => if f = j.fn then d.jobFault j.id r else d.fnFault f r
    | some f, none => d.fnFault f r
    | none, some j => d.jobFault j.id r
    | none, none => d.fnFault 0 r
  | none =>
    match job with
    | none => d
    | some j =>
      if j.phase ≠ .running then d
      else d.updCore g fun c => if c.queued < 256 then { c with bq := c.bq ++ [blockEntry b] } else { c with bqHeld := c.bqHeld ++ [blockEntry b] }

/-- A write into SEQ_BQ_PUSH: bytes from an offset; the write that covers bytes 0x38 to 0x3F pushes (R158, R175). -/
def Dev.pushWindow (d : Dev) (g off : Nat) (data : List Byte) (a : Option Agent) : Dev :=
  let d := d.updCore g fun c => { c with bqWin := (data.zipIdx.filter fun p => decide (off + p.2 < 64)).foldl (fun t p => Tab.set t (off + p.2) p.1) c.bqWin }
  if off ≤ 0x38 ∧ 0x40 ≤ off + data.length then d.push g a else d

/-- SEQ_BQ_PUSH (R158, R159): a whole entry, pushed by an application core of the job. -/
def fxSeqBqPush (d : Dev) (g : Nat) (entry : List Byte) : Dev := d.pushWindow g 0 (bytesAt entry 0 64) none

/-- PUSH_HELD_ACCEPT (R159). -/
def fxPushHeldAccept (d : Dev) (g : Nat) : Dev :=
  d.updCore g fun c => match c.bqHeld with
    | e :: t => if c.queued < 256 then { c with bq := c.bq ++ [e], bqHeld := t } else c
    | [] => c


/-- IMAGE_FETCH_DONE (R153, R154): the first queued image that is not resident has been fetched, when the cache has room
beside the images that blocks hold; an uncorrectable atom ends the core's part. -/
def fxImageFetchDone (d : Dev) (g image : Nat) : Dev :=
  let c := d.core g
  match c.bq.find? fun e => !e.kernel && !c.resident e with
  | none => d
  | some e =>
    let held := (match c.seq.running with | some b => [b.image] | none => []) ++ c.bq.map BlockEntry.image
    let keep := c.icache.filter fun p => held.contains p.1
    let p := (d.mem.partFor (match d.coreJob g with | some j => j.partMask | none => 0) image (64 * e.length)).getD 0
    if e.image ≠ image ∨ 1024 < (keep.map fun q => q.2.length).sum + e.length ∨ c.partEnded then d
    else
      let r := d.mem.pass (.image g) (some p) (decide (64 * e.length < 512)) image (64 * e.length)
      let d := { d with mem := r.1 }
      if !r.2 then d
      else match d.hbmRead image (64 * e.length) with
      | (d, .ok b) => (d.updMem fun m => m.bridge (hbmDie image) (g / 64) (64 * e.length)).updCore g fun c => { c with icache := Tab.set keep image ((List.range e.length).map fun i => numAt b (64 * i) 64) }
      | (d, .error atom) =>
        (d.updCore g fun c => { c with partEnded := true, seq := { c.seq with faulted := true } }).coreFault g
          { plainFault 0x0501 1 (coreLoc g) atom with block := e.index }

/-- The sequencer may dispatch: no block runs, the job has not ended, no wipe, forced load, issue gap or change of the cluster's
frequency holds it (R507, R512). -/
def Dev.mayDispatch (d : Dev) (g : Nat) : Bool :=
  let c := d.core g
  c.seq.running.isNone && !c.partEnded && !c.wiping && decide (c.segBusy = 0) && c.forceWait.isNone && decide (d.pwr.state = 0) && !(Tab.get false d.pwr.relocking (g / 8)) &&
    decide (c.gapUntil ≤ d.aon (dieOfCore g)) &&
    (match c.load with | some l => !l.force | none => true) &&
    (match d.coreJob g with | some j => decide (j.phase = .running) | none => false)

/-- A block begins, `gone` cycles after the boundary cycle of the latest: what is left of an engine's occupancy still holds (R51, R61,
R146, R155, R174, R180, R187). -/
def Core.dispatch (c : Core) (gone i : Nat) (e : BlockEntry) : Core :=
  let bank := (c.kernelBank e.kid).getD c.active
  let code := if e.kernel then
      ((Tab.get { state := 0, kid := 0, code := [] } c.banks bank).code.drop e.entry).take (Config.kernelLen e.kid e.entry)
    else (Tab.get [] c.icache e.image).take e.length
  let rest := (c.freeAt.map fun p => (p.1, p.2 - gone)).filter fun p => decide (0 < p.2)
  { c with bq := c.bq.eraseIdx i, active := if e.kernel then bank else c.active, vregs := [], shapes := [], px := [], newShapes := [],
           newPx := [], freeAt := rest, counted := rest, inflight := [], closed := [], stamps := [], written := [], dispatchCnt := satAdd 64 c.dispatchCnt 1,
           skipCnt := if i = 0 then c.skipCnt else satAdd 64 c.skipCnt 1,
           seq := { Seq.reset with runIndex := e.index, audit := c.seq.audit, running := some e, code := code,
                                   next := if code.isEmpty then none else some 0, due := max 1 (delayOf (code.getD 0 0)), auditRun := c.seq.auditRun } }

/-- A load of a kernel is in progress, or waits for the boundary (R155). -/
def Dev.loading (d : Dev) (c : Core) (kid : Nat) : Bool :=
  (c.load.toList ++ c.forceWait.toList).any fun l => decide (Config.packageKid (d.mem.bytes l.addr l.bytes) % 65536 = kid)

/-- The refusals of a share-protocol kernel at its opening, before any write: a triple header that differs from MPC_BEAVER's
arguments (R353), and too few parties for MPC_RESHARE (R352). -/
def Dev.mpcOpening (d : Dev) (j : Job) (kid : Nat) : Dev × Option (Nat × Nat) :=
  let arg (k : Nat) : Nat := Config.mpcArg k (d.mem.bytes j.args 64)
  if kid = 0x0C02 then
    let a := arg 5 % 2 ^ 52
    match d.mem.partFor j.partMask a 64 with
    | none => (d, some (0x0502, a))
    | some p =>
      match (d.updMem fun m => m.updPart p fun q => q.charge 64).hbmRead a 64 with
      | (d, .error atom) => (d, some (0x0501, atom))
      | (d, .ok b) =>
        (d, if numAt b 0 4 = 0x5452_4950 ∧ numAt b 4 1 = arg 2 ∧ numAt b 5 1 = arg 3 ∧ numAt b 8 4 = arg 4 then none else some (0x0104, 0x30))
  else if kid = 0x0C03 ∧ arg 0 + 1 < 2 * arg 1 then (d, some (0x0104, 0x31))
  else (d, none)

/-- A kernel block that its kernel refuses at its opening stops before any bundle issues. -/
def Dev.kernelOpens (d : Dev) (g : Nat) (e : BlockEntry) : Dev :=
  match d.coreJob g with
  | some j =>
    if e.kernel then
      match d.mpcOpening j e.kid with
      | (d, some (code, detail)) => d.stopBlock g (.of .check code detail 0)
      | (d, none) => d
    else d
  | none => d

/-- What a kernel reads as it opens lies on a channel in a partial reset: its block waits (R137, R256, R353). -/
def Dev.argsWait (d : Dev) (g : Nat) (e : BlockEntry) : Bool :=
  match d.coreJob g with
  | some j =>
    e.kernel && ((([0x0B01, 0x0B11] : List Nat).contains e.kid && d.mem.resetting j.args 768) ||
      (([0x0C01, 0x0C02, 0x0C03, 0x0C04] : List Nat).contains e.kid && d.mem.resetting j.args 64) ||
      (decide (e.kid = 0x0C02) && d.mem.resetting (Config.mpcArg 5 (d.mem.bytes j.args 64) % 2 ^ 52) 64))
  | none => false

/-- BLOCK_DISPATCH (R155, R161): the oldest ready block; an oldest entry that names a kernel in neither bank, with no load of it in
progress, ends the core's part. -/
def fxBlockDispatch (d : Dev) (g : Nat) : Dev :=
  let c := d.core g
  let gone := (d.aon (dieOfCore g) - c.endAon) * cyclesPerCount (Tab.get 0 d.pwr.freqCur (g / 8))
  if !d.mayDispatch g then d
  else match c.bq with
  | [] => d
  | e :: _ =>
    if e.kernel ∧ (c.kernelBank e.kid).isNone ∧ !d.loading c e.kid then
      (d.updCore g fun c => { c with partEnded := true, seq := { c.seq with faulted := true } }).coreFault g
        { plainFault 0x0405 1 (coreLoc g) e.kid with block := e.index }
    else match c.bq.zipIdx.find? fun p => c.ready p.2 p.1 with
    | some p => if d.argsWait g p.1 then d else (d.updCore g fun c => c.dispatch gone p.2 p.1).kernelOpens g p.1
    | none => d

end Sys2Proof.Machine
end

