-- ==== Sys2Proof/Machine/Keys.lean ====
section
/-! DEFINITION. Key-stream groups at work: opening and closing, header and chunk checks, multicast, drops and catch-up
(R116 to R127, R580). -/

namespace Sys2Proof.Machine

/-! ### Opening and closing (R122, R125, R580) -/

/-- OPEN_ERR of an open, 0 when it is granted (R122, R580). A group that is not idle refuses whatever else is wrong. -/
def Dev.openErr (d : Dev) (die n : Nat) (fn addr members : Nat) : Nat :=
  let x := d.group die n
  if x.state ≠ 0 ∧ x.state ≠ 4 then 5
  else if !isHbm addr || decide (hbmDie addr ≠ die) then 1
  else if (d.mem.partFor (Tab.get Grant.none d.grants fn).parts addr 1).isNone then 2
  else if addr % 4096 ≠ 0 then 3
  else if members = 0 then 4 else 0

/-- HDR_ADDR of an address (R128). -/
def hdrAddr (addr : Nat) : Nat := put (fld addr 12 40) 12 40

/-- An open of a group by a function, or by a job of it (R122, R580). -/
def Dev.openGroup (d : Dev) (die n fn addr level members : Nat) (job : Option Nat) : Dev :=
  match d.openErr die n fn addr members with
  | 0 => d.updGroup die n fun x =>
    { x with addr := hdrAddr addr, level := level, members := members, chunks := 0, dropped := 0, subscribed := 0, active := 0,
             left := 0, openErr := 0, state := 1, job := job, header := none, next := 0, stalled := [], chunkNo := 0 }
  | 5 => d.updGroup die n fun x => { x with openErr := 5 }
  | e => d.updGroup die n fun x => { x with addr := hdrAddr addr, level := level, members := members, openErr := e, state := 4 }

/-- CLOSE of a group according to its state (R125). -/
def Dev.closeGroup (d : Dev) (die n : Nat) : Dev :=
  let x := d.group die n
  match x.state with
  | 1 =>
    (d.forAll (List.range 64) fun d k => d.updCore (64 * die + k) fun c =>
      c.updBinds (fun b => decide (b.group = n) && b.catchup.isNone && !b.ended) Binding.catchUp).updGroup die n
      fun x => { x with state := 0, active := 0 }
  | 2 => (d.forAll (bitsOf 8 x.active) fun d m => d.leaveMember die n m).groupSettle die n
  | 5 => d.updGroup die n fun x => { x with state := 0 }
  | _ => d

/-- The opening of a group that is not idle would be refused with reason 0x5 (R580). -/
def Group.busy (x : Group) : Bool := decide (x.state ≠ 0) && decide (x.state ≠ 4)

/-- A write of KST_GRP_CTRL (R5, R129, R580): CLOSE, then the fields, then OPEN; an open refused with reason 0x5 changes no
other field. `e` is whether STALL_LIMIT is written. -/
def Dev.groupCtrl (d : Dev) (die n : Nat) (a : Agent) (v : Nat) (e : Bool) : Dev :=
  let d := if bit v 1 then d.closeGroup die n else d
  let refused := bit v 0 && (d.group die n).busy
  let stall (d : Dev) : Dev := if refused then d else d.updGroup die n fun x => { x with stall := fld v 32 8 }
  let d := if e then d.ifExpert a stall else d
  let job := match a with | .app k => (d.app k.val).job | _ => none
  if bit v 0 then d.openGroup die n ((d.agentFn a).getD 0) (d.group die n).addr (fld v 24 8) (fld v 8 8) job
  else d.updGroup die n fun x => { x with level := fld v 24 8, members := fld v 8 8 }

/-- KST_GRP_OPEN (R122) and KST_GRP_CLOSE (R125): writes of KST_GRP_CTRL with OPEN or CLOSE set. -/
def fxKstGrpOpen (d : Dev) (die n : Nat) (a : Agent) (v : Nat) : Dev := d.groupCtrl die n a (withBit v 0 true) true
def fxKstGrpClose (d : Dev) (die n : Nat) (a : Agent) (v : Nat) : Dev := d.groupCtrl die n a (withBit v 1 true) true

/-! ### Failures (R117, R118, R126) -/

/-- A core whose commands wait for a seed register that has failed stops its block at once (R126). -/
def Dev.stopOnSeed (d : Dev) (g sreg code detail : Nat) : Dev :=
  match (d.core g).seq.freeze with
  | some f => if f.sreg = some sreg then d.stopBlock g (Stop.row code detail f.order) else d
  | none => d

/-- The stream of one binding has failed: the rows it has not landed are failed and, when its header has not been
delivered, its seed register (R118, R126, R244). -/
def Dev.failBinding (d : Dev) (g : Nat) (b : Binding) (code detail : Nat) : Dev :=
  let d := d.updCore g fun c =>
    let c := (c.updBinds (fun x => decide (x.sreg = b.sreg)) fun x => { x with bad := some (code, detail) }).failRing b.ring
      b.header.isNone 0 code detail
    if b.header.isNone then { c with seeds := Tab.set c.seeds b.sreg (.failed code detail) } else c
  let d := d.groupSettle (g / 64) b.group
  if b.header.isNone then d.stopOnSeed g b.sreg code detail else d

/-- A chunk-tag mismatch or an uncorrectable atom of a group read fails every member (R126): the fault of each binding is
given by its engine. -/
def Dev.failGroup (d : Dev) (die n : Nat) (f : Binding → Nat × Nat) : Dev :=
  let d := d.updGroup die n fun x => { x with state := 5, active := 0 }
  let d := d.updMem fun m => m.forget fun w => decide (w = .group die n)
  ((d.bindings die n).filter fun p => p.2.catchup.isNone).foldl (fun d p => d.failBinding p.1 p.2 (f p.2).1 (f p.2).2) d

/-- A header check has failed (R117): the stream delivers no word, the seed register is failed, and the member leaves the
group (R125). -/
def Dev.failHeader (d : Dev) (g : Nat) (b : Binding) (code detail : Nat) : Dev :=
  let d := d.updCore g fun c =>
    let c := (c.updBinds (fun x => decide (x.sreg = b.sreg)) fun x => { x with bad := some (code, detail) }).failRing b.ring true 0 code detail
    { c with seeds := Tab.set c.seeds b.sreg (.failed code detail) }
  if b.catchup.isNone ∧ !b.ended then d.leaveMember (g / 64) b.group (g / 8 % 8) else d

/-! ### Header checks (R114, R116, R117) -/

/-- KEY_MISMATCH detail. -/
def keyMismatch (why element tag : Nat) : Nat × Nat := (0x0201, why + 256 * element + 65536 * (tag % 2 ^ 32))

/-- Check 2 of R117: the header's sizes against the parameter set and R108. -/
def KeyHdr.fits (h : KeyHdr) (p : PSet) : Bool :=
  decide (h.logN = p.logN) && decide (h.fore = p.fore) && decide (h.spec = p.spec) && decide (h.alpha = p.alpha) &&
    decide (h.reg = h.hi + 1) && decide (h.reg ≤ p.reg) && decide (h.lo ≤ h.hi) && decide (h.digits = cdiv (h.hi + 1) h.alpha) &&
    decide (h.chunkLog = 20) && decide (h.body = h.digits * (h.reg + h.spec) * (2 ^ h.logN * 9 / 2) * h.halves) &&
    decide (h.chunks = cdiv h.body payload)

/-- Check 5 of R117: the seed rules of R114 in their order. -/
def KeyHdr.seedWrong (h : KeyHdr) : Option Nat :=
  if h.seeded = h.fore then some 3
  else if h.fore then none
  else if h.seed.all (· = 0) then some 1
  else if h.check ≠ seedCheck h.seed then some 2 else none

/-- Checks 1 and 2 against a parameter set. -/
def KeyHdr.sizeWrong (h : KeyHdr) (p : Option PSet) (element : Nat) : Option (Nat × Nat) :=
  if h.magic ≠ 0x4B455948 ∨ h.version ≠ 1 then some (keyMismatch 1 element h.tag)
  else match p with
  | some p => if h.fits p then none else some (keyMismatch 2 element h.tag)
  | none => some (keyMismatch 2 element h.tag)

/-- The kind and Galois element that an operation expects (R105, R116). -/
def expectedKind (o : OpSlot) (b : Binding) (logN : Nat) : Nat × Nat :=
  match b.aux with
  | some k => (4, k)
  | none =>
    if o.opcode = 0x0D then (2, o.param)
    else if o.opcode = 0x0F then (2, o.galois.getD b.element 0)
    else if o.opcode = 0x0E then (3, 2 * 2 ^ logN - 1) else (1, 0)

/-- The parameter set that a core's job names by ID. -/
def Dev.psetOf (d : Dev) (g id : Nat) : Option PSet := (d.coreJob g).bind fun j => j.psets.find? fun p => p.id == id

/-- The element index that a KEY_MISMATCH reports. -/
def Binding.elementOf (b : Binding) (o : Option OpSlot) : Nat :=
  match o with | some o => if o.opcode = 0x0F then b.element else 0 | none => 0

/-- The operation that a binding is attached to. -/
def Core.opOn (c : Core) (b : Binding) : Option OpSlot := if b.attached then (c.ops.find? fun p => p.1 = b.slot).map Prod.snd else none

/-- A header lands at a core (R193, R247): its seed register is filled. The checks of R117 are made in their order once the
expected tag is ready; until then no word of the stream is read. -/
def Dev.landHeader (d : Dev) (g : Nat) (b : Binding) (bytes : List Byte) : Dev :=
  let h := keyHdr bytes
  d.updCore g fun c =>
    { (c.updBinds (fun x => decide (x.sreg = b.sreg)) fun x => { x with header := some bytes }) with
      seeds := Tab.set c.seeds b.sreg (.filled h.seed h.logN h.digits) }

/-- A read of a key object whose header is at `base` (R127, R266): outside the key's partition it is refused with
PARTITION_VIOLATION; the partition and the small path let it pass, or it waits; then the controllers serve it. The fault's code
and address when it fails; none while it waits. -/
def Dev.keyRead (d : Dev) (w : Waiter) (small : Bool) (base addr len : Nat) : Dev × Option (Option (Nat × Nat)) :=
  match (d.mem.partAt base).filter fun p => d.mem.inPart p addr len with
  | none => (d, some (some (0x0502, addr)))
  | some p =>
    let r := d.mem.pass w (some p) small addr len
    let d := { d with mem := r.1 }
    if !r.2 then (d, none)
    else match d.hbmTouch addr len with
      | (d, some atom) => (d, some (some (0x0501, atom)))
      | (d, none) => (d, some none)

/-- The multicast bytes that a die's controllers inject (R310). -/
def Mem.multicast (m : Mem) (die bytes : Nat) : Mem := m.updFab die fun f => { f with mcast := satAdd 64 f.mcast bytes }

/-- A failed read of a group: every member fails, with its engine in the detail (R126, R245). -/
def Dev.groupReadFail (d : Dev) (die n : Nat) (f : Nat × Nat) : Dev := d.failGroup die n fun b => (f.1, streamAddr b.eng f.2)

/-- GROUP_HEADER_READ (R123): the group of which every member has subscribed, has left or has been dropped reads the header; its
partition is charged (R127). -/
def fxGroupHeaderRead (d : Dev) (die n : Nat) : Dev :=
  let x := d.group die n
  if x.state ≠ 2 ∨ x.header.isSome then d
  else match d.keyRead (.group die n) true x.addr x.addr 256 with
    | (d, none) => d
    | (d, some (some f)) => d.groupReadFail die n f
    | (d, some none) => (d.updGroup die n fun y => { y with header := some (d.mem.bytes x.addr 256) }).updMem fun m => m.multicast die 256

/-- KEY_HEADER_ARRIVES (R117): the header that the group has read lands at a core of a member, for each of its bindings of
the group. -/
def fxKeyHeaderArrives (d : Dev) (die n k : Nat) : Dev :=
  let g := 64 * die + k
  match (d.group die n).header with
  | none => d
  | some h =>
    ((d.core g).binds.filter fun b => decide (b.group = n) && b.header.isNone && b.catchup.isNone && !b.ended && b.bad.isNone).foldl
      (fun d b => d.landHeader g b h) d

/-- EXPECTED_TAG_READY (R116, R117): the expected tags of the operation on a slot are ready; every check is made in its
order, for each binding whose header has landed. -/
def fxExpectedTagReady (d : Dev) (g slot : Nat) : Dev :=
  let one (d : Dev) (b : Binding) : Dev :=
    match (d.core g).opOn b, b.header with
    | some o, some bytes =>
      let h := keyHdr bytes
      let p := d.psetOf g o.psetId
      let kg := expectedKind o b h.logN
      let tag := keyTag o.keysetId o.psetId kg.1 h.lo h.hi kg.2
      let el := b.elementOf (some o)
      let d := d.updCore g fun c => c.updBinds (fun x => decide (x.sreg = b.sreg)) fun x => { x with expected := some tag }
      match (h.sizeWrong p el).or (if h.tag ≠ tag then some (keyMismatch 3 el h.tag)
          else if o.level < h.lo ∨ h.hi < o.level ∨ o.level ≠ b.level then some (keyMismatch 4 el h.tag) else none) with
      | some f => d.failHeader g b f.1 f.2
      | none => match h.seedWrong with
        | some why => d.failHeader g b 0x0203 why
        | none => d
    | _, _ => d
  ((d.core g).binds.filter fun b => decide (b.slot = slot) && b.attached && b.header.isSome && b.expected.isNone).foldl one d

/-! ### Chunks and rows (R118, R121, R124) -/

/-- The chunk whose head is due before a row may pass: none when the row's chunks have been checked (R118). -/
def KeyHdr.dueChunk (h : KeyHdr) (level row done : Nat) : Option Nat :=
  if done ≤ h.chunkOf level row then some (h.chunkOf level row)
  else if done ≤ h.chunkEnd level row then some (h.chunkEnd level row) else none

/-- The comparison of a chunk head: KEY_CHUNK_TAG's detail on a mismatch (R118). -/
def KeyHdr.headWrong (h : KeyHdr) (i : Nat) (head : List Byte) : Option Nat :=
  if numAt head 0 8 = chunkTag h.tag i ∧ numAt head 8 4 = i then none else some (i + 2 ^ 32 * (numAt head 0 8 % 2 ^ 32))

/-- The last row of a stream lies in a chunk that has passed (R92). -/
def KeyHdr.allPassed (h : KeyHdr) (level done : Nat) : Bool := decide (h.chunkEnd level (h.rows level - 1) < done)

/-- Every core of the members that still receive has the header. -/
def Dev.headersLanded (d : Dev) (die n : Nat) : Bool :=
  (d.bindings die n).all fun p => p.2.catchup.isSome || p.2.header.isSome

/-- KEY_CHUNK_ARRIVES (R118, R126, R127): the group reads the next chunk that holds a row of the stream, whole, and compares its
head. -/
def fxKeyChunkArrives (d : Dev) (die n : Nat) : Dev :=
  let x := d.group die n
  match x.header with
  | none => d
  | some hb =>
    let h := keyHdr hb
    if x.state ≠ 2 ∨ !d.headersLanded die n ∨ h.rows x.level ≤ x.next then d
    else match h.dueChunk x.level x.next x.chunkNo with
    | none => d
    | some i =>
      match d.keyRead (.group die n) (decide (h.chunkBytes i < 512)) x.addr (chunkAddr x.addr i) (h.chunkBytes i) with
      | (d, none) => d
      | (d, some (some f)) => d.groupReadFail die n f
      | (d, some none) =>
        let d := d.updMem fun m => m.multicast die 64
        match h.headWrong i (d.mem.bytes (chunkAddr x.addr i) 64) with
        | some detail => d.failGroup die n fun _ => (0x0202, detail)
        | none =>
          let d := d.updGroup die n fun x => { x with chunkNo := i + 1, chunks := satAdd 32 x.chunks 1 }
          if h.allPassed x.level (i + 1) then
            d.forAll (List.range 64) fun d k => d.updCore (64 * die + k) fun c =>
              c.updBinds (fun b => decide (b.group = n) && b.catchup.isNone && !b.ended) fun b => { b with tagsOk := true }
          else d

/-- The binding of a core that takes the next multicast row of a group. -/
def Core.taker (c : Core) (n : Nat) : Option Binding := c.binds.find? fun b => decide (b.group = n) && b.catchup.isNone && !b.ended

/-- A core can take a key row: its landing ring has a free row at the land pointer (R124, R247). -/
def Core.canTake (c : Core) (b : Binding) : Bool :=
  match c.ring? b.ring with
  | some q => q.state q.land == .free
  | none => false

/-- Member m of a group grants credit for its next row: the core the row goes to has a free row, and the cluster's PLL does
not relock (R124). -/
def Dev.credit (d : Dev) (die n m : Nat) : Bool :=
  let x := d.group die n
  match x.header with
  | none => true
  | some hb =>
    let h := keyHdr hb
    if h.rows x.level ≤ x.next then true
    else
      let c := d.core (64 * die + 8 * m + h.coreOf x.level x.next)
      !(Tab.get false d.pwr.relock (8 * die + m)) && (match c.taker n with | some b => c.canTake b | none => true)

/-- A key row of 64 words lands at a core (R247). -/
def Dev.landKey (d : Dev) (g : Nat) (b : Binding) (bytes : List Byte) : Dev :=
  match (d.core g).ring? b.ring with
  | none => d
  | some q =>
    let ws := unpackWords 0 64 bytes
    let r := (d.core g).sideWrite (ws.zipIdx.map fun x => (64 * (q.base + q.land) + x.2, x.1))
    let c := r.1.updRing b.ring fun q => q.landed .landed
    d.setCore g { c with strRd := satAdd 64 c.strRd 288 }

/-- MULTICAST_ROW_SEND (R121, R124): the group sends its next key row to all its members, while every core that receives it
holds credit. -/
def fxMulticastRowSend (d : Dev) (die n : Nat) : Dev :=
  let x := d.group die n
  match x.header with
  | none => d
  | some hb =>
    let h := keyHdr hb
    let members := bitsOf 8 x.active
    if x.state ≠ 2 ∨ !d.headersLanded die n ∨ h.rows x.level ≤ x.next ∨ (h.dueChunk x.level x.next x.chunkNo).isSome ∨
        !(members.all fun m => d.credit die n m) then d
    else
      let at' := h.span x.level x.addr x.next
      let bytes := h.join x.level x.next (d.mem.bytes at'.1 at'.2)
      let d := d.forAll members fun d m =>
        let g := 64 * die + 8 * m + h.coreOf x.level x.next
        match (d.core g).taker n with
        | some b => (d.landKey g b bytes).updCore g fun c => { c with keyRows := satAdd 32 c.keyRows 1 }
        | none => d
      let d := d.forAll (List.range 64) fun d k => d.updCore (64 * die + k) fun c =>
        c.updBinds (fun b => decide (b.group = n) && b.catchup.isNone && !b.ended) fun b => { b with pos := x.next + 1 }
      (d.updGroup die n fun x => { x with next := x.next + 1, stalled := [] }).updMem fun m => m.multicast die 288

/-- GROUP_STREAM_END (R125): the last row has reached every remaining member; the group is idle, or serves catch-up only. -/
def fxGroupStreamEnd (d : Dev) (die n : Nat) : Dev :=
  let x := d.group die n
  match x.header with
  | none => d
  | some hb =>
    if x.state ≠ 2 ∨ x.next < (keyHdr hb).rows x.level then d
    else
      let d := d.forAll (List.range 64) fun d k => d.updCore (64 * die + k) fun c =>
        c.updBinds (fun b => decide (b.group = n) && b.catchup.isNone) fun b => { b with ended := true }
      (d.updGroup die n fun x => { x with state := 3, active := 0 }).groupSettle die n

/-! ### Drops and catch-up (R123, R124, R132) -/

/-- STALL_LIMIT in always-on counts (R124, R129). -/
def Group.stallCounts (x : Group) : Nat := 25 * (if x.stall = 0 then 20 else x.stall)

/-- MEMBER_DROP (R123, R124, R132): a member that has withheld credit for the stall limit is dropped; each of its cores
receives MULTICAST_DROPPED, and the other members go on. -/
def fxMemberDrop (d : Dev) (die n m : Nat) : Dev :=
  let x := d.group die n
  let due := match x.stalled.find? fun p => p.1 = m with
    | some p => decide (p.2 + x.stallCounts ≤ d.aon die)
    | none => false
  if !due ∨ !x.memberNow m then d
  else
    let record (d : Dev) (k : Nat) : Dev :=
      let g := 64 * die + 8 * m + k
      let from' := match (d.core g).binds.find? fun b => decide (b.group = n) && b.catchup.isNone && !b.ended with
        | some b => b.chunk.getD 0xFFFF_FFFF
        | none => 0xFFFF_FFFF
      (d.updCore g fun c => { c with drops := satAdd 8 c.drops 1 }).coreFault g
        (plainFault 0x0603 0 (coreLoc g) (n + 256 * die + 65536 * from'))
    let d := d.forAll (List.range 8) record
    let d := d.updGroup die n fun x =>
      let gone := withBit x.dropped m true
      { x with dropped := gone }
    d.leaveMember die n m

/-- At a tick of the always-on clock, the members of a streaming group that withhold credit are noted, and those that grant
it are cleared (R124). -/
def Dev.noteStall (d : Dev) (die n : Nat) : Dev :=
  d.updGroup die n fun x =>
    if x.state ≠ 2 then x
    else { x with stalled := ((bitsOf 8 x.active).filter fun m => !d.credit die n m).map fun m =>
      (m, Tab.get (d.aon die) x.stalled m) }

/-- Every group of both dies. -/
def Dev.noteStalls (d : Dev) : Dev := (d.groups.map Prod.fst).foldl (fun d k => d.noteStall (k / 32) (k % 32)) d

/-- CATCHUP_READ (R124, R127, R248): one unicast read for a core, charged to the key's partition: the header; the head of the
chunk in which delivery stopped, then of each chunk it reads; or its next row, which is discarded when it was delivered before. -/
def fxCatchupRead (d : Dev) (die n k : Nat) : Dev :=
  let g := 64 * die + k
  match (d.core g).binds.find? fun b => decide (b.group = n) && b.catchup.isSome && b.bad.isNone && !b.ended with
  | none => d
  | some b =>
    if Tab.get false d.pwr.relock (g / 8) then d else
    let finish (d : Dev) : Dev :=
      (d.updCore g fun c => c.updBinds (fun x => decide (x.sreg = b.sreg)) fun x => { x with ended := true, tagsOk := true }).groupSettle die n
    match b.header with
    | none =>
      match d.keyRead (.catchup g b.sreg) true b.addr b.addr 256 with
      | (d, none) => d
      | (d, some (some f)) => d.failBinding g b f.1 (streamAddr b.eng f.2)
      | (d, some none) => d.landHeader g b (d.mem.bytes b.addr 256)
    | some hb =>
      let h := keyHdr hb
      let next (row : Nat) : Option Nat := h.nextRow b.level (k % 8) row (2 * h.digits * h.digitLimbs b.level + 2)
      match b.recheck.or ((next b.pos).bind fun row => h.dueChunk b.level row (b.catchup.getD 0)), next b.pos with
      | some i, _ =>
        match d.keyRead (.catchup g b.sreg) false b.addr (chunkAddr b.addr i) 64 with
        | (d, none) => d
        | (d, some (some f)) => d.failBinding g b f.1 (streamAddr b.eng f.2)
        | (d, some none) =>
          match h.headWrong i (d.mem.bytes (chunkAddr b.addr i) 64) with
          | some detail => d.failBinding g b 0x0202 detail
          | none => d.updCore g fun c => c.updBinds (fun x => decide (x.sreg = b.sreg)) fun x =>
              { x with catchup := some (i + 1), recheck := none, tagsOk := h.allPassed b.level (i + 1) }
      | none, none => finish d
      | none, some row =>
        let at' := h.span b.level b.addr row
        let fresh := decide (b.seen ≤ row)
        if fresh && !(d.core g).canTake b then d
        else match d.keyRead (.catchup g b.sreg) false b.addr at'.1 at'.2 with
        | (d, none) => d
        | (d, some (some f)) => d.failBinding g b f.1 (streamAddr b.eng f.2)
        | (d, some none) =>
          let d := if fresh then
              (d.landKey g b (h.join b.level row (d.mem.bytes at'.1 at'.2))).updCore g fun c => { c with catchupRows := satAdd 24 c.catchupRows 1 }
            else d.updCore g fun c => { c with strRd := satAdd 64 c.strRd 288 }
          let d := d.updCore g fun c => c.updBinds (fun x => decide (x.sreg = b.sreg)) fun x => { x with pos := row + 1 }
          if (next (row + 1)).isNone then finish d else d

end Sys2Proof.Machine
end

