-- ==== Sys2Proof/Machine/AppCores.lean ====
section
/-! DEFINITION. Application cores: the end of a control program, runtime calls, and the faults the monitor takes (R404 to
R418). -/

namespace Sys2Proof.Machine

/-- The value −k in a 64-bit register. -/
def minus (k : Nat) : Nat := 2 ^ 64 - k

/-- The job that an application core runs a control program for: it has neither ended nor gone to sleep, and the job runs. -/
def Dev.calling (d : Dev) (a : Nat) : Option Job :=
  let x := d.app a
  if x.ended || x.wait.isSome then none
  else match x.job.bind d.job with
  | some j => if j.phase = .running then some j else none
  | none => none

/-- A runtime call by a running control program; it returns a0 and a1 (R416). -/
def Dev.call (d : Dev) (a : Nat) (f : Job → Dev × Nat × Nat) : Dev :=
  match d.calling a with
  | some j => let r := f j; r.1.emit (.call a r.2.1 r.2.2)
  | none => d

/-- EXIT (R415): the core ends; a nonzero code writes CTRL_EXIT at severity BLOCK. -/
def fxAppExit (d : Dev) (a code : Nat) : Dev :=
  match d.calling a with
  | none => d
  | some j =>
    let d := d.updApp a fun x => { x with ended := true }
    if code = 0 then d else d.jobFault j.id (plainFault 0x0909 1 (appLoc a) code)

/-- TOKEN_SIGNAL (R416): stores before it are performed, then token t rises by one. -/
def fxTokenSignal (d : Dev) (a t : Nat) : Dev :=
  d.call a fun j => if j.tokenCount ≤ t then (d, minus 3, 0) else (d.signal j.id t (128 + a), 0, 0)

/-- TOKEN_READ (R416). -/
def fxTokenRead (d : Dev) (a t : Nat) : Dev :=
  d.call a fun j => if j.tokenCount ≤ t then (d, minus 3, 0) else (d, 0, j.token t)

/-- TOKEN_WAIT (R416): the call returns at once when the token has reached the threshold, else the core sleeps. -/
def fxTokenWait (d : Dev) (a t threshold limit : Nat) : Dev :=
  match d.calling a with
  | none => d
  | some j =>
    if j.tokenCount ≤ t then d.emit (.call a (minus 3) 0)
    else if threshold ≤ j.token t then d.emit (.call a 0 0)
    else d.updApp a fun x =>
      { x with wait := some { token := t, threshold := threshold, limit := limit, since := d.aon (dieOfApp a) } }

/-- TOKEN_WAIT_RESUME (R416): the token has reached the threshold, or the limit in µs has passed (25 counts per µs). -/
def fxTokenWaitResume (d : Dev) (a : Nat) : Dev :=
  match (d.app a).wait, (d.app a).job.bind d.job with
  | some w, some j =>
    let wake (v : Nat) : Dev := (d.updApp a fun x => { x with wait := none }).emit (.call a 0 v)
    if w.threshold ≤ j.token w.token then wake 0
    else if w.since + 25 * w.limit ≤ d.aon (dieOfApp a) then wake 1 else d
  | _, _ => d

/-- KGROUP_OPEN (R416): the lowest-numbered idle group of the die is opened (R122, R580). -/
def fxKgroupOpen (d : Dev) (a die hdr members level : Nat) : Dev :=
  d.call a fun j =>
    if 2 ≤ die then (d, minus 3, 0)
    else match (List.range 32).find? fun n => decide ((d.group die n).state = 0) || decide ((d.group die n).state = 4) with
    | none => (d, minus 1, 0xF)
    | some n =>
      let d' := d.openGroup die n j.fn hdr (level % 256) (members % 256) (some j.id)
      match d.openErr die n j.fn hdr (members % 256) with
      | 0 => (d', 0, n)
      | e => (d', minus 1, e)

/-- The group was opened by the job. -/
def Dev.opened (d : Dev) (j : Job) (die n : Nat) : Bool := decide (die < 2) && decide (n < 32) && (d.group die n).job == some j.id

/-- KGROUP_CLOSE (R125, R416). -/
def fxKgroupClose (d : Dev) (a die n : Nat) : Dev :=
  d.call a fun j => if d.opened j die n then (d.closeGroup die n, 0, 0) else (d, minus 3, 0)

/-- KST_GRP_STATUS (R130). -/
def Group.status (x : Group) : Nat :=
  put x.state 0 4 + put x.openErr 4 4 + put x.active 8 8 + put x.subscribed 16 8 + put x.dropped 24 8 + put x.chunks 32 32

/-- KGROUP_STATUS (R416). -/
def fxKgroupStatus (d : Dev) (a die n : Nat) : Dev :=
  d.call a fun j => if d.opened j die n then (d, 0, (d.group die n).status) else (d, minus 3, 0)

/-! ### Faults of the guest (R406, R410, R415) -/

/-- Base of a die's register region (R550). -/
def regionBase (die : Nat) : Nat := 0xF_0000_0000_0000 + die * 0x600_0000
/-- Device address of a core's register block (R550, R551). -/
def coreBlock (g : Nat) : Nat := regionBase (g / 64) + 0x100_0000 + 0x4000 * (g % 64)

/-- An address lies in the guest address space of a job (R406). -/
def Dev.guest (d : Dev) (j : Job) (addr : Nat) : Bool :=
  (d.mem.partFor j.partMask addr 1).isSome ||
    (j.cores.any fun g => decide (narrowBase g ≤ addr) && decide (addr < narrowBase g + 8 * 2 ^ 22)) ||
    (j.cores.any fun g => decide (coreBlock g ≤ addr) && decide (addr < coreBlock g + 0x4000)) ||
    (decide (regionBase 0 + 0x1_2400 ≤ addr) && decide (addr < regionBase 0 + 0x1_2448))

/-- GUEST_PAGE_FAULT (R406): an access outside the ranges ends the job. -/
def fxGuestPageFault (d : Dev) (a addr : Nat) : Dev :=
  match d.calling a with
  | some j => if d.guest j addr then d else d.jobFault j.id (plainFault 0x0502 2 (appLoc a) (addr % 2 ^ 52))
  | none => d

/-- LOAD_ACCESS_FAULT (R410): a load, a fill or a fetch has met an uncorrectable atom, or a narrow read an uncorrectable
codeword; the atom stays as it is. -/
def fxLoadAccessFault (d : Dev) (a addr : Nat) : Dev :=
  match d.calling a with
  | some j =>
    if !d.guest j addr then d
    else if isHbm addr then
      let atom := addr / 64 * 64
      (d.updMem fun m => m.eccRead atom false .uncorrectable).jobFault j.id (plainFault 0x0501 2 (appLoc a) atom)
    else d.jobFault j.id (plainFault 0x0501 2 (appLoc a) addr)
  | none => d

/-- CTRL_TRAP (R415): a trap has reached the exit stub. -/
def fxCtrlTrap (d : Dev) (a vscause vsepc : Nat) : Dev :=
  match d.calling a with
  | some j => d.jobFault j.id (plainFault 0x090A 2 (appLoc a) (vscause % 2 ^ 16 + 2 ^ 16 * (vsepc % 2 ^ 48)))
  | none => d

end Sys2Proof.Machine
end

