-- ==== Sys2Proof/Machine/Fec.lean ====
section
/-! DEFINITION. The RS(544,514) code of a Starlane codeword (R316), as IEEE 802.3 defines it. The specification names that
standard and does not repeat it: the field GF(2^10) of x^10 + x^3 + 1 and the generator with roots α^0 to α^29 are PRESUMED
(log 202). -/

namespace Sys2Proof.Machine

/-! ### The field GF(2^10) -/

/-- Multiplication by α. -/
def gfX (a : Nat) : Nat := if 512 ≤ a then (2 * a) ^^^ 0x409 else 2 * a

/-- α^n. -/
def gfPow : Nat → Nat
  | 0 => 1
  | n + 1 => gfX (gfPow n)

/-- The product of two elements, over the lowest n bits of the second. -/
def gfMulBits (a b : Nat) : Nat → Nat
  | 0 => 0
  | n + 1 => (if bit b 0 then a else 0) ^^^ gfMulBits (gfX a) (b / 2) n
def gfMul (a b : Nat) : Nat := if a = 0 ∨ b = 0 then 0 else gfMulBits a b 10

/-- A power of an element, by squaring. -/
def gfExp (a : Nat) : Nat → Nat → Nat
  | 0, _ => 1
  | fuel + 1, n => if n = 0 then 1 else gfMul (if n % 2 = 1 then a else 1) (gfExp (gfMul a a) fuel (n / 2))
/-- The inverse of a nonzero element: its power 1,022. -/
def gfInv (a : Nat) : Nat := gfExp a 10 1022

/-! ### Polynomials, lowest coefficient first -/

/-- The value of a polynomial at an element. -/
def polyAt (p : List Nat) (x : Nat) : Nat := p.foldr (fun c a => c ^^^ gfMul a x) 0

/-- The sum, and a multiple by an element. -/
def polyAdd : List Nat → List Nat → List Nat
  | [], q => q
  | p, [] => p
  | a :: p, b :: q => (a ^^^ b) :: polyAdd p q
def polyScale (k : Nat) (p : List Nat) : List Nat := p.map fun a => gfMul a k

/-- The product. -/
def polyMul : List Nat → List Nat → List Nat
  | [], _ => []
  | a :: p, q => polyAdd (polyScale a q) (0 :: polyMul p q)

/-! ### Encoding -/

/-- The generator: the product of x − α^j for j = 0 to n − 1. -/
def rsGen : Nat → List Nat
  | 0 => [1]
  | n + 1 => polyMul (rsGen n) [gfPow n, 1]

/-- The parity of a message, its first symbol of the highest power: the remainder of its division by the generator. -/
def rsParity (msg : List Nat) : List Nat :=
  let g := (rsGen 30).take 30
  (msg.foldl (fun r m =>
    let f := m ^^^ r.getD 29 0
    polyAdd (0 :: r.take 29) (polyScale f g)) (List.replicate 30 0)).reverse

/-- The 544 symbols of a codeword: 514 of data, then the parity. -/
def rsEncode (msg : List Nat) : List Nat := msg ++ rsParity msg

/-! ### Decoding -/

/-- The syndromes of a received codeword, first symbol of power 543. -/
def syndromes (cw : List Nat) : List Nat := (List.range 30).map fun j => cw.foldl (fun a c => gfMul a (gfPow j) ^^^ c) 0

/-- One step of the Berlekamp–Massey algorithm, at syndrome n: the locator, the previous one, its discrepancy and age, and the
locator's degree. -/
def massey (s : List Nat) (st : List Nat × List Nat × Nat × Nat × Nat) (n : Nat) : List Nat × List Nat × Nat × Nat × Nat :=
  let (c, b, bd, m, deg) := st
  let d := ((List.range (deg + 1)).map fun i => gfMul (c.getD i 0) (if i ≤ n then s.getD (n - i) 0 else 0)).foldl (fun a x => a ^^^ x) 0
  if d = 0 then (c, b, bd, m + 1, deg)
  else
    let c' := polyAdd c (List.replicate m 0 ++ polyScale (gfMul d (gfInv bd)) b)
    if 2 * deg ≤ n then (c', c, d, 1, n + 1 - deg) else (c', b, bd, m + 1, deg)

/-- The error locator of a list of syndromes. -/
def locator (s : List Nat) : List Nat := ((List.range 30).foldl (massey s) ([1], [1], 1, 1, 0)).1

/-- Division by α. -/
def gfUnX (a : Nat) : Nat := if a % 2 = 1 then (a ^^^ 0x409) / 2 else a / 2

/-- The inverses of n powers of α, from y on. -/
def gfInverses : Nat → Nat → List Nat
  | 0, _ => []
  | n + 1, y => y :: gfInverses n (gfUnX y)

/-- The errors that the locator names: power of the position, and value (Chien, Forney). -/
def rsErrors (s : List Nat) : List (Nat × Nat) :=
  let l := locator s
  let omega := (polyMul l s).take 30
  let deriv := (List.range (l.length - 1)).map fun i => if i % 2 = 0 then l.getD (i + 1) 0 else 0
  ((gfInverses 544 1).zipIdx.filter fun q => decide (polyAt l q.1 = 0)).map fun q =>
    (q.2, gfMul (gfPow q.2) (gfMul (polyAt omega q.1) (gfInv (polyAt deriv q.1))))

/-- A codeword with errors taken away. -/
def rsApply (cw : List Nat) (e : List (Nat × Nat)) : List Nat :=
  cw.zipIdx.map fun x => x.1 ^^^ ((e.find? fun p => p.1 + x.2 = 543).map Prod.snd).getD 0

/-- A received codeword is decoded (R316): its 514 data symbols and the number of symbols corrected, at most 15; none when it is
uncorrectable. -/
def rsDecode (cw : List Nat) : Option (List Nat × Nat) :=
  let s := syndromes cw
  if s.all (· = 0) then some (cw.take 514, 0)
  else
    let e := rsErrors s
    let fixed := rsApply cw e
    if e.length ≤ 15 ∧ (syndromes fixed).all (· = 0) then some (fixed.take 514, e.length) else none

/-! ### Codewords and flits (R316) -/

/-- The data symbols of a codeword: the 20 bits of the tag, the index modulo 4,096 and the marker 0xA5, then the 640 bytes of a
flit. -/
def codewordData (index : Nat) (flit : List Byte) : List Nat :=
  let w := index % 4096 + 0xA5 * 2 ^ 12 + leNat flit * 2 ^ 20
  (List.range 514).map fun i => fld w (10 * i) 10

/-- The flit that 514 data symbols carry. -/
def flitOf (l : List Nat) : List Byte :=
  let w := l.foldr (fun x a => x % 1024 + 1024 * a) 0
  (List.range 640).map fun i => BitVec.ofNat 8 (fld w (20 + 8 * i) 8)

end Sys2Proof.Machine
end

