-- ==== Sys2Proof/Machine/Links.lean ====
section
/-! DEFINITION. Lasers and optical engines, flits and their retransmission, link training and failure, and the way of a
stream's messages onto links (R312 to R323, R330, R345, R571). -/

namespace Sys2Proof.Machine

/-! ### Parts -/

def Starlane.link (s : Starlane) (l : Nat) : Link := Tab.get Link.reset s.links l
def Starlane.cart (s : Starlane) (k : Nat) : Cart := Tab.get Cart.reset s.carts k
def Starlane.opt (s : Starlane) (e : Nat) : OptEng := Tab.get OptEng.reset s.opts e
def Dev.updLane (d : Dev) (u : Starlane → Starlane) : Dev := { d with lane := u d.lane }
def Dev.updLink (d : Dev) (l : Nat) (u : Link → Link) : Dev :=
  d.updLane fun s => { s with links := Tab.set s.links l (u (s.link l)) }
def Dev.updCart (d : Dev) (k : Nat) (u : Cart → Cart) : Dev :=
  d.updLane fun s => { s with carts := Tab.set s.carts k (u (s.cart k)) }
def Dev.updOpt (d : Dev) (e : Nat) (u : OptEng → OptEng) : Dev :=
  d.updLane fun s => { s with opts := Tab.set s.opts e (u (s.opt e)) }

/-- The peer-table entry of a device ID: its index and the entry (R325). -/
def Starlane.peerOf (s : Starlane) (id : Nat) : Option (Nat × Peer) := s.peers.find? fun p => decide (p.2.id = id) && decide (p.2.state ≠ 0)
/-- A device ID may be a target: 0x0000 to 0x3FFF (R324). -/
def validId (id : Nat) : Bool := decide (id ≤ 0x3FFF)
/-- The UP links whose far end is a device, ascending (R325, R330). -/
def Starlane.upLinks (s : Starlane) (id : Nat) : List Nat :=
  (List.range 96).filter fun l => decide ((s.link l).state = 6) && decide ((s.link l).farId = id)

/-- A link changes its state; the physical function is told (R320, R396). -/
def Dev.linkState (d : Dev) (l st : Nat) : Dev :=
  (d.updLink l fun k => { k with state := st, since := d.aon (dieOfLink l) }).msix 0 20

/-- A link group j. -/
def Starlane.grp (s : Starlane) (j : Nat) : LinkGroup := Tab.get LinkGroup.reset s.groups j

/-! ### The bytes of a flit (R316, R317) -/

/-- One bit of CRC-64/ECMA-182. -/
def crc64Step (c : Nat) : Nat := if c / 2 ^ 63 = 1 then (c * 2 % 2 ^ 64) ^^^ 0x42F0E1EBA9EA3693 else c * 2 % 2 ^ 64
/-- CRC-64/ECMA-182 of a byte string: polynomial 0x42F0E1EBA9EA3693, initial value and final exclusive-or zero, no
reflection (R317). -/
def crc64 (l : List Byte) : Nat :=
  l.foldl (fun c b => crc64Step (crc64Step (crc64Step (crc64Step (crc64Step (crc64Step (crc64Step (crc64Step (c ^^^ b.toNat * 2 ^ 56))))))))) 0

/-- The head of a message (R329). -/
def Msg.head (m : Msg) : List Byte :=
  leBytes 1 m.kind ++ leBytes 1 m.form ++ leBytes 2 m.target ++ leBytes 2 m.mseq ++ leBytes 2 m.data.length ++ leBytes 8 m.origin

/-- The numbers that spell a control record. -/
def Ctl.code : Ctl → List Nat
  | .nak seq => [1, seq]
  | .hello id link version => [2, id, link, version]
  | .probe => [3]
  | .probeAck => [4]
  | .probeNak => [5]
  | .mack core queue mseq => [6, core, queue, mseq]
  | .refuse core queue mseq reason => [7, core, queue, mseq, reason]
  | .rnr core queue mseq => [8, core, queue, mseq]
  | .windowClosed w mseq => [9, w, mseq]
  | .windowRefused w mseq => [10, w, mseq]
  | .windowAck w mseq => [11, w, mseq]
  | .pairing feed => [12, feed]
  | .pairingAnswer ok => [13, b2n ok]
  | .commit r => 14 :: r.map BitVec.toNat
  | .commitAnswer code detail mirrored => [15, code, detail, b2n mirrored]
  | .keepAlive => [16]

/-- The idle bytes of a flit's places from a to b. -/
def idleBytes (a b : Nat) : List Byte := (List.range (b - a)).map fun i => Config.idleByte (a + i)

/-- TYPE, MSG_OFF, MHEAD and PAYLOAD of a flit: 0x004 and 0x006 to 0x277 (R317). -/
def FlitBody.type : FlitBody → Nat
  | .data _ _ _ => 1
  | .control _ => 2
  | .idle => 0
def FlitBody.bytes : FlitBody → List Byte
  | .data pay start off =>
    (match start with | some m => leBytes 2 off ++ m.head | none => leBytes 2 0xFFFF ++ idleBytes 8 0x18) ++ pay ++ idleBytes (0x18 + pay.length) 0x278
  | .control c => leBytes 2 0xFFFF ++ idleBytes 8 0x18 ++ (List.range 608).map (Config.ctlByte c.code)
  | .idle => leBytes 2 0xFFFF ++ idleBytes 8 0x278

/-- The 640 bytes of a flit (R317). -/
def flitBytes (seq ack credit : Nat) (b : FlitBody) : List Byte :=
  let l := leBytes 2 seq ++ leBytes 2 ack ++ leBytes 1 b.type ++ leBytes 1 credit ++ b.bytes
  l ++ leBytes 8 (crc64 l)

/-- A flit leaves on a link, in a codeword (R316). -/
def Dev.showFlit (d : Dev) (l seq ack credit : Nat) (b : FlitBody) : Dev :=
  d.emit (.flit l seq ack credit b (rsEncode (codewordData (Config.codewordIndex l (d.aon (dieOfLink l)) d.out.length) (flitBytes seq ack credit b))))

/-! ### Sending flits (R317 to R319) -/

/-- The messages of a link that have not begun. -/
def Link.unbegun (k : Link) : List Msg := if k.txOff = 0 then k.txMsgs else k.txMsgs.drop 1

/-- Messages outstanding on a link, from their first flit on, against the bound of 512 (R170, R333). -/
def Starlane.outstanding (s : Starlane) (l : Nat) : Nat :=
  (s.streams.map fun t => (t.out.filter fun o => decide (o.link = some l) && o.begun).length).sum +
    (match s.xfer with
     | some x => if x.link = some l then (x.out.filter fun m => !(s.link l).unbegun.contains m).length else 0
     | none => 0)

/-- A stream's message, as its sender holds it on a link. -/
def Starlane.isTx (s : Starlane) (l : Nat) (m : Msg) (t : TxStream) (o : TxMsg) : Bool :=
  decide (m.kind ≠ 2) && decide (t.peer = (s.link l).farId) && decide (t.core = m.origin % 128) && decide (t.queue = m.target) && decide (o.msg.mseq = m.mseq)

/-- A message may begin on a link: the bound leaves room, or it counts already (R170, R333). -/
def Starlane.mayBegin (s : Starlane) (l : Nat) (m : Msg) : Bool :=
  decide (s.outstanding l < 512) || s.streams.any fun t => t.out.any fun o => s.isTx l m t o && decide (o.link = some l) && o.begun

/-- A data flit starts a message: it is outstanding on the link from then on, and the time of its first flit is noted with it
(R333, R334). -/
def Starlane.stamp (s : Starlane) (l aon : Nat) (m : Msg) : Starlane :=
  { s with streams := s.streams.map fun t =>
      { t with out := t.out.map fun o => if s.isTx l m t o then { o with sent := o.sent.or (some aon), begun := true } else o } }

/-- The next data flit of a link: the bytes of the message it is in, then the start of the next one directly behind, if that
one may begin; with it what is left to send (R317). -/
def Link.dataFlit (k : Link) (may : Msg → Bool) : Option (FlitBody × List Msg × Nat) :=
  match k.txMsgs with
  | [] => none
  | m :: t =>
    if k.txOff = 0 then
      if may m then some (.data (m.data.take 608) (some m) 0, if m.data.length ≤ 608 then t else m :: t, if m.data.length ≤ 608 then 0 else 608)
      else none
    else
      let rest := m.data.drop k.txOff
      if 608 < rest.length then some (.data (rest.take 608) none 0, m :: t, k.txOff + 608)
      else
        match t with
        | n :: u =>
          let room := 608 - rest.length
          if room ≠ 0 ∧ may n then
            some (.data (rest ++ n.data.take room) (some n) rest.length, if n.data.length ≤ room then u else n :: u, if n.data.length ≤ room then 0 else room)
          else some (.data rest none 0, t, 0)
        | [] => some (.data rest none 0, [], 0)

/-- A data or control flit is sent: it carries ACK and the credit granted since the previous flit, and stays in the replay
buffer. -/
def Dev.sendFlit (d : Dev) (l : Nat) (b : FlitBody) : Dev :=
  let k := d.lane.link l
  (d.showFlit l k.txSeq ((k.rxSeq + 65535) % 65536) k.grant b).updLink l fun k =>
    { k with txSeq := (k.txSeq + 1) % 65536, replay := k.replay ++ [(k.txSeq, k.grant, b)], grant := 0, ackDue := false }

/-- Flits leave while the replay buffer has room, at most n of them: control records first, then message bytes while credit is
held. A link in KEEP_ALIVE sends control records only (R320). -/
def Dev.pumpFlits (d : Dev) (l : Nat) : Nat → Dev
  | 0 => d
  | n + 1 =>
    let k := d.lane.link l
    if (k.state ≠ 6 ∧ k.state ≠ 9) ∨ 512 ≤ k.replay.length then d
    else match k.txCtl with
    | c :: t => ((d.updLink l fun k => { k with txCtl := t }).sendFlit l (.control c)).pumpFlits l n
    | [] =>
      if k.state ≠ 6 ∨ k.credit = 0 then d
      else match k.dataFlit (d.lane.mayBegin l) with
      | some (.data pay start off, ms, sent) =>
        let d := (d.updLink l fun k => { k with txMsgs := ms, txOff := sent, credit := k.credit - 1, txBytes := satAdd 64 k.txBytes pay.length }).sendFlit l
          (.data pay start off)
        (match start with | some m => d.updLane fun s => s.stamp l (d.aon (dieOfLink l)) m | none => d).pumpFlits l n
      | _ => d

/-- Flits that what waits on a link can fill, at most: a message of 2,304 bytes fills four, and begins in a fifth. -/
def Link.backlog (k : Link) : Nat := k.txCtl.length + 5 * k.txMsgs.length

/-- What waits on a link is sent. An idle flit goes out where credit or an ACK would otherwise wait, and while a full replay
buffer holds flits back (R318, R319). -/
def Dev.pump (d : Dev) (l : Nat) : Dev :=
  let d := d.pumpFlits l (d.lane.link l).backlog
  let k := d.lane.link l
  if k.state = 6 ∧ (k.grant ≠ 0 ∨ k.ackDue ∨ (512 ≤ k.replay.length ∧ k.backlog ≠ 0)) then
    (d.showFlit l k.txSeq ((k.rxSeq + 65535) % 65536) k.grant .idle).updLink l fun k => { k with grant := 0, ackDue := false }
  else d

/-- A control record is sent on a link in service; while the link relocks it waits (R321). -/
def Dev.sendCtl (d : Dev) (l : Nat) (c : Ctl) : Dev :=
  let st := (d.lane.link l).state
  if st = 6 ∨ st = 7 ∨ st = 9 then (d.updLink l fun k => { k with txCtl := k.txCtl ++ [c] }).pump l else d

/-- Each microsecond a link in KEEP_ALIVE sends one control flit (R320). -/
def Dev.keepAlive (d : Dev) : Dev :=
  (List.range 96).foldl (fun d l =>
    let k := d.lane.link l
    if k.state = 9 ∧ k.since < d.aon (dieOfLink l) ∧ (d.aon (dieOfLink l) - k.since) % 25 = 0 then d.sendCtl l .keepAlive else d) d

/-- A message is given to a link. -/
def Dev.giveLink (d : Dev) (l : Nat) (m : Msg) : Dev := (d.updLink l fun k => { k with txMsgs := k.txMsgs ++ [m] }).pump l

/-- Messages that have not begun are withdrawn from a link. -/
def Link.withdraw (k : Link) (p : Msg → Bool) : Link :=
  { k with txMsgs := (if k.txOff = 0 then [] else k.txMsgs.take 1) ++ k.unbegun.filter fun m => !p m }

/-! ### Streams on links (R322, R329, R330, R335) -/

/-- The formula of R330. -/
def Starlane.choose (s : Starlane) (peer gs gt r : Nat) : Option Nat :=
  let up := s.upLinks peer
  up[(gs + 16 * gt + r) % max 1 up.length]?

def TxStream.is (t : TxStream) (core peer queue : Nat) : Bool :=
  decide (t.core = core) && decide (t.peer = peer) && decide (t.queue = queue)
def Starlane.updStream (s : Starlane) (core peer queue : Nat) (u : TxStream → TxStream) : Starlane :=
  { s with streams := s.streams.map fun t => if t.is core peer queue then u t else t }

/-- The link of a stream: the one it keeps while that is UP or relocks, else the formula's. -/
def Starlane.route (s : Starlane) (core peer queue : Nat) : Option Nat :=
  match (s.streams.find? fun t => t.is core peer queue).bind TxStream.link with
  | some l => if (s.link l).state = 6 ∨ (s.link l).state = 7 then some l else s.choose peer core (fld queue 4 7) (queue % 16)
  | none => s.choose peer core (fld queue 4 7) (queue % 16)

/-- Messages of a stream that satisfy a condition are given to the link that its route names, in order. -/
def Dev.giveStream (d : Dev) (core peer queue : Nat) (p : TxMsg → Bool) : Dev :=
  match d.lane.route core peer queue with
  | none => d
  | some l =>
    match d.lane.streams.find? fun t => t.is core peer queue with
    | none => d
    | some t =>
      let ms := (t.out.filter p).map TxMsg.msg
      let d := d.updLane fun s => s.updStream core peer queue fun t =>
        { t with link := some l,
                 out := t.out.map fun o => if p o then { o with link := some l, rnr := none, begun := o.begun && decide (o.link = some l) } else o }
      ms.foldl (fun d m => d.giveLink l m) d

/-- A link to a stream's peer has entered UP: the stream takes the link that the formula gives for the new set, for the messages
whose first flit has not left (R330). -/
def Dev.reroute (d : Dev) (t : TxStream) : Dev :=
  match d.lane.choose t.peer t.core (fld t.queue 4 7) (t.queue % 16) with
  | none => d
  | some l =>
    let moves (o : TxMsg) : Bool := o.link.isNone || (decide (o.link ≠ some l) && !o.begun)
    let ms := (t.out.filter moves).map TxMsg.msg
    let d := d.updLane fun s => ({ s with links := s.links.map fun k => (k.1, k.2.withdraw fun m => ms.contains m) } : Starlane).updStream
      t.core t.peer t.queue fun t => { t with link := some l }
    d.giveStream t.core t.peer t.queue moves

/-- The entry of the holder, or of a source of a mirror slot, has become ACTIVE: this device sends its feed tag (R460). -/
def Dev.pairStart (d : Dev) (id : Nat) : Dev :=
  let own := decide (d.pdd.holder = id) && decide (id ≠ 0xFFFF)
  let d := if own then { d with pdd := { d.pdd with pair := 1 } } else d
  if own || (d.pdd.slots.any fun x => decide (x.2.source = id) && decide (x.2.state ≠ 0) && decide (x.2.state ≠ 1)) then
    match d.lane.upLinks id with
    | l :: _ => d.sendCtl l (.pairing d.pdd.feed)
    | [] => d
  else d

/-- What the wait of R335 for a destination becomes when its entry goes to a state: it begins in PROBING and UNROUTED, ends when
the entry is ACTIVE, and goes on meanwhile. -/
def waitIn (st now : Nat) (w : Option Nat) : Option Nat :=
  if st = 2 then none else if st = 1 ∨ st = 3 then w.or (some now) else w

/-- The transfers to a device begin or end their wait (R335). -/
def Dev.waitFor (d : Dev) (id st : Nat) : Dev :=
  { d with cores := d.cores.map fun c => (c.1, { c.2 with engs := c.2.engs.map fun e => (e.1, { e.2 with
      xfers := e.2.xfers.map fun t => { t with dests := t.dests.map fun x =>
        if x.peer = id ∧ x.acked < t.len then { x with waiting := waitIn st (d.aon (c.1 / 64)) x.waiting } else x } }) }) }

/-- A peer's entry changes its state; transfers to it begin or end a wait (R322, R326, R335, R396). -/
def Dev.peerState (d : Dev) (id st : Nat) : Dev :=
  match d.lane.peerOf id with
  | none => d
  | some (i, p) =>
    if p.state = st then d
    else
      let d := (d.updLane fun s => { s with peers := Tab.set s.peers i { p with state := st, since := d.aon0 } }).msix 0 20
      let d := d.waitFor id st
      if st = 2 then d.pairStart id else d

/-- Window writes that wait for a link are given to the one that R330 chooses with g_s = 0, g_t = 0 and r = the window, once
their device's entry is ACTIVE, or DRAINING while they are under way (R326, R327, R343). -/
def Dev.giveWindow (d : Dev) : Dev :=
  match d.lane.xfer with
  | some x =>
    let peer := numAt x.record 0x14 2
    if x.link.isSome || !(d.lane.peerOf peer).any (fun p => p.2.state == 2 || p.2.state == 4) then d
    else match d.lane.choose peer 0 0 (numAt x.record 0x16 1) with
    | some l => x.out.foldl (fun d m => d.giveLink l m) (d.updLane fun s => { s with xfer := some { x with link := some l } })
    | none => d
  | none => d

/-- A link has left service: its streams move to another UP link to the peer, or the peer becomes UNROUTED (R322, R326) unless a
link to it is in KEEP_ALIVE (R323). A
device whose removal is under way and that has no UP link left is waited for in the same way (R327, R335). -/
def Dev.moveStreams (d : Dev) (l : Nat) : Dev :=
  let peer := (d.lane.link l).farId
  let d := d.updLane fun s => { s with
    streams := s.streams.map fun t => if t.peer = peer then
      { t with link := if t.link = some l then none else t.link,
               out := t.out.map fun o => if o.link = some l then { o with link := none, begun := false } else o } else t,
    xfer := s.xfer.map fun x => if x.link = some l then { x with link := none } else x }
  if (d.lane.upLinks peer).isEmpty then
    if (List.range 96).any fun k => decide ((d.lane.link k).state = 9) && decide ((d.lane.link k).farId = peer) then d
    else match d.lane.peerOf peer with
    | some (_, p) => if p.state = 2 then d.peerState peer 3 else if p.state = 4 then d.waitFor peer 3 else d
    | none => d
  else ((d.lane.streams.filter fun t => decide (t.peer = peer)).foldl (fun d t => d.giveStream t.core t.peer t.queue fun o => o.link.isNone) d).giveWindow

/-- A link leaves UP, or training, for another state: nothing more is sent or expected on it (R320 to R322). -/
def Dev.linkDown (d : Dev) (l st reason : Nat) : Dev :=
  let was := (d.lane.link l).state
  let d := (d.linkState l st).updLink l fun k =>
    { k with reason := if st = 8 then reason else k.reason, replay := [], txCtl := [], txMsgs := [], txOff := 0, ackDue := false, credit := 0, grant := 0,
             rxPart := none, discarding := false }
  if was = 6 ∨ was = 7 ∨ was = 9 then d.moveStreams l else d

/-- A link fails with a reason (R321). -/
def Dev.failLink (d : Dev) (l reason : Nat) : Dev :=
  if (d.lane.link l).state = 0 then d else d.linkDown l 8 reason

/-- A link in UP is followed by its peer's entry and by the messages to that peer: UNROUTED becomes ACTIVE, a PROBE that waited
is sent, streams take the link of the new set, and the window transfer goes on (R326, R330, R335, R343). -/
def Dev.serve (d : Dev) (l : Nat) : Dev :=
  let peer := (d.lane.link l).farId
  let d := match d.lane.peerOf peer with
    | some (_, p) =>
      if p.state = 3 then d.peerState peer 2
      else if p.state = 1 ∧ d.lane.upLinks peer = [l] then d.sendCtl l .probe
      else if p.state = 4 then d.waitFor peer 2 else d
    | none => d
  let d := (d.lane.streams.filter fun t => decide (t.peer = peer)).foldl Dev.reroute d
  d.giveWindow.pump l

/-- A link enters UP, or KEEP_ALIVE while the device is in Dusk or wakes (R320, R321, R323). -/
def Dev.enterUp (d : Dev) (l : Nat) : Dev :=
  if d.pwr.state = 2 ∨ d.pwr.state = 3 then d.linkState l 9 else (d.linkState l 6).serve l

/-- A trained link enters service: 192 flits of credit are granted, and sequence numbers start at 0 (R319, R320). A window write
that came on it before holds none of the new receive buffer. -/
def Dev.linkUp (d : Dev) (l : Nat) : Dev :=
  let d := d.updLink l fun k =>
    { k with txSeq := 0, rxSeq := 0, replay := [], txCtl := [], txMsgs := [], txOff := 0, ackDue := false, credit := 0, grant := 192, rxUsed := 0,
             rxPart := none, rxMsgs := [], discarding := false }
  let d := d.updLane fun s => { s with wins := s.wins.map fun w => (w.1, { w.2 with writes := w.2.writes.map fun x => if x.link = l then { x with flits := 0 } else x }) }
  d.enterUp l

/-! ### Lasers and optical engines (R312 to R314, R571) -/

/-- A cartridge gives an engine light: it is lit, and software has restored it if it is newly inserted (R314). -/
def Cart.lit (c : Cart) : Bool := decide (c.state = 2) && !c.fresh

/-- An engine goes dark: its links fail with reason 0x5 (R313, R321). -/
def Dev.darken (d : Dev) (e : Nat) : Dev :=
  (d.updOpt e fun x => { x with state := 2 }).forAll (List.range 8) fun d k =>
    if (d.lane.link (8 * e + k)).state = 8 then d else d.failLink (8 * e + k) 5

/-- An engine loses its cartridge: from the primary input it moves to the secondary when that cartridge is lit; else it is
dark. -/
def Dev.switchOver (d : Dev) (e : Nat) : Dev :=
  let x := d.lane.opt e
  let other := (e + 3) % 6
  if !x.secondary ∧ (d.lane.cart other).lit then d.updOpt e fun x => { x with secondary := true, cart := other }
  else d.darken e

/-- An engine runs again after its partial reset: on the input it was on, while that is fed (R314, R321). -/
def Dev.resumeEngine (d : Dev) (e : Nat) : Dev :=
  if (d.lane.cart (d.lane.opt e).cart).lit then d.updOpt e fun x => { x with state := 1 } else d.switchOver e

/-- The engines that a cartridge feeds. -/
def Starlane.fed (s : Starlane) (k : Nat) : List Nat :=
  (List.range 12).filter fun e => decide ((s.opt e).state = 1) && decide ((s.opt e).cart = k)

/-- A cartridge stops giving light: its state, then its engines. -/
def Dev.loseCart (d : Dev) (k st : Nat) : Dev :=
  let fed := d.lane.fed k
  (d.updCart k fun c => { c with state := st }).forAll fed Dev.switchOver

/-- CARTRIDGE_FAILURE (R313): output below 50 % of its set point for 1 µs. -/
def fxCartridgeFailure (d : Dev) (k : Nat) : Dev := if (d.lane.cart k).state = 2 then d.loseCart k 4 else d

/-- CART_RELEASE (R312, R314): OPT_CART_CTRL.RELEASE moves its engines and darkens it. -/
def fxCartRelease (d : Dev) (k : Nat) : Dev :=
  if (d.lane.cart k).state = 2 ∨ (d.lane.cart k).state = 1 then d.loseCart k 3 else d

/-- CART_RESTORE (R314): the primary engines of a lit cartridge return to it. -/
def fxCartRestore (d : Dev) (k : Nat) : Dev :=
  if (d.lane.cart k).state ≠ 2 then d
  else (d.updCart k fun c => { c with fresh := false }).forAll [k, k + 6] fun d e =>
    if (d.lane.opt e).state = 1 ∨ (d.lane.opt e).state = 2 then d.updOpt e fun x => { x with state := 1, secondary := false, cart := k } else d

/-- CARTRIDGE_INSERT (R314, R571): a cartridge enters an empty bay, and its lever closes; it warms up. -/
def fxCartridgeInsert (d : Dev) (k : Nat) : Dev :=
  if (d.lane.cart k).present then d else d.updCart k fun c => { c with present := true, state := 1, lever := true, fresh := d.rst.steps.contains 10 }

/-- CARTRIDGE_LIT (R314): the wavelength has locked. The cartridge feeds no engine until software restores it. -/
def fxCartridgeLit (d : Dev) (k : Nat) : Dev :=
  if (d.lane.cart k).state = 1 then d.updCart k fun c => { c with state := 2 } else d

/-- CARTRIDGE_LEVER_OPEN (R314, R571): the drive is cut and the bay is emptied. For a lit cartridge it is a failure, and the
device records a fault. -/
def fxCartridgeLeverOpen (d : Dev) (k : Nat) : Dev :=
  let lit := decide ((d.lane.cart k).state = 2)
  let d := d.loseCart k 0
  let d := d.updCart k fun c => { c with present := false, state := 0, lever := false }
  if lit then d.fnFault 0 (plainFault Config.cartCode 0 (location 6 0 0 0 k) 0) else d

/-! ### Training (R320, R321, R345) -/

/-- LINK_LIGHT_DETECT (R320): a waiting link sees power above loss of signal. -/
def fxLinkLightDetect (d : Dev) (l : Nat) : Dev :=
  if (d.lane.link l).state = 1 ∧ (d.lane.opt (l / 8)).state = 1 then d.linkState l 2 else d

/-- LINK_TRAIN_STEP (R320): CDR_LOCK, EQUALISE or FEC_ALIGN completes; on HELLO each end announces itself. -/
def fxLinkTrainStep (d : Dev) (l : Nat) : Dev :=
  let st := (d.lane.link l).state
  if st = 2 ∨ st = 3 then d.linkState l (st + 1)
  else if st = 4 then (d.linkState l 5).showFlit l 0 0 0 (.control (.hello d.lane.devId l 1))
  else d

/-- The longest times of the training states in always-on counts (R320). -/
def trainLimit : Nat → Nat
  | 2 => 50_000
  | 3 => 1_250_000
  | 4 => 125_000
  | _ => 25_000

/-- LINK_TRAIN_TIMEOUT (R320). -/
def fxLinkTrainTimeout (d : Dev) (l : Nat) : Dev :=
  let k := d.lane.link l
  if 2 ≤ k.state ∧ k.state ≤ 5 ∧ k.since + trainLimit k.state ≤ d.aon (dieOfLink l) then d.linkDown l 1 0 else d

/-- HELLO (R320): the far end announces its ID, its link number and its Starlane version. -/
def fxHello (d : Dev) (l id far version : Nat) : Dev :=
  if (d.lane.link l).state ≠ 5 then d
  else
    let d := d.updLink l fun k => { k with farId := id, farLink := far }
    if id = d.lane.devId then d.failLink l 3 else if version ≠ 1 then d.failLink l 4 else d.linkUp l

/-- LOSS_OF_LOCK (R321): no intact codeword for 1 µs. -/
def fxLossOfLock (d : Dev) (l : Nat) : Dev := if (d.lane.link l).state = 6 then d.linkState l 7 else d

/-- FAST_RETRAIN_DONE (R321): relock within 30 µs (750 counts); service goes on where it stopped. -/
def fxFastRetrainDone (d : Dev) (l : Nat) : Dev :=
  let k := d.lane.link l
  if k.state = 7 ∧ d.aon (dieOfLink l) ≤ k.since + 750 then d.enterUp l else d

/-- FAST_RETRAIN_FAIL (R321): relock has not succeeded within 30 µs. -/
def fxFastRetrainFail (d : Dev) (l : Nat) : Dev :=
  let k := d.lane.link l
  if k.state = 7 ∧ k.since + 750 ≤ d.aon (dieOfLink l) then d.failLink l 1 else d

/-- LINK_RETRY_EXPIRY (R320, R344): RETRY seconds have passed in FAILED; 0 acts as 1. -/
def fxLinkRetryExpiry (d : Dev) (l : Nat) : Dev :=
  let k := d.lane.link l
  if k.state = 8 ∧ k.since + 25_000_000 * (if d.lane.retry = 0 then 1 else d.lane.retry) ≤ d.aon (dieOfLink l) then d.linkState l 1 else d

/-- The six counters of a link after its partial reset (R346). -/
def Link.clearCounts (k : Link) : Link := { k with fecCorr := 0, fecUncorr := 0, replays := 0, txBytes := 0, rxBytes := 0, refused := 0 }

/-- LNK_RETRAIN (R345): from UP the link enters FAST_RETRAIN; any other link that is enabled trains anew. -/
def Dev.retrain (d : Dev) (l : Nat) : Dev :=
  let st := (d.lane.link l).state
  if st = 6 then d.linkState l 7 else if st = 0 ∨ st = 7 ∨ st = 9 then d else d.linkDown l 1 0
def fxLnkRetrain (d : Dev) (l : Nat) (a : Agent) : Dev := d.ifExpert a fun d => d.retrain l

/-- LNK_CTRL.EN (R320, R345). Strap value 0x6 forces it to 0 (R490, R491). -/
def Dev.enableLink (d : Dev) (l : Nat) (want : Bool) : Dev :=
  let k := d.lane.link l
  let en := want && decide (d.rst.strap ≠ 6)
  let d := d.updLink l fun k => { k with en := en }
  if en then (if k.state = 0 then d.linkState l 1 else d) else if k.state = 0 then d else d.linkDown l 0 0

/-! ### Receiving flits (R317 to R319, R323) -/

/-- The message of a head and its bytes (R329). -/
def msgOf (head data : List Byte) : Msg :=
  { kind := numAt head 0 1, form := numAt head 1 1 % 2, target := numAt head 2 2, mseq := numAt head 4 2, origin := numAt head 8 8, data := data }

/-- The bytes of an arriving data flit go to the message they belong to (R317). -/
def Link.assemble (k : Link) (flit : List Byte) : Link :=
  let off := numAt flit 6 2
  let head := bytesAt flit 8 16
  let pay := bytesAt flit 0x18 608
  let k := match k.rxPart with
    | some p =>
      let data := p.data ++ pay.take (p.len - p.data.length)
      if p.len ≤ data.length then { k with rxPart := none, rxMsgs := k.rxMsgs ++ [⟨msgOf p.head data, p.flits + (if off < 608 then 0 else 1)⟩] }
      else { k with rxPart := some { p with data := data, flits := p.flits + 1 } }
    | none => if 608 ≤ off then { k with grant := k.grant + 1, rxUsed := k.rxUsed - 1 } else k
  if off < 608 ∧ k.rxPart.isNone then
    let len := numAt head 6 2
    let data := (pay.drop off).take len
    if len ≤ data.length then { k with rxMsgs := k.rxMsgs ++ [⟨msgOf head data, 1⟩] }
    else { k with rxPart := some { head := head, len := len, data := data, flits := 1 } }
  else k

/-- A discarded flit (R318): a NAK names the expected SEQ. A flit out of sequence that arrives after one brings no further NAK;
a corrupted one always does, for it may be the flit that was to be replayed. -/
def Dev.nakFlit (d : Dev) (l : Nat) (corrupt : Bool) : Dev :=
  let k := d.lane.link l
  if k.discarding && !corrupt then d
  else (d.updLink l fun k => { k with discarding := true }).sendCtl l (.nak k.rxSeq)

/-- An intact flit in sequence: its ACK frees the replay buffer, its credit is held, and the bytes of a data flit go to their
message. On a link in KEEP_ALIVE a data flit wakes the device (R317 to R319, R323). -/
def Dev.takeFlit (d : Dev) (l : Nat) (flit : List Byte) : Dev :=
  let typ := numAt flit 4 1
  let ack := numAt flit 2 2
  let asleep := (d.lane.link l).state = 9
  let d := d.updLink l fun k =>
    { k with credit := k.credit + numAt flit 5 1, replay := k.replay.filter fun r => decide (32768 ≤ (ack + 65536 - r.1) % 65536) }
  let d := if typ = 0 then d else d.updLink l fun k => { k with rxSeq := (k.rxSeq + 1) % 65536, discarding := false, ackDue := true }
  let d := if typ = 1 then d.updLink l fun k => { k with rxUsed := k.rxUsed + 1 }.assemble flit else d
  (if typ = 1 ∧ asleep then d.wakeUp else d).pump l

/-- FLIT_RECEIVE (R316 to R319, R323): a codeword arrives on a link in service. It is decoded; the flit it carries is discarded
when the codeword is uncorrectable, when its CRC fails, or when its SEQ is not the next one expected. -/
def fxFlitReceive (d : Dev) (l : Nat) (codeword : List Nat) : Dev :=
  let k := d.lane.link l
  if k.state ≠ 6 ∧ k.state ≠ 9 then d
  else match rsDecode codeword with
  | none => (d.updLink l fun k => { k with fecUncorr := satAdd 64 k.fecUncorr 1 }).nakFlit l true
  | some (data, fixed) =>
    let d := if fixed = 0 then d else d.updLink l fun k => { k with fecCorr := satAdd 64 k.fecCorr 1 }
    let flit := flitOf data
    if crc64 (flit.take 0x278) ≠ numAt flit 0x278 8 then d.nakFlit l true
    else if numAt flit 0 2 ≠ k.rxSeq then d.nakFlit l false
    else d.takeFlit l flit

/-- NAK_RECEIVE (R318): the flits from the named SEQ on are sent again, in order. -/
def fxNakReceive (d : Dev) (l seq : Nat) : Dev :=
  let k := d.lane.link l
  if k.state ≠ 6 ∧ k.state ≠ 9 then d
  else
    let again := k.replay.filter fun r => decide ((r.1 + 65536 - seq) % 65536 < 32768)
    let d := d.updLink l fun k =>
      { k with replays := satAdd 64 k.replays 1, replay := again, ackDue := false }
    (again.foldl (fun d r => d.showFlit l r.1 ((k.rxSeq + 65535) % 65536) r.2.1 r.2.2) d).pump l

/-- The oldest message that waits at a receiver. -/
def Starlane.arrived (s : Starlane) (l : Nat) : Option RxMsg := (s.link l).rxMsgs.head?

/-- The oldest message leaves the waiting ones. -/
def Dev.taken (d : Dev) (l : Nat) : Dev := d.updLink l fun k => { k with rxMsgs := k.rxMsgs.drop 1 }

/-- Flits whose bytes have been landed or refused leave the receive buffer, and their credit is returned (R319). -/
def Dev.returnCredit (d : Dev) (l flits : Nat) : Dev := d.updLink l fun k => { k with rxUsed := k.rxUsed - flits, grant := k.grant + flits }

/-- A message has been handled. -/
def Dev.handled (d : Dev) (l : Nat) (m : RxMsg) : Dev := (d.taken l).returnCredit l m.flits

end Sys2Proof.Machine
end

