-- ==== Sys2Proof/Machine/Mirror.lean ====
section
/-! DEFINITION. Mirror slots and taps: where frames lie and how messages that land fill them (R459 to R462). -/

namespace Sys2Proof.Machine

/-- Mirror slot i and tap j. -/
def Dev.mslot (d : Dev) (i : Nat) : MSlot := Tab.get MSlot.reset d.pdd.slots i
def Dev.updSlot (d : Dev) (i : Nat) (u : MSlot → MSlot) : Dev := { d with pdd := { d.pdd with slots := Tab.set d.pdd.slots i (u (d.mslot i)) } }
def Dev.tap (d : Dev) (j : Nat) : Tap := Tab.get Tap.reset d.pdd.taps j
def Dev.updTap (d : Dev) (j : Nat) (u : Tap → Tap) : Dev := { d with pdd := { d.pdd with taps := Tab.set d.pdd.taps j (u (d.tap j)) } }

/-- The taps of a slot. -/
def Dev.tapsOf (d : Dev) (i : Nat) : List Nat := (List.range 64).filter fun j => (d.tap j).valid && decide ((d.tap j).slot = i)

/-- Device address of frame k of slot i (R459). -/
def Dev.frameAddr (d : Dev) (i k : Nat) : Nat :=
  (d.mem.part d.pdd.mirrorPart).base * 2 ^ 30 + ((List.range i).map fun n => 4096 + 3 * 65536 * (d.mslot n).frame).sum + 4096 +
    k * (65536 * (d.mslot i).frame)

/-- The counts and OVERRUN of a slot's taps are cleared (R462, R464). -/
def Dev.resetTaps (d : Dev) (i : Nat) (newEpoch : Bool) : Dev :=
  (d.tapsOf i).foldl (fun d j => d.updTap j fun t => { t with landed := 0, overrun := false, epoch := if newEpoch then none else t.epoch }) d

/-- One tap's copy of a message: its bytes go to the open frame after those that have landed; what passes the tap's length is
not written (R461). Frame writes are charged to the mirror partition. -/
def Dev.tapWrite (d : Dev) (j : Nat) (m : Msg) : Dev :=
  let t := d.tap j
  let epoch := m.origin / 2 ^ 32
  let d := match t.epoch with
    | some e => if e = epoch then d else d.resetTaps t.slot true
    | none => d
  let t := d.tap j
  let keep := m.data.take (64 * t.len - t.landed)
  let at' := d.frameAddr t.slot (d.mslot t.slot).open' + 64 * t.off + t.landed
  let p := d.pdd.mirrorPart
  let d := if keep.isEmpty ∨ !d.mem.inPart p at' keep.length then d
    else ((d.hbmWrite p none at' keep).updMem fun m => m.updPart p fun q => q.charge (atomBytes at' keep.length))
  let d := { d with pdd := { d.pdd with tapBytes := satAdd 64 d.pdd.tapBytes keep.length } }
  d.updTap j fun t => { t with epoch := some epoch, landed := t.landed + m.data.length,
                               overrun := t.overrun || decide (64 * t.len < t.landed + m.data.length) }

/-- A message that has landed on a stream is also written by the taps that name the stream (R461): source device, sending
core and queue. A slot that is not valid, or whose pairing does not stand, takes no traffic. -/
def Dev.tapMessage (d : Dev) (far : Nat) (m : Msg) : Dev :=
  ((List.range 64).filter fun j =>
    let t := d.tap j
    t.valid && decide (t.source = far) && decide (t.sender = m.origin % 128) && decide (t.queue = m.target) && (d.mslot t.slot).paired &&
      decide (2 ≤ (d.mslot t.slot).state)).foldl (fun d j => d.tapWrite j m) d

end Sys2Proof.Machine
end

