-- ==== Sys2Proof/Machine/Peers.lean ====
section
/-! DEFINITION. The peer table, stream transfers over the links in both directions, and link groups (R324 to R339, R349). -/

namespace Sys2Proof.Machine

/-! ### The peer table (R325 to R327, R349) -/

/-- PEER_RESULT (R349). -/
def Dev.peerAnswer (d : Dev) (index result : Nat) : Dev := d.updLane fun s => { s with peerIndex := index, peerResult := result }

/-- A control record on every UP link to a device. -/
def Dev.toPeer (d : Dev) (id : Nat) (c : Ctl) : Dev := (d.lane.upLinks id).foldl (fun d l => d.sendCtl l c) d

/-- PEER_ADD (R326, R327): an entry in PROBING, and a PROBE on every UP link to the device. -/
def fxPeerAdd (d : Dev) (id : Nat) : Dev :=
  let d := d.updLane fun s => { s with peerCmdId := id }
  if !validId id then d.peerAnswer 0 5
  else match d.lane.peerOf id with
  | some (i, _) => d.peerAnswer i 2
  | none =>
    match (List.range 4096).find? fun i => (d.lane.peers.all fun p => decide (p.1 ≠ i) || decide (p.2.state = 0)) with
    | none => d.peerAnswer 0 3
    | some i =>
      let d := d.updLane fun s => { s with peers := Tab.set s.peers i { id := id, state := 1, owners := 0, since := d.aon0 } }
      ((d.peerAnswer i 0).msix 0 20).toPeer id .probe

/-- PEER_REMOVE (R327). -/
def fxPeerRemove (d : Dev) (id : Nat) : Dev :=
  let d := d.updLane fun s => { s with peerCmdId := id }
  match d.lane.peerOf id with
  | some (i, _) => (d.peerAnswer i 0).peerState id 4
  | none => d.peerAnswer 0 (if validId id then 4 else 5)

/-- PEER_SET_OWNERS (R349): OWNERS of PEER_CMD_DATA. -/
def fxPeerSetOwners (d : Dev) (id owners : Nat) : Dev :=
  let d := d.updLane fun s => { s with peerCmdId := id, peerCmdData := owners }
  match d.lane.peerOf id with
  | some (i, p) => ((d.updLane fun s => { s with peers := Tab.set s.peers i { p with owners := owners } }).msix 0 20).peerAnswer i 0
  | none => d.peerAnswer 0 (if validId id then 4 else 5)

/-- Messages to a device are outstanding, or transfers to it under way (R327, R343). -/
def Dev.sendingTo (d : Dev) (id : Nat) : Bool :=
  (d.lane.streams.any fun t => decide (t.peer = id) && !t.out.isEmpty) ||
    (d.cores.any fun c => c.2.engs.any fun e => e.2.xfers.any fun t => t.dests.any fun x => decide (x.peer = id) && decide (x.acked < t.len)) ||
    d.lane.xfer.any fun x => decide (numAt x.record 0x14 2 = id)

/-- PEER_DRAIN_DONE (R327): nothing is outstanding to a device in DRAINING: the entry is FREE, and PROBE_NAK tells the
device. -/
def fxPeerDrainDone (d : Dev) (id : Nat) : Dev :=
  match d.lane.peerOf id with
  | some (i, p) =>
    if p.state ≠ 4 ∨ d.sendingTo id then d
    else
      let d := (d.updLane fun s => { s with peers := Tab.del s.peers i }).msix 0 20
      match d.lane.upLinks id with
      | l :: _ => d.sendCtl l .probeNak
      | [] => d
  | none => d

/-- PROBE (R326): a probe of the far end is answered from this device's own table. -/
def fxProbe (d : Dev) (l : Nat) : Dev :=
  match d.lane.peerOf (d.lane.link l).farId with
  | some (_, p) => d.sendCtl l (if p.state = 1 ∨ p.state = 2 ∨ p.state = 3 then .probeAck else .probeNak)
  | none => d.sendCtl l .probeNak

/-- Streams and a window transfer to a device that has become ACTIVE go on. -/
def Dev.resume (d : Dev) (id : Nat) : Dev := ((d.lane.streams.filter fun t => decide (t.peer = id)).foldl Dev.reroute d).giveWindow

/-- PROBE_ACK (R326). -/
def fxProbeAck (d : Dev) (l : Nat) : Dev :=
  let id := (d.lane.link l).farId
  if (d.lane.link l).state ≠ 6 ∧ (d.lane.link l).state ≠ 9 then d
  else match d.lane.peerOf id with
  | some (_, p) => if p.state = 1 ∨ p.state = 5 then (d.peerState id 2).resume id else d
  | none => d

/-- PROBE_NAK (R326, R327). -/
def fxProbeNak (d : Dev) (l : Nat) : Dev :=
  let id := (d.lane.link l).farId
  match d.lane.peerOf id with
  | some (_, p) => if p.state = 4 then d else d.peerState id 5
  | none => d

/-- PROBE_RETRY (R326): a REFUSED entry probes again 1 ms (25,000 counts) after its last probe. -/
def fxProbeRetry (d : Dev) (id : Nat) : Dev :=
  match d.lane.peerOf id with
  | some (i, p) =>
    if p.state = 5 ∧ p.since + 25_000 ≤ d.aon0 then
      (d.updLane fun s => { s with peers := Tab.set s.peers i { p with since := d.aon0 } }).toPeer id .probe
    else d
  | none => d

/-! ### LSEND (R237, R328, R337, R338) -/

/-- Detail of a stream fault on the links (R336). -/
def linkDetail (peer queue reason mseq e : Nat) : Nat := peer + put queue 16 12 + put reason 32 4 + put mseq 36 12 + put e 60 2

/-- Member IDs of a link group. -/
def LinkGroup.ids (x : LinkGroup) : List Nat := (List.range (min x.count 16)).map fun i => Tab.get 0 x.members i

/-- R328's reason against one device: none when a function may send to it. -/
def Starlane.sendReason (s : Starlane) (id fn : Nat) : Option Nat :=
  if !validId id then some 1
  else match s.peerOf id with
  | none => some 2
  | some (_, p) => if !bit p.owners fn then some 2 else if p.state = 4 ∨ p.state = 5 then some 3 else none

/-- The checks of R328 and R337 on an LSEND: PEER_UNREACHABLE with a reason. -/
def Dev.lsendFault (d : Dev) (g e : Nat) (t : Transfer) : Option (Nat × Nat) :=
  let fn := match d.coreJob g with | some j => j.fn | none => 64
  let fault (why : Nat) : Nat × Nat := (0x0602, linkDetail t.peer t.queue why 0 e)
  if 0xFF00 ≤ t.peer ∧ t.peer ≤ 0xFF3F then
    let ids := (d.lane.grp (t.peer - 0xFF00)).ids
    if ids.isEmpty then some (fault 5)
    else if ids.any fun id => (d.lane.sendReason id fn).isSome then some (fault 2) else none
  else (d.lane.sendReason t.peer fn).map fault

/-- MULTICAST_DROPPED of a link group to the sending core's job (R338). -/
def Dev.dropRecord (d : Dev) (g id : Nat) : Dev := d.coreFault g (plainFault 0x0603 0 (coreLoc g) id)

/-- The devices of an LSEND at its issue: group members that are not ACTIVE are dropped at once (R335, R337). -/
def Dev.destsOf (d : Dev) (g peer : Nat) : List Dest :=
  let st (id : Nat) : Nat := match d.lane.peerOf id with | some (_, p) => p.state | none => 0
  let wait (id : Nat) : Option Nat := waitIn (st id) (d.aon (dieOfCore g)) none
  if 0xFF00 ≤ peer then (d.lane.grp (peer - 0xFF00)).ids.map fun id => ⟨id, decide (st id ≠ 2), 0, 0, none, wait id⟩
  else [⟨peer, false, 0, 0, none, wait peer⟩]

/-- LSEND (R237, R328, R337): the transfer issues after the checks of R243 and R328. -/
def fxLsend (d : Dev) (g e : Nat) : Dev :=
  let n := ((d.core g).eng e).nextId
  let d' := d.issueTransfer g e 10 fun d t => d.lsendFault g e t
  match ((d'.core g).eng e).xfer n with
  | some t =>
    let ds := d.destsOf g t.peer
    let d' := d'.updCore g fun c => c.updXfer e n fun t => { t with dests := ds, requested := if ds.all Dest.dropped then t.len else 0 }
    (ds.filter Dest.dropped).foldl (fun d x => d.dropRecord g x.peer) d'
  | none => d'

/-! ### Messages (R329, R330, R333, R338) -/

/-- One destination of a transfer with one change. -/
def Transfer.updDest (t : Transfer) (peer : Nat) (u : Dest → Dest) : Transfer :=
  { t with dests := t.dests.map fun x => if x.peer = peer then u x else x }

/-- A message of a transfer joins its stream and is given to the stream's link. -/
def Dev.sendMsg (d : Dev) (g e n peer queue form rows : Nat) (kind : Nat) (data : List Byte) : Dev :=
  let s := d.lane
  let streams := if s.streams.any fun t => t.is g peer queue then s.streams
    else s.streams ++ [{ core := g, peer := peer, queue := queue, next := 0, link := none, out := [] }]
  let mseq := match streams.find? fun t => t.is g peer queue with | some t => t.next % 65536 | none => 0
  let m : Msg := { kind := kind, form := form, target := queue, mseq := mseq, origin := g + 2 ^ 32 * ((d.core g).epoch % 2 ^ 32), data := data }
  let d := d.updLane fun s => ({ s with streams := streams } : Starlane).updStream g peer queue fun t =>
    { t with next := t.next + 1, out := t.out ++ [{ msg := m, eng := e, xfer := n, rows := rows, sent := none, rnr := none, link := none, begun := false }] }
  let d := d.updCore g fun c =>
    { (c.updXfer e n fun (t : Transfer) => t.updDest peer fun (x : Dest) => { x with sent := x.sent + rows }) with strWr := satAdd 64 c.strWr data.length }
  d.giveStream g peer queue fun o => o.msg.mseq = mseq && o.link.isNone && o.xfer = n

/-- A message may be sent to a device: it is ACTIVE or draining, has an UP link, and the link holds fewer than 512
outstanding messages (R170, R327, R333, R335). -/
def Dev.canSend (d : Dev) (g peer queue : Nat) : Bool :=
  (match d.lane.peerOf peer with | some (_, p) => p.state == 2 || p.state == 4 | none => false) &&
    (match d.lane.route g peer queue with | some l => decide (d.lane.outstanding l < 512) | none => false)

/-- Rows of the next message to a destination (R329). -/
def Transfer.nextRows (t : Transfer) (x : Dest) : Nat := min 8 (t.len - x.sent)

/-- The link of a destination grants credit: it is not behind flits that wait (R338). -/
def Dev.linkCredit (d : Dev) (g peer queue : Nat) : Bool :=
  match d.lane.route g peer queue with
  | some l =>
    let k := d.lane.link l
    decide (k.state = 6) && decide (k.credit ≠ 0) && k.txMsgs.isEmpty
  | none => false

/-- A group member holds its group back: it withholds link credit or has not acknowledged message k − 16 (R338). -/
def Dev.holds (d : Dev) (g : Nat) (t : Transfer) (x : Dest) : Bool :=
  decide (x.sent < t.len) && (!d.linkCredit g x.peer t.queue || decide (x.acked + 128 ≤ x.sent))

/-- Rows that a destination has acknowledged; the transfer whose every row every device has acknowledged has completed. -/
def StreamEng.ackRows (x : StreamEng) (n peer rows : Nat) : StreamEng :=
  let l := x.xfers.map fun (t : Transfer) => if t.id = n then t.updDest peer (fun y => { y with acked := y.acked + rows }) else t
  { x with xfers := l.filter fun t => decide (t.id ≠ n) || t.dests.any fun y => decide (y.acked < t.len) }

/-- The next rows of a transfer are left out toward some devices: they count as sent and acknowledged. -/
def Core.passRows (c : Core) (e n rows : Nat) (l : List Dest) : Core :=
  l.foldl (fun c x => (c.updXfer e n fun (t : Transfer) => t.updDest x.peer fun (y : Dest) => { y with sent := y.sent + rows }).updEng e fun y =>
    y.ackRows n x.peer rows) c

/-- One row of a run, packed; an uncorrectable codeword is a stream fault, and the row is not sent (R206, R244). -/
def Dev.runRow (d : Dev) (g e : Nat) (t : Transfer) (row : Nat) : Dev × List Byte :=
  let l := (List.range 64).map fun k => (t.local' + 64 * row + k) % 2 ^ 22
  match (d.core g).sideRead l with
  | (c, none) => (d.setCore g c, packWords t.form (l.map fun a => c.word a))
  | (c, some detail) => ((d.setCore g c).streamFault g e 0x0501 (detail + put e 60 2) t.block t.prog none, [])

/-- Rows of a run, packed, without those that may not be sent. -/
def Dev.runBytes (d : Dev) (g e : Nat) (t : Transfer) (row : Nat) : Nat → Dev × List Byte
  | 0 => (d, [])
  | n + 1 =>
    let r := d.runRow g e t row
    let q := r.1.runBytes g e t (row + 1) n
    (q.1, r.2 ++ q.2)

/-- The next message of a run goes to the given destinations. -/
def Dev.sendRun (d : Dev) (g e : Nat) (t : Transfer) (row rows : Nat) (l : List Dest) : Dev :=
  let r := d.runBytes g e t row rows
  if r.2.isEmpty then r.1.updCore g fun c => c.passRows e t.id rows l
  else l.foldl (fun d x => d.sendMsg g e t.id x.peer t.queue t.form rows (if x.dropped then 3 else 1) r.2) r.1

/-- What has been drained of a ring leaves as a message once all its rows have (R240, R329). -/
def Dev.sendDrained (d : Dev) (g e n : Nat) : Dev :=
  match ((d.core g).eng e).xfer n with
  | none => d
  | some t =>
    let x := t.dests.headD ⟨0, false, 0, 0, none, none⟩
    if t.drained < t.requested then d
    else
      let d := d.updCore g fun c => c.updXfer e n fun t => { t with buf := [], skip := 0 }
      if t.buf.isEmpty then d.updCore g fun c => c.passRows e n (t.requested - x.sent) [x]
      else d.sendMsg g e n x.peer t.queue t.form (t.requested - x.sent) 1 t.buf

/-- The next row of an LSEND met uncorrectable data (R244, R306): a stream fault; the row is not sent, and the transfer goes on
past it. -/
def Dev.lsendSkip (d : Dev) (g e : Nat) (t : Transfer) (code detail : Nat) : Dev :=
  let d := d.streamFault g e code detail t.block t.prog none
  match t.ring with
  | some r => (d.updCore g fun c => (c.updXfer e t.id fun t => { t with skip := t.skip + 1 }).updRing r Ring.drained).sendDrained g e t.id
  | none => d.updCore g fun c => c.passRows e t.id 1 (t.dests.filter fun x => decide (x.sent < t.len))

/-- A request of an LSEND (R240, R329, R338): its next message, to the device or to every member that has not been dropped;
else the next catch-up message. From a ring, the rows of the next message are requested. -/
def Dev.lrequest (d : Dev) (g e : Nat) (t : Transfer) : Dev :=
  let live := t.dests.filter fun x => !x.dropped
  let ready := !live.isEmpty && live.all fun x => d.canSend g x.peer t.queue && (decide (t.peer < 0xFF00) || !d.holds g t x)
  let x := live.headD ⟨0, false, t.len, t.len, none, none⟩
  if ready ∧ x.sent < t.len then
    match t.ring with
    | some r =>
      let k := t.nextRows x
      if t.requested = x.sent ∧ (d.core g).ringHas e r k then d.updCore g fun c => c.updXfer e t.id fun t => { t with requested := t.requested + k } else d
    | none =>
      (d.sendRun g e t x.sent (t.nextRows x) live).updCore g fun c => c.updXfer e t.id fun y => { y with requested := min t.len (x.sent + t.nextRows x) }
  else match t.dests.find? fun x => x.dropped && decide (x.sent < t.len) && d.canSend g x.peer t.queue with
  | some x => d.sendRun g e t x.sent (t.nextRows x) [x]
  | none => d

/-- TRANSFER_REQUEST (R240): the next request of a transfer. -/
def fxTransferRequest (d : Dev) (g e n : Nat) : Dev :=
  match ((d.core g).eng e).xfer n with
  | some t => if t.opc = 10 then d.lrequest g e t else d.request g e n
  | none => d

/-- OUTBOUND_ROW_DRAIN (R235, R240): the next ready row of an outbound ring leaves for HBM, for another core, or into the
next message of an LSEND. -/
def fxOutboundRowDrain (d : Dev) (g r : Nat) (up : List Upset) : Dev :=
  let d := d.updCore g fun c => (c.strike up).release
  match (d.core g).ring? r, (d.core g).ringXfer r with
  | some q, some (e, t) =>
    if q.typ ≠ 1 ∨ q.state q.drain ≠ .ready ∨ t.requested ≤ t.drained then d
    else if t.opc ≠ 10 then d.drainRow g r q e t
    else
      let l := (List.range 64).map fun k => (64 * (q.base + q.drain) + k) % 2 ^ 22
      match (d.core g).sideRead l with
      | (c, some detail) => (d.setCore g c).lsendSkip g e t 0x0501 (detail + put e 60 2)
      | (c, none) =>
        let d := d.setCore g ((c.updRing r Ring.drained).updXfer e t.id fun t => { t with buf := t.buf ++ packWords t.form (l.map fun a => c.word a) })
        d.sendDrained g e t.id
  | _, _ => d

/-! ### Answers at the sender (R331 to R335, R338, R339) -/

/-- The message of a stream with an MSEQ. -/
def Starlane.outMsg (s : Starlane) (core peer queue mseq : Nat) : Option TxMsg :=
  (s.streams.find? fun t => t.is core peer queue).bind fun t => t.out.find? fun o => o.msg.mseq = mseq

/-- A window write of the running transfer that has been acknowledged (R341, R343). -/
def WinXfer.ack (x : WinXfer) (mseq : Nat) : WinXfer :=
  { x with acked := x.acked + ((x.out.filter fun m => m.mseq = mseq).map fun m => m.data.length).sum, out := x.out.filter fun m => m.mseq ≠ mseq }

/-- A message has been acknowledged. -/
def Dev.acked (d : Dev) (g peer queue : Nat) (o : TxMsg) : Dev :=
  (d.updLane fun s => s.updStream g peer queue fun t => { t with out := t.out.filter fun y => y.msg.mseq ≠ o.msg.mseq }).updCore g fun c =>
    c.updEng o.eng fun x => x.ackRows o.xfer peer o.rows

/-- A transfer's messages are withdrawn. -/
def Dev.dropMessages (d : Dev) (g e n : Nat) : Dev :=
  let mine := d.lane.streams.flatMap fun t => if t.core = g then (t.out.filter fun o => decide (o.eng = e) && decide (o.xfer = n)).map TxMsg.msg else []
  d.updLane fun s => { s with
    streams := s.streams.map fun t => if t.core = g then { t with out := t.out.filter fun o => !(decide (o.eng = e) && decide (o.xfer = n)) } else t,
    links := s.links.map fun k => (k.1, k.2.withdraw fun m => mine.contains m) }

/-- A stream fault of an LSEND (R244, R334, R339). -/
def Dev.lsendFail (d : Dev) (g e n peer reason mseq code : Nat) : Dev :=
  match ((d.core g).eng e).xfer n with
  | some t => (d.dropMessages g e n).xferFail g e t code (linkDetail peer t.queue reason mseq e)
  | none => d

/-- REFUSE (R331): the sender raises LINK_QUEUE_REFUSED with the failing condition. -/
def fxRefuse (d : Dev) (l core queue mseq reason : Nat) : Dev :=
  let peer := (d.lane.link l).farId
  match d.lane.outMsg core peer queue mseq with
  | some o => (d.lsendFail core o.eng o.xfer peer reason mseq 0x0607).pump l
  | none => d

/-- RNR (R332): the message waits 2 µs. -/
def fxRnr (d : Dev) (l core queue mseq : Nat) : Dev :=
  let peer := (d.lane.link l).farId
  d.updLane fun s => s.updStream core peer queue fun t =>
    { t with out := t.out.map fun o => if o.msg.mseq = mseq then { o with rnr := some (d.aon (dieOfCore core)) } else o }

/-- Messages at and after the first of a list that satisfies a condition. -/
def fromFirst (p : TxMsg → Bool) : List TxMsg → List TxMsg
  | [] => []
  | o :: t => if p o then o :: t else fromFirst p t

/-- RNR_RESEND (R332): 2 µs (50 counts) after an RNR the message, and every later one of the stream, is sent again. -/
def fxRnrResend (d : Dev) (g peer queue : Nat) : Dev :=
  match d.lane.streams.find? fun t => t.is g peer queue with
  | none => d
  | some t =>
    let again := fromFirst (fun o => o.rnr.any fun a => decide (a + 50 ≤ d.aon (dieOfCore g))) t.out
    if again.isEmpty then d
    else
      let ms := again.map TxMsg.msg
      let d := d.updLane fun s => { s with links := s.links.map fun k => (k.1, k.2.withdraw fun m => ms.contains m) }
      d.giveStream g peer queue fun o => ms.contains o.msg

/-- LINK_SEND_TIMEOUT (R334): a message has been outstanding for SEND_LIMIT ms; 0 acts as 5. -/
def fxLinkSendTimeout (d : Dev) (g peer queue : Nat) : Dev :=
  let lim := 25_000 * (if d.lane.sendLimit = 0 then 5 else d.lane.sendLimit)
  match (d.lane.streams.find? fun t => t.is g peer queue).bind fun t =>
      t.out.find? fun o => o.sent.any fun a => decide (a + lim ≤ d.aon (dieOfCore g)) with
  | some o => d.lsendFail g o.eng o.xfer peer 0 o.msg.mseq 0x0608
  | none => d

/-- PEER_WAIT_TIMEOUT (R335): a transfer has waited PEER_WAIT, in units of 100 µs, for its device; 0 acts as 10. A dropped
member is waited for under the same rule. -/
def fxPeerWaitTimeout (d : Dev) (g e : Nat) : Dev :=
  let lim := 2_500 * (if d.lane.peerWait = 0 then 10 else d.lane.peerWait)
  let due (x : Dest) : Bool := x.waiting.any fun a => decide (a + lim ≤ d.aon (dieOfCore g))
  match ((d.core g).eng e).xfers.find? fun t => decide (t.opc = 10) && t.dests.any fun x => due x && decide (x.acked < t.len) with
  | some t =>
    let id := match t.dests.find? fun x => due x && decide (x.acked < t.len) with | some x => x.peer | none => t.peer
    d.lsendFail g e t.id id 4 0 0x0602
  | none => d

/-- At a tick, the members that hold their groups back are noted (R338). -/
def Dev.noteHolders (d : Dev) : Dev :=
  d.cores.foldl (fun d c => if c.2.engs.all fun e => e.2.xfers.all fun t => decide (t.opc ≠ 10) then d else d.setCore c.1 { c.2 with engs := c.2.engs.map fun e => (e.1, { e.2 with
    xfers := e.2.xfers.map fun t => if t.opc = 10 ∧ 0xFF00 ≤ t.peer then
      { t with dests := t.dests.map fun x =>
          { x with stall := if x.dropped || !d.holds c.1 t x then none else x.stall.or (some (d.aon (c.1 / 64))) } }
    else t }) }) d

/-- LINK_GROUP_MEMBER_DROP (R338): a member has held its group for STALL_LIMIT µs; 0 acts as 20. Its outstanding messages are
sent again as catch-up messages. -/
def fxLinkGroupMemberDrop (d : Dev) (g e n i : Nat) : Dev :=
  match ((d.core g).eng e).xfer n with
  | none => d
  | some t =>
    let j := d.lane.grp (t.peer - 0xFF00)
    match t.dests[i]? with
    | none => d
    | some x =>
      let due := x.stall.any fun a => decide (a + 25 * (if j.stall = 0 then 20 else j.stall) ≤ d.aon (dieOfCore g))
      if x.dropped || !due || decide (t.opc ≠ 10) then d
      else
        let d := d.updCore g fun c => c.updXfer e n fun t =>
          let t := t.updDest x.peer fun x => { x with dropped := true, stall := none }
          if t.dests.all Dest.dropped then { t with requested := t.len } else t
        let mine (o : TxMsg) : Bool := decide (o.eng = e) && decide (o.xfer = n)
        let old := match d.lane.streams.find? fun s => s.is g x.peer t.queue with | some s => (s.out.filter mine).map TxMsg.msg | none => []
        let d := d.updLane fun s => ({ s with links := s.links.map fun k => (k.1, k.2.withdraw fun m => old.contains m) } : Starlane).updStream g x.peer t.queue fun s =>
          { s with out := s.out.map fun o => if mine o then { o with msg := { o.msg with kind := 3 }, link := none, begun := false } else o }
        (d.dropRecord g x.peer).giveStream g x.peer t.queue mine

/-! ### Receiving messages (R331 to R333, R338) -/

/-- The first failing condition of R331 for a message from a device into ring r of core g. -/
def Dev.refusal (d : Dev) (l g r : Nat) (m : Msg) : Option Nat :=
  let id := (d.lane.link l).farId
  match d.coreJob g with
  | none => some 1
  | some j =>
    match (d.core g).ring? r with
    | none => some 2
    | some q =>
      if q.typ ≠ 3 then some 2
      else if !(match d.lane.peerOf id with | some (_, p) => p.state == 2 && bit p.owners j.fn | none => false) then some 3
      else if !(q.rx.any fun s => decide (s.dev = id) && decide (s.core = m.origin % 128)) ∧ 64 ≤ q.rx.length then some 4 else none

/-- Rows land in ring order from the land pointer. -/
def Core.landRows (c : Core) (r form : Nat) (data : List Byte) : Nat → Core
  | 0 => c
  | n + 1 =>
    match c.ring? r with
    | none => c
    | some q =>
      let ws := unpackWords form 64 data
      let c := (c.sideWrite (ws.zipIdx.map fun x => ((64 * (q.base + q.land) + x.2) % 2 ^ 22, x.1))).1
      (c.updRing r fun q => q.landed .landed).landRows r form (data.drop (formBytes form 64)) n

/-- The receiver's state of a message's stream: kept, or begun at MSEQ 0 of a new epoch (R331). -/
def Ring.stream (q : Ring) (dev : Nat) (m : Msg) : RxStream :=
  let epoch := m.origin / 2 ^ 32
  match q.rx.find? fun s => decide (s.dev = dev) && decide (s.core = m.origin % 128) with
  | some s => if m.mseq = 0 ∧ s.epoch ≠ epoch then ⟨dev, s.core, epoch, 0, false⟩ else s
  | none => ⟨dev, m.origin % 128, epoch, 0, false⟩

def Ring.setStream (q : Ring) (s : RxStream) : Ring :=
  { q with rx := q.rx.filter (fun t => !(decide (t.dev = s.dev) && decide (t.core = s.core))) ++ [s] }

/-- STREAM_MESSAGE_RECEIVE (R331, R332, R338, R461): the oldest message of a link is refused, answered RNR, acknowledged again, or
landed. -/
def fxStreamMessageReceive (d : Dev) (l : Nat) : Dev :=
  match d.lane.arrived l with
  | none => d
  | some rm =>
    let m := rm.msg
    if (m.kind ≠ 1 ∧ m.kind ≠ 3) ∨ d.pwr.state ≠ 0 then d
    else
      let g := fld m.target 4 7
      let r := m.target % 16
      let src := m.origin % 128
      let d := (d.handled l rm).updCore g Core.release
      let count (d : Dev) : Dev := d.updLink l fun k => { k with refused := satAdd 64 k.refused 1 }
      match d.refusal l g r m with
      | some why => ((count d).sendCtl l (.refuse src m.target m.mseq why)).pump l
      | none =>
        match (d.core g).ring? r with
        | none => d
        | some q =>
          let s := q.stream (d.lane.link l).farId m
          let ahead := (m.mseq + 65536 - s.expected % 65536) % 65536
          let rows := cdiv m.data.length (formBytes m.form 64)
          let free := decide (rows ≤ q.rows) && (List.range rows).all fun i => q.state ((q.land + i) % max 1 q.rows) == .free
          if 32768 ≤ ahead then ((d.updCore g fun c => c.updRing r fun q => q.setStream s).sendCtl l (.mack src m.target m.mseq)).pump l
          else if ahead ≠ 0 ∨ !free then ((count (d.updCore g fun c => c.updRing r fun q => q.setStream s)).sendCtl l (.rnr src m.target m.mseq)).pump l
          else
            let first := m.kind = 3 ∧ !s.caught
            let d := d.updCore g fun c =>
              (c.landRows r m.form m.data rows).updRing r fun q => q.setStream { s with expected := s.expected + 1, caught := s.caught || decide (m.kind = 3) }
            let d := d.updLink l fun k => { k with rxBytes := satAdd 64 k.rxBytes m.data.length }
            let d := d.tapMessage (d.lane.link l).farId m
            let d := d.updLane fun s => { s with macks := s.macks ++ [(g, r, l, src, m.target, m.mseq)] }
            let d := if first then d.coreFault g (plainFault 0x0603 0 (coreLoc g) d.lane.devId) else d
            d.pump l

/-- MACK_SEND (R333): the MACK of the oldest message that has landed in a ring. -/
def fxMackSend (d : Dev) (g r : Nat) : Dev :=
  match d.lane.macks.find? fun (k : Nat × Nat × Nat × Nat × Nat × Nat) => decide (k.1 = g) && decide (k.2.1 = r) with
  | some k => (d.updLane fun s => { s with macks := s.macks.erase k }).sendCtl k.2.2.1 (.mack k.2.2.2.1 k.2.2.2.2.1 k.2.2.2.2.2)
  | none => d

end Sys2Proof.Machine
end

