-- ==== Sys2Proof/Machine/PublicKey.lean ====
section
/-! DEFINITION. The public-key and cipher arithmetic that the specification names by standard: the curves P-256 and P-384
and ECDSA (FIPS 186-5), RSA, HKDF over HMAC-SHA-384 (RFC 5869), AES-256 (FIPS 197) and GCM (SP 800-38D). The standards are
outside the specification. -/

namespace Sys2Proof.Machine

/-! ### Modular arithmetic -/

/-- a^e mod q for numbers of any length. -/
def powBig (a e q : Nat) : Nat := powModAux (Nat.log2 e + 1) (a % q) e q (1 % q)

/-- The extended Euclid of (r0, r1) with the coefficients of the first: coefficient of the greatest common divisor. -/
def euclid : Nat → Int → Int → Int → Int → Int
  | 0, _, _, s0, _ => s0
  | n + 1, r0, r1, s0, s1 => if r1 = 0 then s0 else euclid n r1 (r0 - r0 / r1 * r1) s1 (s0 - r0 / r1 * s1)

/-- The inverse of a modulo q, for a prime to q. -/
def invBig (a q : Nat) : Nat := (euclid (2 * Nat.log2 q + 4) ((a % q : Nat) : Int) (q : Int) 1 0 % (q : Int)).toNat

/-! ### Curves -/

/-- A short Weierstrass curve y² = x³ − 3x + b over a prime field, with a generator of prime order. -/
structure Curve where
  /-- bytes of a coordinate -/
  len : Nat
  p : Nat
  b : Nat
  gx : Nat
  gy : Nat
  n : Nat

def p256 : Curve :=
  { len := 32,
    p := 0xFFFFFFFF00000001000000000000000000000000FFFFFFFFFFFFFFFFFFFFFFFF,
    b := 0x5AC635D8AA3A93E7B3EBBD55769886BC651D06B0CC53B0F63BCE3C3E27D2604B,
    gx := 0x6B17D1F2E12C4247F8BCE6E563A440F277037D812DEB33A0F4A13945D898C296,
    gy := 0x4FE342E2FE1A7F9B8EE7EB4A7C0F9E162BCE33576B315ECECBB6406837BF51F5,
    n := 0xFFFFFFFF00000000FFFFFFFFFFFFFFFFBCE6FAADA7179E84F3B9CAC2FC632551 }

def p384 : Curve :=
  { len := 48,
    p := 0xFFFFFFFFFFFFFFFFFFFFFFFFFFFFFFFFFFFFFFFFFFFFFFFFFFFFFFFFFFFFFFFEFFFFFFFF0000000000000000FFFFFFFF,
    b := 0xB3312FA7E23EE7E4988E056BE3F82D19181D9C6EFE8141120314088F5013875AC656398D8A2ED19D2A85C8EDD3EC2AEF,
    gx := 0xAA87CA22BE8B05378EB1C71EF320AD746E1D3B628BA79B9859F741E082542A385502F25DBF55296C3A545E3872760AB7,
    gy := 0x3617DE4A96262C6F5D9E98BF9292DC29F8F41DBD289A147CE9DA3113B5F0B8C00A60B1CE1D7E819D7A431D7C90EA0E5F,
    n := 0xFFFFFFFFFFFFFFFFFFFFFFFFFFFFFFFFFFFFFFFFFFFFFFFFC7634D81F4372DDF581A0DB248B0A77AECEC196ACCC52973 }

/-- A point: none at infinity. -/
abbrev Point := Option (Nat × Nat)

def Curve.on (c : Curve) (x y : Nat) : Bool :=
  decide (x < c.p) && decide (y < c.p) && decide (y * y % c.p = (x * x * x + (c.p - 3) * x + c.b) % c.p)

/-- The third point of the line through two points, reflected. -/
def Curve.chord (c : Curve) (s x1 y1 x2 : Nat) : Point :=
  let x3 := (s * s + 2 * c.p - x1 - x2) % c.p
  some (x3, (s * (x1 + c.p - x3) + (c.p - y1)) % c.p)

def Curve.add (c : Curve) : Point → Point → Point
  | none, q => q
  | q, none => q
  | some (x1, y1), some (x2, y2) =>
    if x1 = x2 then
      if y1 = y2 ∧ y1 ≠ 0 then c.chord ((3 * x1 * x1 + (c.p - 3)) * invBig (2 * y1) c.p % c.p) x1 y1 x2 else none
    else c.chord ((y2 + c.p - y1) * invBig ((x2 + c.p - x1) % c.p) c.p % c.p) x1 y1 x2

/-- k·P over the bits of k from the highest. -/
def Curve.mul (c : Curve) (k : Nat) (q : Point) : Point :=
  (List.range (Nat.log2 k + 1)).foldl (fun a i =>
    let a := c.add a a
    if k.testBit (Nat.log2 k - i) then c.add a q else a) none

def Curve.gen (c : Curve) : Point := some (c.gx, c.gy)

/-- x-coordinate of d·Q; none for an invalid point or a product at infinity. -/
def Curve.ecdh (c : Curve) (d x y : Nat) : Option Nat :=
  if c.on x y then (c.mul d (some (x, y))).map Prod.fst else none

/-- An ECDSA signature of e with the private key d and the number k; none when r or s is zero. -/
def Curve.sign (c : Curve) (d e k : Nat) : Option (Nat × Nat) :=
  match c.mul k c.gen with
  | some (x, _) =>
    let r := x % c.n
    let s := invBig k c.n * (e + r * d) % c.n
    if r = 0 ∨ s = 0 then none else some (r, s)
  | none => none

/-- Whether (r, s) is a signature of e under the public key (x, y). -/
def Curve.verify (c : Curve) (x y e r s : Nat) : Bool :=
  let w := invBig s c.n
  match c.add (c.mul (e * w % c.n) c.gen) (c.mul (r * w % c.n) (some (x, y))) with
  | some (v, _) => decide (v % c.n = r)
  | none => false

/-! ### HMAC and HKDF with SHA-384 -/

def hmac384 (key msg : List Byte) : List Byte :=
  let k := if 128 < key.length then sha384 key else key
  let k := k ++ List.replicate (128 - k.length) 0
  sha384 (k.map (fun b => b ^^^ 0x5C) ++ sha384 (k.map (fun b => b ^^^ 0x36) ++ msg))

/-- At most 48 bytes of HKDF output. -/
def hkdf384 (salt ikm info : List Byte) (len : Nat) : List Byte := (hmac384 (hmac384 salt ikm) (info ++ [1])).take len

/-! ### AES-256 and GCM -/

/-- Doubling in the field of AES. -/
def xtime (a : Nat) : Nat := if a < 128 then 2 * a else (2 * a) % 256 ^^^ 0x1B
/-- Product in the field of AES: over the bits of b from the lowest. -/
def gmul (a b : Nat) : Nat :=
  ((List.range 8).foldl (fun (s : Nat × Nat) i => (if b.testBit i then s.1 ^^^ s.2 else s.1, xtime s.2)) (0, a)).1
/-- The inverse a^254. -/
def ginv (a : Nat) : Nat :=
  let a2 := gmul a a
  let a4 := gmul a2 a2
  let a8 := gmul a4 a4
  let a16 := gmul a8 a8
  let a32 := gmul a16 a16
  let a64 := gmul a32 a32
  let a128 := gmul a64 a64
  gmul a128 (gmul a64 (gmul a32 (gmul a16 (gmul a8 (gmul a4 a2)))))
def rot8 (a n : Nat) : Nat := ((a <<< n) % 256) ||| (a >>> (8 - n))
def sbox (a : Nat) : Nat :=
  let v := ginv a
  v ^^^ rot8 v 1 ^^^ rot8 v 2 ^^^ rot8 v 3 ^^^ rot8 v 4 ^^^ 0x63

/-- The key schedule of AES-256 as words of four bytes, latest first. -/
def aesSched : Nat → Nat → List (List Nat) → List (List Nat)
  | 0, _, l => l
  | n + 1, i, l =>
    let prev := l.headD []
    let t := if i % 8 = 0 then
        match prev.drop 1 ++ prev.take 1 with
        | a :: r => (sbox a ^^^ 2 ^ (i / 8 - 1)) :: r.map sbox
        | [] => []
      else if i % 8 = 4 then prev.map sbox else prev
    aesSched n (i + 1) (((l.getD 7 []).zipWith (fun a b => a ^^^ b) t) :: l)

/-- The 15 round keys. -/
def aesKeys (key : List Byte) : List (List Nat) :=
  let k := key.map BitVec.toNat
  let w := (aesSched 52 8 ((List.range 8).map fun i => (k.drop (4 * i)).take 4).reverse).reverse
  (List.range 15).map fun r => ((w.drop (4 * r)).take 4).flatten

def mixColumn : List Nat → List Nat
  | [a, b, c, d] =>
    [xtime a ^^^ (xtime b ^^^ b) ^^^ c ^^^ d, a ^^^ xtime b ^^^ (xtime c ^^^ c) ^^^ d, a ^^^ b ^^^ xtime c ^^^ (xtime d ^^^ d),
     (xtime a ^^^ a) ^^^ b ^^^ c ^^^ xtime d]
  | l => l

/-- One block under expanded keys. -/
def aesBlock (keys : List (List Nat)) (block : List Nat) : List Nat :=
  let xor (a b : List Nat) : List Nat := a.zipWith (fun x y => x ^^^ y) b
  let shift (s : List Nat) : List Nat := (List.range 16).map fun i => sbox (s.getD ((i + 4 * (i % 4)) % 16) 0)
  let s := (List.range 13).foldl (fun s r =>
    let s := shift s
    xor ((List.range 4).flatMap fun c => mixColumn ((s.drop (4 * c)).take 4)) (keys.getD (r + 1) [])) (xor block (keys.getD 0 []))
  xor (shift s) (keys.getD 14 [])

/-- A 128-bit block as a number, and back, most significant byte first. -/
def blockNat (l : List Nat) : Nat := l.foldl (fun a b => 256 * a + b) 0
def natBlock (n : Nat) : List Nat := (List.range 16).map fun i => n >>> (8 * (15 - i)) % 256

/-- Product in the field of GCM; bit 0 of the standard is the most significant bit. -/
def ghashMul (x y : Nat) : Nat :=
  ((List.range 128).foldl (fun (s : Nat × Nat) i =>
    (if x.testBit (127 - i) then s.1 ^^^ s.2 else s.1, if s.2 % 2 = 1 then s.2 / 2 ^^^ (0xE1 * 2 ^ 120) else s.2 / 2)) (0, y)).1

/-- GHASH over 16-byte blocks, `n` of them. -/
def ghash (h : Nat) : Nat → Nat → List Nat → Nat
  | 0, y, _ => y
  | n + 1, y, l => ghash h n (ghashMul (y ^^^ blockNat ((l ++ List.replicate 16 0).take 16)) h) (l.drop 16)

/-- Counter-mode bytes over a message, `n` blocks. -/
def gctr (keys : List (List Nat)) : Nat → Nat → List Nat → List Nat
  | 0, _, _ => []
  | n + 1, c, l =>
    let s := aesBlock keys (natBlock c)
    (l.take 16).zipWith (fun a b => a ^^^ b) s ++ gctr keys n (c / 2 ^ 32 * 2 ^ 32 + (c + 1) % 2 ^ 32) (l.drop 16)

/-- The tag of a ciphertext under AES-256-GCM with a 12-byte IV. -/
def gcmTag (key iv aad ct : List Byte) : List Byte :=
  let keys := aesKeys key
  let h := blockNat (aesBlock keys (List.replicate 16 0))
  let pad (l : List Byte) : List Nat := l.map BitVec.toNat ++ List.replicate (alignUp l.length 16 - l.length) 0
  let msg := pad aad ++ pad ct ++ natBlock (8 * aad.length * 2 ^ 64 + 8 * ct.length)
  let j0 := blockNat (iv.map BitVec.toNat) * 2 ^ 32 + 1
  ((natBlock (ghash h (msg.length / 16) 0 msg)).zipWith (fun a b => a ^^^ b) (aesBlock keys (natBlock j0))).map (BitVec.ofNat 8)

/-- The plaintext of a ciphertext, without the check of its tag. -/
def gcmOpen (key iv ct : List Byte) : List Byte :=
  (gctr (aesKeys key) (cdiv ct.length 16) (blockNat (iv.map BitVec.toNat) * 2 ^ 32 + 2) (ct.map BitVec.toNat)).map (BitVec.ofNat 8)

end Sys2Proof.Machine
end

