-- ==== Sys2Proof/Machine/Shares.lean ====
section
/-! DEFINITION. Share slots and partial decryption (R358 to R369). -/

namespace Sys2Proof.Machine

/-! ### Access -/

def Dev.updSec (d : Dev) (u : Sec → Sec) : Dev := { d with sec := u d.sec }
/-- Share slot s. -/
def Dev.share (d : Dev) (s : Nat) : Share := Tab.get Share.reset d.sec.mpc.slots s
def Dev.updMpc (d : Dev) (u : Mpc → Mpc) : Dev := d.updSec fun x => { x with mpc := u x.mpc }
def Dev.updShare (d : Dev) (s : Nat) (u : Share → Share) : Dev :=
  d.updMpc fun m => { m with slots := Tab.set m.slots s (u (d.share s)) }

/-- LOCATION of the security complex (R394). -/
def secLoc : Nat := location 8 0 0 0 0
/-- The partitions granted to a function. -/
def Dev.grantParts (d : Dev) (f : Nat) : Nat := (Tab.get Grant.none d.grants f).parts

/-- A slot goes to EMPTY and draws a new nonce (R359, R362). -/
def Dev.emptySlot (d : Dev) (s : Nat) : Dev :=
  let x := d.share s
  let (r, d) := d.draw
  d.updShare s fun _ => { Share.reset with owner := x.owner, err := x.err, nonce := r % 2 ^ 128 }

/-- A request's record to its pushing function, in its job while that is outstanding (R364). -/
def Dev.pdecFault (d : Dev) (q : PdecReq) (code detail : Nat) : Dev :=
  match q.job.bind d.job with
  | some j => d.jobFault j.id (plainFault code 1 secLoc detail)
  | none => d.fnFault q.fn (plainFault code 1 secLoc detail)

/-- DONE of a request: fault code, limbs written, bit 63 (R363). -/
def Dev.pdecDone (d : Dev) (q : PdecReq) (code limbs : Nat) : Dev :=
  let a := numAt q.rcd 0x28 8
  match d.mem.partFor (d.grantParts q.fn) a 8 with
  | some p => d.hbmWrite p none a (leBytes 8 (code + 65536 * limbs + 2 ^ 63))
  | none => d

/-- A request ends with a fault code: DONE, the record and vector 17 (R364, R367, R396). -/
def Dev.pdecFail (d : Dev) (q : PdecReq) (code detail limbs : Nat) : Dev :=
  ((d.pdecDone q code limbs).pdecFault q code detail).msix q.fn 17

/-- The residue or ternary code at index j of a share's bytes (R33, R358). -/
def residueAt (data : List Byte) (j : Nat) : Nat := fld (numAt data (j / 8 * 36) 36) (36 * (j % 8)) 36
def ternaryAt (data : List Byte) (j : Nat) : Nat := fld (numAt data (j / 4) 1) (2 * (j % 4)) 2

/-! ### Requests (R363, R364) -/

/-- A request enters the queue, or waits on a full one (R363). -/
def Mpc.push (m : Mpc) (q : PdecReq) : Mpc :=
  if m.queue.length < 16 ∧ m.held.isEmpty then { m with queue := m.queue ++ [q] } else { m with held := m.held ++ [q] }

/-- PDEC_PUSH (R363): the owner, or an application core running the owner's job. -/
def fxPdecPush (d : Dev) (a : Agent) (rcd : List Byte) : Dev :=
  match d.agentFn a with
  | none => d
  | some f =>
    let job := match a with | .app k => (d.app k.val).job | _ => none
    d.updMpc fun m => m.push { fn := f, job := job, rcd := bytesAt rcd 0 64 }

/-- Fields of a descriptor's 64 bytes (R34). -/
def dscFlag (b : List Byte) (i : Nat) : Bool := bit (numAt b 3 1) i
def dscLimbs (b : List Byte) : Nat := numAt b 0x1D 1

/-- KEYSET_ID fits the slot (R364, item 7). -/
def Share.keyOk (x : Share) (id : Nat) : Bool :=
  if x.scheme = 2 then bit id 63 && decide (fld id 16 47 = fld x.keyset 16 47) && bit id x.party else decide (id = x.keyset)

/-- The component that the share engine takes (R365): component 1, or for a joint ciphertext the party's. -/
def Share.component (x : Share) (id : Nat) : Nat := if bit id 63 then 1 + popCount x.party id else 1

/-- The limb addresses of a descriptor in HBM: an error when its list is unreadable or a limb lies outside HBM and the
function's partitions (R35, R364, R578), with the atom when the list's read meets an uncorrectable one (R273). -/
def Dev.hbmLimbs (d : Dev) (parts : Nat) (b : List Byte) (bytes comps : Nat) : Dev × Except (Option Nat) (List Nat) :=
  let a := numAt b 0x20 8
  let n := dscLimbs b
  if a % 8 ≠ 0 ∨ 2 ^ 52 ≤ a ∨ (d.mem.partFor parts a (8 * n)).isNone then (d, .error none)
  else match d.hbmRead a (8 * n) with
    | (d, .error atom) => (d, .error (some atom))
    | (d, .ok l) =>
      let es := (List.range n).map fun i => numAt l (8 * i) 8
      if es.all fun e => bit e 63 && decide (fld e 52 11 = 0) && decide (e % 64 = 0) &&
          (d.mem.partFor parts (fld e 0 52) (comps * bytes)).isSome then
        (d, .ok (es.map fun e => fld e 0 52))
      else (d, .error none)

/-- The first item of check 5 that a descriptor fails before its limb list is read (R364). -/
def Share.descFail (x : Share) (b : List Byte) : Option Nat :=
  if numAt b 0 2 ≠ 0xC7D5 ∨ numAt b 2 1 ≠ 1 then some 1
  else if dscFlag b 0 ∨ fld (numAt b 3 1) 4 2 ≠ 0 then some 2
  else if !dscFlag b 1 then some 3
  else if dscFlag b 3 then some 4
  else if dscLimbs b = 0 ∨ 4 < dscLimbs b ∨ (x.form = 1 ∧ x.limbs < dscLimbs b) then some 5
  else none

/-- Check 3 of R364: every address lies in the function's partitions, DST_LIMBS and the descriptors are 64-byte aligned;
`limbs` is how many limbs the result has. The first address that fails. -/
def Dev.pdecAddrFail (d : Dev) (q : PdecReq) (bytes limbs : Nat) : Option Nat :=
  let f (off : Nat) : Nat := numAt q.rcd off 8
  let tests := [(f 0x08, 1216, 1), (f 0x10, 64, 64), (f 0x18, 64, 64), (f 0x20, max 1 limbs * bytes, 64), (f 0x28, 8, 1)]
  (tests.find? fun t => decide (t.1 % t.2.2 ≠ 0) || (d.mem.partFor (d.grantParts q.fn) t.1 t.2.1).isNone).map Prod.fst

/-- The parameter-set record is native and the slot's (R364, check 4). -/
def Share.psetFail (x : Share) (rcd : List Byte) : Except Nat PSet :=
  match parsePSet rcd with
  | .error off => .error (psetDetail (numAt rcd 4 2) off)
  | .ok p =>
    if p.fore then .error (psetDetail p.id 0x007)
    else if p.id ≠ x.pset then .error (psetDetail p.id 0x004)
    else if p.logN ≠ x.logN then .error (psetDetail p.id 0x006)
    else .ok p

/-- The upper limit of the flooding width (R364, check 7). -/
def floodMax (primes : List (Nat × Nat)) : Nat := min 62 ((primes.map fun p => lgOf p.1).sum / 65536 - 2)

/-- Checks 5 to 7 of R364 on a descriptor that has been read, and the run. -/
def Dev.pdecDesc (d : Dev) (q : PdecReq) (s : Nat) (p : PSet) (b : List Byte) : Dev × Except (Nat × Nat) PdecRun :=
  let x := d.share s
  let bytes := 2 ^ x.logN * 9 / 2
  match x.descFail b with
  | some i => (d, .error (0x0104, 0x40 + i))
  | none =>
    let comp := x.component (numAt b 8 8)
    match d.hbmLimbs (d.grantParts q.fn) b bytes (max (comp + 1) (numAt b 7 1)) with
    | (d, .error none) => (d, .error (0x0104, 0x46))
    | (d, .error (some atom)) => (d, .error (0x0501, atom))
    | (d, .ok addrs) =>
      let set := numAt q.rcd 2 2
      let flood := numAt q.rcd 1 1
      let primes := p.primes.take (dscLimbs b)
      if !x.keyOk (numAt b 8 8) then (d, .error (0x0104, 0x47))
      else if x.scheme = 1 ∧ (!bit set x.party ∨ popCount 16 set < x.threshold) then
        (d, .error (0x0706, set + 65536 * x.party + 2 ^ 24 * x.threshold))
      else if flood < x.floodMin ∨ floodMax primes < flood then (d, .error (0x0705, flood + 256 * x.floodMin + 65536 * floodMax primes))
      else (d, .ok { req := q, slot := s, primes := primes, limbs := addrs.map fun a => a + comp * bytes, desc := b })

/-- The checks of R364 in their order: what the request runs on, or the fault code and detail. -/
def Dev.pdecCheck (d : Dev) (q : PdecReq) : Dev × Except (Nat × Nat) PdecRun :=
  let s := numAt q.rcd 0 1
  let x := d.share s
  if 8 ≤ s ∨ x.state ≠ 2 then (d, .error (0x0703, s + 256))
  else if x.owner ≠ q.fn then (d, .error (0x0703, s + 512))
  else if x.budget = 0 then (d, .error (0x0707, s))
  else
    let dsc := numAt q.rcd 0x10 8
    let limbs := min 4 (numAt (d.mem.bytes dsc 64) 0x1D 1)
    match d.pdecAddrFail q (2 ^ x.logN * 9 / 2) limbs with
    | some a => (d, .error (0x0502, a))
    | none =>
      match d.hbmRead (numAt q.rcd 0x08 8) 1216 with
      | (d, .error atom) => (d, .error (0x0501, atom))
      | (d, .ok r) =>
        match x.psetFail r with
        | .error det => (d, .error (0x0104, det))
        | .ok p =>
          match d.hbmRead dsc 64 with
          | (d, .error atom) => (d, .error (0x0501, atom))
          | (d, .ok b) => d.pdecDesc q s p b

/-- What the checks of a request read lies on a channel in a partial reset (R256). -/
def Dev.pdecWaits (d : Dev) (q : PdecReq) : Bool :=
  let dsc := numAt q.rcd 0x10 8
  d.mem.resetting (numAt q.rcd 0x08 8) 1216 || d.mem.resetting dsc 64 || d.mem.resetting (numAt (d.mem.bytes dsc 64) 0x20 8) 32

/-- PDEC_REQUEST_START (R363 to R365): the next request is taken and checked; one that passes takes one from the
budget. Its reads wait for the partial reset of a channel. -/
def fxPdecRequestStart (d : Dev) : Dev :=
  match d.sec.mpc.run, d.sec.mpc.queue with
  | none, q :: rest =>
    if d.pdecWaits q then d else
    let d := d.updMpc fun m => { m with queue := rest ++ m.held.take 1, held := m.held.drop 1 }
    match d.pdecCheck q with
    | (d, .error (code, detail)) => d.pdecFail q code detail 0
    | (d, .ok r) => (d.updShare r.slot fun x => { x with budget := x.budget - 1 }).updMpc fun m => { m with run := some r }
  | _, _ => d

/-! ### Partial decryption (R365 to R367) -/

/-- λ of a Shamir share modulo a prime: over the other parties of the set, x_j·(x_j − x_p)^(−1), with x_j = j + 1. -/
def shamirWeight (set p q : Nat) : Nat :=
  ((bitsOf 16 set).filter fun j => j ≠ p).foldl (fun a j => a * ((j + 1) * invBig ((q + j - p) % q) q % q) % q) (1 % q)

/-- The share in NTT order modulo the prime of limb i (R365, step 1). -/
def Share.inNtt (x : Share) (i q root : Nat) : List Nat :=
  let n := 2 ^ x.logN
  if x.form = 0 then
    let s := (List.range n).map fun j => let c := ternaryAt x.data j; if c = 1 then 1 % q else if c = 3 then (q - 1) % q else 0
    (List.range n).map fun j => nttWord q root x.logN s j
  else (List.range n).map fun j => residueAt x.data (i * n + j)

/-- Limb i of the result: c·s·λ in the NTT domain, back to coefficients, with the flooding terms added (R365). -/
def Share.limb (x : Share) (i q root set : Nat) (c : List Nat) (noise : Nat → Int) : List Word :=
  let lam := if x.scheme = 1 then shamirWeight set x.party q else 1 % q
  let w := c.zipWith (fun a b => a * b % q * lam % q) (x.inNtt i q root)
  (List.range (2 ^ x.logN)).map fun j => BitVec.ofNat 36 ((((inttWord q root x.logN w j : Nat) : Int) + noise j) % (q : Int)).toNat

/-- Words packed as 8 in 36 bytes (R33). -/
def packLimb (l : List Word) : List Byte :=
  (List.range (l.length / 8)).flatMap fun g =>
    leBytes 36 (((l.drop (8 * g)).take 8).zipIdx.map fun p => p.1.toNat * 2 ^ (36 * p.2)).sum
/-- The words of a packed limb. -/
def unpackLimb (b : List Byte) (n : Nat) : List Nat := (List.range n).map fun j => residueAt b j

/-- The result descriptor (R365). -/
def shareDescriptor (b : List Byte) (list : Nat) : List Byte :=
  leBytes 2 0xC7D5 ++ leBytes 1 1 ++ leBytes 1 1 ++ bytesAt b 4 3 ++ leBytes 1 1 ++ bytesAt b 8 8 ++ bytesAt b 0x10 4 ++ leBytes 4 0 ++
    bytesAt b 0x18 4 ++ leBytes 1 5 ++ bytesAt b 0x1D 1 ++ leBytes 2 0 ++ leBytes 8 list ++ List.replicate 24 0

/-- The limbs of a result from limb i on: each is read, computed and written; an uncorrectable atom abandons the
request (R365, R367). The first number is the limbs written. -/
def Dev.pdecLimbs (d : Dev) (r : PdecRun) (x : Share) (noise : Nat → Int) : Nat → List (Nat × (Nat × Nat)) → Dev × Nat × Option Nat
  | i, [] => (d, i, none)
  | i, (a, (q, root)) :: t =>
    let n := 2 ^ x.logN
    match d.hbmRead a (n * 9 / 2) with
    | (d, .error atom) => (d, i, some atom)
    | (d, .ok b) =>
      let out := packLimb (x.limb i q root (numAt r.req.rcd 2 2) (unpackLimb b n) noise)
      let at' := numAt r.req.rcd 0x20 8 + i * (n * 9 / 2)
      let p := (d.mem.partFor (d.grantParts r.req.fn) at' out.length).getD 0
      (d.hbmWrite p none at' out).pdecLimbs r x noise (i + 1) t

/-- The limb in progress when a request is abandoned: every word of it is free (R367). -/
def Dev.spoilLimb (d : Dev) (r : PdecRun) (i n : Nat) : Dev :=
  let at' := numAt r.req.rcd 0x20 8 + i * (n * 9 / 2)
  let p := (d.mem.partFor (d.grantParts r.req.fn) at' (n * 9 / 2)).getD 0
  let d := d.hbmWrite p none at' ((List.range (n * 9 / 2)).map fun k => BitVec.ofNat 8 (Config.undefWord d.freeCtr k))
  { d with freeCtr := d.freeCtr + 1 }

/-- The flooding terms of a request: r mod 2^(B+1) − 2^B for the drawn 64 bits of each coefficient (R365). -/
def floodNoise (ctr bits j : Nat) : Int := ((Config.entropy (ctr + j) % 2 ^ 64 % 2 ^ (bits + 1) : Nat) : Int) - ((2 ^ bits : Nat) : Int)

/-- The slot begins its wipe; a running request of the slot is abandoned with SHARE_SLOT, reason 0x3. How many limbs were
written by then is open; the limb in progress is undefined (R362, R367). -/
def Dev.wipeSlot (d : Dev) (s : Nat) : Dev :=
  let x := d.share s
  let d := d.updShare s fun x => { Share.reset with state := 3, owner := x.owner, err := x.err }
  match d.sec.mpc.run with
  | some r =>
    if r.slot = s then
      let n := 2 ^ x.logN
      let ctr := d.freeCtr
      let d := { d with freeCtr := d.freeCtr + n }
      let d := d.updMpc fun m => { m with run := none }
      match d.pdecLimbs r x (floodNoise ctr (numAt r.req.rcd 1 1)) 0 ((r.limbs.zip r.primes).take (Config.shareProgress ctr % max 1 r.limbs.length)) with
      | (d, i, some atom) => (d.spoilLimb r i n).pdecFail r.req 0x0501 atom i
      | (d, k, none) => (d.spoilLimb r k n).pdecFail r.req 0x0703 (s + 256 * 3) k
    else d
  | none => d

/-- The last request that BUDGET allows wipes the slot (R362). -/
def Dev.budgetWipe (d : Dev) (s : Nat) : Dev := if (d.share s).state = 2 ∧ (d.share s).budget = 0 then d.wipeSlot s else d

/-- PDEC_DONE (R365, R367): the flooding terms are drawn and every limb is computed and written, then the descriptor and
DONE; the requester is signalled. -/
def fxPdecDone (d : Dev) : Dev :=
  match d.sec.mpc.run with
  | none => d
  | some r =>
    let x := d.share r.slot
    let n := 2 ^ x.logN
    if r.limbs.any fun a => d.mem.resetting a (n * 9 / 2) then d else
    let bits := numAt r.req.rcd 1 1
    let ctr := d.freeCtr
    let d := { d with freeCtr := d.freeCtr + n }
    let d := d.updMpc fun m => { m with run := none }
    match d.pdecLimbs r x (floodNoise ctr bits) 0 (r.limbs.zip r.primes) with
    | (d, i, some atom) => ((d.spoilLimb r i n).pdecFail r.req 0x0501 atom i).budgetWipe r.slot
    | (d, k, none) =>
      let at' := numAt r.req.rcd 0x18 8
      let p := (d.mem.partFor (d.grantParts r.req.fn) at' 64).getD 0
      let d := d.hbmWrite p none at' (shareDescriptor r.desc (Config.shareLimbList d.freeCtr % 2 ^ 64))
      let d := { d with freeCtr := d.freeCtr + 1 }
      let d := d.updMpc fun m => { m with cnt := satAdd 64 m.cnt 1 }
      (((d.pdecDone r.req 0 k).msix r.req.fn 17)).budgetWipe r.slot


/-! ### Loading (R359 to R362) -/

/-- SLOT_LOAD (R361, R362, R368): a write of MPC_SLOT_CTRL. A function other than the owner has no effect on a slot that is
not EMPTY; LOAD on a slot that is not EMPTY sets ERR 0x01 with a record SHARE_UNWRAP, and consumes no nonce. -/
def fxSlotLoad (d : Dev) (f s v : Nat) : Dev :=
  let x := d.share s
  if x.state ≠ 0 ∧ x.owner ≠ f then d
  else
    let d := d.updFn f fun y => { y with slotLen := Tab.set y.slotLen s (fld v 32 21) }
    let d := if bit v 1 ∧ (x.state = 1 ∨ x.state = 2) then d.wipeSlot s else d
    if !bit v 0 then d
    else if (d.share s).state ≠ 0 then (d.updShare s fun x => { x with err := 1 }).fnFault f (plainFault 0x0704 1 secLoc (s + 256))
    else
      let a := Tab.get 0 (d.fn f).slotAddr s
      d.updShare s fun x => { x with state := 1, owner := f, err := 0, addr := a, len := fld v 32 21 }

/-- SLOT_RELEASE (R362, R368): the owner writes RELEASE. -/
def fxSlotRelease (d : Dev) (f s : Nat) : Dev :=
  let x := d.share s
  if (x.state = 1 ∨ x.state = 2) ∧ x.owner = f then d.wipeSlot s else d

/-- SLOT_WIPE_DONE (R362). -/
def fxSlotWipeDone (d : Dev) (s : Nat) : Dev := if (d.share s).state = 3 then d.emptySlot s else d

/-- Payload bytes of a blob (R359). -/
def payloadBytes (form logN limbs : Nat) : Nat := if form = 0 then 2 ^ logN / 4 else limbs * 2 ^ logN * 9 / 2

/-- The header fields of a blob are in range and its reserved fields zero (R352, R358, R359). -/
def blobHeaderOk (b : List Byte) : Bool :=
  let form := numAt b 5 1
  let scheme := numAt b 6 1
  let party := numAt b 7 1
  let t := numAt b 8 1
  let n := numAt b 9 1
  let logN := numAt b 0xA 1
  let limbs := numAt b 0xB 1
  let flood := numAt b 0xC 1
  let keyset := numAt b 0x10 8
  decide (numAt b 0 4 = 0x534C_4F54) && decide (numAt b 4 1 = 1) && decide (form ≤ 1) && decide (scheme ≤ 2) &&
    decide (2 ≤ n ∧ n ≤ 16) && decide (party < n) &&
    (if scheme = 1 then decide (2 ≤ t ∧ t ≤ n) && decide (form = 1) else decide (t = 0)) &&
    decide (12 ≤ logN ∧ logN ≤ 17) &&
    (if form = 1 then decide (1 ≤ limbs ∧ limbs ≤ 4) && decide (limbs * 2 ^ logN * 9 / 2 ≤ 1_048_576) else decide (limbs = 0)) &&
    decide (16 ≤ flood ∧ flood ≤ 62) && (decide (scheme ≠ 2) || (bit keyset 63 && bit keyset party)) &&
    decide (numAt b 0x18 2 ≠ 0) && decide (1 ≤ numAt b 0x1C 4) &&
    decide (numAt b 0xD 3 = 0) && decide (numAt b 0x1A 2 = 0) && decide (numAt b 0x91 3 = 0) && decide (numAt b 0xA0 96 = 0)

/-- The first load check that fails after the address (R361), 0 when all pass, and the share. -/
def Dev.blobCheck (d : Dev) (s : Nat) (b : List Byte) : Nat × List Byte :=
  let x := d.share s
  let form := numAt b 5 1
  let logN := numAt b 0xA 1
  let size := payloadBytes form logN (numAt b 0xB 1)
  if !blobHeaderOk b then (3, [])
  else if x.len ≠ 0x110 + size then (4, [])
  else if numAt b 0x20 16 ≠ x.nonce then (8, [])
  else
    let ex := beNat (bytesAt b 0x31 48)
    let ey := beNat (bytesAt b 0x61 48)
    match if numAt b 0x30 1 = 4 then p384.ecdh (d.sec.wrapKey.getD 0) ex ey else none with
    | none => (5, [])
    | some z =>
      let key := hkdf384 (bytesAt b 0x20 16) (beBytes 48 z) ([0x48, 0x4E, 0x54, 0x53, 0x4C, 0x4F, 0x54, 0x31] ++ [BitVec.ofNat 8 s]) 32
      let iv := bytesAt b 0x94 12
      let ct := bytesAt b 0x100 size
      if gcmTag key iv (b.take 0x100) ct ≠ bytesAt b (0x100 + size) 16 then (6, [])
      else
        let p := gcmOpen key iv ct
        let n := 2 ^ logN
        if form = 0 then (if (List.range n).any fun j => ternaryAt p j = 2 then (7, []) else (0, p))
        else if (List.range (numAt b 0xB 1 * n)).any fun j => decide (Config.psetPrime (numAt b 0x18 2) (j / n) ≤ residueAt p j) then (7, [])
        else (0, p)

/-- A load is refused (R361): the slot is EMPTY with a new nonce, ERR is set, and SHARE_UNWRAP goes to the function. -/
def Dev.loadRefused (d : Dev) (s err : Nat) : Dev :=
  let f := (d.share s).owner
  ((d.updShare s fun x => { x with err := err }).emptySlot s).fnFault f (plainFault 0x0704 1 secLoc (s + 256 * err))

/-- SLOT_LOAD_DONE (R361): the checks of the load in their order. -/
def fxSlotLoadDone (d : Dev) (s : Nat) : Dev :=
  let x := d.share s
  if x.state ≠ 1 then d
  else if x.addr % 64 ≠ 0 ∨ (d.mem.partFor (d.grantParts x.owner) x.addr (max 1 x.len)).isNone then d.loadRefused s 2
  else
    if d.mem.resetting x.addr x.len then d
    else match d.hbmRead x.addr x.len with
    | (d, .error _) => d.loadRefused s 6
    | (d, .ok b) =>
      match d.blobCheck s b with
      | (0, p) =>
        let (r, d) := d.draw
        d.updShare s fun x =>
          { x with state := 2, err := 0, budget := numAt b 0x1C 4, party := numAt b 7 1, scheme := numAt b 6 1, form := numAt b 5 1,
                   threshold := numAt b 8 1, parties := numAt b 9 1, logN := numAt b 0xA 1, limbs := numAt b 0xB 1,
                   floodMin := numAt b 0xC 1, keyset := numAt b 0x10 8, pset := numAt b 0x18 2, nonce := r % 2 ^ 128, data := p }
      | (e, _) => d.loadRefused s e

end Sys2Proof.Machine
end

