-- ==== Sys2Proof/Machine/Reset.lean ====
section
/-! DEFINITION. Reset requests, the reset hold, the fuse load and the strap measurement (R478 to R491). -/

namespace Sys2Proof.Machine

/-- Images written and not marked are recorded as invalid when a device reset ends an update (R541). -/
def Nor.dropWritten (n : Nor) (l : List PkgEntry) : Nor :=
  l.foldl (fun n e =>
    let k := Tab.get Marks.reset n.comps e.comp
    let k := if k.active = 0 then { k with slotB := { k.slotB with valid := false } }
      else { k with slotA := { k.slotA with valid := false } }
    { n with comps := Tab.set n.comps e.comp k }) n

/-- Failed positions and core map of a cluster from the marks in NOR (R454, R455, R470): the spare holds the lowest
failed position, unless it has failed itself. -/
def Nor.failedOf (n : Nor) (c : Nat) : Nat := maskOf 9 fun p => n.failedCores.contains (9 * c + p)
def mapOf (failed : Nat) : Nat :=
  let lost := bitsOf 8 failed
  ((List.range 8).map fun k =>
    (if bit failed k then (if lost.head? = some k && !bit failed 8 then 8 else 0xF) else k) * 16 ^ k).sum
/-- Mirroring and spares after a reset: what NOR gives (R470). -/
def Nor.pdd (n : Nor) : Pdd :=
  { Pdd.reset with failed := (List.range 16).map fun c => (c, n.failedOf c),
                   map := (List.range 16).map fun c => (c, mapOf (n.failedOf c)) }

/-- A device reset (R478, R479): every domain but the always-on domain. What is kept is NOR contents, fuses, the
always-on registers, the counters of the always-on clock and the laser cartridges. An update's own reset (cause 0x0A)
keeps its package until the start confirms; any other reset ends the update (R541). -/
def Dev.deviceReset (d : Dev) (cause : Nat) : Dev :=
  let r := d.rst
  { Dev.reset with
    aon0 := d.aon0, aon1 := d.aon1, freeCtr := d.freeCtr, out := d.out, hw := d.hw, bootLog := d.bootLog,
    nor := if d.upd.state ≠ 0 ∧ d.upd.state ≠ 5 then d.nor.dropWritten d.upd.written else d.nor,
    lane := { Starlane.reset with carts := d.lane.carts.map fun p => (p.1, { p.2 with fresh := false }) },
    pdd := d.nor.pdd, sec := { Sec.reset with nextIndex := 1024 * d.nor.logBlocks }, fuses := d.fuses, viol := d.viol,
    pwr := { Pwr.reset with level := d.pwr.level },
    upd := if d.upd.state = 5 ∧ cause = 0x0A then
        { Upd.reset with state := 5, plan := d.upd.plan, pkgId := d.upd.pkgId, pkgDigest := d.upd.pkgDigest }
      else { Upd.reset with result := if d.upd.state ≠ 0 then 0x0A else d.upd.result },
    rst := { Rst.reset with
      cause := cause, holdAon := d.aon0, perst := r.perst, perstAon := r.perstAon, clkMissing := r.clkMissing,
      latched := [], thermHold := r.thermHold, fuseReads := r.fuseReads, fuseRedundant := r.fuseRedundant,
      fuseFailed := r.fuseFailed, fuseDone := r.fuseDone, strapUnstable := r.strapUnstable, strapCode := r.strapCode,
      strapSets := r.strapSets, strap := r.strap, partCtrlIndex := 0, partCtrlKind := 0, partIndex := r.partIndex,
      partKind := r.partKind, partResult := if r.partBusy then 4 else r.partResult } }

/-- A request for a device reset acts (R480, R481, R484): latched while the clock is missing if its source is one the
supervisor latches; merged, lowest code first, while the hold of an earlier request stands; else a new device reset. -/
def Dev.requestReset (d : Dev) (cause : Nat) : Dev :=
  if d.rst.clkMissing then
    if cause = 2 ∨ cause = 3 ∨ cause = 4 ∨ cause = 5 then
      { d with rst := { d.rst with latched := d.rst.latched ++ [cause] } }
    else d
  else if d.rst.hold then { d with rst := { d.rst with cause := min d.rst.cause cause } }
  else d.deviceReset cause

/-- A power-on reset (R478, R479): everything but fuses, NOR contents and the module's own power state. The
always-on counts are zeroed when the always-on rail itself has risen (R504). -/
def Dev.powerOn (d : Dev) (aonRose : Bool) : Dev :=
  { Dev.reset with
    aon0 := if aonRose then 0 else d.aon0, aon1 := if aonRose then 0 else d.aon1, freeCtr := d.freeCtr, out := d.out,
    nor := d.nor, pdd := d.nor.pdd, sec := { Sec.reset with nextIndex := 1024 * d.nor.logBlocks }, fuses := d.fuses, hw := { d.hw with porPending := false, railOff := none }, bootLog := [],
    lane := { Starlane.reset with carts := d.lane.carts.map fun p => (p.1, { Cart.reset with present := p.2.present, lever := p.2.lever, state := if p.2.present then 1 else 0 }) },
    rst := { Rst.reset with holdAon := if aonRose then 0 else d.aon0, perst := d.rst.perst, clkMissing := d.rst.clkMissing } }

/-- POWER_ON_RESET (R478, R567): the rails that have risen request a power-on reset, which acts once they are good
and the always-on clock is there. -/
def fxPowerOnReset (d : Dev) : Dev :=
  if d.hw.porPending && d.hw.on && decide (d.hw.rails = 0xFFFF) && !d.rst.clkMissing then
    d.powerOn (d.hw.railOff.isNone)
  else d

/-- CLOCK_MISSING (R481): no edge for 2 µs; the supervisor latches a clock-loss request. -/
def fxClockMissing (d : Dev) : Dev :=
  if d.rst.clkMissing then d
  else { d with rst := { d.rst with clkMissing := true, latched := d.rst.latched ++ [2] } }

/-- CLOCK_RETURN (R481): after 64 consecutive edges the pending requests act as one device reset with the lowest
code among them; PERST# counts only while it is held low. -/
def fxClockReturn (d : Dev) : Dev :=
  if d.rst.clkMissing then
    let causes := d.rst.latched ++ (if d.rst.perst then [7] else [])
    let d := { d with rst := { d.rst with clkMissing := false } }
    match causes with
    | [] => d
    | c :: t =>
      let c := t.foldl min c
      if d.rst.hold then { d with rst := { d.rst with latched := [], cause := min d.rst.cause c, holdAon := d.aon0 } }
      else d.deviceReset c
  else d

/-- PERST_ASSERT (R482): PERST# has been low for n always-on cycles. Fewer than 8 never act, 25 or more always act; from
8 to 24 the pulse acts whole or is ignored, as the environment says. WAKE# is released when PERST# goes low (R559). -/
def fxPerstAssert (d : Dev) (n : Nat) (acts : Bool) : Dev :=
  let d := { d with rst := { d.rst with wake := false } }
  if n < 8 then d
  else if 25 ≤ n ∨ acts then
    let d := { d with rst := { d.rst with perst := true } }
    if d.rst.clkMissing then d else d.requestReset 7
  else d

/-- PERST_DEASSERT (R482, R483): PERST# has risen. -/
def fxPerstDeassert (d : Dev) : Dev :=
  if d.rst.perst then { d with rst := { d.rst with perst := false, perstAon := d.aon0 } } else d

/-- HOT_RESET (R478): received from the host port while the link is up. -/
def fxHotReset (d : Dev) : Dev := if d.rst.pcie = 0 then d else d.requestReset 8

/-- RST_CTRL_DEVICE (R499): DEVICE with KEY 0x5254 makes a software device reset; any other write is ignored. -/
def fxRstCtrlDevice (d : Dev) (v : Nat) : Dev :=
  if bit v 0 && decide (fld v 16 16 = 0x5254) then d.requestReset 9 else d

/-- WATCHDOG_EXPIRY (R478): the watchdog runs from the release of platform firmware (step 6). -/
def fxWatchdogExpiry (d : Dev) : Dev := if d.rst.steps.contains 6 then d.requestReset 5 else d

/-- Trip levels of the sensor classes in °C (R513). -/
def tripOf : Nat → Nat
  | 0 => 115
  | 1 => 105
  | _ => 85

/-- THERMAL_TRIP (R483, R513): a sensor of a class reads t, above its trip level. -/
def fxThermalTrip (d : Dev) (cls t : Nat) : Dev :=
  if tripOf cls ≤ t then ({ d with rst := { d.rst with thermHold := true } }).requestReset 4 else d

/-- A health fallback (R528): ACTIVE returns to the other slot, the marks clear, and HEALTH_UNCONFIRMED is owed. -/
def Marks.fallback (k : Marks) : Marks := { k with active := 1 - k.active, trial := false, tried := false, copyBoth := false }

/-- The slot that ACTIVE names, and the other one. -/
def Marks.activeSlot (k : Marks) : SlotInfo := if k.active = 0 then k.slotA else k.slotB
def Marks.otherSlot (k : Marks) : SlotInfo := if k.active = 0 then k.slotB else k.slotA

/-- HEALTH_UNCONFIRMED of a component (R528): component in [7:0], failed slot in bit 8, VERSION in [63:16]. -/
def healthFault (comp : Nat) (k : Marks) : FaultRec :=
  plainFault 0x0903 0 (location 0 0 0 0 0) (comp + 256 * k.active + 65536 * k.activeSlot.version)

/-- At a reset of its part, a component with TRIAL and TRIED set falls back (R528). -/
def Dev.fallbackComp (d : Dev) (comp : Nat) : Dev :=
  let k := Tab.get Marks.reset d.nor.comps comp
  if k.trial && k.tried then
    { d with nor := { d.nor with comps := Tab.set d.nor.comps comp k.fallback }, bootLog := d.bootLog ++ [healthFault comp k] }
  else d

/-- The components of the slot marks (R528): 0x01 to 0x08 and the configuration record. -/
def compIds : List Nat := [1, 2, 3, 4, 5, 6, 7, 8, 0x20]

/-- RESET_RELEASE (R482, R483, R528): the hold ends after at least 25 cycles, not before PERST# has been high for 8,
and after a thermal trip not before every die sensor reads at least 10 °C below the trip level; `t` is the hottest die
sensor. Time 0 of the start: the fuse load begins, and components whose trial was not confirmed fall back. -/
def fxResetRelease (d : Dev) (t : Nat) : Dev :=
  let r := d.rst
  if r.hold && !r.clkMissing && !r.perst && d.hw.on && decide (d.hw.rails = 0xFFFF) && !d.hw.porPending && decide (r.holdAon + 25 ≤ d.aon0) &&
      (decide (r.perstAon + 8 ≤ d.aon0) || decide (r.perstAon = 0)) && (!r.thermHold || decide (t + 10 ≤ tripOf 0)) then
    let d := { d with rst := { r with hold := false, thermHold := false, fuseReads := 0, fuseRedundant := false,
                                      fuseFailed := false, fuseDone := false, strapDone := false, strapSets := 0,
                                      strapUnstable := false, strapCode := 0, steps := [], secAon := none } }
    compIds.foldl Dev.fallbackComp d
  else d

/-- FUSE_COPY_CHECK (R487): one copy has been read. A passing check completes the load, from the primary or the
redundant copy; six failing reads halt the device. -/
def fxFuseCopyCheck (d : Dev) (ok : Bool) : Dev :=
  let r := d.rst
  if r.hold || r.fuseDone || r.fuseFailed then d
  else if ok then
    { d with rst := { r with fuseReads := r.fuseReads + 1, fuseRedundant := decide (r.fuseReads % 2 = 1), fuseDone := true } }
  else { d with rst := { r with fuseReads := r.fuseReads + 1, fuseFailed := decide (r.fuseReads + 1 = 6) } }

/-- STRAP_SET_DONE (R489): eight conversions. All in one band of R490 give the strap value; after four sets that do
not agree the value is 0xF, UNSTABLE is set and STRAP_UNSTABLE is logged with the codes of the last set. The release of
the security complex follows (R492 step 3, R494). -/
def fxStrapSetDone (d : Dev) (codes : List Nat) : Dev :=
  let r := d.rst
  if r.hold || !r.fuseDone || r.strapDone || decide (codes.length ≠ 8) then d
  else
    let c := codes.headD 0 % 256
    let r := { r with strapSets := r.strapSets + 1, strapCode := c }
    if codes.all fun x => x % 256 / 16 = c / 16 then
      { d with rst := { r with strap := c / 16, strapDone := true, secAon := some d.aon0 } }
    else if r.strapSets = 4 then
      { d with rst := { r with strap := 0xF, strapUnstable := true, strapDone := true, secAon := some d.aon0 },
               bootLog := d.bootLog ++ [plainFault 0x090C 0 (location 0 0 0 0 0) (leNat (codes.map fun x => BitVec.ofNat 8 x))] }
    else { d with rst := r }

/-- START_TIMEOUT (R494): a start not confirmed within 2 s of the release of the security complex ends in a device
reset with cause 0x06. -/
def fxStartTimeout (d : Dev) : Dev :=
  match d.rst.secAon with
  | some t => if !d.rst.confirmed && !d.rst.hold && decide (t + 50_000_000 ≤ d.aon0) then d.requestReset 6 else d
  | none => d

/-- The code shown on FAULT_LED: the lowest that applies (R498). -/
def Dev.ledCode (d : Dev) : Nat :=
  if d.rst.clkMissing then 1 else if d.rst.fuseFailed then 2 else if d.rst.romHalt then 3 else if d.rst.lodestar then 4
  else if d.rst.thermHold then 5 else if d.rst.devFault || d.hw.railDead then 6 else 0

end Sys2Proof.Machine
end

