-- ==== Sys2Proof/Machine/Module.lean ====
section
/-! DEFINITION. Input power, rails, the service-card switch and the I3C addresses (R559 to R572). -/

namespace Sys2Proof.Machine

/-- What survives without power: NOR contents, fuses, and what is physically in the module. Everything else is lost
(R420, R563, R568). -/
def Dev.unpowered (d : Dev) (hw : Hw) : Dev :=
  { Dev.reset with
    nor := if d.upd.state ≠ 0 ∧ d.upd.state ≠ 5 then d.nor.dropWritten d.upd.written else d.nor,
    fuses := d.fuses, freeCtr := d.freeCtr, out := d.out, hw := hw,
    lane := { Starlane.reset with carts := d.lane.carts.map fun p => (p.1, { Cart.reset with present := p.2.present, lever := p.2.lever }) },
    rst := { Rst.reset with perst := d.rst.perst } }

/-- The module turns off: PWR_GOOD falls and every rail follows (R562, R563, R568). -/
def Dev.turnOff (d : Dev) (reason : Nat) : Dev :=
  if d.hw.on then d.unpowered { Hw.reset with on := false, offReason := reason, rails := 0, card := d.hw.card } else d

/-- The module turns on: the rails ramp in index order and request a power-on reset (R562, R567). -/
def Dev.turnOn (d : Dev) : Dev :=
  if d.hw.on then d else { d with hw := { Hw.reset with porPending := true, card := d.hw.card } }

/-- VIN_RISE (R562): VIN_54V rises through 39.5 V. -/
def fxVinRise (d : Dev) : Dev := d.turnOn

/-- VIN_FALL (R562): VIN_54V stays below 38.0 V for `us` µs; a dip shorter than 10 µs is ridden through. -/
def fxVinFall (d : Dev) (us : Nat) : Dev := if us < 10 then d else d.turnOff 1

/-- VIN_OVERVOLTAGE (R562): VIN_54V rises through 62.0 V. -/
def fxVinOvervoltage (d : Dev) : Dev := d.turnOff 2

/-- OVERVOLTAGE_TURN_ON (R562): after an overvoltage turn-off VIN_54V falls through 61.0 V. -/
def fxOvervoltageTurnOn (d : Dev) : Dev := if d.hw.offReason = 2 then d.turnOn else d

/-- OVERCURRENT_TRIP (R563): input current has stayed above 30 A for 500 µs. -/
def fxOvercurrentTrip (d : Dev) : Dev := d.turnOff 3

/-- HOTSWAP_RETRY (R563): 1 s after a trip. -/
def fxHotswapRetry (d : Dev) : Dev := if d.hw.offReason = 3 then d.turnOn else d

/-- The kinds of a rail fault (R566): 1 undervoltage, 2 overvoltage, 3 overcurrent. -/
def railKindOk (k : Nat) : Bool := decide (1 ≤ k ∧ k ≤ 3)

/-- RAIL_FAULT (R565): a fault on rails 0 to 3 turns every rail off; one on rails 4 to 15 turns these off, drops
PWR_GOOD and is recorded; the third within 60 s leaves them off. -/
def fxRailFault (d : Dev) (rail kind : Nat) : Dev :=
  if !d.hw.on || d.hw.railDead || d.hw.railOff.isSome || !bit d.hw.rails rail || !railKindOk kind then d
  else if rail < 4 then
    d.unpowered { Hw.reset with rails := 0, card := d.hw.card, railOff := some 0 }
  else
    let times := (d.hw.railTimes.filter fun t => decide (d.aon0 < t + 1_500_000_000)) ++ [d.aon0]
    let h := { d.hw with rails := d.hw.rails % 16, railKind := kind, rail := rail, railValid := true, railTimes := times,
                         railOff := some d.aon0, railDead := decide (3 ≤ times.length), railRecord := true }
    { d.deviceReset d.rst.cause with hw := h }

/-- RAIL_RESTART (R565): the rails ramp again, 1 s after a fault on rails 0 to 3 and 100 ms after one on rails 4 to 15,
and request a power-on reset. -/
def fxRailRestart (d : Dev) : Dev :=
  match d.hw.railOff with
  | none => d
  | some t =>
    if d.hw.railDead then d
    else if d.hw.rails = 0 then { d with hw := { Hw.reset with porPending := true, card := d.hw.card } }
    else if t + 2_500_000 ≤ d.aon0 then
      { d with hw := { d.hw with rails := 0xFFFF, porPending := true, railFaults := satAdd 16 d.hw.railFaults 1 } }
    else d

/-- The I3C static address: 0x5A, or 0x5B under strap value 0xE (R490, R561). -/
def Dev.i3cStatic (d : Dev) : Nat := if d.rst.strap = 0xE then 0x5B else 0x5A

/-- SETDASA (R561): a dynamic address for the target whose static address is named. -/
def fxSetdasa (d : Dev) (static dyn : Nat) : Dev :=
  if d.hw.on && decide (static = d.i3cStatic) then ({ d with hw := { d.hw with i3cAddr := some dyn } }).emit (.ack true)
  else d.emit (.ack false)

/-- ENTDAA (R561): a target without a dynamic address takes the one assigned. -/
def fxEntdaa (d : Dev) (dyn : Nat) : Dev :=
  if d.hw.on && d.hw.i3cAddr.isNone then ({ d with hw := { d.hw with i3cAddr := some dyn } }).emit (.ack true)
  else d.emit (.ack false)

/-- PCIE_LINK_REACHES_L0 (R492, R496, R559): the endpoint was released in step 5, or runs in Lodestar mode; WAKE# is released. -/
def fxPcieLinkReachesL0 (d : Dev) : Dev :=
  if d.rst.steps.contains 5 || d.rst.lodestar then { d with rst := { d.rst with pcie := 1, wake := false } } else d

/-- PWR_GOOD is high while every rail is in regulation (R559). -/
def Dev.pwrGood (d : Dev) : Bool := d.hw.on && decide (d.hw.rails = 0xFFFF)

/-- THERM_ALERT# is driven low at level 1 or above and during a thermal hold (R514, R559). -/
def Dev.thermAlert (d : Dev) : Bool := decide (1 ≤ d.pwr.therm) || d.rst.thermHold

end Sys2Proof.Machine
end

