-- ==== Sys2Proof/Machine/Update.lean ====
section
/-! DEFINITION. The configuration record, management commands and firmware update (R525 to R544). -/

namespace Sys2Proof.Machine

/-! ### The configuration record (R529 to R531) -/

/-- The highest record format the platform firmware writes (R531): the format the specification lays out. -/
def fwFormat : Nat := 2

/-- A field of the record: offset, length, and the greatest and least value it may hold. -/
structure FieldRule where
  off : Nat
  len : Nat
  lo : Nat
  hi : Nat

/-- The range rules of the fixed fields, ascending (R529, check 3 of R530). Reserved fields must be zero. -/
def recordRules : List FieldRule :=
  [⟨0x06, 2, 0, 0⟩, ⟨0x10, 2, 0, 0x3FFF⟩, ⟨0x12, 1, 0, 63⟩, ⟨0x13, 1, 0, 3⟩, ⟨0x14, 2, 400, 4095⟩, ⟨0x16, 1, 0, 3⟩,
   ⟨0x18, 4, 0, 1_000_000⟩] ++
  [⟨0x1E, 1, 0, 63⟩, ⟨0x20, 2, 0, 1000⟩, ⟨0x22, 2, 0, 1000⟩, ⟨0x26, 2, 0, 0⟩, ⟨0x34, 12, 0, 0⟩]

/-- The range rules of a PART entry at its offset (R287, R529). -/
def partRules (o : Nat) : List FieldRule :=
  [⟨o, 1, 0, 3⟩, ⟨o + 1, 1, 0, 0⟩, ⟨o + 2, 2, 0, 507⟩, ⟨o + 4, 2, 0, 508⟩, ⟨o + 6, 2, 0, 0x1FFF⟩, ⟨o + 8, 2, 0, 1024⟩,
   ⟨o + 10, 1, 0, 1⟩, ⟨o + 11, 5, 0, 0⟩]

/-- The range rules of GRANT, MSLOT and the reserved tail (R529). -/
def grantRules (o : Nat) : List FieldRule := [⟨o + 28, 1, 0, 1⟩, ⟨o + 29, 3, 0, 0⟩]
def mslotRules (o : Nat) : List FieldRule := [⟨o + 2, 2, 0, 0⟩, ⟨o + 8, 8, 0, 0⟩]

/-- Every range rule of the record, in ascending offset. -/
def allRules : List FieldRule :=
  recordRules ++ (List.range 64).flatMap (fun p => partRules (0x40 + 16 * p)) ++
    (List.range 64).flatMap (fun f => grantRules (0x440 + 32 * f)) ++
    (List.range 4).flatMap (fun i => mslotRules (0xC40 + 16 * i))

/-- The first TAP entry with a reserved bit or OVERRUN set (R475, R529). -/
def tapFail (r : List Byte) : Option Nat :=
  ((List.range 64).find? fun j =>
    let w := numAt r (0xC80 + 16 * j) 8
    decide (fld w 50 13 ≠ 0) || decide (fld w 44 4 ≠ 0) || decide (fld w 23 9 ≠ 0)).map fun j => 0xC80 + 16 * j

/-- PART entry p of a record. -/
def recPart (r : List Byte) (p : Nat) : Part :=
  let o := 0x40 + 16 * p
  { Part.reset with valid := bit (numAt r o 1) 0, die := fld (numAt r o 1) 1 1, base := numAt r (o + 2) 2,
                    size := numAt r (o + 4) 2, rate := numAt r (o + 6) 2, burst := numAt r (o + 8) 2,
                    mode := bit (numAt r (o + 10) 1) 0 }

/-- GRANT entry f of a record. -/
def recGrant (r : List Byte) (f : Nat) : Grant :=
  let o := 0x440 + 32 * f
  { cores := numAt r o 16, parts := numAt r (o + 16) 8, apps := numAt r (o + 24) 4, expert := bit (numAt r (o + 28) 1) 0 }

/-- The partition rules of R266: whole GiB within 0 to 507 of one die, and no two overlap. The offset of the first
entry that breaks them. -/
def partFail (r : List Byte) : Option Nat :=
  ((List.range 64).find? fun p =>
    let q := recPart r p
    q.valid && (decide (508 < q.base + q.size) || decide (q.size = 0) ||
      (List.range p).any fun k =>
        let o := recPart r k
        o.valid && decide (o.die = q.die) && decide (o.base < q.base + q.size) && decide (q.base < o.base + o.size))).map
    fun p => 0x40 + 16 * p

/-- Check 5 of R530: MIRROR_PART names a valid partition of die 0 that no GRANT entry includes, or HOLDER is 0xFFFF and
no MSLOT entry is used. -/
def mirrorOk (r : List Byte) : Bool :=
  let p := numAt r 0x1E 1
  let q := recPart r p
  (q.valid && decide (q.die = 0) && (List.range 64).all fun f => !bit (recGrant r f).parts p) ||
    (decide (numAt r 0x1C 2 = 0xFFFF) && (List.range 4).all fun i => decide (numAt r (0xC40 + 16 * i) 2 = 0xFFFF))

/-- The first check of R530 that a record fails, as the fault it gives: code and detail. -/
def cfgFault (r : List Byte) : Option (Nat × Nat) :=
  if numAt r 0 4 ≠ 0x4346_4752 then some (0x090E, 0)
  else if numAt r 8 4 ≠ 8192 ∨ r.length ≠ 8192 then some (0x090E, 8)
  else if bytesAt r 0x1FD0 48 ≠ sha384 (r.take 0x1FD0) then some (0x090E, 0x1FD0)
  else if numAt r 4 2 < 1 ∨ fwFormat < numAt r 4 2 then some (0x0901, numAt r 4 2)
  else match allRules.find? fun (f : FieldRule) => decide (numAt r f.off f.len < f.lo) || decide (f.hi < numAt r f.off f.len) with
    | some f => some (0x090E, f.off)
    | none => match tapFail r with
      | some o => some (0x090E, o)
      | none =>
        if numAt r 0x1080 3920 ≠ 0 then some (0x090E, 0x1080)
        else match partFail r with
          | some o => some (0x090E, o)
          | none => if mirrorOk r then none else some (0x090E, 0x1E)

/-- A record with its GENERATION raised by one and its digest made again (R529, R532). -/
def sealRecord (r : List Byte) : List Byte :=
  let r := putBytes r 0x0C (leBytes 4 ((numAt r 0x0C 4 + 1) % 2 ^ 32))
  putBytes r 0x1FD0 (sha384 (r.take 0x1FD0))

/-- MSLOT and TAP entries of a record. -/
def recSlot (r : List Byte) (i : Nat) : MSlot :=
  { MSlot.reset with source := numAt r (0xC40 + 16 * i) 2, frame := fld (numAt r (0xC44 + 16 * i) 4) 0 22 }
/-- A tap from its two words (R475). -/
def tapOf (w0 w1 : Nat) : Tap :=
  { Tap.reset with valid := bit w0 63, slot := fld w0 48 2, queue := fld w0 32 12, sender := fld w0 16 7, source := fld w0 0 16,
                   len := fld w1 32 32, off := fld w1 0 32 }

/-- Bytes of a mirror slot: a header page and three frames (R459). -/
def MSlot.bytes (x : MSlot) : Nat := 4096 + 3 * 65536 * x.frame
/-- Offset of mirror slot i in the mirror partition (R459). -/
def slotOff (r : List Byte) (i : Nat) : Nat := ((List.range i).map fun k => (recSlot r k).bytes).sum
/-- The mirror slots at a start: unused, invalid when the end passes the partition's, else empty (R459, R474). -/
def recSlots (r : List Byte) : Tab MSlot :=
  (List.range 4).map fun i =>
    let x := recSlot r i
    (i, { x with state := if x.source = 0xFFFF then 0
      else if (recPart r (numAt r 0x1E 1)).size * 2 ^ 30 < slotOff r i + x.bytes then 1 else 2 })

/-- The record's values are taken: every register field marked Config (R529). -/
def Dev.applyRecord (d : Dev) (r : List Byte) : Dev :=
  let linksOff := decide (d.rst.strap = 6)
  let p := d.pwr.setLimit (numAt r 0x14 2)
  { d with
    cfg := { d.cfg with record := r },
    pwr := { p with duskEn := bit (numAt r 0x16 1) 0, idleUs := numAt r 0x18 4, freqCfg := numAt r 0x13 1,
                    freqReq := (List.range 16).map fun c => (c, numAt r 0x13 1) },
    lane := { d.lane with
      devId := numAt r 0x10 2, retry := numAt r 0x1F 1, sendLimit := numAt r 0x20 2, peerWait := numAt r 0x22 2,
      links := (List.range 96).map fun l => (l, { Tab.get Link.reset d.lane.links l with en := bit (numAt r 0x28 12) l && !linksOff }) },
    mem := { d.mem with parts := (List.range 64).map fun p => (p, recPart r p) },
    grants := (List.range 64).map fun f => (f, recGrant r f),
    pdd := { d.pdd with override' := bit (numAt r 0x16 1) 1, feed := numAt r 0x17 1, holder := numAt r 0x1C 2,
                        mirrorPart := numAt r 0x1E 1, lostWait := numAt r 0x24 2, slots := recSlots r,
                        taps := (List.range 64).map fun j => (j, tapOf (numAt r (0xC80 + 16 * j) 8) (numAt r (0xC88 + 16 * j) 8)) } }

/-- The configuration slot's bytes. -/
def Nor.cfgSlot (n : Nor) (s : Nat) : List Byte := if s = 0 then n.cfgA else n.cfgB
def Nor.setCfgSlot (n : Nor) (s : Nat) (r : List Byte) : Nor := if s = 0 then { n with cfgA := r } else { n with cfgB := r }

/-- The marks of a component. -/
def Nor.marks (n : Nor) (comp : Nat) : Marks := Tab.get Marks.reset n.comps comp
def Nor.setMarks (n : Nor) (comp : Nat) (k : Marks) : Nor := { n with comps := Tab.set n.comps comp k }

/-- A slot of a component is rewritten. -/
def Marks.setOther (k : Marks) (s : SlotInfo) : Marks := if k.active = 0 then { k with slotB := s } else { k with slotA := s }

/-- VERSION of a configuration record is FORMAT.0.0 (R535). -/
def recVersion (r : List Byte) : Nat := numAt r 4 2 * 2 ^ 32

/-- Step 7 of the start (R530, R531): the slot that ACTIVE names is read, or the other one first under strap value
0x7; a refused record is logged and the other slot is tried; a record of a lower format is migrated and written to the
other slot, with TRIAL and TRIED set there. -/
def Dev.readRecord (d : Dev) (norOk : Bool) (migrate : List Byte → List Byte) : Dev :=
  let k := d.nor.marks 0x20
  let first := if d.rst.strap = 7 then 1 - k.active else k.active
  let try' (d : Dev) (s : Nat) : Dev × Bool :=
    match cfgFault (d.nor.cfgSlot s) with
    | some (code, detail) => ({ d with bootLog := d.bootLog ++ [plainFault code 0 (location 0 0 0 0 0) detail] }, false)
    | none => (d, true)
  let use (d : Dev) (s : Nat) : Dev :=
    let r := d.nor.cfgSlot s
    let d := { d with cfg := { d.cfg with slot := s, fallback := decide (s ≠ k.active) } }
    if numAt r 4 2 = fwFormat then d.applyRecord r
    else
      let m := sealRecord (migrate r)
      if norOk then
        let k := { (k.setOther (SlotInfo.record (recVersion m))) with active := 1 - s, trial := true, tried := true }
        ({ d with nor := (d.nor.setCfgSlot (1 - s) m).setMarks 0x20 k,
                  cfg := { d.cfg with slot := 1 - s, migrated := true } }).applyRecord m
      else ({ d with cfg := { d.cfg with migrated := true } }).applyRecord m
  let (d, ok) := try' d first
  if ok then use d first
  else
    let (d, ok) := try' d (1 - first)
    if ok then use d (1 - first) else d

/-! ### Management commands (R532) -/

/-- The bytes of the record that a key changes: offset and length. -/
def keyField (key : Nat) : Nat × Nat :=
  match key with
  | 0x01 => (0x14, 2)
  | 0x02 => (0x18, 4)
  | 0x04 => (0x13, 1)
  | 0x05 => (0x20, 2)
  | 0x06 => (0x22, 2)
  | 0x07 => (0x1F, 1)
  | 0x08 => (0x24, 2)
  | _ => (0x16, 1)

/-- The record with a key's new value. -/
def recordWith (r : List Byte) (key v : Nat) : List Byte :=
  if 0x40 ≤ key then
    let o := 0x40 + 16 * (key - 0x40)
    putBytes r (o + 6) (leBytes 2 (fld v 0 13) ++ leBytes 2 (fld v 32 11) ++ leBytes 1 (fld v 16 1))
  else if key = 0x03 then putBytes r 0x16 (leBytes 1 (withBit (numAt r 0x16 1) 0 (v = 1)))
  else if key = 0x09 then putBytes r 0x16 (leBytes 1 (withBit (numAt r 0x16 1) 1 (v = 1)))
  else putBytes r (keyField key).1 (leBytes (keyField key).2 v)

/-- A value is within the range of its key (R532). -/
def keyRange (key v : Nat) : Bool :=
  if 0x40 ≤ key then decide (v = fld v 0 13 + put (fld v 16 1) 16 1 + put (fld v 32 11) 32 11) && decide (fld v 32 11 ≤ 1024)
  else match key with
    | 0x01 => decide (400 ≤ v ∧ v ≤ 4095)
    | 0x02 => decide (v ≤ 1_000_000)
    | 0x03 => decide (v ≤ 1)
    | 0x04 => decide (v ≤ 3)
    | 0x05 => decide (v ≤ 1000)
    | 0x06 => decide (v ≤ 1000)
    | 0x07 => decide (v ≤ 255)
    | 0x08 => decide (v < 2 ^ 16)
    | _ => decide (v ≤ 1)

/-- A management command (R532): an E-level write of CFG_CMD_VALUE and CFG_CMD with GO. It sets the running value;
with PERSIST it also writes the record to the other slot and moves ACTIVE there, unless an update or the
configuration's TRIAL holds the record. -/
def Dev.cfgCommand (d : Dev) (a : Agent) (key v : Nat) (persist norOk : Bool) (run : Dev → Dev) : Dev :=
  d.ifExpert a fun d =>
    let d := { d with cfg := { d.cfg with key := key, persist := persist, value := v, result := 0 } }
    if !keyRange key v then { d with cfg := { d.cfg with result := 2 } }
    else
      let d := run { d with cfg := { d.cfg with dirty := true } }
      if !persist then d
      else if d.upd.state ≠ 0 ∨ (d.nor.marks 0x20).trial then { d with cfg := { d.cfg with result := 3 } }
      else if !norOk then { d with cfg := { d.cfg with result := 4 } }
      else
        let r := sealRecord (recordWith d.cfg.record key v)
        let dest := 1 - d.cfg.slot
        let k := d.nor.marks 0x20
        let s : SlotInfo := SlotInfo.record (recVersion r)
        let k := { (if dest = 0 then { k with slotA := s } else { k with slotB := s }) with active := dest, trial := false, tried := false }
        { d with nor := (d.nor.setCfgSlot dest r).setMarks 0x20 k, cfg := { d.cfg with record := r, slot := dest } }

def fxCfgCmdPowerLimit (d : Dev) (a : Agent) (v : Nat) (persist norOk : Bool) : Dev :=
  d.cfgCommand a 0x01 v persist norOk fun d => { d with pwr := d.pwr.setLimit v }
def fxCfgCmdIdleUs (d : Dev) (a : Agent) (v : Nat) (persist norOk : Bool) : Dev :=
  d.cfgCommand a 0x02 v persist norOk fun d => { d with pwr := { d.pwr with idleUs := v } }
def fxCfgCmdDuskEn (d : Dev) (a : Agent) (v : Nat) (persist norOk : Bool) : Dev :=
  d.cfgCommand a 0x03 v persist norOk fun d => { d with pwr := { d.pwr with duskEn := decide (v = 1) } }
def fxCfgCmdClusterFreq (d : Dev) (a : Agent) (v : Nat) (persist norOk : Bool) : Dev :=
  d.cfgCommand a 0x04 v persist norOk fun d =>
    ({ d with pwr := { d.pwr with freqCfg := v, freqReq := (List.range 16).map fun c => (c, v) } }).retune
def fxCfgCmdSendLimit (d : Dev) (a : Agent) (v : Nat) (persist norOk : Bool) : Dev :=
  d.cfgCommand a 0x05 v persist norOk fun d => { d with lane := { d.lane with sendLimit := v } }
def fxCfgCmdPeerWait (d : Dev) (a : Agent) (v : Nat) (persist norOk : Bool) : Dev :=
  d.cfgCommand a 0x06 v persist norOk fun d => { d with lane := { d.lane with peerWait := v } }
def fxCfgCmdRetry (d : Dev) (a : Agent) (v : Nat) (persist norOk : Bool) : Dev :=
  d.cfgCommand a 0x07 v persist norOk fun d => { d with lane := { d.lane with retry := v } }
def fxCfgCmdLostWait (d : Dev) (a : Agent) (v : Nat) (persist norOk : Bool) : Dev :=
  d.cfgCommand a 0x08 v persist norOk fun d => { d with pdd := { d.pdd with lostWait := v } }
def fxCfgCmdFeedOverride (d : Dev) (a : Agent) (v : Nat) (persist norOk : Bool) : Dev :=
  d.cfgCommand a 0x09 v persist norOk fun d => { d with pdd := { d.pdd with override' := decide (v = 1) } }
def fxCfgCmdRegulator (d : Dev) (a : Agent) (p v : Nat) (persist norOk : Bool) : Dev :=
  d.cfgCommand a (0x40 + p) v persist norOk fun d =>
    d.updMem fun m => m.updPart p fun q => { q with newRate := some (fld v 0 13, fld v 32 11, bit v 16) }

/-! ### Packages (R533 to R541) -/

/-- A record of the update: to the physical function at severity NOTICE, or to the boot log in offline mode (R541). -/
def Dev.updFault (d : Dev) (code detail : Nat) : Dev :=
  let r := plainFault code 0 (location 0 0 0 0 0) detail
  if d.upd.offline then { d with bootLog := d.bootLog ++ [r] } else (d.fnFault 0 r).msix 0 23

/-- Slot sizes in bytes (R525). -/
def slotSize : Nat → Nat
  | 1 => 0x8_0000
  | 2 => 0x20_0000
  | 3 => 0x80_0000
  | 4 => 0x100_0000
  | 5 => 0x180_0000
  | 6 => 0x8_0000
  | 7 => 0x80_0000
  | 8 => 0x20_0000
  | _ => 0x2_0000

/-- A component ID of a manifest entry (R535). -/
def compOk (c : Nat) : Bool := decide (1 ≤ c ∧ c ≤ 8) || decide (c = 0x20)

/-- A version in a manifest: major, minor, patch as three 16-bit fields; packed with major high so that versions
compare as numbers. -/
def verAt (m : List Byte) (o : Nat) : Nat := numAt m o 2 * 2 ^ 32 + numAt m (o + 2) 2 * 2 ^ 16 + numAt m (o + 4) 2

/-- The requires list of a manifest entry. -/
def reqsAt (m : List Byte) (o : Nat) : List (Nat × Nat × Nat) :=
  (List.range (min 4 (numAt m (o + 2) 1))).map fun i =>
    let q := o + 0x20 + 16 * i
    (numAt m q 1, verAt m (q + 4), verAt m (q + 10))

/-- The first field of a manifest entry that breaks R535 or R536, by byte offset. -/
def entryFail (m : List Byte) (plen : Nat) (seen : List Nat) (o : Nat) (im : Image) : Option Nat :=
  let c := numAt m o 1
  if !compOk c || seen.contains c then some o
  else if 4 < numAt m (o + 2) 1 then some (o + 2)
  else if verAt m (o + 4) ≠ im.version then some (o + 4)
  else if numAt m (o + 0x10) 8 % 4096 ≠ 0 ∨ numAt m (o + 0x10) 8 < 0x1000 then some (o + 0x10)
  else if slotSize c < numAt m (o + 0x18) 8 ∨ plen < numAt m (o + 0x10) 8 + numAt m (o + 0x18) 8 then some (o + 0x18)
  else (((List.range (numAt m (o + 2) 1)).find? fun i =>
      let q := o + 0x20 + 16 * i
      decide (verAt m (q + 10) < verAt m (q + 4))).map fun i => o + 0x20 + 16 * i)

/-- The entries of a manifest in order, or the failing byte offset. -/
def parseEntries (m : List Byte) (plen : Nat) : Nat → List Image → List PkgEntry → Except Nat (List PkgEntry)
  | 0, _, acc => .ok acc
  | n + 1, ims, acc =>
    let o := 0x40 + 128 * acc.length
    let im := ims.headD
      { version := 0, requires := [], svn := 0, authFail := 1, record := [], signer := 0, digest := 0, commit := false, revoke := none, body := [] }
    match entryFail m plen (acc.map PkgEntry.comp) o im with
    | some f => .error f
    | none =>
      parseEntries m plen n (ims.drop 1)
        (acc ++ [{ comp := numAt m o 1, copyBoth := bit (numAt m (o + 1) 1) 0, version := verAt m (o + 4),
                   requires := reqsAt m o, image := im }])

/-- The manifest as a whole (R535, R536). -/
def parseManifest (p : Package) : Except Nat (List PkgEntry) :=
  let m := p.manifest
  if numAt m 0 4 ≠ 0x4D4E_4654 then .error 0
  else if numAt m 4 1 ≠ 1 then .error 4
  else if numAt m 5 1 < 1 ∨ 16 < numAt m 5 1 then .error 5
  else parseEntries m p.length (numAt m 5 1) p.images []

/-- The steps of a package (R537): entries equal to the version in ACTIVE are skipped; each remaining entry of
components 0x04 to 0x08 is one step, in order; the others together form the last. -/
def planOf (n : Nor) (es : List PkgEntry) : List (List PkgEntry) :=
  let es := es.filter fun e => e.version ≠ (n.marks e.comp).activeSlot.version
  let part := es.filter fun e => decide (4 ≤ e.comp ∧ e.comp ≤ 8)
  let last := es.filter fun e => !decide (4 ≤ e.comp ∧ e.comp ≤ 8)
  part.map (fun e => [e]) ++ (if last.isEmpty then [] else [last])

/-- A state of R537: component, version, requires list. -/
abbrev VerState := List (Nat × Nat × List (Nat × Nat × Nat))

def verState (n : Nor) : VerState :=
  compIds.map fun c => (c, (n.marks c).activeSlot.version, (n.marks c).activeSlot.requires)

/-- The state after a step. -/
def VerState.after (s : VerState) (step : List PkgEntry) : VerState :=
  s.map fun x => match step.find? fun (e : PkgEntry) => e.comp = x.1 with
    | some e => (x.1, e.version, e.requires)
    | none => x

/-- The first range that fails in a state: the component whose range it is, and the component it names. -/
def VerState.fail (s : VerState) : Option (Nat × Nat) :=
  s.findSome? fun x => (x.2.2.find? fun r =>
    match s.find? fun (y : Nat × Nat × List (Nat × Nat × Nat)) => y.1 = r.1 with
    | some y => decide (y.2.1 < r.2.1) || decide (r.2.2 < y.2.1)
    | none => true).map fun r => (x.1, r.1)

/-- The first step after which the state is not compatible, as the detail of UPDATE_INCOMPATIBLE (R537). -/
def planFail : VerState → Nat → List (List PkgEntry) → Option Nat
  | _, _, [] => none
  | s, k, st :: t =>
    let s := s.after st
    match s.fail with
    | some (c, y) => some (k + 256 * ((st.map PkgEntry.comp).headD 0) + 65536 * c + 2 ^ 24 * y)
    | none => planFail s (k + 1) t

/-- Reading and checking the package of the card (R535 to R537): the plan is set and writing begins, or RESULT says why
not. -/
def Dev.loadPackage (d : Dev) (offline : Bool) : Dev :=
  let fail (d : Dev) (res : Nat) : Dev := { d with upd := { d.upd with result := res, state := 0 } }
  let d := { d with upd := { d.upd with offline := offline } }
  match d.hw.card with
  | some (some p) =>
    match parseManifest p with
    | .error o => fail (d.updFault 0x0910 (o % 65536)) 5
    | .ok es =>
      if numAt p.manifest 8 8 = d.nor.pkgId ∧ p.digest = d.nor.pkgDigest ∧ p.digest ≠ 0 then fail d 9
      else
        let plan := planOf d.nor es
        match planFail (verState d.nor) 0 plan with
        | some det => fail (d.updFault 0x0902 det) 4
        | none =>
          match plan with
          | [] => { d with upd := { d.upd with result := 1, state := 0 },
                           nor := { d.nor with pkgId := numAt p.manifest 8 8, pkgDigest := p.digest } }
          | st :: _ =>
            { d with upd := { d.upd with
                state := 3, result := 0, plan := if offline then [plan.flatten] else plan, steps := plan.length, step := 0,
                component := (st.map PkgEntry.comp).headD 0, written := [], confirmed := [], resetNeeded := false,
                pkgId := numAt p.manifest 8 8, pkgDigest := p.digest } }
  | _ => fail d 3

/-- UPD_APPLY (R538, R541): an E-level write of APPLY; ignored with RESULT 0x02 unless the update is idle. -/
def fxUpdApply (d : Dev) (a : Agent) : Dev :=
  d.ifExpert a fun d =>
    if d.upd.state ≠ 0 then { d with upd := { d.upd with result := 2 } } else d.loadPackage false

/-- The image of an entry goes into the component's slot that ACTIVE does not name (R538). -/
def Nor.writeImage (n : Nor) (e : PkgEntry) : Nor :=
  let k := n.marks e.comp
  let n := n.setMarks e.comp (k.setOther
    { valid := true, version := e.version, requires := e.requires, svn := e.image.svn, signer := e.image.signer, digest := e.image.digest,
      commit := e.image.commit, revoke := e.image.revoke, body := e.image.body })
  if e.comp = 0x20 then n.setCfgSlot (1 - k.active) e.image.record else n

/-- An entry is marked: ACTIVE moves to the written slot with TRIAL set (R528, R538). -/
def Nor.markTrial (tried : Bool) (n : Nor) (e : PkgEntry) : Nor :=
  let k := n.marks e.comp
  n.setMarks e.comp { k with active := 1 - k.active, trial := true, tried := tried, copyBoth := e.copyBoth }

/-- The update ends with a result; a slot that was being written is recorded as invalid (R541). -/
def Dev.endUpdate (d : Dev) (res : Nat) (bad : Option PkgEntry) : Dev :=
  let n := match bad with
    | some e => d.nor.setMarks e.comp ((d.nor.marks e.comp).setOther { (d.nor.marks e.comp).otherSlot with valid := false })
    | none => d.nor
  { d with nor := n, upd := { d.upd with state := 0, result := res, resetNeeded := false, plan := [], written := [], confirmed := [] } }

/-- The first check of R423 that an image fails, 0 when it passes all: the key and the security version are checked
against the fuses, the rest is what the image's bytes give. A configuration record carries no signature (R535). -/
def Fuses.imageFail (f : Fuses) (comp signer svn given : Nat) : Nat :=
  if comp = 0x20 then given
  else if given = 1 then 1
  else if given = 2 ∨ !((List.range 4).any fun i => decide (Tab.get 0 f.keyHash i = signer) && !bit f.keyRevoke i) then 2
  else if given = 3 ∨ given = 4 then given
  else if svn < Tab.get 0 f.svn comp then 5
  else given

/-- The catalogue of a kernel-package body from entry i on (R427): an entry of length 0 ends it. -/
def catalogue (body : List Byte) : Nat → Nat → List RegEntry
  | 0, _ => []
  | n + 1, i =>
    let len := numAt body (16 * i + 2) 4
    if len = 0 then []
    else
      let b := bytesAt body (numAt body (16 * i + 6) 4) (min len 131072)
      { kid := numAt body (16 * i) 2, bytes := b, digest := beNat (sha256 b) } :: catalogue body n (i + 1)

/-- The registry that a kernel-package body gives (R427). -/
def registryOf (body : List Byte) : List RegEntry := catalogue body 256 0

/-- The image in a slot runs: its measurement entry, and for kernel packages the registry (R424, R427, R432). -/
def Dev.measure (d : Dev) (comp slot : Nat) : Dev :=
  let k := d.nor.marks comp
  let i := if slot = 0 then k.slotA else k.slotB
  let s := { d.sec with meas := Tab.set d.sec.meas (comp + 1) { comp := comp, svn := i.svn, slot := slot, version := i.version, digest := i.digest } }
  { d with sec := if comp = 5 then { s with registry := registryOf i.body } else s }

/-- A confirmed image with COMMIT_SVN and an SVN above the fused count makes a raise pending (R426). -/
def Dev.noteSvn (d : Dev) (comp : Nat) : Dev :=
  let i := (d.nor.marks comp).activeSlot
  if i.commit && decide (Tab.get 0 d.fuses.svn comp < i.svn) then
    { d with nor := { d.nor with svnPending := (d.nor.svnPending.filter fun p => p.1 ≠ comp) ++ [(comp, i.svn)] } }
  else d

/-- UPDATE_IMAGE_WRITTEN (R538, R540, R541): the next image of the step has been read, verified, written and read back;
`res` is 0 when all went well, 1 for a card error, 2 for a NOR failure. When a step's images are written it is marked:
a partial component is activated; the last step, and an offline package, waits for its device reset. -/
def fxUpdateImageWritten (d : Dev) (res : Nat) : Dev :=
  if d.upd.state ≠ 3 then d
  else match d.upd.plan with
    | [] => d
    | step :: _ =>
      match step.drop d.upd.written.length with
      | [] => d
      | e :: rest =>
        let slot := 1 - (d.nor.marks e.comp).active
        if res ≠ 0 then (d.updFault 0x090F (if res = 1 then 0 else 1)).endUpdate 6 (some e)
        else if d.fuses.imageFail e.comp e.image.signer e.image.svn e.image.authFail ≠ 0 then
          (d.updFault 0x070A (d.fuses.imageFail e.comp e.image.signer e.image.svn e.image.authFail + 256 * e.comp + 65536 * slot)).endUpdate 7 none
        else
          let d := { d with nor := d.nor.writeImage e, upd := { d.upd with written := d.upd.written ++ [e] } }
          if !rest.isEmpty then { d with upd := { d.upd with component := (rest.map PkgEntry.comp).headD 0 } }
          else if d.upd.offline then
            let d := { d with nor := { (d.upd.written.foldl (Nor.markTrial false) d.nor) with fails := 0 },
                              upd := { d.upd with state := 5, written := [] } }
            d.requestReset 0x0A
          else if step.all fun (e : PkgEntry) => decide (4 ≤ e.comp ∧ e.comp ≤ 8) then
            let d := { d with nor := d.upd.written.foldl (Nor.markTrial true) d.nor, upd := { d.upd with state := 4, written := [], confirmed := [] } }
            step.foldl (fun (d : Dev) (e : PkgEntry) => d.measure e.comp (d.nor.marks e.comp).active) d
          else
            ({ d with nor := d.upd.written.foldl (Nor.markTrial false) d.nor,
                      upd := { d.upd with state := 5, written := [], resetNeeded := true } } : Dev).msix 0 23

/-- The parts that activate a component's new image: partial-reset kind and how many (R538). -/
def partsOf : Nat → Nat × Nat
  | 4 => (6, 32)
  | 5 => (1, 128)
  | 6 => (3, 128)
  | 7 => (5, 12)
  | _ => (4, 96)

/-- A part that ran its activation has confirmed. -/
def Upd.confirm (u : Upd) (kind idx : Nat) : Upd :=
  if u.state = 4 then { u with confirmed := if u.confirmed.contains (256 * kind + idx) then u.confirmed else u.confirmed ++ [256 * kind + idx] } else u

/-- Every part of the present step has confirmed. -/
def Upd.allConfirmed (u : Upd) (comp : Nat) : Bool :=
  (List.range (partsOf comp).2).all fun i => u.confirmed.contains (256 * (partsOf comp).1 + i)

/-- A confirmation clears TRIAL and TRIED, and writes an owed COPY_BOTH image into the other slot (R528, R540). -/
def Nor.confirmComp (n : Nor) (comp : Nat) : Nor :=
  let k := n.marks comp
  if !k.trial then n
  else
    let k' := { k with trial := false, tried := false, copyBoth := false }
    let k' := if k.copyBoth then k'.setOther k.activeSlot else k'
    let n := n.setMarks comp k'
    if comp = 0x20 && k.copyBoth then n.setCfgSlot (1 - k.active) (n.cfgSlot k.active) else n

/-- UPDATE_STEP_CONFIRM (R538): every part of the step has confirmed; the next step begins, or the package is applied
in full. -/
def fxUpdateStepConfirm (d : Dev) : Dev :=
  if d.upd.state ≠ 4 then d
  else match d.upd.plan with
    | [] => d
    | step :: rest =>
      if step.all fun (e : PkgEntry) => d.upd.allConfirmed e.comp then
        let d := { d with nor := step.foldl (fun (n : Nor) (e : PkgEntry) => n.confirmComp e.comp) d.nor }
        let d := (step.foldl (fun (d : Dev) (e : PkgEntry) => d.noteSvn e.comp) d).msix 0 23
        match rest with
        | [] =>
          { d with nor := { d.nor with pkgId := d.upd.pkgId, pkgDigest := d.upd.pkgDigest },
                   upd := { d.upd with state := 0, result := 1, plan := [], confirmed := [] } }
        | st :: _ =>
          { d with upd := { d.upd with state := 3, plan := rest, step := d.upd.step + 1, written := [], confirmed := [],
                                       component := (st.map PkgEntry.comp).headD 0 } }
      else d

/-- UPDATE_WINDOW_MISS (R539): a part missed its window; ACTIVE returns to the previous slot and the update stops. -/
def fxUpdateWindowMiss (d : Dev) : Dev :=
  if d.upd.state ≠ 4 then d
  else match d.upd.plan with
    | [] => d
    | step :: _ =>
      (step.foldl (fun d e =>
        let k := d.nor.marks e.comp
        (({ d with nor := d.nor.setMarks e.comp k.fallback }).measure e.comp k.fallback.active).updFault 0x0903
          (healthFault e.comp k).detail) d).endUpdate 8 none

/-- UPDATE_DEVICE_RESET (R538): the last step's device reset, once no job of any function is outstanding. -/
def fxUpdateDeviceReset (d : Dev) : Dev :=
  if d.upd.resetNeeded && d.jobs.isEmpty then d.requestReset 0x0A else d

/-- UPD_RESET_NOW (R538, R543): an E-level write makes the pending reset at once. -/
def fxUpdResetNow (d : Dev) (a : Agent) : Dev :=
  d.ifExpert a fun d => if d.upd.resetNeeded then d.requestReset 0x0A else d

/-- CARD_INSERT (R497, R572): a debounced insertion; in Lodestar mode the package is applied. -/
def fxCardInsert (d : Dev) (p : Option Package) : Dev :=
  if d.hw.card.isSome then d
  else
    let d := { d with hw := { d.hw with card := some p } }
    if d.rst.lodestar && decide (d.upd.state = 0) then d.loadPackage true else d

/-- CARD_REMOVE (R541, R572): a card removed during a read ends the update. -/
def fxCardRemove (d : Dev) : Dev :=
  let d := { d with hw := { d.hw with card := none } }
  if d.upd.state = 1 ∨ d.upd.state = 2 ∨ d.upd.state = 3 then
    (d.updFault 0x090F 0).endUpdate 6 (match d.upd.plan with
      | st :: _ => (st.drop d.upd.written.length).head?
      | [] => none)
  else d

end Sys2Proof.Machine
end

