-- ==== Sys2Proof/Machine/Security.lean ====
section
/-! DEFINITION. Root of trust, kernel loads, attestation, SPDM and the big-number engine (R155 to R157, R419 to R449). -/

namespace Sys2Proof.Machine

/-! ### The boot chain (R423 to R427) -/

/-- The check of R423 that the image in a slot of a component fails, 0 when it passes all. `given` is what the bytes in NOR
give for checks 1, 3, 4 and 6, by 2·component + slot. -/
def Dev.slotFail (d : Dev) (given : List (Nat × Nat)) (comp slot : Nat) : Nat :=
  let k := d.nor.marks comp
  let i := if slot = 0 then k.slotA else k.slotB
  let g := match given.find? fun p => p.1 = 2 * comp + slot with | some p => p.2 | none => 0
  if i.valid then d.fuses.imageFail comp i.signer i.svn g else 1

/-- IMAGE_AUTH in the boot log (R423). -/
def Dev.authLog (d : Dev) (check comp slot : Nat) : Dev :=
  { d with bootLog := d.bootLog ++ [plainFault 0x070A 0 secLoc (check + 256 * comp + 65536 * slot)] }

/-- A stage starts a component: the slot marked active first, then the other (R424, R528). The slot that runs. -/
def Dev.bootComp (d : Dev) (given : List (Nat × Nat)) (comp : Nat) : Dev × Option Nat :=
  let k := d.nor.marks comp
  let s := k.active
  let bad := d.slotFail given comp s
  if bad = 0 then
    let d := if k.trial then { d with nor := d.nor.setMarks comp { k with tried := true } } else d
    (d.measure comp s, some s)
  else
    let d := d.authLog bad comp s
    let bad := d.slotFail given comp (1 - s)
    if bad = 0 then
      let d := if k.trial then
          { d with nor := d.nor.setMarks comp k.fallback, bootLog := d.bootLog ++ [healthFault comp k] }
        else d
      (d.measure comp (1 - s), some (1 - s))
    else (d.authLog bad comp (1 - s), none)

/-- An image of the service card runs: its measurement entry (R425). -/
def Dev.bootCard (d : Dev) (comp : Nat) (im : Option Image) : Dev × Bool :=
  match im with
  | none => (d, false)
  | some i =>
    let bad := d.fuses.imageFail comp i.signer i.svn i.authFail
    if bad ≠ 0 then (d.authLog bad comp 0, false)
    else (d.updSec fun x => { x with meas := Tab.set x.meas (comp + 1) { comp := comp, svn := i.svn, slot := 0, version := i.version, digest := i.digest } }, true)

/-- The slot of the key that verified an image (R445). -/
def Fuses.keySlot (f : Fuses) (signer : Nat) : Nat :=
  ((List.range 4).find? fun i => decide (Tab.get 0 f.keyHash i = signer) && !bit f.keyRevoke i).getD 0

/-- A new P-384 key pair: private key and public point (R359, R419). -/
def drawPair (r : Nat) : Nat × (Nat × Nat) :=
  let k := 1 + r % (p384.n - 1)
  (k, (p384.mul k p384.gen).getD (0, 0))

/-- The SPDM and slot-wrapping keys are drawn, and every slot shows a nonce (R359, R424). -/
def Dev.drawKeys (d : Dev) : Dev :=
  let (a, d) := d.draw
  let (b, d) := d.draw
  let k := drawPair a
  let w := drawPair b
  let d := d.updSec fun x => { x with spdmKey := some k.1, spdmPub := k.2, wrapKey := some w.1, wrapPub := w.2 }
  d.forAll (List.range 8) Dev.emptySlot

/-- Pending raises are burnt where both slots verify with an SVN at least that high (R426). -/
def Dev.burnSvn (d : Dev) (given : List (Nat × Nat)) : Dev :=
  d.nor.svnPending.foldl (fun d p =>
    let k := d.nor.marks p.1
    if d.slotFail given p.1 0 = 0 ∧ d.slotFail given p.1 1 = 0 ∧ p.2 ≤ k.slotA.svn ∧ p.2 ≤ k.slotB.svn then
      { d with fuses := { d.fuses with svn := Tab.set d.fuses.svn p.1 (max (Tab.get 0 d.fuses.svn p.1) (min 64 p.2)) },
               nor := { d.nor with svnPending := d.nor.svnPending.filter fun q => q.1 ≠ p.1 } }
    else d) d

/-- A request for a report cannot be served: no index remains, or the module has no identity key (R421, R431). -/
def Dev.exhausted (d : Dev) : Bool := decide (2 ^ 40 ≤ d.sec.nextIndex) || decide (d.fuses.lifecycle = 7)

/-- BOOT_STAGE (R424 to R427): the stage of the running software. Stage 1, the ROM, verifies the loader, or takes the service
card's, or halts; stage 2, the loader, the security firmware; stage 3, the security firmware, every other component. -/
def fxBootStage (d : Dev) (given : List (Nat × Nat)) (loader fw : Option Image) : Dev :=
  if d.rst.hold || d.rst.romHalt || !d.rst.strapDone then d
  else match d.sec.stage with
  | 1 =>
    let d := d.updSec fun x => { x with meas := Tab.set x.meas 1 { comp := 0, svn := 0, slot := 0, version := 0, digest := Config.romDigest % 2 ^ 384 } }
    match d.bootComp given 1 with
    | (d, some _) => d.updSec fun x => { x with stage := 2 }
    | (d, none) =>
      match d.bootCard 1 loader with
      | (d, true) => d.updSec fun x => { x with stage := 2, fromCard := true }
      | (d, false) => { d with rst := { d.rst with romHalt := true } }
  | 2 =>
    if !d.rst.steps.contains 3 then d
    else
      let run (d : Dev) (signer : Nat) : Dev :=
        ({ d with nor := { d.nor with startCount := (d.nor.startCount + 1) % 2 ^ 32 } }).updSec fun x =>
          { x with stage := 3, keySlot := d.fuses.keySlot signer }
      match d.bootComp given 2 with
      | (d, some s) => run d (if s = 0 then (d.nor.marks 2).slotA else (d.nor.marks 2).slotB).signer
      | (d, none) =>
        if d.sec.fromCard then
          match d.bootCard 2 fw with
          | (d, true) => run d ((fw.map Image.signer).getD 0)
          | (d, false) => d
        else d
  | 3 =>
    if !d.rst.steps.contains 4 ∨ d.rst.lodestar then d
    else
      let d := [3, 6, 7, 8, 4, 5].foldl (fun (d : Dev) c => (d.bootComp given c).1) d
      let d := (d.drawKeys).burnSvn given
      let d := if 2 ^ 40 ≤ d.sec.nextIndex then { d with bootLog := d.bootLog ++ [plainFault 0x0702 0 secLoc 0] } else d
      d.updSec fun x => { x with stage := 4 }
  | _ => d

/-- A component has passed verification in this start (R424, R494). -/
def Dev.verified (d : Dev) (comp : Nat) : Bool := d.sec.meas.any fun p => p.1 = comp + 1

/-! ### Kernel loads (R155 to R157, R172, R173, R427) -/

/-- Partitions a register access may name: those of the job of an application core, else those granted to the function
(R428). -/
def Dev.agentParts (d : Dev) (a : Agent) : Nat :=
  match a with
  | .app k => match (d.app k.val).job.bind d.job with | some j => j.partMask | none => 0
  | _ => match d.agentFn a with | some f => d.grantParts f | none => 0

/-- A load begins: the bank holds no kernel while it runs (R156). -/
def Core.beginLoad (c : Core) (l : KLoad) : Core :=
  { c with load := some l, banks := Tab.set c.banks l.bank { state := 1, kid := 0, code := [] } }

/-- A write of SEQ_KLOAD_CTRL (R156, R157, R172). -/
def Dev.kloadWrite (d : Dev) (g v : Nat) (a : Agent) : Dev :=
  let c := d.core g
  let f := (d.agentFn a).getD 0
  let d := if bit v 3 && !d.expert a then d.deny a else d
  let force := bit v 3 && d.expert a
  let len := fld v 32 12
  let bank := fld v 1 1
  if bit v 0 && (c.load.isSome || c.forceWait.isSome) then d
  else
    let d := d.updCore g fun c => { c with kloadLen := len, kloadBank := bank }
    if !bit v 0 then d
    else if bank = c.active ∧ !force then
      (d.updCore g fun c => { c with loadErr := 1 }).fnFault f (plainFault 0x0402 0 (coreLoc g) 0)
    else if len = 0 ∨ 2048 < len ∨ (d.mem.partFor (d.agentParts a) c.kloadAddr (64 * len)).isNone then
      d.updCore g fun c => { c with loadErr := 4 }
    else
      let l : KLoad := { bank := bank, addr := c.kloadAddr, bytes := 64 * len, force := force && decide (bank = c.active), fn := f,
                         registry := d.sec.registry }
      d.updCore g fun c => if l.force && c.seq.running.isSome then { c with forceWait := some l } else c.beginLoad l

/-- KLOAD_GO (R156, R172). -/
def fxKloadGo (d : Dev) (g v : Nat) (a : Agent) : Dev := d.kloadWrite g (withBit v 0 true) a
/-- KLOAD_FORCE (R157): GO with FORCE. -/
def fxKloadForce (d : Dev) (g v : Nat) (a : Agent) : Dev := d.kloadWrite g (withBit (withBit v 0 true) 3 true) a

/-- KLOAD_DONE (R156, R157, R427): the landed bytes are compared with the registry that was valid when the load began. DESIGN CHOICE
(log 194): of a load longer than the registered package the digest covers the package's length. -/
def fxKloadDone (d : Dev) (g : Nat) : Dev :=
  match (d.core g).load with
  | none => d
  | some l =>
    let fail (d : Dev) (err : Nat) : Dev :=
      d.updCore g fun c => { c with load := none, loadErr := err, banks := Tab.set c.banks l.bank { state := 0, kid := 0, code := [] } }
    if d.mem.resetting l.addr l.bytes then d else
    let p := (d.mem.partAt l.addr).getD 0
    let d := d.updMem fun m => m.updPart p fun q => q.charge l.bytes
    match d.hbmRead l.addr l.bytes with
    | (d, .error atom) => (fail d 2).fnFault l.fn (plainFault 0x0501 1 (coreLoc g) atom)
    | (d, .ok b) =>
      let kid := Config.packageKid b % 65536
      match l.registry.find? fun (e : RegEntry) => e.kid = kid with
      | none => fail d 3
      | some e =>
        if l.bytes < e.bytes.length ∨ beNat (sha256 (b.take e.bytes.length)) ≠ e.digest then fail d 2
        else
          let code := (List.range (cdiv e.bytes.length 64)).map fun i => numAt (b.take e.bytes.length) (64 * i) 64
          d.updCore g fun c => { c with load := none, banks := Tab.set c.banks l.bank { state := 2, kid := kid, code := code } }

/-- SEC_KCOPY_GO (R428, R447): a write of SEC_KCOPY_CTRL by the physical function or the monitor for a job. -/
def fxSecKcopyGo (d : Dev) (v : Nat) (a : Agent) : Dev :=
  if !bit v 0 then d.updSec fun x => { x with kcopyKid := fld v 32 16 }
  else if d.sec.kcopy.isSome then d.updSec fun x => { x with kcopyRes := 3 }
  else
    let kid := fld v 32 16
    let d := d.updSec fun x => { x with kcopyKid := kid }
    match d.sec.registry.find? fun (e : RegEntry) => e.kid = kid with
    | none => d.updSec fun x => { x with kcopyRes := 1 }
    | some e =>
      if (d.mem.partFor (d.agentParts a) d.sec.kcopyDst (max 1 e.bytes.length)).isNone then d.updSec fun x => { x with kcopyRes := 2 }
      else d.updSec fun x => { x with kcopy := some { kid := kid, dst := x.kcopyDst, parts := d.agentParts a } }

/-- KCOPY_DONE (R428): the registered bytes stand at the destination. -/
def fxKcopyDone (d : Dev) : Dev :=
  match d.sec.kcopy with
  | none => d
  | some k =>
    let b := match d.sec.registry.find? fun (e : RegEntry) => e.kid = k.kid with | some e => e.bytes | none => []
    let d := match d.mem.partFor k.parts k.dst (max 1 b.length) with
      | some p => d.hbmWrite p none k.dst b
      | none => d
    d.updSec fun x => { x with kcopy := none, kcopyLen := b.length, kcopyRes := 0 }

/-! ### Signature indices (R429 to R431) -/

/-- RESERVATION_LOG_WRITE (R429, R430): the entry of the next block, written when at most 256 indices of the present block
remain; three failures in a row stop signing until a write succeeds. -/
def fxReservationLogWrite (d : Dev) (ok : Bool) : Dev :=
  if d.sec.stage < 3 ∨ 256 < 1024 * d.nor.logBlocks - d.sec.nextIndex ∨ 2 ^ 30 ≤ d.nor.logBlocks then d
  else if ok then
    ({ d with nor := { d.nor with logBlocks := d.nor.logBlocks + 1 } }).updSec fun x => { x with logFails := 0, logErr := false }
  else d.updSec fun x => { x with logFails := x.logFails + 1, logErr := x.logErr || decide (3 ≤ x.logFails + 1) }

/-! ### SPDM and attestation (R379, R432 to R435) -/

/-- SPDM error codes (the SPDM 1.2 standard): InvalidRequest, Busy, UnexpectedRequest, SessionLimitExceeded,
SessionRequired, ResponseNotReady, vendor-defined. -/
def spdmInvalid : Nat := 0x01
def spdmBusy : Nat := 0x03
def spdmUnexpected : Nat := 0x04
def spdmSessionLimit : Nat := 0x0A
def spdmSessionRequired : Nat := 0x0B
def spdmNotReady : Nat := 0x42

/-- The responder answers while security firmware runs and the PCIe link is up; vector 18 says that a response is ready
(R379, R396). -/
def Dev.spdm (d : Dev) (eff : Dev → Dev) : Dev :=
  if 3 ≤ d.sec.stage ∧ d.rst.pcie = 1 then (eff d).msix 0 18 else d

/-- GET_VERSION (R434): SPDM 1.2. -/
def fxGetVersion (d : Dev) : Dev :=
  d.spdm fun d => (d.updSec fun x => { x with spdm := 1 }).emit (.response 0x04 (leBytes 2 0x1200))

/-- GET_CAPABILITIES (R434): PUB_KEY_ID_CAP, CHAL_CAP, MEAS_CAP with signatures, KEY_EX_CAP, ENCRYPT_CAP, MAC_CAP and
CHUNK_CAP; neither CERT_CAP nor MUT_AUTH_CAP. The bit positions are the SPDM standard's. -/
def fxGetCapabilities (d : Dev) : Dev :=
  d.spdm fun d =>
    if d.sec.spdm < 1 then d.emit (.error spdmUnexpected)
    else (d.updSec fun x => { x with spdm := max 2 x.spdm }).emit
      (.response 0x61 (leBytes 4 (2 ^ 2 + 2 * 2 ^ 3 + 2 ^ 6 + 2 ^ 7 + 2 ^ 9 + 2 ^ 17 + 2 ^ 18)))

/-- NEGOTIATE_ALGORITHMS (R379, R434): ECDSA P-384, SHA-384, ECDHE P-384 and AES-256-GCM are selected when the requester
offers them. -/
def fxNegotiateAlgorithms (d : Dev) (offered : Bool) : Dev :=
  d.spdm fun d =>
    if d.sec.spdm < 2 then d.emit (.error spdmUnexpected)
    else if !offered then d.emit (.error spdmInvalid)
    else (d.updSec fun x => { x with spdm := 3 }).emit (.response 0x63 ((List.range 36).map fun i => Config.spdmByte 0x63 i))

/-- A signature with the SPDM key over a transcript hash: r then s. -/
def Dev.spdmSign (d : Dev) (hash : Nat) : Dev × List Byte :=
  let (r, d) := d.draw
  match p384.sign (d.sec.spdmKey.getD 1) hash (1 + r % (p384.n - 1)) with
  | some (r, s) => (d, beBytes 48 r ++ beBytes 48 s)
  | none => (d, List.replicate 96 0)

/-- KEY_EXCHANGE (R379, R434, R435): with SlotID 0xFF; `hash` is the hash of the transcript that is signed. -/
def fxKeyExchange (d : Dev) (slot hash : Nat) : Dev :=
  d.spdm fun d =>
    if d.rst.lodestar ∨ d.sec.spdm < 3 then d.emit (.error spdmUnexpected)
    else if d.sec.spdmKey.isNone then d.emit (.error spdmNotReady)
    else if slot ≠ 0xFF then d.emit (.error spdmInvalid)
    else if 4 ≤ d.sec.sessions.length then d.emit (.error spdmSessionLimit)
    else
      let sid := d.sec.nextSid
      let (e, d) := d.draw
      let pub := (drawPair e).2
      let (d, sig) := d.spdmSign hash
      (d.updSec fun x => { x with sessions := x.sessions ++ [{ sid := sid, established := false }], nextSid := sid % 65535 + 1 }).emit
        (.response 0x64 (leBytes 2 sid ++ beBytes 48 pub.1 ++ beBytes 48 pub.2 ++ sig))

/-- A session is established (R434). -/
def Sec.session (x : Sec) (sid : Nat) : Bool := x.sessions.any fun (s : Session) => decide (s.sid = sid) && s.established

/-- A message that is carried inside a secured session only (R377, R434): IDE_KM and TDISP. -/
def Dev.secured (d : Dev) (eff : Dev → Dev) : Dev :=
  if d.sec.sessions.any Session.established then eff d else d.emit (.error spdmSessionRequired)

/-- FINISH (R434): `ok` says that its verify data is right. -/
def fxFinish (d : Dev) (sid : Nat) (ok : Bool) : Dev :=
  d.spdm fun d =>
    if !(d.sec.sessions.any fun (s : Session) => decide (s.sid = sid) && !s.established) then d.emit (.error spdmUnexpected)
    else if !ok then
      (d.updSec fun x => { x with sessions := x.sessions.filter fun (s : Session) => s.sid ≠ sid }).emit (.error 0x06)
    else (d.updSec fun x => { x with sessions := x.sessions.map fun (s : Session) => if s.sid = sid then { s with established := true } else s }).emit
      (.response 0x65 [])

/-- VERSION as a header spells it: major, minor and patch, 2 bytes each (R422). -/
def versionBytes (v : Nat) : List Byte := leBytes 2 (v / 2 ^ 32) ++ leBytes 2 (v / 2 ^ 16) ++ leBytes 2 v

/-- Measurement entry i of the running start (R432, R447): the configuration record and the fuse state are hashed as they
stand. -/
def Dev.measEntry (d : Dev) (i : Nat) : List Byte :=
  let m : Meas :=
    if i = 10 then { comp := 0x20, svn := 0, slot := d.cfg.slot, version := recVersion d.cfg.record,
                     digest := if d.cfg.record.isEmpty then 0 else beNat (sha384 d.cfg.record) }
    else if i = 11 then { comp := 0, svn := 0, slot := 0, version := 0,
                          digest := beNat (sha384 (leBytes 1 d.fuses.keyRevoke ++
                            ((List.range 8).map fun c => BitVec.ofNat 8 (Tab.get 0 d.fuses.svn (c + 1))) ++ leBytes 1 d.fuses.lifecycle)) }
    else Tab.get Meas.reset d.sec.meas i
  leBytes 1 i ++ leBytes 1 m.comp ++ leBytes 1 m.svn ++ leBytes 1 m.slot ++ versionBytes m.version ++ List.replicate 6 0 ++ beBytes 48 m.digest

/-- The 11 entries (SEC_MEAS). -/
def Dev.measBytes (d : Dev) : List Byte := (List.range 11).flatMap fun i => d.measEntry (i + 1)

/-- GET_MEASUREMENTS (R434): inside a session, signed with the SPDM key over the transcript's hash. -/
def fxGetMeasurements (d : Dev) (sid hash : Nat) : Dev :=
  d.spdm fun d =>
    if !d.sec.session sid then d.emit (.error spdmSessionRequired)
    else
      let (d, sig) := d.spdmSign hash
      d.emit (.response 0x60 (d.measBytes ++ sig))

/-- An uncompressed P-384 point. -/
def pointBytes (p : Nat × Nat) : List Byte := [4] ++ beBytes 48 p.1 ++ beBytes 48 p.2

/-- Bytes 0x000 to 0x47F of an attestation report (R432). -/
def Dev.reportBody (d : Dev) (nonce : List Byte) : List Byte :=
  let anyExpert := (List.range 64).any fun f => (Tab.get Grant.none d.grants f).expert
  let flags := b2n d.rst.lodestar + 2 * b2n anyExpert + 4 * b2n d.pdd.feedWarn
  leBytes 4 0x4154_5354 ++ leBytes 2 1 ++ leBytes 2 flags ++ leBytes 4 4756 ++ leBytes 4 d.nor.startCount ++ leBytes 8 d.fuses.uid ++
    leBytes 2 d.lane.devId ++ leBytes 1 d.fuses.lifecycle ++ leBytes 1 (d.fuses.keyRevoke % 16 + 16 * d.sec.keySlot) ++ List.replicate 4 0 ++
    bytesAt nonce 0 32 ++ leBytes 8 d.sec.nextIndex ++ leBytes 8 d.aon0 ++ pointBytes d.sec.spdmPub ++ pointBytes d.sec.wrapPub ++
    List.replicate 14 0 ++ d.measBytes ++ List.replicate 32 0 ++
    ((List.range 8).map fun c => BitVec.ofNat 8 (Tab.get 0 d.fuses.svn (c + 1))) ++ List.replicate 56 0 ++
    ((List.range 60).map Config.idPub) ++ List.replicate 4 0

/-- GET_REPORT (R431, R433): one index for each report, at most 100 a second; an index is used only when its block is
logged (R429). -/
def fxGetReport (d : Dev) (nonce : List Byte) : Dev :=
  d.spdm fun d =>
    let recent := d.sec.reports.filter fun t => decide (d.aon0 < t + 25_000_000)
    if d.exhausted then d.emit (.error (0xFF + 256 * 0x0702))
    else if 100 ≤ recent.length ∨ d.sec.logErr ∨ 1024 * d.nor.logBlocks ≤ d.sec.nextIndex then d.emit (.error spdmBusy)
    else
      let body := d.reportBody nonce
      let q := d.sec.nextIndex
      let sig := (List.range 3604).map fun i => Config.idSignature d.fuses.uds q body i
      (d.updSec fun x => { x with nextIndex := q + 1, reports := recent ++ [d.aon0] }).emit (.response 0x01 (body ++ sig))

/-- GET_DEVICE_CERT (R433): bytes of the device identity certificate. -/
def fxGetDeviceCert (d : Dev) (off len : Nat) : Dev :=
  d.spdm fun d => d.emit (.response 0x02 ((List.range (min len (Config.certLength - off))).map fun i => Config.certByte (off + i)))

/-! ### Big-number engine (R436 to R443) -/

def Dev.updBne (d : Dev) (u : Bne → Bne) : Dev := d.updSec fun x => { x with bne := u x.bne }

/-- BNE_REQ_PUSH (R436): a push to a full queue is discarded and sets OVERFLOW. -/
def fxBneReqPush (d : Dev) (rcd : List Byte) : Dev :=
  d.updBne fun b => if b.queue.length < 16 then { b with queue := b.queue ++ [bytesAt rcd 0 64] } else { b with overflow := true }

/-- Lengths of the input and output blocks of an operation with operand length `L` bytes; none for an undefined pair of OP
and BITS (R436, R437). -/
def bnBlocks (op bits : Nat) : Option (Nat × Nat) :=
  let n := bits / 8
  if bits = 256 ∨ bits = 384 then
    match op with
    | 1 => some (3 * n, n)
    | 2 => some (n, 2 * n)
    | 3 => some (2 * n, 2 * n)
    | 4 => some (5 * n, 8)
    | _ => none
  else if bits = 2048 ∨ bits = 3072 ∨ bits = 4096 then
    match op with
    | 0x11 => some (2 * n + 4, n)
    | 0x12 => some (5 * (n / 2) + n, n)
    | _ => none
  else none

/-- The first field that breaks the form of a request (R439). -/
def bnFormFail (r : List Byte) : Option Nat :=
  let op := numAt r 0 1
  let bad (off : Nat) : Bool := decide (numAt r off 8 % 8 ≠ 0)
  if !(List.contains [1, 2, 3, 4, 0x11, 0x12] op) then some 0x00
  else if numAt r 1 1 ≠ 0 then some 0x01
  else if (bnBlocks op (numAt r 2 2)).isNone then some 0x02
  else if numAt r 4 4 ≠ 0 then some 0x04
  else if bad 0x08 then some 0x08
  else if bad 0x10 then some 0x10
  else if bad 0x18 then some 0x18
  else if numAt r 0x28 24 ≠ 0 then some 0x28
  else none

/-- A block address may be used: a host address, or a device address inside the physical function's partitions (R436,
R439). -/
def Dev.bnAddrOk (d : Dev) (a len : Nat) : Bool := bit a 63 || (d.mem.partFor (d.grantParts 0) a len).isSome

/-- Bytes written to a block (R438). -/
def Dev.bnWrite (d : Dev) (a : Nat) (b : List Byte) : Dev :=
  if bit a 63 then d.hostWrite 0 (a % 2 ^ 63) b
  else match d.mem.partFor (d.grantParts 0) a b.length with
    | some p => d.hbmWrite p none a b
    | none => d

/-- The DONE word of a request (R436); a DONE address that the request's own check refuses receives nothing. -/
def Dev.bnDone (d : Dev) (r : List Byte) (code : Nat) : Dev :=
  let a := numAt r 0x18 8
  if a % 8 = 0 ∧ d.bnAddrOk a 8 then d.bnWrite a (leBytes 8 (code + 65536 * numAt r 0x20 4 + 2 ^ 63)) else d

def Dev.bnFault (d : Dev) (code detail : Nat) : Dev := d.fnFault 0 (plainFault code 1 secLoc detail)

/-- BNE_REQUEST_START (R436, R438, R439): the next request is taken; one that breaks the form or names an address outside the
partitions ends before the fetch. -/
def fxBneRequestStart (d : Dev) : Dev :=
  let b := d.sec.bne
  match b.queue with
  | [] => d
  | r :: rest =>
    if b.state ≠ 0 then d
    else
      let d := d.updBne fun b => { b with queue := rest }
      let ended (d : Dev) (code detail : Nat) : Dev :=
        ((d.bnDone r code).bnFault code detail).updBne fun b => { b with reqCnt := satAdd 64 b.reqCnt 1 }
      match bnFormFail r with
      | some off => ended d 0x0708 off
      | none =>
        let l := (bnBlocks (numAt r 0 1) (numAt r 2 2)).getD (0, 0)
        match [(numAt r 0x08 8, l.1), (numAt r 0x10 8, l.2), (numAt r 0x18 8, 8)].find? fun p => !d.bnAddrOk p.1 p.2 with
        | some p => ended d 0x0502 p.1
        | none => d.updBne fun b => { b with state := 1, run := some { rcd := r, operands := [], discard := false } }

/-- BNE_FETCH_DONE (R438, R440): the operands have been read. For a host block `host` is what the completions carried, or the
address at which one had Unsupported Request or Completer Abort status. -/
def fxBneFetchDone (d : Dev) (host : List Byte) (bad : Option Nat) : Dev :=
  match d.sec.bne.run with
  | none => d
  | some r =>
    if d.sec.bne.state ≠ 1 then d
    else
      let a := numAt r.rcd 0x08 8
      let len := ((bnBlocks (numAt r.rcd 0 1) (numAt r.rcd 2 2)).getD (0, 0)).1
      let fail (d : Dev) (code detail : Nat) : Dev :=
        ((if r.discard then d else d.bnDone r.rcd code).bnFault code detail).updBne fun b => { b with state := 4 }
      if bit a 63 then
        match bad with
        | some at' => fail d 0x0709 at'
        | none => d.updBne fun b => { b with state := 2, run := some { r with operands := bytesAt host 0 len } }
      else if d.mem.resetting a len then d
      else match d.hbmRead a len with
        | (d, .error atom) => fail d 0x0501 atom
        | (d, .ok b) => d.updBne fun x => { x with state := 2, run := some { r with operands := b } }

/-- The result of a curve operation, none for an invalid input (R437); `k` is the number ECDSA_SIGN draws. -/
def Curve.run (c : Curve) (op : Nat) (i : List Byte) (k : Nat) : Option (List Byte) :=
  let f (j : Nat) : Nat := beNat (bytesAt i (c.len * j) c.len)
  let scalar (d : Nat) : Bool := decide (1 ≤ d ∧ d < c.n)
  match op with
  | 1 => if scalar (f 0) then (c.ecdh (f 0) (f 1) (f 2)).map (beBytes c.len) else none
  | 2 => if scalar (f 0) then (c.mul (f 0) c.gen).map fun p => beBytes c.len p.1 ++ beBytes c.len p.2 else none
  | 3 => if scalar (f 0) then (c.sign (f 0) (f 1) (1 + k % (c.n - 1))).map fun p => beBytes c.len p.1 ++ beBytes c.len p.2 else none
  | _ =>
    if c.on (f 0) (f 1) && scalar (f 3) && scalar (f 4) then some (leBytes 8 (b2n (c.verify (f 0) (f 1) (f 2) (f 3) (f 4)))) else none

/-- RSA_PUB and RSA_CRT on operands of n bytes (R437). -/
def rsaPub (n : Nat) (i : List Byte) : Option (List Byte) :=
  let m' := beNat (bytesAt i 0 n)
  let e := beNat (bytesAt i n 4)
  let m := beNat (bytesAt i (n + 4) n)
  if m' % 2 = 0 ∨ m' < 2 ^ (8 * n - 1) ∨ e % 2 = 0 ∨ e < 3 ∨ m = 0 ∨ m' ≤ m then none else some (beBytes n (powBig m e m'))
def rsaCrt (n : Nat) (i : List Byte) : Option (List Byte) :=
  let h := n / 2
  let f (j : Nat) : Nat := beNat (bytesAt i (h * j) h)
  let p := f 0
  let q := f 1
  let dp := f 2
  let dq := f 3
  let qi := f 4
  let m := beNat (bytesAt i (5 * h) n)
  let size (x : Nat) : Bool := decide (x % 2 = 1) && decide (2 ^ (8 * h - 1) ≤ x)
  if !size p ∨ !size q ∨ p = q ∨ dp = 0 ∨ p - 1 ≤ dp ∨ dq = 0 ∨ q - 1 ≤ dq ∨ p ≤ qi ∨ qi * q % p ≠ 1 ∨ m = 0 ∨ p * q ≤ m then none
  else
    let a := powBig m dp p
    let b := powBig m dq q
    some (beBytes n (b + q * (qi * (a + p - b % p) % p)))

/-- The output block of a request, none for an invalid input (R437). -/
def bnResult (op bits : Nat) (i : List Byte) (k : Nat) : Option (List Byte) :=
  if op = 0x11 then rsaPub (bits / 8) i
  else if op = 0x12 then rsaCrt (bits / 8) i
  else (if bits = 256 then p256 else p384).run op i k

/-- A security-violation reset (R444, R480). -/
def Dev.violation (d : Dev) (bits : Nat) : Dev := ({ d with viol := d.viol ||| (bits % 32) }).requestReset 3

/-- BNE_COMPUTE_DONE (R438, R441, R442): the output block and DONE are written. An invalid input and a disagreement of the
datapaths are answered alike: zero bytes and BN_REJECT. The fourth disagreement of a start resets the device. -/
def fxBneComputeDone (d : Dev) (mismatch : Bool) : Dev :=
  match d.sec.bne.run with
  | none => d
  | some r =>
    if d.sec.bne.state ≠ 2 then d
    else
      let op := numAt r.rcd 0 1
      let bits := numAt r.rcd 2 2
      let out := ((bnBlocks op bits).getD (0, 0)).2
      let (k, d) := d.draw
      let res := if mismatch then none else bnResult op bits r.operands k
      let d := d.updBne fun b => { b with state := 4, mismatchCnt := if mismatch then satAdd 64 b.mismatchCnt 1 else b.mismatchCnt }
      let d := if r.discard then d
        else match res with
          | some o => (d.bnWrite (numAt r.rcd 0x10 8) o).bnDone r.rcd 0
          | none =>
            (((d.bnWrite (numAt r.rcd 0x10 8) (List.replicate out 0)).bnDone r.rcd 0x0701).bnFault 0x0701 0).updBne fun b =>
              { b with rejectCnt := satAdd 64 b.rejectCnt 1 }
      if mismatch && decide (4 ≤ d.sec.bne.mismatchCnt) then d.violation 16 else d

/-- BNE_WIPE_DONE (R438, R443): the request is complete and the next one may start. -/
def fxBneWipeDone (d : Dev) : Dev :=
  if d.sec.bne.state = 4 then d.updBne fun b => { b with state := 0, run := none, reqCnt := satAdd 64 b.reqCnt 1 } else d

/-- SECURITY_VIOLATION (R444): a condition of SEC_VIOL. -/
def fxSecurityViolation (d : Dev) (bits : Nat) : Dev := if bits % 32 = 0 then d else d.violation bits

end Sys2Proof.Machine
end

