-- ==== Sys2Proof/Machine/Windows.lean ====
section
/-! DEFINITION. Remote windows: opening, two-phase closing, writes received, and the transfer queue of the sending device
(R340 to R343, R348). -/

namespace Sys2Proof.Machine

def Starlane.win (s : Starlane) (w : Nat) : Window := Tab.get Window.reset s.wins w
def Dev.updWin (d : Dev) (w : Nat) (u : Window → Window) : Dev := d.updLane fun s => { s with wins := Tab.set s.wins w (u (s.win w)) }

/-- OPEN_ERR of an open, 0 when it is granted (R340); a window that is not closed refuses whatever else is wrong. -/
def Dev.winErr (d : Dev) (w : Nat) : Nat :=
  let x := d.lane.win w
  let len := x.size * 4096
  if x.state ≠ 0 then 3
  else if !d.mem.inPart x.part x.base len then 1
  else if x.base % 4096 ≠ 0 ∨ x.size = 0 then 2
  else if !validId x.peer then 4
  else if (List.range 16).any fun k =>
      let y := d.lane.win k
      decide (k ≠ w) && decide (y.state ≠ 0) && decide (x.base < y.base + y.size * 4096) && decide (y.base < x.base + len) then 5 else 0

/-- A window onto the mirror partition for the source of an empty slot begins the rebuild of that slot (R469, R474). -/
def Dev.rebuild (d : Dev) (w : Nat) : Dev :=
  let x := d.lane.win w
  match (List.range 4).find? fun i => decide ((d.mslot i).source = x.peer) && decide ((d.mslot i).state = 2) with
  | some i => if x.part = d.pdd.mirrorPart then d.updSlot i fun y => { y with state := 7 } else d
  | none => d

/-- WIN_OPEN (R340, R342): an open of a window that is not closed changes OPEN_ERR only. -/
def fxWinOpen (d : Dev) (w : Nat) : Dev :=
  match d.winErr w with
  | 0 => (d.updWin w fun x => { x with state := 1, openErr := 0, accepted := 0 }).rebuild w
  | e => d.updWin w fun x => { x with openErr := e }

/-- WIN_CLOSE (R342): the close point of an open window; a CLOSE while it closes is ignored. -/
def fxWinClose (d : Dev) (w : Nat) : Dev :=
  d.updWin w fun x => if x.state = 1 then { x with state := 2 } else if x.state = 2 then { x with openErr := 3 } else x

/-- WIN_CLOSED (R342): the last accepted write has completed. -/
def fxWinClosed (d : Dev) (w : Nat) : Dev :=
  let x := d.lane.win w
  if x.state = 2 ∧ x.writes.isEmpty then (d.updWin w fun x => { x with state := 0 }).msix 0 21 else d

/-- WINDOW_WRITE_RECEIVE (R341, R342): the oldest message of a link, a window write, is accepted whole or discarded whole. -/
def fxWindowWriteReceive (d : Dev) (l : Nat) : Dev :=
  match d.lane.arrived l with
  | none => d
  | some rm =>
    let m := rm.msg
    if m.kind ≠ 2 ∨ d.pwr.state ≠ 0 then d
    else
      let w := m.target % 16
      let x := d.lane.win w
      let len := m.data.length
      let lost (d : Dev) : Dev := d.updWin w fun x => { x with refused := satAdd 64 x.refused 1 }
      if x.state ≠ 1 then ((lost (d.handled l rm)).sendCtl l (.windowClosed w m.mseq)).pump l
      else if (d.lane.link l).farId ≠ x.peer ∨ m.origin % 64 ≠ 0 ∨ len % 64 ≠ 0 ∨ x.size * 4096 < m.origin + len then
        ((lost (d.handled l rm)).sendCtl l (.windowRefused w m.mseq)).pump l
      else
        ((d.taken l).updWin w fun x =>
          { x with accepted := satAdd 32 x.accepted 1, writes := x.writes ++ [⟨l, m.mseq, x.base + m.origin, m.data, rm.flits⟩] }).pump l

/-- WINDOW_WRITE_COMPLETE (R319, R341): the oldest accepted write of a window is in HBM; its partition is charged, the credit of
its flits is returned, and the sender is answered. It waits for the partial reset of a channel (R256). -/
def fxWindowWriteComplete (d : Dev) (w : Nat) : Dev :=
  let x := d.lane.win w
  match x.writes with
  | [] => d
  | y :: t =>
    if d.mem.resetting y.addr y.data.length then d
    else
      let d := d.hbmWrite x.part none y.addr y.data
      let d := d.updMem fun m => m.updPart x.part fun q => q.charge (atomBytes y.addr y.data.length)
      let d := (d.updWin w fun x => { x with writes := t }).updLink y.link fun k => { k with rxBytes := satAdd 64 k.rxBytes y.data.length }
      ((d.returnCredit y.link y.flits).sendCtl y.link (.windowAck w y.mseq)).pump y.link

/-! ### The sending device (R343) -/

def WinXfer.src (x : WinXfer) : Nat := numAt x.record 0 8
def WinXfer.len (x : WinXfer) : Nat := numAt x.record 0x10 4
def WinXfer.done (x : WinXfer) : Nat := numAt x.record 0x18 8

/-- The partitions that the pusher of a transfer may use: device firmware, numbered 64 here, reaches every one (R343, R459). -/
def Dev.xferParts (d : Dev) (f : Nat) : Nat := if f = 64 then 2 ^ 64 - 1 else (Tab.get Grant.none d.grants f).parts

/-- The transfer has ended: the 8-byte status goes to DONE, in a partition that the pushing function may use, and vector 21
signals. -/
def Dev.endXfer (d : Dev) (x : WinXfer) (code units : Nat) : Dev :=
  let d := d.updLane fun s => { s with xfer := none, links := s.links.map fun k => (k.1, k.2.withdraw fun m => x.out.contains m) }
  let d := match d.mem.partFor (d.xferParts x.fn) x.done 8 with
    | some p => d.hbmWrite p none x.done (leBytes 8 (code + 65536 * units))
    | none => d
  d.msix 0 21

/-- The next writes of the running transfer, of 2,048 bytes, the last holding the remainder, while fewer than 512 of them wait
for an answer; they go to its link, once it has one. -/
def Dev.winFill (d : Dev) : Nat → Dev
  | 0 => d
  | n + 1 =>
    match d.lane.xfer with
    | none => d
    | some x =>
      let k := min 2048 (x.len - x.sent)
      if k = 0 ∨ 512 ≤ x.out.length ∨ d.mem.resetting (x.src + x.sent) k then d
      else match d.hbmRead (x.src + x.sent) k with
      | (d, .error _) => d.endXfer x 0x0501 (x.acked / 64)
      | (d, .ok b) =>
        let m : Msg := { kind := 2, form := 0, target := numAt x.record 0x16 1 % 16, mseq := x.sent / 2048 % 65536,
                         origin := numAt x.record 8 8 + x.sent, data := b }
        let d := d.updLane fun s => { s with xfer := some { x with sent := x.sent + k, out := x.out ++ [m] } }
        (match x.link with | some l => d.giveLink l m | none => d).winFill n

/-- WIN_XFER_PUSH (R343, R348): a 32-byte record joins the queue; a push to a full queue waits behind its 64 records. -/
def fxWinXferPush (d : Dev) (a : Agent) (rec' : List Byte) : Dev :=
  d.updLane fun s => { s with xfers := s.xfers ++ [((d.agentFn a).getD 64, bytesAt rec' 0 32)] }

/-- WIN_XFER_START (R326, R343): the next queued transfer starts; one that runs goes on. Its source must lie in a partition that
the pushing function may use. A device without an entry, or whose entry is DRAINING or REFUSED, cannot be reached; one in PROBING
or UNROUTED is waited for. -/
def fxWinXferStart (d : Dev) : Dev :=
  if d.lane.xfer.isSome then d.giveWindow.winFill 512
  else match d.lane.xfers with
  | [] => d
  | (f, rec') :: t =>
    let x : WinXfer := { record := rec', fn := f, sent := 0, acked := 0, out := [], link := none }
    let d := d.updLane fun s => { s with xfers := t, xfer := some x }
    if (d.mem.partFor (d.xferParts f) x.src x.len).isNone then
      (d.endXfer x 0x0502 0).fnFault (f % 64) (plainFault 0x0502 1 (location 0 0 0 0 0) (x.src % 2 ^ 52))
    else if (d.lane.peerOf (numAt rec' 0x14 2)).any fun p => p.2.state == 1 || p.2.state == 2 || p.2.state == 3 then d.giveWindow.winFill 512
    else d.endXfer x 0x0602 0

/-- MACK (R333, R341): the far end acknowledges a stream message, or a window write that is complete. -/
def fxMack (d : Dev) (l kind core queue mseq : Nat) : Dev :=
  let peer := (d.lane.link l).farId
  if kind = 2 then
    match d.lane.xfer with
    | some x =>
      if numAt x.record 0x14 2 ≠ peer then d
      else
        let x := x.ack mseq
        let d := d.updLane fun s => { s with xfer := some x }
        if x.len ≤ x.acked then (d.endXfer x 0 (x.acked / 64)).pump l else (d.winFill 512).pump l
    | none => d
  else match d.lane.outMsg core peer queue mseq with
  | some o => (d.acked core peer queue o).pump l
  | none => d

/-- WINDOW_CLOSED or WINDOW_REFUSED (R341, R343): the transfer stops at the refused write; the status gives the accepted
prefix. -/
def Dev.windowStop (d : Dev) (l mseq code : Nat) : Dev :=
  match d.lane.xfer with
  | some x =>
    if numAt x.record 0x14 2 = (d.lane.link l).farId ∧ x.out.any (fun m => decide (m.mseq = mseq)) then (d.endXfer x code (mseq * 32)).pump l else d
  | none => d
/-- WINDOW_CLOSED (R341, R343). -/
def fxWindowClosed (d : Dev) (l mseq : Nat) : Dev := d.windowStop l mseq 0x0601
/-- A source that its holder refuses a window waits in REBUILD_QUEUED (R469). -/
def fxWindowRefused (d : Dev) (l mseq : Nat) : Dev :=
  let own := match d.lane.xfer with | some x => decide (x.fn = 64) && decide ((d.lane.link l).farId = d.pdd.holder) | none => false
  let d := d.windowStop l mseq 0x0609
  if own && decide (d.pdd.pair = 3) && d.lane.xfer.isNone then { d with pdd := { d.pdd with pair := 6 } } else d

end Sys2Proof.Machine
end

