-- ==== Sys2Proof/Machine/Resilience.lean ====
section
/-! DEFINITION. Core failure and the spare, self-tests, Pas de deux pairing, commits, digests and loss (R451 to R476). -/

namespace Sys2Proof.Machine

def Dev.updPdd (d : Dev) (u : Pdd → Pdd) : Dev := { d with pdd := u d.pdd }

/-! ### Core failure and the spare (R452 to R455) -/

/-- The core map of a cluster, and the physical position of a logical core. -/
def Dev.coreMap (d : Dev) (c : Nat) : Nat := Tab.get 0x76543210 d.pdd.map c
def Dev.physOf (d : Dev) (g : Nat) : Nat := fld (d.coreMap (g / 8)) (4 * (g % 8)) 4
/-- The logical core, within its cluster, that a physical position holds. -/
def Dev.logicalOf (d : Dev) (c p : Nat) : Option Nat := (List.range 8).find? fun k => fld (d.coreMap c) (4 * k) 4 = p
/-- Nibble k of a core map replaced. -/
def withNibble (m k v : Nat) : Nat := m - fld m (4 * k) 4 * 16 ^ k + v % 16 * 16 ^ k

def Dev.physFailed (d : Dev) (c p : Nat) : Bool := bit (Tab.get 0 d.pdd.failed c) p

/-- A physical position is marked failed, in NOR too, or its mark is cleared (R454, R455, R458). -/
def Dev.markFailed (d : Dev) (c p : Nat) (on : Bool) : Dev :=
  let l := d.nor.failedCores.filter fun x => x ≠ 9 * c + p
  ({ d with nor := { d.nor with failedCores := if on then l ++ [9 * c + p] else l } }).updPdd fun x =>
    { x with failed := Tab.set x.failed c (withBit (Tab.get 0 x.failed c) p on) }

/-- A physical core is declared failed for event 1 to 4 of R452: the running block of the logical core it holds stops at once,
the core's job ends with CORE_FAILED, and the position waits for the spare (R453, R454). -/
def Dev.failCore (d : Dev) (c p ev : Nat) : Dev :=
  if d.physFailed c p then d
  else
    let d := d.markFailed c p true
    match d.logicalOf c p with
    | none => d
    | some k =>
      let g := 8 * c + k
      let detail := p + 256 * ev
      let d := d.updPdd fun x => { x with waiting := x.waiting ++ [g] }
      match (d.core g).job with
      | none => d
      | some id =>
        let s : Stop := .of .point 0x0805 detail (2 ^ 40)
        let e := (d.core g).extent s
        let index := match (d.core g).seq.running with | some b => b.index | none => 0xFFFF_FFFF
        (d.cutBlock g s).jobFault id { plainFault 0x0805 2 (coreLoc g) detail with block := index, extStart := e.1, extLen := e.2 }

/-- CORE_FAIL (R452, R453): an event of R452 on a physical position, 0 to 8, of a cluster. -/
def fxCoreFail (d : Dev) (c p ev : Nat) : Dev := d.failCore c p ev

/-- The position that may act as the spare: not failed and holding no logical position (R454, R458). -/
def Dev.spareOf (d : Dev) (c : Nat) : Option Nat := [8, 0, 1, 2, 3, 4, 5, 6, 7].find? fun p => !d.physFailed c p && (d.logicalOf c p).isNone

/-- SPARE_SUBSTITUTION (R454, R455): once no job holds the failed position, the spare takes it, with a wiped store and
nothing in its tables; without a spare the position stays failed. -/
def fxSpareSubstitution (d : Dev) (c : Nat) : Dev :=
  match d.pdd.waiting.find? fun g => decide (g / 8 = c) && (d.core g).job.isNone with
  | none => d
  | some g =>
    let d := d.updPdd fun x => { x with waiting := x.waiting.filter fun y => y ≠ g }
    match d.spareOf c with
    | some p =>
      let segs := (d.core g).segState
      let d := d.setCore g (({ Core.reset with segReq := segs, segState := segs } : Core).wipe)
      d.updPdd fun x => { x with map := Tab.set x.map c (withNibble (d.coreMap c) (g % 8) p),
                                 subst := Tab.set x.subst (c / 8) (satAdd 64 (Tab.get 0 x.subst (c / 8)) 1) }
    | none => d.updPdd fun x => { x with map := Tab.set x.map c (withNibble (d.coreMap c) (g % 8) 0xF) }

/-! ### Self-test (R458, R471) -/

def Dev.selfTest (d : Dev) (die : Nat) : SelfTest := Tab.get SelfTest.reset d.pdd.tests die
def Dev.updTest (d : Dev) (die : Nat) (u : SelfTest → SelfTest) : Dev := d.updPdd fun x => { x with tests := Tab.set x.tests die (u (d.selfTest die)) }

/-- A write of PDD_SELFTEST_CTRL (R5, R458, R471). RETEST is an E-level field, and `e` is whether it is written; a failed core is
tested only with RETEST in maintenance state, never with a value that was kept. -/
def Dev.selftestCtrl (d : Dev) (die v : Nat) (a : Agent) (e : Bool) : Dev :=
  let t := d.selfTest die
  let retest := bit v 9 && d.expert a
  let d := if e then d.ifExpert a fun d => d.updTest die fun t => { t with retest := retest } else d
  let d := d.updTest die fun t => { t with cluster := fld v 4 3, phys := fld v 0 4 }
  if !bit v 8 ∨ t.state ≠ 0 ∨ 8 < fld v 0 4 then d
  else if d.physFailed (8 * die + fld v 4 3) (fld v 0 4) && !(retest && decide (d.mem.mstate ≠ 0)) then d.updTest die fun t => { t with result := 3 }
  else d.updTest die fun t => { t with state := 1, result := 0, on := 9 * fld v 4 3 + fld v 0 4, again := retest }

/-- PDD_SELFTEST_GO (R458, R471): a write of PDD_SELFTEST_CTRL with GO. -/
def fxPddSelftestGo (d : Dev) (die v : Nat) (a : Agent) : Dev := d.selftestCtrl die v a true

/-- The logical core of the position under test. -/
def Dev.testedCore (d : Dev) (die : Nat) : Option Nat :=
  let t := d.selfTest die
  (d.logicalOf (8 * die + t.on / 9) (t.on % 9)).map fun k => 8 * (8 * die + t.on / 9) + k

/-- SELFTEST_START (R458): the queued test starts when no job holds the core. -/
def fxSelftestStart (d : Dev) (die : Nat) : Dev :=
  let t := d.selfTest die
  if t.state ≠ 1 then d
  else match d.testedCore die with
    | some g => if (d.core g).job.isNone then d.updTest die fun t => { t with state := 2 } else d
    | none => d.updTest die fun t => { t with state := 2 }

/-- SELFTEST_END (R452, R455, R458): the test ends with a wipe; a failure marks the core failed, a retest that passes clears
the mark. -/
def fxSelftestEnd (d : Dev) (die : Nat) (pass : Bool) : Dev :=
  let t := d.selfTest die
  if t.state ≠ 2 then d
  else
    let c := 8 * die + t.on / 9
    let p := t.on % 9
    let d := match d.testedCore die with
      | some g => d.updCore g Core.wipe
      | none => d
    let d := d.updTest die fun t => { t with state := 0, result := if pass then 1 else 2 }
    if pass then (if t.again && d.physFailed c p then d.markFailed c p false else d) else d.failCore c p 4

/-! ### Pairing (R460) -/

/-- The mirror slot of a source device. -/
def Dev.slotOf (d : Dev) (id : Nat) : Option Nat := (List.range 4).find? fun i => decide ((d.mslot i).source = id) && decide (2 ≤ (d.mslot i).state)

/-- PAIRING_MESSAGE (R460, R468): the far end's feed tag, from which the source decides; or, at the holder, the source's
decision. A slot whose source was lost and is paired again goes to RESTORE_VERIFY. -/
def fxPairingMessage (d : Dev) (l feed : Nat) (answer : Option Bool) : Dev :=
  let far := (d.lane.link l).farId
  if (d.lane.link l).state ≠ 6 then d
  else match answer with
  | none =>
    if far ≠ d.pdd.holder ∨ d.pdd.pair ≠ 1 then d
    else
      let same := decide (feed = d.pdd.feed)
      let d := d.updPdd fun x => { x with holderFeed := feed }
      if same && !d.pdd.override' then
        ((d.updPdd fun x => { x with pair := 2, feedWarn := false }).fnFault 0 (plainFault 0x0804 0 (location 0 0 0 0 0) (far + 65536 * feed))).sendCtl l
          (.pairingAnswer false)
      else (d.updPdd fun x => { x with pair := 3, feedWarn := same }).sendCtl l (.pairingAnswer true)
  | some ok =>
    match d.slotOf far with
    | some i => d.updSlot i fun x => { x with paired := ok, lostAon := none, state := if ok && decide (x.state = 5) then 6 else x.state }
    | none => d

/-! ### Commits (R463 to R465, R468) -/

/-- A request of an agent: its function and job. -/
def Dev.pddReq (d : Dev) (a : Agent) (rcd : List Byte) : PddReq :=
  { fn := (d.agentFn a).getD 0, job := match a with | .app k => (d.app k.val).job | _ => none, rcd := bytesAt rcd 0 64 }

/-- The partitions that a request of the block may name. -/
def Dev.reqParts (d : Dev) (q : PddReq) : Nat :=
  match q.job.bind d.job with | some j => j.partMask | none => d.grantParts q.fn

/-- The 8-byte status of a request: fault code and bit 63. -/
def Dev.reqDone (d : Dev) (q : PddReq) (addr code : Nat) : Dev :=
  match d.mem.partFor (d.reqParts q) addr 8 with
  | some p => d.hbmWrite p none addr (leBytes 8 (code + 2 ^ 63))
  | none => d

def Dev.reqFault (d : Dev) (q : PddReq) (code detail : Nat) : Dev :=
  let r := plainFault code 1 (location 0 0 0 0 0) detail
  match q.job.bind d.job with | some j => d.jobFault j.id r | none => d.fnFault q.fn r

/-- PDD_COMMIT_PUSH (R463): the record goes to the holder. The physical function may push, and the monitor for a job. -/
def fxPddCommitPush (d : Dev) (a : Agent) (rcd : List Byte) : Dev :=
  let q := d.pddReq a rcd
  let d := d.updPdd fun x => { x with commits := x.commits ++ [q] }
  match d.lane.upLinks d.pdd.holder with
  | l :: _ => d.sendCtl l (.commit q.rcd)
  | [] => d

/-- The frames rotate: previous takes the old current, current the open frame, open the old previous (R464). A slot that was
rebuilt by window keeps its previous frame (R469). -/
def MSlot.rotate (x : MSlot) (step digest : Nat) : MSlot :=
  if x.state = 7 then
    { x with cur := x.open', open' := x.cur, prevStep := some (step - 1, 0), curStep := some (step, digest), state := 4 }
  else
    { x with prev := x.cur, cur := x.open', open' := x.prev, prevStep := x.curStep, curStep := some (step, digest),
             state := if x.curStep.isSome then 4 else 3 }

/-- COMMIT_RECEIVE (R464, R468): the holder checks a commit record of the far device, and answers it. -/
def fxCommitReceive (d : Dev) (l : Nat) (rcd : List Byte) : Dev :=
  let b := bytesAt rcd 0 64
  let step := numAt b 0 8
  let digest := numAt b 8 32
  let fail (d : Dev) (code detail : Nat) : Dev :=
    (d.updPdd fun x => { x with commitFails := satAdd 64 x.commitFails 1 }).sendCtl l (.commitAnswer code detail false)
  if (d.lane.link l).state ≠ 6 then d
  else match d.slotOf (d.lane.link l).farId with
  | none => fail d 0x0806 1
  | some i =>
    let x := d.mslot i
    let done (d : Dev) : Dev := d.updPdd fun y => { y with commitCnt := satAdd 64 y.commitCnt 1 }
    if x.state = 6 then
      if x.curStep.map Prod.snd = some digest then
        ((done (d.updSlot i fun y => { y with state := if y.prevStep.isSome then 4 else 3 })).resetTaps i false).sendCtl l (.commitAnswer 0 0 true)
      else fail d 0x0803 0
    else if x.state = 5 ∨ !x.paired then fail d 0x0806 1
    else if (match x.curStep with | some s => decide (step ≠ s.1 + 1) | none => false) then fail d 0x0806 2
    else match (d.tapsOf i).find? fun j => (d.tap j).overrun || decide ((d.tap j).landed ≠ 64 * (d.tap j).len) with
      | some j => fail d 0x0806 (3 + 256 * j)
      | none =>
        let d := (done (d.updSlot i fun y => y.rotate step digest)).resetTaps i false
        d.sendCtl l (.commitAnswer 0 0 (decide ((d.mslot i).state = 4)))

/-- COMMIT_ANSWER (R463, R465): the holder's answer to the oldest commit: DONE is written, and the source knows whether it is
mirrored. -/
def fxCommitAnswer (d : Dev) (l code detail : Nat) (mirrored : Bool) : Dev :=
  if (d.lane.link l).farId ≠ d.pdd.holder ∨ (d.lane.link l).state ≠ 6 then d
  else match d.pdd.commits with
  | [] => d
  | q :: t =>
    let d := (d.updPdd fun x => { x with commits := t }).reqDone q (numAt q.rcd 0x28 8) code
    if code = 0 then
      d.updPdd fun x => { x with lastStep := numAt q.rcd 0 6, pair := if x.pair = 3 ∨ x.pair = 4 ∨ x.pair = 6 then (if mirrored then 4 else 3) else x.pair }
    else d.reqFault q code detail

/-! ### Digests (R466) -/

/-- PDD_DIGEST_PUSH (R466). -/
def fxPddDigestPush (d : Dev) (a : Agent) (rcd : List Byte) : Dev :=
  d.updPdd fun x => { x with digests := x.digests ++ [d.pddReq a rcd] }

/-- The bytes of the ranges of a list, or the fault that ends the digest; each range is charged to its partition. -/
def Dev.digestRanges (d : Dev) (q : PddReq) : List (Nat × Nat) → Dev × Except (Nat × Nat) (List Byte)
  | [] => (d, .ok [])
  | (a, len) :: t =>
    match d.mem.partFor (d.reqParts q) a len with
    | none => (d, .error (0x0502, a))
    | some p =>
      let d := d.updMem fun m => m.updPart p fun x => x.charge (atomBytes a len)
      match d.hbmRead a len with
      | (d, .error atom) => (d, .error (0x0501, atom))
      | (d, .ok b) => match d.digestRanges q t with
        | (d, .ok l) => (d, .ok (b ++ l))
        | (d, .error e) => (d, .error e)

/-- The reads of a digest request wait for the partial reset of a channel (R256). -/
def Dev.digestWaits (d : Dev) (q : PddReq) : Bool :=
  let list := numAt q.rcd 0 8
  let n := min 256 (numAt q.rcd 8 8)
  let words := d.mem.bytes list (16 * n)
  d.mem.resetting list (16 * n) || (List.range n).any fun i => d.mem.resetting (numAt words (16 * i) 8) (numAt words (16 * i + 8) 8)

/-- DIGEST_DONE (R466): the oldest request: SHA-256 over its ranges, at DONE + 8, and the status at DONE. -/
def fxDigestDone (d : Dev) : Dev :=
  match d.pdd.digests with
  | [] => d
  | q :: t =>
    let list := numAt q.rcd 0 8
    let n := min 256 (numAt q.rcd 8 8)
    if d.digestWaits q then d
    else
    let d := d.updPdd fun x => { x with digests := t }
    let done := numAt q.rcd 0x10 8
    let fail (d : Dev) (e : Nat × Nat) : Dev := (d.reqDone q done e.1).reqFault q e.1 e.2
    if (d.mem.partFor (d.reqParts q) list (16 * n)).isNone ∧ n ≠ 0 then fail d (0x0502, list)
    else match d.hbmRead list (16 * n) with
      | (d, .error atom) => fail d (0x0501, atom)
      | (d, .ok b) =>
        match d.digestRanges q ((List.range n).map fun i => (numAt b (16 * i) 8, numAt b (16 * i + 8) 8)) with
        | (d, .error e) => fail d e
        | (d, .ok bytes) =>
          match d.mem.partFor (d.reqParts q) done 40 with
          | some p => (d.hbmWrite p none (done + 8) (sha256 bytes)).reqDone q done 0
          | none => d.reqFault q 0x0502 done

/-! ### Loss (R467) -/

/-- The peer entry of a device is ACTIVE. -/
def Dev.peerActive (d : Dev) (id : Nat) : Bool := match d.lane.peerOf id with | some (_, p) => p.state == 2 | none => false

/-- At a tick, since when a partner of a standing pairing has not been ACTIVE. -/
def Dev.noteLost (d : Dev) : Dev :=
  let mark (old : Option Nat) (active : Bool) : Option Nat := if active then none else old.or (some d.aon0)
  d.updPdd fun x => { x with
    lostAon := if x.pair = 3 ∨ x.pair = 4 ∨ x.pair = 6 then mark x.lostAon (d.peerActive x.holder) else none,
    slots := x.slots.map fun s => (s.1, { s.2 with lostAon := if s.2.paired then mark s.2.lostAon (d.peerActive s.2.source) else none }) }

/-- LOST_WAIT_EXPIRY (R467): the partner of mirror slot 0 to 3, or for 4 this device's own holder, has not been ACTIVE for
LOST_WAIT, in units of 100 µs; 0 acts as 10. -/
def fxLostWaitExpiry (d : Dev) (w : Nat) : Dev :=
  let lim := 2500 * (if d.pdd.lostWait = 0 then 10 else d.pdd.lostWait)
  let due (x : Option Nat) : Bool := match x with | some t => decide (t + lim ≤ d.aon0) | none => false
  let rcd (code id : Nat) : FaultRec := plainFault code 0 (location 0 0 0 0 0) id
  if w = 4 then
    if due d.pdd.lostAon && decide (d.pdd.pair ≠ 5) then
      (d.updPdd fun x => { x with pair := 5, feedWarn := false, lostAon := none }).fnFault 0 (rcd 0x0801 d.pdd.holder)
    else d
  else
    let x := d.mslot w
    if !x.paired || !due x.lostAon then d
    else if x.prevStep.isSome && x.curStep.isSome && decide (x.state ≠ 7) then (d.updSlot w fun x => { x with state := 5, paired := false, lostAon := none }).fnFault 0 (rcd 0x0801 x.source)
    else (d.updSlot w fun x => { MSlot.reset with source := x.source, frame := x.frame, state := 2 }).fnFault 0 (rcd 0x0802 x.source)

end Sys2Proof.Machine
end

