-- ==== Sys2Proof/Machine/Start.lean ====
section
/-! DEFINITION. The start after a reset, partial resets, and Dusk (R485, R486, R492 to R497, R515 to R519). -/

namespace Sys2Proof.Machine

/-! ### Start steps (R492 to R497) -/

def Dev.updRst (d : Dev) (u : Rst → Rst) : Dev := { d with rst := u d.rst }
def Dev.stepDone (d : Dev) (n : Nat) : Bool := d.rst.steps.contains n

/-- The failed-start count of step 4 (R495). -/
def Dev.countFails (d : Dev) : Dev :=
  let d := if d.rst.strap = 0xD then { d with nor := { d.nor with fails := 0 } } else d
  let d := if !d.nor.confirmed && (decide (d.rst.cause = 3) || decide (d.rst.cause = 5) || decide (d.rst.cause = 6)) then
      let n := min 4 (d.nor.fails + 1)
      { d with nor := { d.nor with fails := n },
               bootLog := d.bootLog ++ [plainFault 0x090B 0 (location 0 0 0 0 0) (d.rst.cause + 256 * n)] }
    else d
  { d with nor := { d.nor with confirmed := false } }

/-- The start enters Lodestar mode in place of step 5 (R496). -/
def Dev.needsLodestar (d : Dev) : Bool := decide (d.nor.fails = 4) || decide (d.rst.strap = 0) || d.sec.fromCard

/-- Lodestar mode begins: the start is confirmed, and a package on the card is applied (R496, R497), unless one that has been
marked waits for its confirmation. -/
def Dev.lodestar (d : Dev) : Dev :=
  let d := (d.updRst fun r => { r with lodestar := true, confirmed := true }).updSec fun x => { x with stage := 5 }
  let d := ({ d with nor := { d.nor with confirmed := true } }).drawKeys
  match d.hw.card with
  | some _ => if d.upd.state = 5 then d else d.loadPackage true
  | none => d

/-- What step 4 does when it completes: the count, then Lodestar mode, or the offline update of strap value 0xC (R538). -/
def Dev.step4 (d : Dev) : Dev :=
  let d := d.countFails
  if d.needsLodestar then d.lodestar else if d.rst.strap = 0xC ∧ d.upd.state ≠ 5 then d.loadPackage true else d

/-- The record of a rail fault whose restart this start is (R565). -/
def Dev.railNotice (d : Dev) : Dev :=
  if d.hw.railRecord then
    { d with hw := { d.hw with railRecord := false },
             bootLog := d.bootLog ++ [plainFault 0x0911 0 (location 0 0 0 0 0) (d.hw.rail + 64 * d.hw.railKind)] }
  else d

/-- Step 7 (R491, R530): the record is read; the step completes when one is accepted. Strap value 8 starts the device in
maintenance state. -/
def Dev.step7 (d : Dev) (norOk : Bool) : Dev :=
  let d := d.readRecord norOk Config.migrate
  if d.cfg.record.isEmpty then d
  else
    let d := d.updRst fun r => { r with steps := r.steps ++ [7] }
    if d.rst.strap = 8 then d.updMem fun m => { m with maint := true, mstate := 2 } else d

/-- Step 8: die networks and bridge come up, the cluster PLLs lock; a cluster whose PLL fails has all its cores failed (R452). -/
def Dev.step8 (d : Dev) (badPll : List Nat) : Dev :=
  let up (f : Fabric) : Fabric := { f with d2dGroups := 16, d2dState := 1 }
  let d := d.updMem fun m => (m.updFab 0 up).updFab 1 up
  let d := { d with pwr := { d.pwr with freqCur := (List.range 16).map fun c => (c, d.freqTarget c), relocking := [], relock := [] } }
  (badPll.filter fun c => c < 16).foldl (fun d c => d.forAll (List.range 9) fun d p => d.failCore c p 3) d

/-- Step 9: channels train, or fail; the wipe writes every atom (R256, R494). -/
def Dev.step9 (d : Dev) (bad : List Nat) : Dev :=
  let d := d.updMem fun m =>
    ((List.range 128).foldl (fun m h => m.updChan h fun c => { c with state := if bad.contains h then 5 else 2 }) m).wipe
  d.updRst fun r => { r with hbmWiped := true }

/-- An optical engine starts on its primary input, on its secondary when only that is lit, or dark (R312, R313). -/
def Dev.startEngine (d : Dev) (e : Nat) : Dev :=
  if (d.lane.cart (e % 6)).state = 2 then d.updOpt e fun x => { x with state := 1, secondary := false, cart := e % 6 }
  else if (d.lane.cart ((e + 3) % 6)).state = 2 then d.updOpt e fun x => { x with state := 1, secondary := true, cart := (e + 3) % 6 }
  else d.updOpt e fun x => { x with state := 2 }

/-- An enabled link begins to train; on a dark engine it fails (R320, R321). -/
def Dev.startLink (d : Dev) (l : Nat) : Dev :=
  if (d.lane.link l).en then
    let d := d.linkState l 1
    if (d.lane.opt (l / 8)).state = 1 then d else d.failLink l 5
  else d

/-- The steps that must have completed before a step (R492). -/
def stepNeeds : Nat → List Nat
  | 3 => []
  | 4 => [3]
  | 5 => [4]
  | 6 => [4]
  | 7 => [6]
  | 8 => [7]
  | 9 => [7]
  | 10 => [7]
  | 11 => [7]
  | _ => [7]

/-- What a step needs of the security complex: its stage, and the components verified (R424, R492). -/
def Dev.stepReady (d : Dev) (n : Nat) : Bool :=
  match n with
  | 3 => d.rst.strapDone && decide (2 ≤ d.sec.stage)
  | 4 => decide (3 ≤ d.sec.stage)
  | 5 => true
  | 6 => decide (d.sec.stage = 4) && d.verified 3
  | 7 => true
  | 8 => true
  | 9 => d.verified 6
  | 10 => d.verified 7 && d.verified 8
  | 11 => d.verified 4
  | _ => d.verified 5

/-- START_STEP_DONE (R492): step n, 3 to 12, completes. `norOk` is whether NOR writes succeed; `bad` names the clusters whose
PLL fails (step 8) or the channels whose training fails (step 9). -/
def fxStartStepDone (d : Dev) (n : Nat) (norOk : Bool) (bad : List Nat) : Dev :=
  if d.rst.hold || d.rst.romHalt || d.rst.lodestar || d.stepDone n || decide (n < 3) || decide (12 < n) ||
      !((stepNeeds n).all d.stepDone) || !d.stepReady n || (decide (5 ≤ n) && d.upd.offline && decide (d.upd.state = 3)) then d
  else if n = 7 then d.step7 norOk
  else
    let d := d.updRst fun r => { r with steps := r.steps ++ [n] }
    match n with
    | 4 => d.step4
    | 6 => d.railNotice
    | 8 => d.step8 bad
    | 9 => d.step9 bad
    | 10 => (d.forAll (List.range 12) Dev.startEngine).forAll (List.range 96) Dev.startLink
    | _ => d

/-- The conditions of R494 for a confirmation. -/
def Dev.mayConfirm (d : Dev) : Bool :=
  let clusterUp (c : Nat) : Bool := (List.range 8).any fun k => !d.coreFailed (8 * c + k)
  !d.rst.confirmed && !d.rst.hold && ((List.range 10).all fun i => d.stepDone (i + 3)) && d.rst.hbmWiped &&
    ((List.range 2).all fun die => (List.range 8).any fun c => clusterUp (8 * die + c)) &&
    (match d.rst.secAon with | some t => decide (d.aon0 < t + 50_000_000) | none => false)

/-- A confirmed security-firmware image burns its REVOKE mask but for the key that verified it (R421). -/
def Dev.burnRevoke (d : Dev) : Dev :=
  let k := d.nor.marks 2
  let i := if (Tab.get Meas.reset d.sec.meas 3).slot = 0 then k.slotA else k.slotB
  match i.revoke with
  | some m => { d with fuses := { d.fuses with keyRevoke := d.fuses.keyRevoke ||| withBit (m % 16) (d.fuses.keySlot i.signer) false } }
  | none => d

/-- What the capability lists report (R547, R549): they are built when the start is confirmed. -/
def Dev.capSnap (d : Dev) : CapSnap :=
  { active := ((List.range 128).filter fun g => !d.coreFailed g).length, version := (d.nor.marks 3).activeSlot.version, feed := d.pdd.feed,
    granted := maskOf 64 fun f => (Tab.get Grant.none d.grants f).expert }

/-- START_CONFIRM (R494, R528, R538): platform firmware confirms the start. -/
def fxStartConfirm (d : Dev) : Dev :=
  if d.mayConfirm then
    let d := d.updRst fun r => { r with confirmed := true, caps := some d.capSnap }
    let d := { d with nor := compIds.foldl Nor.confirmComp { d.nor with fails := 0, confirmed := true } }
    let d := ([1, 2, 3, 4, 5, 6, 7, 8].foldl Dev.noteSvn d).burnRevoke
    let d := if d.upd.state = 5 then
        { d with nor := { d.nor with pkgId := d.upd.pkgId, pkgDigest := d.upd.pkgDigest }, upd := { Upd.reset with result := 1 } }
      else d
    (d.msix 0 23).forAll (List.range 64) Dev.evalExpected
  else d

/-! ### Partial resets (R485, R486, R500) -/

/-- Parts of each kind (R485). -/
def partCount : Nat → Nat
  | 1 => 128
  | 2 => 16
  | 3 => 128
  | 4 => 96
  | 5 => 12
  | 6 => 32
  | _ => 0

/-- The part is free to be reset: no job holds the core, any core of the cluster, or the application core. -/
def Dev.partFree (d : Dev) (kind idx : Nat) : Bool :=
  match kind with
  | 1 => (d.core idx).job.isNone
  | 2 => (coresOfCluster idx).all fun g => (d.core g).job.isNone
  | 6 => (d.app idx).job.isNone
  | _ => true

/-- The reset of a core: everything but its segments' power and the count of its epochs; its store is wiped (R225, R485). -/
def Dev.resetCore (d : Dev) (g : Nat) : Dev :=
  let c := d.core g
  d.setCore g (({ Core.reset with segReq := c.segReq, segState := c.segState, epoch := c.epoch } : Core).wipe)

/-- A running test of a channel is stopped; how far it had come is free (R279). -/
def Dev.stopTest (d : Dev) (h : Nat) : Dev :=
  if (d.mem.chan h).running then
    let (w, d) := d.draw
    let (c, d) := d.draw
    let (e, d) := d.draw
    let (f, d) := d.draw
    d.tgcEnd h (w % (testAtoms (d.mem.chan h).full + 1)) c e (if e = 0 then none else some (bit f 0, fld f 1 26, max 1 (fld f 27 32))) true
  else d

/-- The part resets (R485): it is out of service until PARTIAL_RESET_DONE. -/
def Dev.beginPart (d : Dev) (kind idx : Nat) : Dev :=
  match kind with
  | 1 => d.resetCore idx
  | 2 =>
    let d := d.forAll (coresOfCluster idx) Dev.resetCore
    let d := d.updMem fun m => m.updXch idx fun x => { Xch.reset with sendWords := x.sendWords, contend := x.contend }
    { d with pwr := { d.pwr with relocking := Tab.set d.pwr.relocking idx true, relock := Tab.set d.pwr.relock idx true } }
  | 3 =>
    let d := d.stopTest idx
    d.updMem fun m => m.updChan idx fun c =>
      { Chan.reset with state := 6, ceCnt := c.ceCnt, ueCnt := c.ueCnt, rdBytes := c.rdBytes, wrBytes := c.wrBytes, smallWait := c.smallWait,
                        small := c.small, smallQ := c.smallQ, errors := c.errors, reason := c.reason, tstate := c.tstate, errPseudo := c.errPseudo,
                        errAtom := c.errAtom, dqMask := c.dqMask, atoms := c.atoms }
  | 4 => (d.failLink idx 2).updLink idx Link.clearCounts
  | 5 => (d.updOpt idx fun x => { x with state := 3 }).forAll (List.range 8) fun d k => d.failLink (8 * idx + k) 2
  | _ => d.updApp idx fun _ => { AppCore.reset with resetting := true }

/-- A request for a partial reset (R485, R486, R500): ignored with RESULT 3 while one is busy, refused with RESULT 2 for an
index out of range, waiting while a job holds the part. -/
def Dev.partReset (d : Dev) (kind idx : Nat) (a : Agent) : Dev :=
  d.ifExpert a fun d =>
    if d.rst.partBusy then d.updRst fun r => { r with partResult := 3 }
    else
      let d := d.updRst fun r => { r with partCtrlIndex := idx % 256, partCtrlKind := kind % 8, partIndex := idx % 256, partKind := kind % 8 }
      if partCount kind ≤ idx then d.updRst fun r => { r with partResult := 2 }
      else
        let free := d.partFree kind idx
        let d := d.updRst fun r => { r with partResult := 0, partBusy := true, partWaiting := !free }
        if free then d.beginPart kind idx else d

/-- PART_RESET_CORE, PART_RESET_CLUSTER, PART_RESET_HBM_CHANNEL, PART_RESET_LINK, PART_RESET_OPT_ENGINE and
PART_RESET_APP_CORE (R485). -/
def fxPartResetCore (d : Dev) (g : Nat) (a : Agent) : Dev := d.partReset 1 g a
def fxPartResetCluster (d : Dev) (c : Nat) (a : Agent) : Dev := d.partReset 2 c a
def fxPartResetHbmChannel (d : Dev) (h : Nat) (a : Agent) : Dev := d.partReset 3 h a
def fxPartResetLink (d : Dev) (l : Nat) (a : Agent) : Dev := d.partReset 4 l a
def fxPartResetOptEngine (d : Dev) (e : Nat) (a : Agent) : Dev := d.partReset 5 e a
def fxPartResetAppCore (d : Dev) (k : Nat) (a : Agent) : Dev := d.partReset 6 k a

/-- PART_RESET_START (R485): a waiting request acts once its part is free. -/
def fxPartResetStart (d : Dev) : Dev :=
  if d.rst.partBusy && d.rst.partWaiting && d.partFree d.rst.partKind d.rst.partIndex then
    (d.updRst fun r => { r with partWaiting := false }).beginPart d.rst.partKind d.rst.partIndex
  else d

/-- The part resumes. -/
def Dev.endPart (d : Dev) (kind idx : Nat) (ok : Bool) : Dev :=
  match kind with
  | 1 => d.updCore idx fun c => { c with wiping := false, segBusy := 0 }
  | 2 =>
    let d := d.forAll (coresOfCluster idx) fun d g => d.updCore g fun c => { c with wiping := false, segBusy := 0 }
    { d with pwr := { d.pwr with freqCur := Tab.set d.pwr.freqCur idx (d.freqTarget idx), relock := Tab.set d.pwr.relock idx false,
                                 relocking := Tab.set d.pwr.relocking idx false } }
  | 3 => (d.updMem fun m => m.updChan idx fun c => { c with state := if ok then 2 else 5 }).serveHost d.mem.hostQ.length
  | 4 => if (d.lane.link idx).en then d.startLink idx else d
  | 5 => (d.resumeEngine idx).forAll (List.range 8) fun d k => d.startLink (8 * idx + k)
  | _ => d.updApp idx fun x => { x with resetting := false }

/-- PARTIAL_RESET_DONE (R256, R485, R538): the part resumes, RST_PART_STATUS reports done, and the image that its component
has marked runs on it. `ok` is whether a channel's training succeeded. -/
def fxPartialResetDone (d : Dev) (ok : Bool) : Dev :=
  let r := d.rst
  if r.partBusy && !r.partWaiting then
    let d := (d.endPart r.partKind r.partIndex ok).updRst fun r => { r with partBusy := false, partResult := 1 }
    if ok then { d with upd := d.upd.confirm r.partKind r.partIndex } else d
  else d

/-! ### Dusk (R515 to R519) -/

/-- Nothing runs, is ready or is frozen on a core, and no transfer or stream instruction is in flight. -/
def Core.idle (c : Core) : Bool :=
  c.seq.running.isNone && c.seq.freeze.isNone && c.inflight.isEmpty && !(c.bq.zipIdx.any fun p => c.ready p.2 p.1) && c.load.isNone && !c.wiping &&
    c.egress.isEmpty &&
    (c.engs.all fun e => e.2.xfers.isEmpty && (e.2.waitTok.isSome || e.2.stopped || (e.2.prog.isNone && e.2.queue.isEmpty)))

/-- No data flit is carried by a link. -/
def Link.quiet (k : Link) : Bool :=
  k.rxMsgs.isEmpty && k.rxPart.isNone && k.txMsgs.isEmpty &&
    !(k.replay.any fun b => match b.2.2 with | .data _ _ _ => true | _ => false)

/-- The device is idle (R515). -/
def Dev.idle (d : Dev) : Bool :=
  (d.cores.all fun c => c.2.idle) && (d.groups.all fun g => !([1, 2, 3].contains g.2.state)) && (d.mem.wcb.all fun w => w.2.entries.isEmpty) &&
    (d.lane.links.all fun k => k.2.quiet) && (d.lane.streams.all fun t => t.out.isEmpty) && d.lane.xfer.isNone && d.lane.xfers.isEmpty && d.mem.hostQ.isEmpty &&
    (d.lane.wins.all fun w => w.2.writes.isEmpty) && (d.jobs.all fun j => decide (j.phase ≠ .accepted)) &&
    (d.apps.all fun a => a.2.job.isNone || a.2.ended || a.2.wait.isSome) && decide (d.sec.bne.state = 0) && d.sec.bne.queue.isEmpty &&
    d.sec.mpc.run.isNone && d.sec.mpc.queue.isEmpty && d.sec.kcopy.isNone && d.pdd.digests.isEmpty &&
    (d.pdd.tests.all fun t => decide (t.2.state ≠ 2)) && !d.rst.partBusy && decide (d.mem.mstate ≠ 3) &&
    (d.mem.chans.all fun h => !(h.2.running && h.2.full))

/-- IDLE_US as it acts: 0 is the default of 2,000 µs (R516, R520). -/
def Pwr.idleLimit (p : Pwr) : Nat := 25 * (if p.idleUs = 0 then 2000 else p.idleUs)

/-- DUSK_ENTRY (R516): buffers flush, in-service tests end, HBM enters self-refresh, UP links enter KEEP_ALIVE. -/
def fxDuskEntry (d : Dev) : Dev :=
  if d.idle && decide (d.pwr.state = 0) && d.pwr.duskEn && decide (d.rst.strap ≠ 9) && d.rst.confirmed && !d.rst.lodestar &&
      decide (d.pwr.idleLimit ≤ d.pwr.idleCnt) then
    let d := (d.flushWhere 0 fun _ => true).flushWhere 1 fun _ => true
    let d := d.forAll (List.range 128) Dev.stopTest
    let d := d.updMem fun m => { m with chans := m.chans.map fun h => (h.1, if h.2.state = 2 then { h.2 with state := 3 } else h.2) }
    let d := (List.range 96).foldl (fun d l => if (d.lane.link l).state = 6 then d.linkState l 9 else d) d
    { d with pwr := { d.pwr with state := 2, duskCnt := satAdd 64 d.pwr.duskCnt 1 } }
  else d

/-- DUSK_WAKE (R518): a wake event of R518. -/
def fxDuskWake (d : Dev) : Dev := d.wakeUp

/-- WAKE_COMPLETE (R518, R519, R323): HBM leaves self-refresh, links return to UP, and the seals that came in Dusk are
evaluated. -/
def fxWakeComplete (d : Dev) : Dev :=
  if d.pwr.state = 3 then
    let d := d.updMem fun m => { m with chans := m.chans.map fun h => (h.1, if h.2.state = 3 then { h.2 with state := 2 } else h.2) }
    let d := { d with pwr := { d.pwr with state := 0 } }
    let up := (List.range 96).filter fun l => decide ((d.lane.link l).state = 9)
    let d := (d.forAll up fun d l => d.linkState l 6).forAll up Dev.serve
    d.forAll (List.range 64) Dev.evalExpected
  else d

end Sys2Proof.Machine
end

