-- ==== Sys2Proof/Machine/JobEnd.lean ====
section
/-! DEFINITION. The boundary of a job, function-level reset, IDE and the TDI states, and the aborts of consumers whose data
is uncorrectable (R249, R273, R306, R377, R378, R387 to R391). -/

namespace Sys2Proof.Machine

/-! ### Share slots of a function (R362) -/

/-- Every slot that a function owns is wiped. -/
def Dev.wipeOwner (d : Dev) (f : Nat) : Dev :=
  d.forAll (List.range 8) fun d s =>
    if (d.share s).owner = f ∧ ((d.share s).state = 1 ∨ (d.share s).state = 2) then d.wipeSlot s else d

/-- JOB_START (R386, R387): the job starts if it may; a function that a tenant switch displaces from a core has its share
slots wiped (R362). -/
def fxJobStart (d : Dev) (f seq : Nat) : Dev :=
  let d' := d.jobStart f seq
  match d.jobOf f seq with
  | none => d'
  | some j =>
    if (match d'.job j.id with | some k => k.phase == .waiting | none => true) = true then d'
    else (distinct ((j.cores.filterMap fun g => (d.core g).lastFn).filter fun o => o ≠ f)).foldl Dev.wipeOwner d'

/-! ### The boundary (R389) -/

/-- A transfer issues no further request: what has been requested completes (R249). -/
def Transfer.stopAt (t : Transfer) : Transfer :=
  if t.opc = 10 then { t with len := max t.requested ((t.dests.map Dest.sent).foldl max 0), pend := 0 } else { t with len := t.requested, pend := 0 }

/-- A transfer with nothing left to complete. -/
def Transfer.spent (t : Transfer) : Bool :=
  if t.opc = 10 then t.dests.all fun x => decide (t.len ≤ x.acked) else decide (t.len ≤ t.done)

/-- A stream engine drains (R249): unexecuted instructions and queued commands are discarded and counted; SIGs stay only
where their transfers will complete. -/
def StreamEng.drain (x : StreamEng) : StreamEng :=
  let left := x.queue.length + (match x.prog with | some p => p.instrs.length - p.pc | none => 0)
  let cut := x.xfers.filter fun t => t.stopAt.len ≠ t.len
  { x with queue := [], prog := none, waitTok := none, fence := none, unpost := none, draining := true, discards := satAdd 32 x.discards left,
           sigs := x.sigs.filter fun s => cut.all fun t => decide (s.2.1 ≤ t.id),
           xfers := (x.xfers.map Transfer.stopAt).filter fun t => !t.spent }

/-- A core's engines drain; its bindings end and its cluster leaves their groups; its requests no longer wait
for a regulator or the small path. -/
def Dev.drainCore (d : Dev) (g : Nat) : Dev :=
  let d := d.leaveBound g
  let d := (d.core g).binds.foldl (fun d b => d.endBinding g b) d
  let d := d.updMem fun m => m.forget (Waiter.ofCore g)
  d.updCore g fun c => (List.range 4).foldl (fun c e => c.updEng e StreamEng.drain) c

/-- The outstanding link messages of a core are abandoned (R391). -/
def Dev.abandonLinks (d : Dev) (g : Nat) : Dev :=
  let mine := d.lane.streams.flatMap fun t => if t.core = g then t.out.map TxMsg.msg else []
  let d := d.updLane fun s => { s with
    streams := s.streams.filter fun t => t.core ≠ g,
    links := s.links.map fun k => (k.1, k.2.withdraw fun m => mine.contains m) }
  d.updCore g fun c => { c with engs := c.engs.map fun e => (e.1, { e.2 with xfers := e.2.xfers.filter fun t => t.opc ≠ 10 }) }

/-- The block queue of a core is empty, and no block runs: the queue of a core whose part has ended counts as empty (R152). -/
def Core.still (c : Core) : Bool := c.seq.running.isNone && (c.partEnded || (c.bq.isEmpty && c.bqHeld.isEmpty))

/-- Cause 5 of R388: the control program has ended and every block queue is empty. -/
def Dev.programDone (d : Dev) (j : Job) : Bool :=
  decide (j.phase = .running) && (j.appCores.all fun a => (d.app a).ended) && (j.cores.all fun g => (d.core g).still)

/-- JOB_BOUNDARY (R388, R389): a job that a cause has ended, or whose program has ended with every queue empty, begins its
boundary once no block of it runs: engines drain, its groups close. -/
def fxJobBoundary (d : Dev) (f seq : Nat) : Dev :=
  match d.jobOf f seq with
  | none => d
  | some j =>
    if d.programDone j || (decide (j.phase = .ending) && (j.cores.all fun g => (d.core g).seq.running.isNone)) then
      let d := d.updJob j.id fun j =>
        { j with phase := .boundary, cause := if j.phase = .running then 5 else j.cause, endAon := d.aon0 }
      let d := d.forAll j.cores Dev.drainCore
      let d := if j.cause = 1 then d.forAll j.cores Dev.abandonLinks else d
      (List.range 64).foldl (fun d k => if (d.group (k / 32) (k % 32)).job = some j.id then d.closeGroup (k / 32) (k % 32) else d) d
    else d

/-- What the boundary waits for (R249, R297, R333): transfers, acknowledgements and egress buffers of a core. -/
def Dev.drained (d : Dev) (g : Nat) : Bool :=
  let c := d.core g
  (c.engs.all fun e => e.2.xfers.isEmpty) && c.egress.isEmpty &&
    (d.lane.streams.all fun t => decide (t.core ≠ g) || t.out.isEmpty)

/-- The state of a job clears on a core (R389 step 5), and the core is released. -/
def Core.endJob (c : Core) : Core :=
  { c with job := none, partEnded := false, seeds := [], cbuf := [], icache := [], nttBusy := 0, bcvBusy := 0, eweArith := 0, prmBusy := 0,
           kexWords := 0, freeAt := [], counted := [], boot := none, tileDiscards := 0, tileHwm := 0, keyRows := 0, catchupRows := 0, drops := 0, strRd := 0, strWr := 0, strSmall := 0,
           dispatchCnt := 0, skipCnt := 0, egressHwm := 0, rings := [], binds := [], ops := [], seen := [], sigq := [], bq := [], bqHeld := [],
           engs := c.engs.map fun e => (e.1, { StreamEng.reset with nextId := e.2.nextId, progs := e.2.progs }),
           seq := { c.seq with faulted := false, audit := false } }

/-- Status of a completion record (R388, R392). -/
def Job.status (j : Job) : Nat :=
  match j.cause with
  | 2 => 3
  | 3 => 4
  | 4 => 1
  | _ => if j.first.isSome then 1 else 0

/-- A group with its status fields zero. -/
def Group.clear (x : Group) : Group := { Group.reset with addr := x.addr, stall := x.stall, level := x.level, members := x.members }

/-- The status fields of a group opened by a job are zero at its boundary (R130). -/
def Dev.clearGroups (d : Dev) (id : Nat) : Dev :=
  { d with groups := d.groups.map fun p => (p.1, if p.2.job = some id then p.2.clear else p.2) }

/-- JOB_COMPLETION (R389, R265, R405): everything has drained: write-combining entries of PARTS flush, job state clears, the
completion record is written unless a reset ended the job, and its resources are released. -/
def fxJobCompletion (d : Dev) (f seq : Nat) : Dev :=
  match d.jobOf f seq with
  | none => d
  | some j =>
    if j.phase ≠ .boundary then d
    else if !(j.cores.all d.drained) then d
    else
      let parts (e : WcbEntry) : Bool := bit j.partMask e.part
      let d := ((d.clearGroups j.id).flushWhere 0 parts).flushWhere 1 parts
      let d := d.forAll j.cores fun d g => (d.updCore g Core.endJob).updLane fun s =>
        { s with streams := s.streams.filter fun t => t.core ≠ g }
      let d := d.forAll j.appCores fun d a => d.updApp a fun x =>
        { AppCore.reset with lastFn := x.lastFn, flushed := x.flushed }
      let d := match d.job j.id with
        | some j => if j.cause = 1 then d else d.complete j j.status j.first j.endAon
        | none => d
      (d.dropJob j.id).reserveFreed

/-! ### Function-level reset (R391, R443) -/

/-- Every job of a function ends without a completion record, whatever its phase (R388, R391). -/
def Dev.endJobs (d : Dev) (f : Nat) : Dev :=
  let mine := d.jobs.filter fun j => j.fn = f
  let d := mine.foldl (fun d j => match j.phase with
    | .accepted => d.dropJob j.id
    | .waiting => d.dropJob j.id
    | .boundary => (d.updJob j.id fun j => { j with cause := 1 }).forAll j.cores Dev.abandonLinks
    | _ => (d.endJob j.id 1).updJob j.id fun j => { j with cause := 1 }) d
  d.reserveFreed

/-- A function is reset: its jobs, share slots, expert bit and intake, and the counts since its last reset (R391, R400, R402); the next job on each of its cores is a tenant
switch. -/
def Dev.resetFn (d : Dev) (f : Nat) : Dev :=
  let d := ((d.endJobs f).wipeOwner f).updFn f fun x =>
    { x with en := false, modCnt := 0, modUs := 0, expect := 0, held := [], cmplBase := 0, faultBase := 0, faultSize := 0, intake := [],
             faultCount := 0, acceptCnt := 0, badSeal := 0, unannounced := [] }
  { d with expertEn := withBit d.expertEn f false,
           cores := d.cores.map fun c => (c.1, if c.2.lastFn = some f then { c.2 with lastFn := none } else c.2),
           apps := d.apps.map fun a => (a.1, if a.2.lastFn = some f then { a.2 with lastFn := none } else a.2) }

/-- FUNCTION_LEVEL_RESET (R391): of the physical function it clears VF Enable, which resets every virtual function, and
discards the requests of the big-number engine (R443). -/
def fxFunctionLevelReset (d : Dev) (f : Nat) : Dev :=
  let d := d.resetFn f
  if f = 0 then
    let d := if d.pcie.vfEnable then (List.range 63).foldl (fun d k => d.resetFn (k + 1)) d else d
    let d : Dev := { d with pcie := { d.pcie with vfEnable := false } }
    d.updBne fun b => { b with queue := [], run := b.run.map fun (r : BnReq) => { r with discard := true } }
  else d

/-! ### IDE and the TDI states (R377, R378) -/

/-- K_SET_GO (R377): the keys that IDE_KM has set for a stream replace those in use; no traffic is lost. The Link IDE Stream is
stream 64 here, after the selective streams 0 to 63. -/
def fxKSetGo (d : Dev) (sid keys : Nat) : Dev :=
  d.spdm fun d => d.secured fun d =>
    if 64 < sid then d else { d with pcie := { d.pcie with ideKeys := Tab.set d.pcie.ideKeys sid keys } }

/-- A TDI changes its state, and the physical function is told (R396). -/
def Dev.tdiState (d : Dev) (f st : Nat) : Dev := (d.updFn f fun x => { x with tdisp := st }).msix 0 19

/-- A TDI goes to ERROR from CONFIG_LOCKED or RUN: its jobs end and its share slots are wiped (R378). -/
def Dev.tdiError (d : Dev) (f : Nat) : Dev :=
  if f ≠ 0 ∧ ((d.fn f).tdisp = 1 ∨ (d.fn f).tdisp = 2) then ((d.endJobs f).wipeOwner f).tdiState f 3 else d

/-- IDE_INTEGRITY_FAIL (R377): every TDI bound to the stream goes to ERROR. -/
def fxIdeIntegrityFail (d : Dev) (sid : Nat) : Dev :=
  d.forAll (List.range 64) fun d f => if (d.fn f).ide = some sid then d.tdiError f else d

/-- TDI_CONFIG_CHANGE (R378). -/
def fxTdiConfigChange (d : Dev) (f : Nat) : Dev := d.tdiError f

/-- Message and error codes of TDISP. PRESUMED: the specification names the messages only. -/
def tdispInterface : Nat := 0x0101
def tdispState : Nat := 0x0004

/-- LOCK_INTERFACE_REQUEST (R377, R378): the request names the selective stream that the function is bound to. -/
def fxLockInterfaceRequest (d : Dev) (f stream : Nat) : Dev :=
  d.spdm fun d => d.secured fun d =>
    if f = 0 then d.emit (.error tdispInterface)
    else if (d.fn f).tdisp ≠ 0 ∨ 0 < d.outstanding f then d.emit (.error tdispState)
    else ((d.updFn f fun x => { x with ide := some (stream % 64) }).tdiState f 1).emit (.response 0x03 [])

/-- START_INTERFACE_REQUEST (R378): intake becomes possible, and the slot of E is evaluated at once (R381). -/
def fxStartInterfaceRequest (d : Dev) (f : Nat) : Dev :=
  d.spdm fun d => d.secured fun d =>
    if f = 0 then d.emit (.error tdispInterface)
    else if (d.fn f).tdisp ≠ 1 then d.emit (.error tdispState)
    else ((d.tdiState f 2).evalExpected f).emit (.response 0x05 [])

/-- STOP_INTERFACE (R378): to CONFIG_UNLOCKED; every job of the function ends as by a function-level reset, and the wipe of
its partitions begins; the response follows the wipe. Intake is possible again (R381). -/
def fxStopInterface (d : Dev) (f : Nat) : Dev :=
  if d.sec.stage < 3 ∨ d.rst.pcie ≠ 1 then d
  else d.secured fun d => if f = 0 then d.emit (.error tdispInterface)
  else (((d.endJobs f).updFn f fun x => { x with stopping := true, ide := none }).tdiState f 0).evalExpected f

/-- The atoms of a partition are written with zero data and valid check symbols (R378). -/
def Mem.zeroPart (m : Mem) (p : Nat) : Mem :=
  let out (a : Nat) : Bool := !m.inPart p a 1
  { m with hbm := m.hbm.filter (fun x => out x.1), ue := m.ue.filter out, ce := m.ce.filter out,
           wcb := m.wcb.map fun w => (w.1, { w.2 with entries := w.2.entries.filter fun e => out e.granule }) }

/-- STOP_INTERFACE_WIPE_DONE (R378): once the jobs that the request ended are gone, the wipe completes and the response is
sent. -/
def fxStopInterfaceWipeDone (d : Dev) (f : Nat) : Dev :=
  if (d.fn f).stopping && !(d.jobs.any fun j => decide (j.fn = f) && decide (j.cause = 1)) then
    let d := d.updMem fun m => (bitsOf 64 (d.grantParts f)).foldl Mem.zeroPart m
    ((d.updFn f fun x => { x with stopping := false }).emit (.response 0x06 [])).msix 0 18
  else d

/-! ### Uncorrectable data (R273, R306) -/

/-- The consumer of uncorrectable data is aborted: `place e` is the detail of a stream record for engine e. -/
def Dev.abortConsumer (d : Dev) (code detail : Nat) (place : Nat → Nat) (region : Bool) : Consumer → Dev
  | .stream g e x =>
    match ((d.core g).eng e).xfer x with
    | some t => if t.opc = 10 then d.lsendSkip g e t code (place e) else d.xferSkip g e t code (place e)
    | none => d
  | .fetch g =>
    match (d.core g).bq.find? fun b => !b.kernel && !(d.core g).resident b with
    | some b =>
      (d.updCore g fun c => { c with partEnded := true, seq := { c.seq with faulted := true } }).coreFault g
        { plainFault code 1 (coreLoc g) detail with block := b.index }
    | none => d
  | .group die n => if (d.group die n).state = 2 then d.failGroup die n fun b => (code, place b.eng) else d
  | .app a =>
    match d.calling a with
    | some j => d.jobFault j.id (plainFault code 2 (appLoc a) detail)
    | none => d
  | .region g r row =>
    if region then d.updCore g fun c => c.updRing r fun q => if row < q.rows then q.setRow row (.failed code detail) else q else d
  | .bar2 f => (d.emit .completerAbort).fnFault f (plainFault code 1 (location 0xA 0 0 0 0) detail)
  | .other => d

/-- HBM_READ_RETURN (R255, R271 to R273): a read of an atom of channel h returns. A corrected atom is delivered and counted;
an uncorrectable one is not delivered, and its consumer is aborted with MEM_UNCORRECTABLE. A channel in a partial reset returns
none (R256); a line fill of an application core takes the small path, and returns once that admits it (R409). -/
def fxHbmReadReturn (d : Dev) (h atom : Nat) (s : AtomState) (who : Consumer) : Dev :=
  let atom := atom / 64 * 64
  let r := match who with
    | .app a => d.mem.pass (.line a) none true atom 64
    | _ => (d.mem, !d.mem.resetting atom 64)
  let ok := isHbm atom && decide (chanOf atom = h)
  let d := if ok then { d with mem := r.1 } else d
  if !ok || !r.2 then d
  else
    let f := d.mem.finding atom s
    let d := d.updMem fun m => m.eccRead atom false f
    match f with
    | .uncorrectable => d.abortConsumer 0x0501 atom (fun e => streamAddr e atom) false who
    | _ => d

/-- FABRIC_UNCORRECTABLE (R306): a flit of a router's virtual channel is dropped, and its consumer aborted. -/
def fxFabricUncorrectable (d : Dev) (die r vc : Nat) (who : Consumer) : Dev :=
  let detail := r % 256 + 256 * (vc % 4)
  (d.updMem fun m => m.countNocUe die).abortConsumer 0x0606 detail (fun _ => detail) true who

end Sys2Proof.Machine
end

