-- ==== Sys2Proof/Machine/Registers.lean ====
section
/-! DEFINITION. Reading the registers: the block map and the layout of every register of the device, and the capability
lists (R546 to R552, and the register tables of every chapter). Each function gives the 64-bit register at an offset of its
block that is a multiple of 8, or none where the block has no register there. Fields that are write-only, and windows that
are written only, read zero. -/

namespace Sys2Proof.Machine

/-! ### The capability lists (R546 to R549) -/

/-- The capabilities of a function, by ascending ID, with their payloads. -/
def Dev.caps (d : Dev) (f : Nat) (s : CapSnap) : List (Nat × List Byte) :=
  let z (n : Nat) : List Byte := List.replicate n 0
  let all : List (Nat × Bool × List Byte) :=
    [(1, false, leBytes 2 Config.vendorId ++ leBytes 2 0x9610 ++ leBytes 1 (Config.suffix % 2) ++ leBytes 1 Config.stepping ++ leBytes 1 f ++ z 1 ++
        leBytes 8 d.fuses.uid ++ leBytes 2 d.lane.devId ++ leBytes 2 s.active ++ z 4 ++ versionBytes s.version ++ z 2),
     (2, false, [12, 17, 72, 96, 7, 8, 36, 30] ++ leBytes 4 4194304 ++ [8, 8] ++ leBytes 2 8),
     (3, false, [12, 16, 32, 2, 2] ++ z 3),
     (4, false, [16, 8, 15, 4, 16, 62, 1, 16] ++ z 8),
     (5, false, [96, 12, 6, 1] ++ leBytes 2 4096 ++ [64, 16] ++ leBytes 2 25000 ++ leBytes 2 1000 ++ z 4),
     (6, true, [0x3F, 3, 7, 16] ++ z 4),
     (7, false, [3, 22] ++ leBytes 1 (b2n (bit s.granted f)) ++ [7] ++ z 4),
     (8, true, [16, 64, 10] ++ z 1 ++ leBytes 4 16777216),
     (9, true, [4, 64] ++ leBytes 2 256 ++ leBytes 2 256 ++ leBytes 2 16 ++ leBytes 1 s.feed ++ z 7)]
  (all.filter fun c => !c.2.1 || decide (f = 0)).map fun c => (c.1, c.2.2)

/-- Length of an entry: its header and its payload, up to a multiple of 16 (R546). -/
def capSize (p : List Byte) : Nat := alignUp (16 + p.length) 16

/-- The bytes of a list whose first entry stands at a BAR0 offset (R546, R547). -/
def capBytes : Nat → List (Nat × List Byte) → List Byte
  | _, [] => []
  | off, (id, p) :: t =>
    let next := if t.isEmpty then 0 else off + capSize p
    leBytes 2 id ++ leBytes 2 1 ++ leBytes 4 p.length ++ leBytes 4 next ++ leBytes 4 0 ++ p ++
      List.replicate (capSize p - 16 - p.length) 0 ++ capBytes (off + capSize p) t

/-- A function's capability list; nothing before the start is confirmed (R547). -/
def Dev.capList (d : Dev) (f : Nat) : List Byte :=
  match d.rst.caps with
  | some s => capBytes 0x1000 (d.caps f s)
  | none => []

/-! ### Platform blocks -/

/-- AON (R502, R523, R566). -/
def Dev.readAon (d : Dev) (die x : Nat) : Option Nat :=
  if x = 0x50 then some (d.aon die)
  else if die ≠ 0 then none
  else [(0x40, b2n d.rst.fuseDone + put (b2n d.rst.fuseFailed) 1 1 + put (b2n d.rst.fuseRedundant) 2 1 + put d.rst.fuseReads 8 8),
        (0x48, put d.ledCode 0 4),
        (0x58, put d.hw.rail 0 5 + put (b2n d.hw.railValid) 5 1 + put d.hw.railKind 6 2 + put d.hw.railFaults 16 16)].lookup x

/-- RST (R499 to R501). -/
def Dev.readRst (d : Dev) (x : Nat) : Option Nat :=
  let r := d.rst
  [(0x00, put r.cause 0 8), (0x08, 0),
   (0x10, put r.partCtrlKind 1 3 + put r.partCtrlIndex 32 8),
   (0x18, put (b2n r.partBusy) 0 1 + put (b2n r.partWaiting) 1 1 + put r.partKind 8 4 + put r.partResult 12 4 + put r.partIndex 32 8),
   (0x20, put r.strap 0 4 + put r.strapSets 8 3 + put r.strapCode 16 8 + put (b2n r.strapUnstable) 24 1),
   (0x28, put d.nor.fails 0 3 + put (b2n r.lodestar) 8 1 + put (b2n r.confirmed) 16 1)].lookup x

/-- PWR (R520, R521). -/
def Dev.readPwr (d : Dev) (x : Nat) : Option Nat :=
  let p := d.pwr
  if 0x100 ≤ x ∧ x < 0x180 then some (put (Tab.get 0 p.gap ((x - 0x100) / 8)) 0 8)
  else if 0x200 ≤ x ∧ x < 0x210 then
    let die := (x - 0x200) / 8
    some (put (Tab.get 0 p.dieMax die) 0 8 + put (Tab.get 0 p.hbmMax die) 8 8 + put (Tab.get 0 p.optMax die) 16 8)
  else [(0x00, put (b2n p.duskEn) 0 1 + put p.idleUs 4 20 + put p.limitW 32 12),
        (0x08, put p.state 0 4 + put (b2n p.clamped) 4 1 + put (b2n (p.gap.any fun q => decide (0 < q.2))) 5 1 + put p.therm 6 2 +
          put (b2n p.atFloor) 8 1 + put p.powerW 24 12 + put (if p.limitW = 0 then 0 else d.effLimit) 36 12),
        (0x10, p.duskCnt)].lookup x

/-- CLK (R522). -/
def Dev.readClk (d : Dev) (x : Nat) : Option Nat :=
  let c := x / 8
  if c < 16 then
    some (put (Tab.get 0 d.pwr.freqReq c) 0 2 + put (Tab.get 0 d.pwr.freqCur c) 8 2 + put (b2n (Tab.get false d.pwr.relocking c)) 16 1)
  else none

/-- CFG (R542). A command runs at once, so BUSY reads zero. -/
def Dev.readCfg (d : Dev) (x : Nat) : Option Nat :=
  let c := d.cfg
  let m := d.nor.marks 0x20
  [(0x00, put m.active 0 1 + put c.slot 1 1 + put (b2n c.fallback) 4 1 + put (b2n m.trial) 5 1 + put (b2n c.migrated) 6 1 +
      put (b2n c.dirty) 7 1 + put (numAt c.record 0xC 4) 8 24 + put (numAt c.record 4 2) 32 16 + put fwFormat 48 16),
   (0x08, put (b2n c.persist) 1 1 + put c.key 8 8), (0x10, c.value), (0x18, put c.result 0 8)].lookup x

/-- UPD (R543, R544). -/
def Dev.readUpd (d : Dev) (x : Nat) : Option Nat :=
  let u := d.upd
  if 0x110 ≤ x ∧ x < 0x1A0 then
    let i := (x - 0x100) / 16
    let k := d.nor.marks (if i = 9 then 0x20 else i)
    if x / 8 % 2 = 0 then
      let s := k.activeSlot
      some (put (b2n k.trial) 2 1 + put (b2n k.tried) 3 1 + put k.active 4 1 + put (b2n s.valid) 5 1 + put s.version 16 48)
    else
      let s := k.otherSlot
      some (put (1 - k.active) 4 1 + put (b2n s.valid) 5 1 + put s.version 16 48)
  else [(0x00, 0),
        (0x08, put u.state 0 4 + put (b2n u.resetNeeded) 4 1 + put u.result 16 8 + put u.step 24 8 + put u.steps 32 8 + put u.component 40 8),
        (0x10, d.nor.pkgId)].lookup x

/-! ### Security blocks -/

/-- SEC (R445 to R447). -/
def Dev.readSec (d : Dev) (x : Nat) : Option Nat :=
  let s := d.sec
  if 0x100 ≤ x ∧ x < 0x3C0 then some (numAt d.measBytes (x - 0x100) 8)
  else [(0x00, put s.stage 0 4 + put d.fuses.lifecycle 8 8 + put (b2n (!d.nor.svnPending.isEmpty)) 16 1 + put s.keySlot 24 4 +
           put d.fuses.keyRevoke 28 4 + put d.nor.startCount 32 32),
        (0x08, ((List.range 8).map fun i => put (Tab.get 0 d.fuses.svn (i + 1)) (8 * i) 8).sum),
        (0x10, put s.nextIndex 0 40 + put (b2n (decide (2 ^ 40 ≤ s.nextIndex))) 48 1 + put (b2n s.logErr) 49 1),
        (0x18, put (1024 * d.nor.logBlocks - 1) 0 40), (0x20, put d.viol 0 5), (0x30, s.kcopyDst), (0x38, put s.kcopyKid 32 16),
        (0x40, put s.kcopyRes 0 8 + put (b2n s.kcopy.isSome) 8 1 + put s.kcopyLen 32 32)].lookup x

/-- BNE (R448, R449). -/
def Dev.readBne (d : Dev) (x : Nat) : Option Nat :=
  let b := d.sec.bne
  if x < 0x40 then some 0
  else [(0x40, put b.state 0 4 + put (b2n b.overflow) 4 1 + put (b2n b.run.isSome) 8 1 + put b.queue.length 16 5),
        (0x48, b.reqCnt), (0x50, b.rejectCnt), (0x58, b.mismatchCnt)].lookup x

/-- A function's view of MPC (R368, R369). -/
def Dev.readMpc (d : Dev) (f x : Nat) : Option Nat :=
  let m := d.sec.mpc
  if x < 0x200 then
    let s := x / 0x40
    let y := d.share s
    let nonce (k : Nat) : Nat := if y.state = 0 then fld y.nonce (64 * k) 64 else 0
    [(0x00, Tab.get 0 (d.fn f).slotAddr s), (0x08, put (Tab.get 0 (d.fn f).slotLen s) 32 21),
     (0x10, put y.state 0 3 + put y.form 9 1 + put y.scheme 10 2 + put y.party 12 4 + put y.owner 16 8 + put y.err 24 8 + put y.budget 32 32),
     (0x18, nonce 0), (0x20, nonce 1)].lookup (x % 0x40)
  else if 0x400 ≤ x ∧ x < 0x440 then some 0
  else if 0x800 ≤ x ∧ x < 0x860 then some (numAt (beBytes 48 d.sec.wrapPub.1 ++ beBytes 48 d.sec.wrapPub.2) (x - 0x800) 8)
  else [(0x440, put ((m.run.map PdecRun.slot).getD 0) 0 3 + put (b2n m.run.isSome) 8 1 + put m.queue.length 16 5), (0x448, m.cnt)].lookup x

/-! ### Host blocks -/

/-- HIF and INTK of function f (R398 to R402). A cancel is answered at once, so BUSY reads zero. -/
def Dev.readHif (d : Dev) (f x : Nat) : Option Nat :=
  let y := d.fn f
  [(0x00, put (b2n y.denied) 1 1 + put (b2n (bit d.expertEn f)) 2 1 + put (b2n (decide (d.mem.mstate ≠ 0))) 3 1 + put (b2n y.ideDrop) 4 1 +
      put (if f = 0 then 0xF else y.tdisp) 16 4 + put f 32 8),
   (0x08, if f = 0 then d.expertEn else 0), (0x10, y.cmplBase), (0x18, put y.faultSize 0 4 + y.faultBase),
   (0x20, put y.faultCount 0 48 + put y.faultLost 48 16),
   (0x40, put (b2n y.en) 0 1 + put y.modCnt 16 8 + put y.modUs 32 16),
   (0x48, put (if y.en then (if y.tdisp = 1 ∨ y.tdisp = 3 then 2 else 1) else 0) 0 3 + put (b2n y.enRefused) 3 1 + put y.held.length 16 13 +
      put (d.outstanding f) 32 13),
   (0x50, if y.en then y.expect else 0), (0x58, 0), (0x60, put y.cancelRes 0 8), (0x68, y.acceptCnt), (0x70, y.badSeal)].lookup x

/-! ### Memory and fabric blocks -/

/-- MEMC_UE_ADDR and MEMC_CE_ADDR (R284). -/
def AtomReg.word (r : AtomReg) : Nat := r.atom % 2 ^ 52 + put (b2n r.scrub) 62 1 + put (b2n r.valid) 63 1

/-- STATE of a channel: maintenance covers a channel in service (R280, R283). -/
def Mem.chanState (m : Mem) (h : Nat) : Nat := if (m.chan h).state = 2 ∧ (m.mstate = 2 ∨ m.mstate = 3) then 4 else (m.chan h).state

/-- MEMC (R282 to R286). -/
def Dev.readMemc (d : Dev) (die x : Nat) : Option Nat :=
  if x < 0x4000 then
    let c := d.mem.chan (64 * die + x / 0x100)
    [(0x00, b2n c.wb + put (b2n c.patrol) 1 1),
     (0x08, put (d.mem.chanState (64 * die + x / 0x100)) 0 4 + put (b2n c.hot) 4 1 + put c.temp 16 8),
     (0x10, c.ue.word), (0x18, c.ce.word), (0x20, c.ceCnt), (0x28, c.ueCnt), (0x30, c.rdBytes), (0x38, c.wrBytes),
     (0x40, c.smallWait)].lookup (x % 0x100)
  else [(0x4000, b2n d.mem.maint), (0x4008, put d.mem.mstate 0 4 + put (b2n d.mem.denied) 4 1)].lookup x

/-- MREG (R287, R288): a context of the other die, or of no partition, reads zero. MREG_RATE reads as written last. -/
def Dev.readMreg (d : Dev) (die x : Nat) : Option Nat :=
  let q := d.mem.part (x / 0x40)
  if 0x1000 ≤ x ∨ 0x20 ≤ x % 0x40 then none
  else if !q.valid ∨ q.die ≠ die then some 0
  else
    let rate := q.newRate.getD (q.rate, q.burst, q.mode)
    [(0x00, put q.base 0 9 + put q.size 16 9 + put (b2n q.valid) 63 1),
     (0x08, put rate.1 0 13 + put (b2n rate.2.2) 16 1 + put rate.2.1 32 11),
     (0x10, b2n q.throttled + put (min q.waiting.length 0xFFFF) 16 16 + put (q.tokens % 2 ^ 32).toNat 32 32),
     (0x18, q.bytes)].lookup (x % 0x40)

/-- TGC (R289, R290). -/
def Dev.readTgc (d : Dev) (die x : Nat) : Option Nat :=
  let c := d.mem.chan (64 * die + x / 0x80)
  [(0x00, put (b2n c.destruct) 2 1 + put c.pattern 4 4 + put c.op 8 4 + put c.passes 32 32), (0x08, put c.seed 0 31),
   (0x10, put c.tstate 0 4 + put c.reason 4 4 + put c.errors 32 32),
   (0x18, put c.dqMask 0 32 + put c.errAtom 32 26 + put (b2n c.errPseudo) 58 1), (0x20, c.atoms)].lookup (x % 0x80)

/-- WCB (R291). -/
def Dev.readWcb (d : Dev) (die x : Nat) : Option Nat :=
  let w := d.mem.wcbOf die
  [(0x00, 0), (0x08, put w.entries.length 0 11 + put w.hwm 16 11 + put (b2n w.flushing) 32 1), (0x10, w.merges), (0x18, w.full), (0x20, w.age),
   (0x28, w.other), (0x30, w.rmw)].lookup x

/-- NOC (R308, R310). -/
def Dev.readNoc (d : Dev) (die x : Nat) : Option Nat :=
  let f := d.mem.fab die
  if x / 8 < 38 then
    let l := Tab.get NocLink.reset f.links (x / 8)
    some (put l.state 0 2 + put (b2n l.spare) 2 2 + put l.replays 32 32)
  else [(0x200, f.mcast), (0x208, f.ueCnt)].lookup x

/-- D2D (R308 to R310). -/
def Dev.readD2d (d : Dev) (die x : Nat) : Option Nat :=
  let f := d.mem.fab die
  [(0x00, put f.d2dState 0 2 + put (b2n f.d2dSpare) 8 1 + put f.d2dGroups 16 5 + put f.d2dReplays 32 32), (0x08, 0), (0x10, f.bytes01),
   (0x18, f.bytes10)].lookup x

/-- XCH (R307, R310): a port by its physical position, and the logical position that it serves. -/
def Dev.readXch (d : Dev) (die x : Nat) : Option Nat :=
  let c := 8 * die + x / 0x100
  let y := x % 0x100
  if y / 8 < 9 then
    match d.logicalOf c (y / 8) with
    | some k =>
      let g := d.core (8 * c + k)
      some (k + put (min g.egress.length 0xFFFF) 16 16 + put g.egressHwm 32 16)
    | none => some 0xF
  else [(0x80, (d.mem.xchOf c).sendWords), (0x88, (d.mem.xchOf c).contend)].lookup y

/-- KST (R128 to R130). -/
def Dev.readKst (d : Dev) (die x : Nat) : Option Nat :=
  let y := d.group die (x / 0x40)
  [(0x00, y.addr), (0x08, put y.members 8 8 + put y.level 24 8 + put y.stall 32 8), (0x10, y.status)].lookup (x % 0x40)

/-! ### Link blocks -/

/-- BER_LOG and MARGIN_LOW of a link (R345): −10·log10 of the bit error ratio of the last second, rounded, and whether the ratio
was above 1 × 10^−4; both 0 while the link is disabled. -/
def Dev.berLog (d : Dev) (l : Nat) : Nat := if (d.lane.link l).state = 0 then 0 else Config.linkBer l (d.aon (dieOfLink l) / 25_000_000) % 256
def Dev.marginLow (d : Dev) (l : Nat) : Bool :=
  decide ((d.lane.link l).state ≠ 0) && (decide (d.berLog l < 40) || (decide (d.berLog l = 40) && Config.marginAt40 l (d.aon (dieOfLink l) / 25_000_000)))

/-- What a sensor of the optics shows (R347), a field of a register. -/
def Dev.sensed (d : Dev) (kind unit width : Nat) : Nat := Config.sensor kind unit d.aon0 % 2 ^ width

/-- LNK (R344 to R346). -/
def Dev.readLnk (d : Dev) (die x : Nat) : Option Nat :=
  if 0x1000 ≤ x then
    if 0x1000 + 0x40 * 48 ≤ x then none
    else
      let l := 48 * die + (x - 0x1000) / 0x40
      let k := d.lane.link l
      [(0x00, b2n k.en),
       (0x08, put k.state 0 4 + put k.reason 4 4 + put (b2n (d.marginLow l)) 8 1 + put (d.berLog l) 16 8 + put k.farLink 40 8 + put k.farId 48 16),
       (0x10, k.fecCorr), (0x18, k.fecUncorr), (0x20, k.replays), (0x28, k.txBytes), (0x30, k.rxBytes), (0x38, k.refused)].lookup (x % 0x40)
  else if die ≠ 0 then none
  else [(0x00, put d.lane.devId 0 16), (0x08, put d.lane.retry 0 8 + put d.lane.peerWait 16 16 + put d.lane.sendLimit 32 16)].lookup x

/-- OPT (R347). An engine that is off and an empty bay show no temperature; a cartridge gives no light before it warms up and
after its release. -/
def Dev.readOpt (d : Dev) (die x : Nat) : Option Nat :=
  if x < 0x40 * 6 then
    let i := 6 * die + x / 0x40
    let e := d.lane.opt i
    if x % 0x40 = 0 then some (put e.state 0 4 + put (b2n e.secondary) 9 1 + put e.cart 16 3 + put (if e.state = 0 then 0 else d.sensed 0 i 8) 24 8) else none
  else if die = 0 ∧ 0x400 ≤ x ∧ x < 0x460 then
    let i := (x - 0x400) / 0x10
    let c := d.lane.cart i
    if x % 0x10 = 0 then some 0 else some (put c.state 0 4 + put (b2n c.present) 4 1 + put (if c.present then d.sensed 1 i 8 else 0) 8 8 +
      put (if c.state = 0 ∨ c.state = 3 then 0 else d.sensed 2 i 16) 16 16)
  else none

/-- WIN (R348). -/
def Dev.readWin (d : Dev) (x : Nat) : Option Nat :=
  if x < 0x400 then
    let w := d.lane.win (x / 0x40)
    [(0x00, w.base), (0x08, put w.size 0 28 + put w.part 32 6 + put w.peer 48 16), (0x10, 0),
     (0x18, put w.state 0 2 + put w.openErr 8 4 + put w.accepted 32 32), (0x20, w.refused)].lookup (x % 0x40)
  else if 0x800 ≤ x ∧ x < 0x820 then some 0
  else if x = 0x840 then some (put (min d.lane.xfers.length 64) 0 7) else none

/-- Word k of tap j (R475). -/
def Tap.word (t : Tap) (k : Nat) : Nat :=
  if k = 0 then put t.source 0 16 + put t.sender 16 7 + put t.queue 32 12 + put t.slot 48 2 + put (b2n t.overrun) 62 1 + put (b2n t.valid) 63 1
  else put t.off 0 32 + put t.len 32 32

/-- A tap of a slot is complete in the present epoch: it has landed LEN bytes (R461, R474). -/
def Dev.tapsDone (d : Dev) (i : Nat) : Nat :=
  ((d.tapsOf i).filter fun j => (d.tap j).epoch.isSome && decide ((d.tap j).landed = 64 * (d.tap j).len)).length

/-- PDD (R454, R471 to R476). -/
def Dev.readPdd (d : Dev) (die x : Nat) : Option Nat :=
  let p := d.pdd
  let t := d.selfTest die
  if 0x100 ≤ x ∧ x < 0x140 then
    let c := 8 * die + (x - 0x100) / 8
    let failed := Tab.get 0 p.failed c
    some (put (d.coreMap c) 0 32 + put failed 32 9 + put (b2n ((List.range 8).any fun k => fld (d.coreMap c) (4 * k) 4 = 0xF)) 48 1)
  else if x = 0x200 then some (put t.phys 0 4 + put t.cluster 4 3 + put (b2n t.retest) 9 1)
  else if x = 0x208 then some (put t.state 0 4 + put t.result 4 4)
  else if x = 0x318 then some (Tab.get 0 p.subst die)
  else if die ≠ 0 then none
  else if 0x40 ≤ x ∧ x < 0xC0 then some 0
  else if 0x400 ≤ x ∧ x < 0x500 then
    let i := (x - 0x400) / 0x40
    let y := d.mslot i
    [(0x00, put y.frame 0 22 + put y.source 48 16),
     (0x08, put y.state 0 4 + put (d.tapsDone i) 8 8 + put ((y.curStep.map Prod.fst).getD 0) 16 48)].lookup (x % 0x40)
  else if 0x800 ≤ x ∧ x < 0xC00 then some ((d.tap ((x - 0x800) / 0x10)).word (x / 8 % 2))
  else [(0x00, put p.holder 0 16 + put p.feed 24 8 + put (b2n p.override') 32 1 + put p.mirrorPart 36 6 + put p.lostWait 48 16),
        (0x08, put p.pair 0 4 + put (b2n p.feedWarn) 4 1 + put p.holderFeed 8 8 + put p.lastStep 16 48), (0xC0, p.snapStep),
        (0x300, p.tapBytes), (0x308, p.commitCnt), (0x310, p.commitFails)].lookup x

/-- PEER (R349). A command is answered at once, so BUSY reads zero. -/
def Dev.readPeer (d : Dev) (x : Nat) : Option Nat :=
  if x < 0x1_0000 then
    [(0x00, put d.lane.peerCmdId 32 16), (0x08, d.lane.peerCmdData), (0x10, put d.lane.peerResult 0 8 + put d.lane.peerIndex 16 12)].lookup x
  else if x < 0x2_0000 then
    match d.lane.peers.lookup ((x - 0x1_0000) / 16) with
    | some p => some (if x / 8 % 2 = 0 then p.id + put p.state 16 4 + put (d.lane.upLinks p.id).length 32 7 else p.owners)
    | none => some 0
  else
    let y := d.lane.grp ((x - 0x2_0000) / 0x40)
    if 0x2_1000 ≤ x then none
    else if x % 0x40 = 0 then some (put y.count 16 5 + put y.stall 32 8)
    else if x % 0x40 < 0x28 then
      let i := 4 * (x % 0x40 / 8 - 1)
      some (((List.range 4).map fun k => put (Tab.get 0 y.members (i + k)) (16 * k) 16).sum)
    else none

/-! ### Core blocks (R551) -/

/-- SEQ_STATUS.STATE (R171). -/
def Core.seqState (c : Core) : Nat :=
  if c.seq.faulted then 5 else if c.seq.freeze.isSome then 3 else if c.seq.running.isSome then 1
  else if c.forceWait.isSome || c.load.any (fun l => l.force) then 4
  else if c.bq.isEmpty then 0 else 2

/-- STR_ENG_STATUS.STATE of engine e (R250): a stop, then a drain, then a wait in WAITT or FENCE, then a transfer that waits
for rows of its ring. -/
def Core.engState (c : Core) (e : Nat) : Nat :=
  let y := c.eng e
  let rows := y.xfers.any fun t => decide (t.requested < t.len) && (match t.ring with | some r => !c.ringHas e r t.batch | none => false)
  if y.stopped then 5 else if y.draining then 4 else if y.waitTok.isSome ∨ y.fence.isSome then 2
  else if rows then 3 else if y.prog.isSome ∨ !y.xfers.isEmpty then 1 else 0

/-- STR_RING_STATUS (R251). -/
def Ring.status (q : Ring) : Nat :=
  let count (p : RowState → Bool) : Nat := ((List.range q.rows).filter fun i => p (q.state i)).length
  let landed := count fun s => match s with | .landed => true | .ready => true | _ => false
  let free := count fun s => match s with | .free => true | .released => true | _ => false
  let bad := q.fail.isSome || q.row.any fun p => match p.2 with | .failed _ _ => true | _ => false
  1 + put q.eng 2 2 + put q.typ 4 2 + put (b2n q.rel) 6 1 + put (b2n bad) 7 1 + put free 16 17 + put landed 33 17

/-- Word of SEQ_PTAB (R196, R197). -/
def Core.ptabWord (c : Core) (i k : Nat) : Nat := match c.ptab[i]? with | some e => e.word k | none => 0

/-- The block of a core (R551). -/
def Core.read (c : Core) (x : Nat) : Option Nat :=
  let bank (b : Nat) : Bank := Tab.get ⟨0, 0, []⟩ c.banks b
  if 0x1000 ≤ x then some (c.ptabWord ((x - 0x1000) / 128) (x % 128 / 8))
  else if 0x80 ≤ x ∧ x < 0xC0 then some 0
  else if 0x600 ≤ x ∧ x < 0x620 then
    let e := (x - 0x600) / 8
    some (put (c.engState e) 0 4 + put (c.eng e).held 16 8 + put (c.eng e).discards 32 32)
  else if 0x640 ≤ x ∧ x < 0x6C0 then some (match c.ring? ((x - 0x640) / 8) with | some q => q.status | none => 0)
  else
    [(0x000, put c.seqState 0 4 + put (b2n c.seq.audit) 4 1 + put c.queued 16 9 + put c.seq.runIndex 32 32),
     (0x008, c.kloadAddr), (0x010, put c.kloadBank 1 1 + put c.kloadLen 32 12),
     (0x018, put c.active 0 1 + put (b2n (c.load.isSome || c.forceWait.isSome)) 1 1 + put (bank 0).state 2 2 + put (bank 1).state 4 2 + put c.loadErr 8 4 +
        put (bank 0).kid 32 16 + put (bank 1).kid 48 16),
     (0x020, c.eccFreeze), (0x028, c.lateFreeze), (0x030, c.lateFreezeCyc), (0x038, c.dispatchCnt), (0x040, c.skipCnt),
     (0x100, c.nttBusy), (0x180, c.bcvBusy), (0x200, c.eweArith),
     (0x208, put c.tiles.length 0 5 + put c.tileHwm 8 5 + put c.tileDiscards 16 16), (0x280, c.prmBusy), (0x300, c.kexWords),
     (0x400, put c.shadowBase 0 22 + put c.shadowSize 32 23), (0x408, put c.drops 0 8 + put c.catchupRows 8 24 + put c.keyRows 32 32),
     (0x500, put c.segReq 0 8 + put c.segState 8 8 + put c.segBusy 16 8),
     (0x508, put (b2n c.ceValid) 1 1 + put (b2n c.ueValid) 2 1 + put (b2n c.ueScrub) 3 1 + put c.lastCe 16 16 + put c.lastUe 32 16),
     (0x510, c.ceCnt), (0x518, c.ueCnt), (0x520, c.scrubCnt), (0x6C0, c.strRd), (0x6C8, c.strWr), (0x6D0, c.strSmall)].lookup x

/-! ### The block map (R550) -/

/-- The register at offset x of die die's region, as function f sees it (f matters in the MPC block only); none where no
register lies. -/
def Dev.regRead (d : Dev) (f die x : Nat) : Option Nat :=
  if 0x100_0000 ≤ x ∧ x < 0x110_0000 then (d.core (64 * die + (x - 0x100_0000) / 0x4000)).read (x % 0x4000)
  else if x < 0x1000 then d.readAon die x
  else if 0x60_0000 ≤ x ∧ x < 0x60_8000 then d.readMemc die (x - 0x60_0000)
  else if 0x60_8000 ≤ x ∧ x < 0x60_9000 then d.readMreg die (x - 0x60_8000)
  else if 0x60_9000 ≤ x ∧ x < 0x60_B000 then d.readTgc die (x - 0x60_9000)
  else if 0x60_B000 ≤ x ∧ x < 0x60_C000 then d.readWcb die (x - 0x60_B000)
  else if 0x61_0000 ≤ x ∧ x < 0x61_1000 then d.readNoc die (x - 0x61_0000)
  else if 0x61_1000 ≤ x ∧ x < 0x61_2000 then d.readD2d die (x - 0x61_1000)
  else if 0x61_2000 ≤ x ∧ x < 0x61_2800 then d.readXch die (x - 0x61_2000)
  else if 0x62_0000 ≤ x ∧ x < 0x62_0800 then d.readKst die (x - 0x62_0000)
  else if 0x63_0000 ≤ x ∧ x < 0x63_2000 then d.readLnk die (x - 0x63_0000)
  else if 0x63_2000 ≤ x ∧ x < 0x63_3000 then d.readOpt die (x - 0x63_2000)
  else if 0x64_0000 ≤ x ∧ x < 0x64_1000 then d.readPdd die (x - 0x64_0000)
  else if die ≠ 0 then none
  else if x < 0x2000 then d.readRst (x - 0x1000)
  else if x < 0x3000 then d.readPwr (x - 0x2000)
  else if x < 0x4000 then d.readClk (x - 0x3000)
  else if x < 0x5000 then d.readCfg (x - 0x4000)
  else if x < 0x6000 then d.readUpd (x - 0x5000)
  else if 0x1_0000 ≤ x ∧ x < 0x1_1000 then d.readSec (x - 0x1_0000)
  else if 0x1_1000 ≤ x ∧ x < 0x1_2000 then d.readBne (x - 0x1_1000)
  else if 0x1_2000 ≤ x ∧ x < 0x1_3000 then d.readMpc f (x - 0x1_2000)
  else if 0x10_0000 ≤ x ∧ x < 0x14_0000 then d.readHif ((x - 0x10_0000) / 0x1000) (x % 0x1000)
  else if 0x20_0000 ≤ x ∧ x < 0x60_0000 then
    if x % 0x1_0000 < 0xF000 then some (numAt (d.capList ((x - 0x20_0000) / 0x1_0000)) (x % 0x1_0000) 8) else none
  else if 0x63_3000 ≤ x ∧ x < 0x63_4000 then d.readWin (x - 0x63_3000)
  else if 0x68_0000 ≤ x ∧ x < 0x70_0000 then d.readPeer (x - 0x68_0000)
  else none

/-- The 8-byte units that an access of `len` bytes at an address touches: address of the unit, first byte, bytes. -/
def unitsOf (addr len : Nat) : List (Nat × Nat × Nat) :=
  (List.range (cdiv (addr % 8 + len) 8)).map fun i =>
    let u := addr / 8 * 8 + 8 * i
    let lo := max addr u
    (u, lo - u, min (addr + len) (u + 8) - lo)

/-- Bytes that an access reads through a register function, zero where there is no register. -/
def readUnits (reg : Nat → Option Nat) (addr len : Nat) : List Byte :=
  (unitsOf addr len).flatMap fun u => bytesAt (leBytes 8 ((reg u.1).getD 0)) u.2.1 u.2.2

/-- The first address of an access at which there is no register. -/
def firstHole (reg : Nat → Option Nat) (addr len : Nat) : Option Nat :=
  ((unitsOf addr len).find? fun u => (reg u.1).isNone).map fun u => u.1 + u.2.1

end Sys2Proof.Machine
end

