-- ==== Sys2Proof/Machine/RegWrite.lean ====
section
/-! DEFINITION. Writing the registers: what a write of each register of the block map does (R5, R11, R175, R407, R552, and the
register tables of every chapter). In each function `w` is the written bytes at their places, the others zero: command bits and
write-1-to-clear bits are taken from it. `v` is the register with the written bytes replaced: fields are taken from it. -/

namespace Sys2Proof.Machine

/-- Bytes written into a window from an offset (R175). -/
def winStore (t : Tab Byte) (off : Nat) (b : List Byte) : Tab Byte :=
  (b.foldl (fun (p : Tab Byte × Nat) x => (Tab.set p.1 p.2 x, p.2 + 1)) (t, off)).1
/-- The bytes of a window. -/
def winBytes (t : Tab Byte) (n : Nat) : List Byte := (List.range n).map fun i => Tab.get 0 t i

/-- The E-level fields of the register at an offset of a die's region: least bit and width (R5, and the register tables).
SEQ_KLOAD_CTRL.FORCE is not among them: written 0, it asks for nothing (R407). -/
def eFields (x : Nat) : List (Nat × Nat) :=
  if 0x60_0000 ≤ x ∧ x < 0x60_4000 ∧ x % 0x100 = 0 then [(0, 2)]
  else if x = 0x60_4000 then [(0, 1)]
  else if 0x60_8000 ≤ x ∧ x < 0x60_9000 ∧ x % 0x40 = 8 then [(32, 11), (16, 1), (0, 13)]
  else if 0x60_9000 ≤ x ∧ x < 0x60_B000 ∧ x % 0x80 = 0 then [(2, 1)]
  else if x = 0x60_B000 ∨ x = 0x61_1008 then [(0, 1)]
  else if 0x62_0000 ≤ x ∧ x < 0x62_0800 ∧ x % 0x40 = 8 then [(32, 8)]
  else if x = 0x63_0008 then [(32, 16), (16, 16), (0, 8)]
  else if 0x63_1000 ≤ x ∧ x < 0x63_2000 ∧ x % 0x40 = 0 then [(0, 2)]
  else if x = 0x64_0000 then [(48, 16), (32, 1)]
  else if x = 0x64_0200 then [(9, 1)]
  else if 0x6A_0000 ≤ x ∧ x < 0x70_0000 ∧ x % 0x40 = 0 then [(32, 8)]
  else if x = 0x1010 then [(32, 8), (0, 4)]
  else if x = 0x2000 then [(32, 12), (4, 20), (0, 1)]
  else if 0x3000 ≤ x ∧ x < 0x4000 then [(0, 2)]
  else if x = 0x4008 then [(8, 8), (0, 2)]
  else if x = 0x4010 then [(0, 64)]
  else if x = 0x5000 then [(0, 2)]
  else []

/-- A write of len bytes from byte start covers part of an E-level field of the register at an offset. -/
def writesE (x start len : Nat) : Bool := (eFields x).any fun f => decide (f.1 < 8 * (start + len)) && decide (8 * start < f.1 + f.2)

/-- RST (R486, R499, R500): RST_PART_CTRL stores its fields and, with GO, requests the reset; a write while one is busy is ignored,
with RESULT 3. -/
def Dev.writeRst (d : Dev) (a : Agent) (x w v : Nat) (e : Bool) : Dev :=
  if x = 0x08 then fxRstCtrlDevice d w
  else if x = 0x10 ∧ e then
    d.ifExpert a fun d =>
      if d.rst.partBusy then d.updRst fun r => { r with partResult := 3 }
      else
        let d := d.updRst fun r => { r with partCtrlIndex := fld v 32 8, partCtrlKind := fld v 1 3 }
        if bit w 0 then d.partReset (fld v 1 3) (fld v 32 8) a else d
  else d

/-- A management command of the key and value that the registers hold (R532, R542); a key that R532 does not list ends with
RESULT 0x01. -/
def Dev.cfgGo (d : Dev) (a : Agent) : Dev :=
  let v := d.cfg.value
  let p := d.cfg.persist
  match d.cfg.key with
  | 1 => fxCfgCmdPowerLimit d a v p true
  | 2 => fxCfgCmdIdleUs d a v p true
  | 3 => fxCfgCmdDuskEn d a v p true
  | 4 => fxCfgCmdClusterFreq d a v p true
  | 5 => fxCfgCmdSendLimit d a v p true
  | 6 => fxCfgCmdPeerWait d a v p true
  | 7 => fxCfgCmdRetry d a v p true
  | 8 => fxCfgCmdLostWait d a v p true
  | 9 => fxCfgCmdFeedOverride d a v p true
  | k => if 0x40 ≤ k ∧ k < 0x80 then fxCfgCmdRegulator d a (k - 0x40) v p true else { d with cfg := { d.cfg with result := 1 } }

/-- CFG (R542). -/
def Dev.writeCfg (d : Dev) (a : Agent) (x w v : Nat) : Dev :=
  if x = 0x08 then
    d.ifExpert a fun d =>
      let d : Dev := { d with cfg := { d.cfg with key := fld v 8 8, persist := bit v 1 } }
      if bit w 0 then d.cfgGo a else d
  else if x = 0x10 then d.ifExpert a fun d => { d with cfg := { d.cfg with value := v % 2 ^ 64 } }
  else d

/-- UPD (R543). -/
def Dev.writeUpd (d : Dev) (a : Agent) (x w : Nat) : Dev :=
  if x ≠ 0 then d
  else
    d.ifExpert a fun d =>
      let d := if bit w 0 then fxUpdApply d a else d
      if bit w 1 then fxUpdResetNow d a else d

/-- SEC (R447). -/
def Dev.writeSec (d : Dev) (a : Agent) (x v : Nat) : Dev :=
  if x = 0x30 then d.updSec fun s => { s with kcopyDst := put (fld v 6 46) 6 46 } else if x = 0x38 then fxSecKcopyGo d v a else d

/-- BNE (R436, R448): the push takes the window when a write covers bytes 0x38 to 0x3F. -/
def Dev.writeBne (d : Dev) (x w start : Nat) (b : List Byte) : Dev :=
  if x < 0x40 then
    let d := d.updBne fun y => { y with win := winStore y.win (x + start) b }
    if x = 0x38 ∧ b.length = 8 then fxBneReqPush d (winBytes d.sec.bne.win 64) else d
  else if x = 0x40 ∧ bit w 4 then d.updBne fun y => { y with overflow := false } else d

/-- A function's view of MPC (R363, R368, R369). -/
def Dev.writeMpc (d : Dev) (a : Agent) (f x v start : Nat) (b : List Byte) : Dev :=
  if x < 0x200 then
    let s := x / 0x40
    if x % 0x40 = 0 then d.updFn f fun y => { y with slotAddr := Tab.set y.slotAddr s (put (fld v 6 46) 6 46) }
    else if x % 0x40 = 8 then fxSlotLoad d f s v else d
  else if 0x400 ≤ x ∧ x < 0x440 then
    let d := d.updFn f fun y => { y with pdecWin := winStore y.pdecWin (x - 0x400 + start) b }
    if x = 0x438 ∧ b.length = 8 then fxPdecPush d a (winBytes (d.fn f).pdecWin 64) else d
  else d

/-- HIF and INTK of function f, written by f itself (R398 to R402). -/
def Dev.writeHif (d : Dev) (f x w v : Nat) : Dev :=
  if x = 0x00 then d.updFn f fun y => { y with denied := y.denied && !bit w 1, ideDrop := y.ideDrop && !bit w 4 }
  else if x = 0x08 then fxHifExpertEnWrite d f v
  else if x = 0x10 then d.updFn f fun y => if y.en then y else { y with cmplBase := put (fld v 12 52) 12 52 }
  else if x = 0x18 then d.updFn f fun y => { y with faultBase := put (fld v 12 52) 12 52, faultSize := fld v 0 4 }
  else if x = 0x40 then fxIntkEn d f v
  else if x = 0x48 then d.updFn f fun y => { y with enRefused := y.enRefused && !bit w 3 }
  else if x = 0x58 then fxIntkCancel d f w
  else d

/-- MEMC (R282 to R286). MAINT is written in die 0's block only (R280). -/
def Dev.writeMemc (d : Dev) (a : Agent) (die x w v : Nat) (e : Bool) : Dev :=
  if x < 0x4000 then
    let h := 64 * die + x / 0x100
    if x % 0x100 = 0 then (if e then d.ifExpert a fun d => d.updMem fun m => m.updChan h fun c => { c with wb := bit v 0, patrol := bit v 1 } else d)
    else if x % 0x100 = 0x10 then d.updMem fun m => m.updChan h fun c => { c with ue := { c.ue with valid := c.ue.valid && !bit w 63 } }
    else if x % 0x100 = 0x18 then d.updMem fun m => m.updChan h fun c => { c with ce := { c.ce with valid := c.ce.valid && !bit w 63 } }
    else d
  else if x = 0x4000 then (if die ≠ 0 ∨ !e then d else if bit v 0 then fxMaintSet d a else fxMaintClear d a)
  else d.updMem fun m => { m with denied := m.denied && !bit w 4 }

/-- MREG (R270, R287). -/
def Dev.writeMreg (d : Dev) (a : Agent) (die x v : Nat) : Dev :=
  let p := x / 0x40
  if x % 0x40 = 8 ∧ (d.mem.part p).valid ∧ (d.mem.part p).die = die then fxMregRateWrite d p v a else d

/-- TGC (R278, R279, R289): STOP acts before START. How far a stopped test had come is free. `e` is whether DESTRUCT is
written. -/
def Dev.writeTgc (d : Dev) (a : Agent) (die x w v : Nat) (e : Bool) : Dev :=
  let h := 64 * die + x / 0x80
  if x % 0x80 = 8 then d.updMem fun m => m.updChan h fun c => { c with seed := fld v 0 31 }
  else if x % 0x80 ≠ 0 then d
  else
    let d := if bit w 1 then d.stopTest h else d
    if bit w 0 then fxTgcStart d h v a
    else
      let d := d.updMem fun m => m.updChan h fun c => { c with passes := fld v 32 32, op := fld v 8 4, pattern := fld v 4 4 }
      if e then d.ifExpert a fun d => d.updMem fun m => m.updChan h fun c => { c with destruct := bit v 2 } else d

/-- KST (R128, R129). A write of KST_GRP_ADDR while the group waits or streams changes the address that the running stream reads
from: R128 does not say otherwise (DESIGN CHOICE, log 195). `e` is whether STALL_LIMIT is written. -/
def Dev.writeKst (d : Dev) (a : Agent) (die x v : Nat) (e : Bool) : Dev :=
  let n := x / 0x40
  if x % 0x40 = 0 then d.updGroup die n fun y => { y with addr := put (fld v 12 40) 12 40 }
  else if x % 0x40 = 8 then d.groupCtrl die n a v e else d

/-- LNK (R344, R345). -/
def Dev.writeLnk (d : Dev) (a : Agent) (die x w v : Nat) : Dev :=
  if 0x1000 ≤ x then
    let l := 48 * die + (x - 0x1000) / 0x40
    if x % 0x40 = 0 then
      d.ifExpert a fun d =>
        let d := if bit v 0 = (d.lane.link l).en then d else d.enableLink l (bit v 0)
        if bit w 1 then d.retrain l else d
    else d
  else if x = 0x08 then
    d.ifExpert a fun d => d.updLane fun s => { s with retry := fld v 0 8, peerWait := fld v 16 16, sendLimit := fld v 32 16 }
  else d

/-- OPT (R347). -/
def Dev.writeOpt (d : Dev) (x w : Nat) : Dev :=
  if x < 0x400 ∨ x % 0x10 ≠ 0 then d
  else
    let c := (x - 0x400) / 0x10
    let d := if bit w 0 then fxCartRelease d c else d
    if bit w 1 then fxCartRestore d c else d

/-- WIN (R340, R342, R343, R348): CLOSE acts before OPEN. -/
def Dev.writeWin (d : Dev) (a : Agent) (x w v start : Nat) (b : List Byte) : Dev :=
  if x < 0x400 then
    let n := x / 0x40
    if x % 0x40 = 0 then d.updWin n fun y => { y with base := put (fld v 12 40) 12 40 }
    else if x % 0x40 = 8 then d.updWin n fun y => { y with size := fld v 0 28, part := fld v 32 6, peer := fld v 48 16 }
    else if x % 0x40 = 0x10 then
      let d := if bit w 1 then fxWinClose d n else d
      if bit w 0 then fxWinOpen d n else d
    else d
  else if 0x800 ≤ x ∧ x < 0x820 then
    let d := d.updLane fun s => { s with xferWin := winStore s.xferWin (x - 0x800 + start) b }
    if x = 0x818 ∧ b.length = 8 then fxWinXferPush d a (winBytes d.lane.xferWin 32) else d
  else d

/-- A tap's word is written (R475): its fields; OVERRUN and what has landed stay. -/
def Tap.write (t : Tap) (k v : Nat) : Tap :=
  if k = 0 then { t with valid := bit v 63, slot := fld v 48 2, queue := fld v 32 12, sender := fld v 16 7, source := fld v 0 16 }
  else { t with len := fld v 32 32, off := fld v 0 32 }

/-- PDD (R463, R466, R471 to R475). -/
def Dev.writePdd (d : Dev) (a : Agent) (die x v start : Nat) (b : List Byte) (e : Bool) : Dev :=
  if x = 0x200 then d.selftestCtrl die v a e
  else if die ≠ 0 then d
  else if x = 0x00 then (if e then d.ifExpert a fun d => d.updPdd fun p => { p with lostWait := fld v 48 16, override' := bit v 32 } else d)
  else if x = 0xC0 then d.updPdd fun p => { p with snapStep := v % 2 ^ 64 }
  else if 0x40 ≤ x ∧ x < 0x80 then
    let d := d.updPdd fun p => { p with commitWin := winStore p.commitWin (x - 0x40 + start) b }
    if x = 0x78 ∧ b.length = 8 then fxPddCommitPush d a (winBytes d.pdd.commitWin 64) else d
  else if 0x80 ≤ x ∧ x < 0xC0 then
    let d := d.updPdd fun p => { p with digestWin := winStore p.digestWin (x - 0x80 + start) b }
    if x = 0xB8 ∧ b.length = 8 then fxPddDigestPush d a (winBytes d.pdd.digestWin 64) else d
  else if 0x800 ≤ x ∧ x < 0xC00 then
    let j := (x - 0x800) / 0x10
    let t := (d.tap j).write (x / 8 % 2) v
    if d.agentFn a = some 0 ∧ (d.mslot (d.tap j).slot).state ≠ 6 ∧ (d.mslot t.slot).state ≠ 6 then d.updTap j fun _ => t else d
  else d

/-- PEER (R349): a write of PEER_CMD starts its command. `e` is whether STALL_LIMIT is written. -/
def Dev.writePeer (d : Dev) (a : Agent) (x w v : Nat) (e : Bool) : Dev :=
  if x = 0 then
    let id := fld v 32 16
    match fld w 0 4 with
    | 1 => fxPeerAdd d id
    | 2 => fxPeerRemove d id
    | 3 => fxPeerSetOwners d id d.lane.peerCmdData
    | _ => d.updLane fun s => { s with peerCmdId := id }
  else if x = 8 then d.updLane fun s => { s with peerCmdData := v % 2 ^ 64 }
  else if x < 0x2_0000 then d
  else
    let j := (x - 0x2_0000) / 0x40
    let upd (d : Dev) (u : LinkGroup → LinkGroup) : Dev := d.updLane fun s => { s with groups := Tab.set s.groups j (u (s.grp j)) }
    if x % 0x40 = 0 then
      let d := upd d fun y => { y with count := min 16 (fld v 16 5) }
      if e then d.ifExpert a fun d => upd d fun y => { y with stall := fld v 32 8 } else d
    else
      let i := 4 * (x % 0x40 / 8 - 1)
      upd d fun y => { y with members := (List.range 4).foldl (fun t k => Tab.set t (i + k) (fld v (16 * k) 16)) y.members }

/-- The block of a core (R551): SEQ_KLOAD, LOAD_ERR, SEQ_BQ_PUSH and SEQ_LS_ECC_STATUS. -/
def Dev.writeCore (d : Dev) (a : Agent) (g x w v start : Nat) (b : List Byte) : Dev :=
  if x = 0x08 then d.updCore g fun c => { c with kloadAddr := put (fld v 6 46) 6 46 }
  else if x = 0x10 then d.kloadWrite g v a
  else if x = 0x18 then d.updCore g fun c => { c with loadErr := maskOf 4 fun i => bit c.loadErr i && !bit w (8 + i) }
  else if 0x80 ≤ x ∧ x < 0xC0 then d.pushWindow g (x - 0x80 + start) b (some a)
  else if x = 0x508 then
    d.updCore g fun c => { c with ceValid := c.ceValid && !bit w 1, ueValid := c.ueValid && !bit w 2, ueScrub := c.ueScrub && !bit w 3 }
  else d

/-! ### The block map (R550) -/

/-- A write of bytes `b` from byte `start` of the register at offset x of die die's region, by an agent that counts as function
f; the register exists. Writes to read-only registers are discarded, and on a register all of whose fields are of level E a write
that covers none of them does nothing (R5). -/
def Dev.regWrite (d : Dev) (a : Agent) (f die x start : Nat) (b : List Byte) : Dev :=
  let w := leNat b * 256 ^ start
  let v := leNat (putBytes (leBytes 8 ((d.regRead f die x).getD 0)) start b)
  let e := writesE x start b.length
  if 0x100_0000 ≤ x then d.writeCore a (64 * die + (x - 0x100_0000) / 0x4000) (x % 0x4000) w v start b
  else if 0x60_0000 ≤ x ∧ x < 0x60_8000 then d.writeMemc a die (x - 0x60_0000) w v e
  else if 0x60_8000 ≤ x ∧ x < 0x60_9000 then (if e then d.writeMreg a die (x - 0x60_8000) v else d)
  else if 0x60_9000 ≤ x ∧ x < 0x60_B000 then d.writeTgc a die (x - 0x60_9000) w v e
  else if x = 0x60_B000 then (if e then d.ifExpert a fun d => if bit w 0 then fxWcbFlush d die a else d else d)
  else if x = 0x61_1008 then (if e then d.ifExpert a fun d => if bit w 0 then fxD2dRetrain d a else d else d)
  else if 0x62_0000 ≤ x ∧ x < 0x62_0800 then d.writeKst a die (x - 0x62_0000) v e
  else if 0x63_0000 ≤ x ∧ x < 0x63_2000 then (if e then d.writeLnk a die (x - 0x63_0000) w v else d)
  else if 0x63_2000 ≤ x ∧ x < 0x63_3000 then d.writeOpt (x - 0x63_2000) w
  else if 0x63_3000 ≤ x ∧ x < 0x63_4000 then d.writeWin a (x - 0x63_3000) w v start b
  else if 0x64_0000 ≤ x ∧ x < 0x64_1000 then d.writePdd a die (x - 0x64_0000) v start b e
  else if 0x68_0000 ≤ x ∧ x < 0x70_0000 then d.writePeer a (x - 0x68_0000) w v e
  else if 0x1000 ≤ x ∧ x < 0x2000 then d.writeRst a (x - 0x1000) w v e
  else if x = 0x2000 then (if e then fxPwrCtrlWrite d v a else d.wakeUp)
  else if 0x3000 ≤ x ∧ x < 0x4000 then (if e then fxClkClusterWrite d ((x - 0x3000) / 8) v a else d)
  else if 0x4000 ≤ x ∧ x < 0x5000 then (if e then d.writeCfg a (x - 0x4000) w v else d)
  else if 0x5000 ≤ x ∧ x < 0x6000 then (if e then d.writeUpd a (x - 0x5000) w else d)
  else if 0x1_0000 ≤ x ∧ x < 0x1_1000 then d.writeSec a (x - 0x1_0000) v
  else if 0x1_1000 ≤ x ∧ x < 0x1_2000 then d.writeBne (x - 0x1_1000) w start b
  else if 0x1_2000 ≤ x ∧ x < 0x1_3000 then d.writeMpc a f (x - 0x1_2000) v start b
  else if 0x10_0000 ≤ x ∧ x < 0x14_0000 then
    (if (x - 0x10_0000) / 0x1000 = f then d.writeHif f (x % 0x1000) w v else d)
  else if x = 0x58 ∧ die = 0 then { d with hw := { d.hw with railValid := d.hw.railValid && !bit w 5 } }
  else d

end Sys2Proof.Machine
end

