-- ==== Sys2Proof/Machine/Access.lean ====
section
/-! DEFINITION. How registers, rings and HBM are reached: BAR0, BAR2 and configuration requests of the host (R372 to R378,
R493), I3C (R553, R561), and writes of registers by any agent (R14, R407, R552). -/

namespace Sys2Proof.Machine

/-! ### Device addresses (R13, R14, R550, R552) -/

/-- Die and offset of a device address in the register regions. -/
def regPlace (addr : Nat) : Option (Nat × Nat) :=
  if regionBase 0 ≤ addr ∧ addr < regionBase 2 then some ((addr - regionBase 0) / 0x600_0000, (addr - regionBase 0) % 0x600_0000) else none

/-- The register at a device address, as function f sees it. -/
def Dev.regAt (d : Dev) (f addr : Nat) : Option Nat := (regPlace addr).bind fun p => d.regRead f p.1 p.2

/-- An access where no register lies is reported to the function, or the job, that made it (R14); one over I3C, or of the
firmware, to the physical function. -/
def Dev.outside (d : Dev) (a : Agent) (addr : Nat) : Dev :=
  match a with
  | .bmc => d.fnFault 0 (plainFault 0x0502 1 (location 0 0 0 0 0) addr)
  | .app k =>
    match (d.app k.val).job with
    | some id => d.jobFault id (plainFault 0x0502 1 (appLoc k.val) addr)
    | none => d
  | .fn f => d.fnFault f.val (plainFault 0x0502 1 (location 0xA 0 0 0 0) addr)
  | .firmware => d.fnFault 0 (plainFault 0x0502 1 (location 0 0 0 0 0) addr)

/-- The access is not performed at an address without a register: it is reported once (R14). -/
def Dev.reportHole (d : Dev) (a : Agent) : Option Nat → Dev
  | some addr => d.outside a addr
  | none => d

/-- Bytes written at a device address of the register regions, unit by unit in ascending order. -/
def Dev.regStore (d : Dev) (a : Agent) (addr : Nat) (b : List Byte) : Dev :=
  let f := (d.agentFn a).getD 0
  let hole := firstHole (d.regAt f) addr b.length
  let d := (unitsOf addr b.length).foldl (fun d u =>
    match regPlace u.1 with
    | some p => if (d.regRead f p.1 p.2).isSome then d.regWrite a f p.1 p.2 u.2.1 (bytesAt b (u.1 + u.2.1 - addr) u.2.2) else d
    | none => d) d
  d.reportHole a hole

/-- A virtual function reaches its own blocks only: HIF, INTK and its view of MPC (R373, R552). -/
def vfReach (f addr : Nat) : Bool :=
  (decide (regionBase 0 + 0x10_0000 + 0x1000 * f ≤ addr) && decide (addr < regionBase 0 + 0x10_1000 + 0x1000 * f)) ||
    (decide (regionBase 0 + 0x1_2000 ≤ addr) && decide (addr < regionBase 0 + 0x1_3000))

/-- A device address of HBM or of the narrow views: not a register. -/
def notRegister (addr : Nat) : Bool := isHbm addr || (decide (narrowBase 0 ≤ addr) && decide (addr < narrowBase 128))

/-- The blocks that I3C reaches: AON, RST, PWR, CLK, CFG and UPD (R553). -/
def bmcReach (x : Nat) : Bool := decide (x < 0x6000)

/-- A host request reaches a function: the link is up, the function is enabled, no BAR has size zero, and a function whose TDI
is in RUN is reached on its bound stream only (R377, R496). It wakes the device (R518). -/
def Dev.hostRequest (d : Dev) (f : Nat) (stream : Option Nat) (eff : Dev → Dev) : Dev :=
  if d.rst.pcie ≠ 1 then d
  else if d.rst.lodestar || (decide (f ≠ 0) && !(d.pcie.vfEnable && decide (f ≤ d.pcie.numVfs))) then d.emit .unsupported
  else if (d.fn f).tdisp = 2 ∧ (stream = none ∨ (d.fn f).ide ≠ stream) then
    (d.updFn f fun x => { x with ideDrop := true }).emit .unsupported
  else eff d.wakeUp

/-- REGISTER_WRITE (R5, R377, R407, R552, R553): bytes written to registers at a device address by an agent. A function's write is
a host request, on an IDE stream or outside one; an application core reaches its guest address space only. -/
def fxRegisterWrite (d : Dev) (a : Agent) (addr : Nat) (b : List Byte) (stream : Option Nat) : Dev :=
  match a with
  | .app k =>
    match d.calling k.val with
    | none => d
    | some j =>
      if !d.guest j addr then fxGuestPageFault d k.val addr
      else if notRegister addr then d else d.regStore a addr b
  | .bmc =>
    match regPlace addr with
    | some p => if bmcReach p.2 then d.regStore a addr b else d
    | none => d
  | .firmware => if notRegister addr then d else d.regStore a addr b
  | .fn f => d.hostRequest f.val stream fun d => if (f.val ≠ 0 ∧ !vfReach f.val addr) ∨ notRegister addr then d else d.regStore a addr b

/-! ### BAR0 (R373, R374) -/

/-- INTAKE_SEAL (R381): a host write into the intake ring that covers byte 0xFF of a slot. -/
def fxIntakeSeal (d : Dev) (f off : Nat) (data : List Byte) (stream : Option Nat) : Dev :=
  d.hostRequest f stream fun d => d.intakeWrite f off data

/-- The unit at a BAR0 offset below the device window; none in a reserved range. -/
def Dev.bar0Unit (d : Dev) (f x : Nat) : Option Nat :=
  if x < 0x1000 then d.readHif f x
  else if x < 0x1_0000 then some (numAt (d.capList f) (x - 0x1000) 8)
  else if x < 0x2_0000 then d.readMpc f (x - 0x1_0000)
  else if 0x10_0000 ≤ x ∧ x < 0x20_0000 then some (leNat ((List.range 8).map fun i => Tab.get 0 (d.fn f).intake (x - 0x10_0000 + i)))
  else none

/-- An offset in the device register window of the physical function. -/
def inWindow (f off : Nat) : Bool := decide (f = 0) && decide (0x400_0000 ≤ off) && decide (off < 0x1000_0000)

/-- A BAR0 write below the device window. -/
def Dev.bar0Store (d : Dev) (f off : Nat) (b : List Byte) : Dev :=
  if 0x10_0000 ≤ off ∧ off < 0x20_0000 then d.intakeWrite f (off - 0x10_0000) b
  else
    (unitsOf off b.length).foldl (fun d u =>
      match d.bar0Unit f u.1 with
      | none => d
      | some old =>
        let piece := bytesAt b (u.1 + u.2.1 - off) u.2.2
        let w := leNat piece * 256 ^ u.2.1
        let v := leNat (putBytes (leBytes 8 old) u.2.1 piece)
        if u.1 < 0x1000 then d.writeHif f u.1 w v
        else if 0x1_0000 ≤ u.1 ∧ u.1 < 0x2_0000 then
          d.writeMpc (.fn (Fin.ofNat 64 f)) f (u.1 - 0x1_0000) v u.2.1 piece
        else d) d

/-- BAR0_ACCESS (R374, R377): a read of `len` bytes, or a write of bytes. -/
def fxBar0Access (d : Dev) (f off : Nat) (wr : Option (List Byte)) (len : Nat) (stream : Option Nat) : Dev :=
  d.hostRequest f stream fun d =>
    let at' := regionBase 0 + (off - 0x400_0000)
    match wr with
    | some b => if inWindow f off then d.regStore (.fn 0) at' b else d.bar0Store f off b
    | none =>
      if inWindow f off then
        (d.emit (.data (readUnits (d.regAt 0) at' len))).reportHole (.fn 0) (firstHole (d.regAt 0) at' len)
      else d.emit (.data (readUnits (d.bar0Unit f) off len))

/-! ### BAR2 (R375, R376) -/

/-- The partition and device address that a BAR2 offset reaches: the granted partitions stand one after another (R375). -/
def Dev.bar2Place (d : Dev) (f off : Nat) : Option (Nat × Nat) :=
  let parts := (bitsOf 64 (d.grantParts f)).filter fun p => (d.mem.part p).valid
  (parts.foldl (fun (s : Option (Nat × Nat) × Nat) p =>
    let q := d.mem.part p
    let len := q.size * 2 ^ 30
    match s.1 with
    | some _ => s
    | none => if off < s.2 + len then (some (p, q.die * 2 ^ 39 + q.base * 2 ^ 30 + (off - s.2)), s.2) else (none, s.2 + len)) (none, 0)).1

/-- BAR2_ACCESS (R375, R376): a read of `len` bytes, or a write of bytes. One that does not lie within one partition is not
performed (R266, R375). -/
def fxBar2Access (d : Dev) (f off : Nat) (wr : Option (List Byte)) (len : Nat) (stream : Option Nat) : Dev :=
  d.hostRequest f stream fun d =>
    let n := match wr with | some b => b.length | none => len
    let beyond (d : Dev) : Dev := d.fnFault f (plainFault 0x0502 1 (location 0xA 0 0 0 0) off)
    if 2 ^ (d.fn f).bar2Log < off + n then d.emit .unsupported
    else
      match (d.bar2Place f off).filter fun p => d.mem.inPart p.1 p.2 n with
      | none => if wr.isSome then beyond d else (beyond d).emit (.data (List.replicate len 0))
      | some (p, addr) => d.hostAsk f p addr wr n

/-! ### Configuration requests (R372, R378, R391, R493) -/

/-- A change that a locked or running TDI does not allow (R378). -/
def Dev.changeFn (d : Dev) (f : Nat) (changed : Bool) (u : Fn → Fn) : Dev := (if changed then d.tdiError f else d).updFn f u

/-- VF Enable changes: every locked or running TDI goes to ERROR, and clearing it resets every virtual function. -/
def Dev.setVfEnable (d : Dev) (on : Bool) : Dev :=
  if on = d.pcie.vfEnable then d
  else
    let d := (List.range 63).foldl (fun d k => d.tdiError (k + 1)) d
    let d := if on then d else (List.range 63).foldl (fun d k => d.resetFn (k + 1)) d
    { d with pcie := { d.pcie with vfEnable := on } }

/-- TotalVFs: the virtual functions that the device offers (R372). -/
def totalVfs : Nat := 63

/-- The effect of a configuration request that is served. -/
def Dev.configure (d : Dev) : CfgReq → Dev
  | .read _ => d
  | .totalVfs => d.emit (.data (leBytes 2 totalVfs))
  | .readNumVfs => d.emit (.data (leBytes 2 d.pcie.numVfs))
  | .numVfs n => if d.rst.lodestar || d.pcie.vfEnable then d else { d with pcie := { d.pcie with numVfs := min (min n totalVfs) (numAt d.cfg.record 0x12 1) } }
  | .vfEnable on => if d.rst.lodestar then d else d.setVfEnable on
  | .busMaster f on => d.changeFn f (on ≠ (d.fn f).busMaster) fun x => { x with busMaster := on }
  | .bar0 f addr => if d.rst.lodestar then d else d.changeFn f (addr ≠ (d.fn f).bar0) fun x => { x with bar0 := addr }
  | .bar2 f addr => if d.rst.lodestar then d else d.changeFn f (addr ≠ (d.fn f).bar2) fun x => { x with bar2 := addr }
  | .bar2Size f log =>
    if d.rst.lodestar || decide (log < 30) || decide (40 < log) then d
    else d.changeFn f (log ≠ (d.fn f).bar2Log) fun x => { x with bar2Log := log }
  | .msixMask f v masked =>
    let was := !(d.fn f).unmasked.contains v
    let d := d.changeFn f (masked ≠ was) fun x =>
      { x with unmasked := if masked then x.unmasked.filter fun y => y ≠ v else if was then x.unmasked ++ [v] else x.unmasked }
    if !masked && (d.fn f).pendingBits.contains v then
      (d.updFn f fun x => { x with pendingBits := x.pendingBits.filter fun y => y ≠ v }).sendMsix f v
    else d

/-- CONFIGURATION_REQUEST (R493): Request Retry Status until step 7 has completed, or Lodestar mode has begun. -/
def fxConfigurationRequest (d : Dev) (q : CfgReq) : Dev :=
  if d.rst.pcie ≠ 1 then d
  else if !d.stepDone 7 && !d.rst.lodestar then d.emit .retry
  else (d.configure q).emit (.ack true)

/-! ### I3C (R553, R561) -/

/-- The I3C offset of 4 bytes. -/
def Dev.i3cOffset (d : Dev) (b : List Byte) : Dev :=
  { d with hw := { d.hw with i3cOff := fld (leNat (b.take 4)) 0 27, i3cDie := fld (leNat (b.take 4)) 31 1 } }

/-- The register at the I3C offset lies in a block that I3C reaches. -/
def Dev.i3cReg (d : Dev) : Option Nat :=
  if d.hw.i3cOff % 8 = 0 ∧ bmcReach d.hw.i3cOff then d.regRead 0 d.hw.i3cDie d.hw.i3cOff else none

/-- An I3C access where no register lies, in a block that I3C reaches, is reported (R14, R552). -/
def Dev.i3cReport (d : Dev) : Dev :=
  if d.hw.i3cOff % 8 = 0 ∧ bmcReach d.hw.i3cOff ∧ d.i3cReg.isNone then d.outside .bmc (regionBase d.hw.i3cDie + d.hw.i3cOff) else d

/-- I3C_SET_OFFSET: a write of 4 bytes; a write of another length is discarded. -/
def fxI3cSetOffset (d : Dev) (b : List Byte) : Dev := if d.hw.on ∧ b.length = 4 then d.i3cOffset b else d

/-- I3C_REGISTER_WRITE: a write of 12 bytes sets the offset and writes the register there. -/
def fxI3cRegisterWrite (d : Dev) (b : List Byte) : Dev :=
  if d.hw.on ∧ b.length = 12 then
    let d := d.i3cOffset b
    if d.i3cReg.isSome then d.regWrite .bmc 0 d.hw.i3cDie d.hw.i3cOff 0 (b.drop 4) else d.i3cReport
  else d

/-- I3C_REGISTER_READ: a read of 8 bytes. -/
def fxI3cRegisterRead (d : Dev) : Dev := if d.hw.on then (d.emit (.data (leBytes 8 (d.i3cReg.getD 0)))).i3cReport else d

end Sys2Proof.Machine
end

