-- ==== Sys2Proof/Machine/State.lean ====
section
/-! DEFINITION. The state of the block, the reasons a step can stop, and the state after reset. -/

namespace Sys2Proof.Machine

/-- The state: the device, and the commands that wait, first in, first out. -/
structure State where
  /-- the device -/
  dev : Dev
  /-- waiting commands, oldest first; empty at reset -/
  pending : List Instr
  deriving DecidableEq, Repr

/-- Faults of the model. No command raises one: what the device reports as a fault is a fault record in its state. -/
inductive Fault where
  deriving DecidableEq, Repr

/-- Refusals of the model. -/
inductive Refusal where
  /-- No meaning has been written for the command. No command is refused so; it would be safe. -/
  | notModelled (mnemonic : String)
  deriving DecidableEq, Repr

/-- The state after reset: the device at the values of its power-on reset, with no command waiting. -/
def State.reset : State := { dev := Dev.reset, pending := [] }

end Sys2Proof.Machine
end

