-- ==== Sys2Proof/Machine/Run.lean ====
section
/-! DEFINITION. How a command's effect on the device becomes a step: the in-band interrupt and the boot log that follow it,
and one always-on cycle without a command. -/

namespace Sys2Proof.Machine

/-- What follows every effect: an in-band interrupt when AON_LED_CODE has changed (R561), and the records logged before the
physical function had a fault ring, once it has one (R423, R495). -/
def Dev.settle (d : Dev) : Dev :=
  let d := if d.hw.led = d.ledCode then d else ({ d with hw := { d.hw with led := d.ledCode } } : Dev).emit (.ibi (0x10 + d.ledCode))
  if (d.fn 0).faultBase = 0 then d
  else d.bootLog.foldl (fun d (r : FaultRec) => d.faultRing { r with fn := 0 }) { d with bootLog := [] }

/-- A command's effect as a step: what it puts out replaces what the command before put out. -/
def lift (f : Dev → Dev) (s : State) : Host.Outcome State Fault Refusal :=
  .next { s with dev := (f { s.dev with out := [] }).settle }

/-- One always-on cycle (R504): both counts rise unless the clock is missing; the idle time of R516 is counted; key-stream
members, link-group members and lost partners are timed from the cycle in which their wait begins (R124, R338, R467); links in
KEEP_ALIVE send their control flits (R320). -/
def Dev.aonCycle (d : Dev) : Dev :=
  if d.rst.clkMissing then d
  else
    let d : Dev := { d with aon0 := (d.aon0 + 1) % 2 ^ 64, aon1 := (d.aon1 + 1) % 2 ^ 64,
                            pwr := { d.pwr with idleCnt := if d.idle then d.pwr.idleCnt + 1 else 0 } }
    d.noteStalls.noteHolders.noteLost.keepAlive

/-- A cycle in which no command waits. -/
def idleCycle (s : State) : Host.Outcome State Fault Refusal := lift Dev.aonCycle s

end Sys2Proof.Machine
end

