-- ==== Sys2Proof/Machine/ExecAccess.lean ====
section
/-! DEFINITION. The meanings of the commands of BAR, configuration, I3C and register accesses: one for each row
of the table, over the operation that `Access.lean` defines from the rules. -/

namespace Sys2Proof.Machine

/-- INTAKE_SEAL (R381). -/
def execIntakeSeal (f : FnId) (off : Nat) (data : List Byte) (stream : Option Nat) (s : State) : Host.Outcome State Fault Refusal :=
  lift (fun d => fxIntakeSeal d f.val off data stream) s
/-- BAR0_ACCESS (R374). -/
def execBar0Access (f : FnId) (off : Nat) (wr : Option (List Byte)) (len : Nat) (stream : Option Nat) (s : State) : Host.Outcome State Fault Refusal :=
  lift (fun d => fxBar0Access d f.val off wr len stream) s
/-- BAR2_ACCESS (R375). -/
def execBar2Access (f : FnId) (off : Nat) (wr : Option (List Byte)) (len : Nat) (stream : Option Nat) (s : State) : Host.Outcome State Fault Refusal :=
  lift (fun d => fxBar2Access d f.val off wr len stream) s
/-- I3C_SET_OFFSET (R561). -/
def execI3cSetOffset (b : List Byte) (s : State) : Host.Outcome State Fault Refusal :=
  lift (fun d => fxI3cSetOffset d b) s
/-- I3C_REGISTER_WRITE (R561). -/
def execI3cRegisterWrite (b : List Byte) (s : State) : Host.Outcome State Fault Refusal :=
  lift (fun d => fxI3cRegisterWrite d b) s
/-- I3C_REGISTER_READ (R561). -/
def execI3cRegisterRead (s : State) : Host.Outcome State Fault Refusal := lift fxI3cRegisterRead s
/-- REGISTER_WRITE (R5). -/
def execRegisterWrite (a : Agent) (addr : BitVec 52) (b : RegWrite) (s : State) : Host.Outcome State Fault Refusal :=
  lift (fun d => fxRegisterWrite d a addr.toNat b.bytes b.stream) s
/-- CONFIGURATION_REQUEST (R493). -/
def execConfigurationRequest (q : CfgReq) (s : State) : Host.Outcome State Fault Refusal :=
  lift (fun d => fxConfigurationRequest d q) s

end Sys2Proof.Machine
end

