-- ==== Sys2Proof/Machine/ExecAppCores.lean ====
section
/-! DEFINITION. The meanings of the commands of application cores: one for each row
of the table, over the operation that `AppCores.lean` defines from the rules. -/

namespace Sys2Proof.Machine

/-- EXIT (R415). -/
def execAppExit (a : AppId) (code : BitVec 64) (s : State) : Host.Outcome State Fault Refusal :=
  lift (fun d => fxAppExit d a.val code.toNat) s
/-- TOKEN_SIGNAL (R416). -/
def execTokenSignal (a : AppId) (t : BitVec 64) (s : State) : Host.Outcome State Fault Refusal :=
  lift (fun d => fxTokenSignal d a.val t.toNat) s
/-- TOKEN_WAIT (R416). -/
def execTokenWait (a : AppId) (t : BitVec 64) (threshold : BitVec 64) (limit : BitVec 64) (s : State) : Host.Outcome State Fault Refusal :=
  lift (fun d => fxTokenWait d a.val t.toNat threshold.toNat limit.toNat) s
/-- TOKEN_WAIT_RESUME (R416). -/
def execTokenWaitResume (a : AppId) (s : State) : Host.Outcome State Fault Refusal :=
  lift (fun d => fxTokenWaitResume d a.val) s
/-- TOKEN_READ (R416). -/
def execTokenRead (a : AppId) (t : BitVec 64) (s : State) : Host.Outcome State Fault Refusal :=
  lift (fun d => fxTokenRead d a.val t.toNat) s
/-- KGROUP_OPEN (R416). -/
def execKgroupOpen (a : AppId) (die : BitVec 64) (hdr : BitVec 64) (members : BitVec 64) (level : BitVec 64) (s : State) : Host.Outcome State Fault Refusal :=
  lift (fun d => fxKgroupOpen d a.val die.toNat hdr.toNat members.toNat level.toNat) s
/-- KGROUP_CLOSE (R416). -/
def execKgroupClose (a : AppId) (die : BitVec 64) (n : BitVec 64) (s : State) : Host.Outcome State Fault Refusal :=
  lift (fun d => fxKgroupClose d a.val die.toNat n.toNat) s
/-- KGROUP_STATUS (R416). -/
def execKgroupStatus (a : AppId) (die : BitVec 64) (n : BitVec 64) (s : State) : Host.Outcome State Fault Refusal :=
  lift (fun d => fxKgroupStatus d a.val die.toNat n.toNat) s
/-- GUEST_PAGE_FAULT (R406). -/
def execGuestPageFault (a : AppId) (addr : BitVec 52) (s : State) : Host.Outcome State Fault Refusal :=
  lift (fun d => fxGuestPageFault d a.val addr.toNat) s
/-- LOAD_ACCESS_FAULT (R410). -/
def execLoadAccessFault (a : AppId) (addr : BitVec 52) (s : State) : Host.Outcome State Fault Refusal :=
  lift (fun d => fxLoadAccessFault d a.val addr.toNat) s
/-- CTRL_TRAP (R415). -/
def execCtrlTrap (a : AppId) (vscause : BitVec 64) (vsepc : BitVec 64) (s : State) : Host.Outcome State Fault Refusal :=
  lift (fun d => fxCtrlTrap d a.val vscause.toNat vsepc.toNat) s

end Sys2Proof.Machine
end

