-- ==== Sys2Proof/Machine/ExecBundle.lean ====
section
/-! DEFINITION. The meanings of the commands of bundle slots, blocks and the sequencer: one for each row
of the table, over the operation that `Sequencer.lean` defines from the rules. -/

namespace Sys2Proof.Machine

/-- OP_OPEN (R78). -/
def execOpOpen (g : CoreId) (s : State) : Host.Outcome State Fault Refusal := lift (fun d => fxOpOpen d g.val) s
/-- OP_CLOSE (R79). -/
def execOpClose (g : CoreId) (s : State) : Host.Outcome State Fault Refusal := lift (fun d => fxOpClose d g.val) s
/-- CLUSTER_OPERATION_STOP (R83). -/
def execClusterOperationStop (g : CoreId) (s : State) : Host.Outcome State Fault Refusal :=
  lift (fun d => fxClusterOperationStop d g.val) s
/-- LOOP (R149). -/
def execLoop (g : CoreId) (s : State) : Host.Outcome State Fault Refusal := lift (fun d => fxLoop d g.val) s
/-- SHAPE_SET (R184). -/
def execShapeSet (g : CoreId) (s : State) : Host.Outcome State Fault Refusal := lift (fun d => fxShapeSet d g.val) s
/-- PX_SET (R187). -/
def execPxSet (g : CoreId) (s : State) : Host.Outcome State Fault Refusal := lift (fun d => fxPxSet d g.val) s
/-- NTT_FWD (R53). -/
def execNttFwd (g : CoreId) (up : List Upset) (s : State) : Host.Outcome State Fault Refusal :=
  lift (fun d => fxNttFwd d g.val up) s
/-- NTT_INV (R53). -/
def execNttInv (g : CoreId) (s : State) : Host.Outcome State Fault Refusal := lift (fun d => fxNttInv d g.val) s
/-- NTT_FWDQ (R55). -/
def execNttFwdq (g : CoreId) (s : State) : Host.Outcome State Fault Refusal := lift (fun d => fxNttFwdq d g.val) s
/-- NTT_INVQ (R55). -/
def execNttInvq (g : CoreId) (s : State) : Host.Outcome State Fault Refusal := lift (fun d => fxNttInvq d g.val) s
/-- BCV_LDM (R56). -/
def execBcvLdm (g : CoreId) (s : State) : Host.Outcome State Fault Refusal := lift (fun d => fxBcvLdm d g.val) s
/-- BCV_EXT (R57). -/
def execBcvExt (g : CoreId) (s : State) : Host.Outcome State Fault Refusal := lift (fun d => fxBcvExt d g.val) s
/-- BCV_MATMUL (R58). -/
def execBcvMatmul (g : CoreId) (s : State) : Host.Outcome State Fault Refusal := lift (fun d => fxBcvMatmul d g.val) s
/-- LD (R59). -/
def execLd (g : CoreId) (up : List Upset) (s : State) : Host.Outcome State Fault Refusal :=
  lift (fun d => fxLd d g.val up) s
/-- QPOP (R62). -/
def execQpop (g : CoreId) (s : State) : Host.Outcome State Fault Refusal := lift (fun d => fxQpop d g.val) s
/-- ST (R59). -/
def execSt (g : CoreId) (s : State) : Host.Outcome State Fault Refusal := lift (fun d => fxSt d g.val) s
/-- ADD (R59). -/
def execAdd (g : CoreId) (s : State) : Host.Outcome State Fault Refusal := lift (fun d => fxAdd d g.val) s
/-- SUB (R59). -/
def execSub (g : CoreId) (s : State) : Host.Outcome State Fault Refusal := lift (fun d => fxSub d g.val) s
/-- NEG (R59). -/
def execNeg (g : CoreId) (s : State) : Host.Outcome State Fault Refusal := lift (fun d => fxNeg d g.val) s
/-- MUL (R59). -/
def execMul (g : CoreId) (s : State) : Host.Outcome State Fault Refusal := lift (fun d => fxMul d g.val) s
/-- MAC (R59). -/
def execMac (g : CoreId) (s : State) : Host.Outcome State Fault Refusal := lift (fun d => fxMac d g.val) s
/-- CMPLT (R59). -/
def execCmplt (g : CoreId) (s : State) : Host.Outcome State Fault Refusal := lift (fun d => fxCmplt d g.val) s
/-- CMPEQ (R59). -/
def execCmpeq (g : CoreId) (s : State) : Host.Outcome State Fault Refusal := lift (fun d => fxCmpeq d g.val) s
/-- SEL (R59). -/
def execSel (g : CoreId) (s : State) : Host.Outcome State Fault Refusal := lift (fun d => fxSel d g.val) s
/-- SHUF (R59). -/
def execShuf (g : CoreId) (s : State) : Host.Outcome State Fault Refusal := lift (fun d => fxShuf d g.val) s
/-- BCAST (R59). -/
def execBcast (g : CoreId) (s : State) : Host.Outcome State Fault Refusal := lift (fun d => fxBcast d g.val) s
/-- ADD64 (R60). -/
def execAdd64 (g : CoreId) (s : State) : Host.Outcome State Fault Refusal := lift (fun d => fxAdd64 d g.val) s
/-- SUB64 (R60). -/
def execSub64 (g : CoreId) (s : State) : Host.Outcome State Fault Refusal := lift (fun d => fxSub64 d g.val) s
/-- MUL64 (R60). -/
def execMul64 (g : CoreId) (s : State) : Host.Outcome State Fault Refusal := lift (fun d => fxMul64 d g.val) s
/-- CMPLT64 (R60). -/
def execCmplt64 (g : CoreId) (s : State) : Host.Outcome State Fault Refusal := lift (fun d => fxCmplt64 d g.val) s
/-- PRM_AUTO (R65). -/
def execPrmAuto (g : CoreId) (s : State) : Host.Outcome State Fault Refusal := lift (fun d => fxPrmAuto d g.val) s
/-- PRM_AUTOIP (R223). -/
def execPrmAutoip (g : CoreId) (s : State) : Host.Outcome State Fault Refusal := lift (fun d => fxPrmAutoip d g.val) s
/-- PRM_TRANS (R66). -/
def execPrmTrans (g : CoreId) (s : State) : Host.Outcome State Fault Refusal := lift (fun d => fxPrmTrans d g.val) s
/-- PRM_TRANSIP (R223). -/
def execPrmTransip (g : CoreId) (s : State) : Host.Outcome State Fault Refusal :=
  lift (fun d => fxPrmTransip d g.val) s
/-- PRM_GATHER (R219). -/
def execPrmGather (g : CoreId) (s : State) : Host.Outcome State Fault Refusal := lift (fun d => fxPrmGather d g.val) s
/-- PRM_SCATTER (R219). -/
def execPrmScatter (g : CoreId) (s : State) : Host.Outcome State Fault Refusal :=
  lift (fun d => fxPrmScatter d g.val) s
/-- COORD_LIST_FAIL (R220). -/
def execCoordListFail (g : CoreId) (s : State) : Host.Outcome State Fault Refusal :=
  lift (fun d => fxCoordListFail d g.val) s
/-- PRM_SEND (R293). -/
def execPrmSend (g : CoreId) (s : State) : Host.Outcome State Fault Refusal := lift (fun d => fxPrmSend d g.val) s
/-- KEX_GEN (R67). -/
def execKexGen (g : CoreId) (s : State) : Host.Outcome State Fault Refusal := lift (fun d => fxKexGen d g.val) s
/-- KEX_GENQ (R67). -/
def execKexGenq (g : CoreId) (s : State) : Host.Outcome State Fault Refusal := lift (fun d => fxKexGenq d g.val) s
/-- STR_ISSUE (R195). -/
def execStrIssue (g : CoreId) (s : State) : Host.Outcome State Fault Refusal := lift (fun d => fxStrIssue d g.val) s
/-- ENGINE_WRITE_LANDS (R47). -/
def execEngineWriteLands (g : CoreId) (s : State) : Host.Outcome State Fault Refusal :=
  lift (fun d => fxEngineWriteLands d g.val) s
/-- TILE_DEPOSIT (R62). -/
def execTileDeposit (g : CoreId) (s : State) : Host.Outcome State Fault Refusal :=
  lift (fun d => fxTileDeposit d g.val) s
/-- FREEZE_END (R163). -/
def execFreezeEnd (g : CoreId) (n : Nat) (s : State) : Host.Outcome State Fault Refusal :=
  lift (fun d => fxFreezeEnd d g.val n) s
/-- STREAM_TIMEOUT (R165). -/
def execStreamTimeout (g : CoreId) (n : Nat) (s : State) : Host.Outcome State Fault Refusal :=
  lift (fun d => fxStreamTimeout d g.val n) s
/-- AUDIT_FREEZE (R169). -/
def execAuditFreeze (g : CoreId) (s : State) : Host.Outcome State Fault Refusal :=
  lift (fun d => fxAuditFreeze d g.val) s
/-- BLOCK_DISPATCH (R161). -/
def execBlockDispatch (g : CoreId) (s : State) : Host.Outcome State Fault Refusal :=
  lift (fun d => fxBlockDispatch d g.val) s
/-- BLOCK_BOUNDARY (R150). -/
def execBlockBoundary (g : CoreId) (s : State) : Host.Outcome State Fault Refusal :=
  lift (fun d => fxBlockBoundary d g.val) s
/-- SEQ_BQ_PUSH (R159). -/
def execSeqBqPush (g : CoreId) (entry : List Byte) (s : State) : Host.Outcome State Fault Refusal :=
  lift (fun d => fxSeqBqPush d g.val entry) s
/-- PUSH_HELD_ACCEPT (R159). -/
def execPushHeldAccept (g : CoreId) (s : State) : Host.Outcome State Fault Refusal :=
  lift (fun d => fxPushHeldAccept d g.val) s
/-- IMAGE_FETCH_DONE (R153). -/
def execImageFetchDone (g : CoreId) (image : BitVec 52) (s : State) : Host.Outcome State Fault Refusal :=
  lift (fun d => fxImageFetchDone d g.val image.toNat) s

end Sys2Proof.Machine
end

