-- ==== Sys2Proof/Machine/ExecHost.lean ====
section
/-! DEFINITION. The meanings of the commands of intake, jobs and moderation: one for each row
of the table, over the operation that `Host.lean` defines from the rules. -/

namespace Sys2Proof.Machine

/-- HELD_SEAL_EVALUATE (R382). -/
def execHeldSealEvaluate (f : FnId) (s : State) : Host.Outcome State Fault Refusal :=
  lift (fun d => fxHeldSealEvaluate d f.val) s
/-- JOB_CHECK (R385). -/
def execJobCheck (f : FnId) (seq : BitVec 64) (s : State) : Host.Outcome State Fault Refusal :=
  lift (fun d => fxJobCheck d f.val seq.toNat) s
/-- RESOURCE_RESERVE (R386). -/
def execResourceReserve (f : FnId) (seq : BitVec 64) (s : State) : Host.Outcome State Fault Refusal :=
  lift (fun d => fxResourceReserve d f.val seq.toNat) s
/-- JOB_TIME_LIMIT (R388). -/
def execJobTimeLimit (f : FnId) (seq : BitVec 64) (s : State) : Host.Outcome State Fault Refusal :=
  lift (fun d => fxJobTimeLimit d f.val seq.toNat) s
/-- INTK_CANCEL (R390). -/
def execIntkCancel (f : FnId) (seq : BitVec 64) (s : State) : Host.Outcome State Fault Refusal :=
  lift (fun d => fxIntkCancel d f.val seq.toNat) s
/-- INTK_EN (R380). -/
def execIntkEn (f : FnId) (v : BitVec 64) (s : State) : Host.Outcome State Fault Refusal :=
  lift (fun d => fxIntkEn d f.val v.toNat) s
/-- HIF_EXPERT_EN_WRITE (R4). -/
def execHifExpertEnWrite (f : FnId) (v : BitVec 64) (s : State) : Host.Outcome State Fault Refusal :=
  lift (fun d => fxHifExpertEnWrite d f.val v.toNat) s
/-- MSIX_MODERATION_TIMER (R397). -/
def execMsixModerationTimer (f : FnId) (v : Fin 16) (s : State) : Host.Outcome State Fault Refusal :=
  lift (fun d => fxMsixModerationTimer d f.val v.val) s

end Sys2Proof.Machine
end

