-- ==== Sys2Proof/Machine/ExecJobEnd.lean ====
section
/-! DEFINITION. The meanings of the commands of the ends of jobs, function reset, IDE and TDISP, and lost reads: one for each row
of the table, over the operation that `JobEnd.lean` defines from the rules. -/

namespace Sys2Proof.Machine

/-- HBM_READ_RETURN (R255). -/
def execHbmReadReturn (h : ChanId) (atom : BitVec 52) (found : AtomState) (who : Consumer) (s : State) : Host.Outcome State Fault Refusal :=
  lift (fun d => fxHbmReadReturn d h.val atom.toNat found who) s
/-- FABRIC_UNCORRECTABLE (R306). -/
def execFabricUncorrectable (die : DieId) (r : Fin 24) (vc : Nat) (who : Consumer) (s : State) : Host.Outcome State Fault Refusal :=
  lift (fun d => fxFabricUncorrectable d die.val r.val vc who) s
/-- JOB_START (R386). -/
def execJobStart (f : FnId) (seq : BitVec 64) (s : State) : Host.Outcome State Fault Refusal :=
  lift (fun d => fxJobStart d f.val seq.toNat) s
/-- JOB_BOUNDARY (R389). -/
def execJobBoundary (f : FnId) (seq : BitVec 64) (s : State) : Host.Outcome State Fault Refusal :=
  lift (fun d => fxJobBoundary d f.val seq.toNat) s
/-- JOB_COMPLETION (R389). -/
def execJobCompletion (f : FnId) (seq : BitVec 64) (s : State) : Host.Outcome State Fault Refusal :=
  lift (fun d => fxJobCompletion d f.val seq.toNat) s
/-- FUNCTION_LEVEL_RESET (R391). -/
def execFunctionLevelReset (f : FnId) (s : State) : Host.Outcome State Fault Refusal :=
  lift (fun d => fxFunctionLevelReset d f.val) s
/-- K_SET_GO (R377). -/
def execKSetGo (k : KSet) (s : State) : Host.Outcome State Fault Refusal :=
  lift (fun d => fxKSetGo d k.sid.toNat k.keys) s
/-- IDE_INTEGRITY_FAIL (R377). -/
def execIdeIntegrityFail (sid : BitVec 8) (s : State) : Host.Outcome State Fault Refusal :=
  lift (fun d => fxIdeIntegrityFail d sid.toNat) s
/-- STOP_INTERFACE (R378). -/
def execStopInterface (f : FnId) (s : State) : Host.Outcome State Fault Refusal :=
  lift (fun d => fxStopInterface d f.val) s
/-- LOCK_INTERFACE_REQUEST (R378). -/
def execLockInterfaceRequest (f : FnId) (stream : BitVec 8) (s : State) : Host.Outcome State Fault Refusal :=
  lift (fun d => fxLockInterfaceRequest d f.val stream.toNat) s
/-- TDI_CONFIG_CHANGE (R378). -/
def execTdiConfigChange (f : FnId) (s : State) : Host.Outcome State Fault Refusal :=
  lift (fun d => fxTdiConfigChange d f.val) s
/-- START_INTERFACE_REQUEST (R378). -/
def execStartInterfaceRequest (f : FnId) (s : State) : Host.Outcome State Fault Refusal :=
  lift (fun d => fxStartInterfaceRequest d f.val) s
/-- STOP_INTERFACE_WIPE_DONE (R378). -/
def execStopInterfaceWipeDone (f : FnId) (s : State) : Host.Outcome State Fault Refusal :=
  lift (fun d => fxStopInterfaceWipeDone d f.val) s

end Sys2Proof.Machine
end

