-- ==== Sys2Proof/Machine/ExecKeys.lean ====
section
/-! DEFINITION. The meanings of the commands of key-stream groups: one for each row
of the table, over the operation that `Keys.lean` defines from the rules. -/

namespace Sys2Proof.Machine

/-- KST_GRP_OPEN (R122). -/
def execKstGrpOpen (die : DieId) (n : GroupId) (a : Agent) (v : BitVec 64) (s : State) : Host.Outcome State Fault Refusal :=
  lift (fun d => fxKstGrpOpen d die.val n.val a v.toNat) s
/-- KST_GRP_CLOSE (R125). -/
def execKstGrpClose (die : DieId) (n : GroupId) (a : Agent) (v : BitVec 64) (s : State) : Host.Outcome State Fault Refusal :=
  lift (fun d => fxKstGrpClose d die.val n.val a v.toNat) s
/-- GROUP_HEADER_READ (R123). -/
def execGroupHeaderRead (die : DieId) (n : GroupId) (s : State) : Host.Outcome State Fault Refusal :=
  lift (fun d => fxGroupHeaderRead d die.val n.val) s
/-- KEY_HEADER_ARRIVES (R117). -/
def execKeyHeaderArrives (die : DieId) (n : GroupId) (k : Fin 64) (s : State) : Host.Outcome State Fault Refusal :=
  lift (fun d => fxKeyHeaderArrives d die.val n.val k.val) s
/-- EXPECTED_TAG_READY (R116). -/
def execExpectedTagReady (g : CoreId) (slot : Fin 4) (s : State) : Host.Outcome State Fault Refusal :=
  lift (fun d => fxExpectedTagReady d g.val slot.val) s
/-- KEY_CHUNK_ARRIVES (R118). -/
def execKeyChunkArrives (die : DieId) (n : GroupId) (s : State) : Host.Outcome State Fault Refusal :=
  lift (fun d => fxKeyChunkArrives d die.val n.val) s
/-- MULTICAST_ROW_SEND (R124). -/
def execMulticastRowSend (die : DieId) (n : GroupId) (s : State) : Host.Outcome State Fault Refusal :=
  lift (fun d => fxMulticastRowSend d die.val n.val) s
/-- MEMBER_DROP (R124). -/
def execMemberDrop (die : DieId) (n : GroupId) (m : Fin 8) (s : State) : Host.Outcome State Fault Refusal :=
  lift (fun d => fxMemberDrop d die.val n.val m.val) s
/-- CATCHUP_READ (R124). -/
def execCatchupRead (die : DieId) (n : GroupId) (k : Fin 64) (s : State) : Host.Outcome State Fault Refusal :=
  lift (fun d => fxCatchupRead d die.val n.val k.val) s
/-- GROUP_STREAM_END (R125). -/
def execGroupStreamEnd (die : DieId) (n : GroupId) (s : State) : Host.Outcome State Fault Refusal :=
  lift (fun d => fxGroupStreamEnd d die.val n.val) s

end Sys2Proof.Machine
end

