-- ==== Sys2Proof/Machine/ExecLinks.lean ====
section
/-! DEFINITION. The meanings of the commands of links, lasers and optical engines: one for each row
of the table, over the operation that `Links.lean` defines from the rules. -/

namespace Sys2Proof.Machine

/-- CARTRIDGE_FAILURE (R313). -/
def execCartridgeFailure (k : CartId) (s : State) : Host.Outcome State Fault Refusal :=
  lift (fun d => fxCartridgeFailure d k.val) s
/-- CART_RELEASE (R314). -/
def execCartRelease (k : CartId) (s : State) : Host.Outcome State Fault Refusal :=
  lift (fun d => fxCartRelease d k.val) s
/-- CART_RESTORE (R314). -/
def execCartRestore (k : CartId) (s : State) : Host.Outcome State Fault Refusal :=
  lift (fun d => fxCartRestore d k.val) s
/-- CARTRIDGE_INSERT (R314). -/
def execCartridgeInsert (k : CartId) (s : State) : Host.Outcome State Fault Refusal :=
  lift (fun d => fxCartridgeInsert d k.val) s
/-- CARTRIDGE_LIT (R314). -/
def execCartridgeLit (k : CartId) (s : State) : Host.Outcome State Fault Refusal :=
  lift (fun d => fxCartridgeLit d k.val) s
/-- CARTRIDGE_LEVER_OPEN (R571). -/
def execCartridgeLeverOpen (k : CartId) (s : State) : Host.Outcome State Fault Refusal :=
  lift (fun d => fxCartridgeLeverOpen d k.val) s
/-- LINK_LIGHT_DETECT (R320). -/
def execLinkLightDetect (l : LinkId) (s : State) : Host.Outcome State Fault Refusal :=
  lift (fun d => fxLinkLightDetect d l.val) s
/-- LINK_TRAIN_STEP (R320). -/
def execLinkTrainStep (l : LinkId) (s : State) : Host.Outcome State Fault Refusal :=
  lift (fun d => fxLinkTrainStep d l.val) s
/-- LINK_TRAIN_TIMEOUT (R320). -/
def execLinkTrainTimeout (l : LinkId) (s : State) : Host.Outcome State Fault Refusal :=
  lift (fun d => fxLinkTrainTimeout d l.val) s
/-- HELLO (R320). -/
def execHello (l : LinkId) (id : BitVec 16) (far : BitVec 8) (version : BitVec 8) (s : State) : Host.Outcome State Fault Refusal :=
  lift (fun d => fxHello d l.val id.toNat far.toNat version.toNat) s
/-- LOSS_OF_LOCK (R321). -/
def execLossOfLock (l : LinkId) (s : State) : Host.Outcome State Fault Refusal :=
  lift (fun d => fxLossOfLock d l.val) s
/-- FAST_RETRAIN_DONE (R321). -/
def execFastRetrainDone (l : LinkId) (s : State) : Host.Outcome State Fault Refusal :=
  lift (fun d => fxFastRetrainDone d l.val) s
/-- FAST_RETRAIN_FAIL (R321). -/
def execFastRetrainFail (l : LinkId) (s : State) : Host.Outcome State Fault Refusal :=
  lift (fun d => fxFastRetrainFail d l.val) s
/-- LINK_RETRY_EXPIRY (R320). -/
def execLinkRetryExpiry (l : LinkId) (s : State) : Host.Outcome State Fault Refusal :=
  lift (fun d => fxLinkRetryExpiry d l.val) s
/-- FLIT_RECEIVE (R318). -/
def execFlitReceive (l : LinkId) (flit fec : List Nat) (s : State) : Host.Outcome State Fault Refusal :=
  lift (fun d => fxFlitReceive d l.val (flit ++ fec)) s
/-- NAK_RECEIVE (R318). -/
def execNakReceive (l : LinkId) (seq : BitVec 16) (s : State) : Host.Outcome State Fault Refusal :=
  lift (fun d => fxNakReceive d l.val seq.toNat) s
/-- LNK_RETRAIN (R345). -/
def execLnkRetrain (l : LinkId) (a : Agent) (s : State) : Host.Outcome State Fault Refusal :=
  lift (fun d => fxLnkRetrain d l.val a) s

end Sys2Proof.Machine
end

