-- ==== Sys2Proof/Machine/LocalStore.lean ====
section
/-! DEFINITION. The side port of the local stores: narrow view, scrubber, rewrites and wipes (R200, R201, R204 to R208,
R225), and the cluster exchange (R292 to R297). -/

namespace Sys2Proof.Machine

/-! ### Narrow view (R200, R201, R206) -/

/-- Device address of a word's slot in the narrow view (R200). -/
def narrowAddr (g w : Nat) : Nat := narrowBase g + 8 * w

/-- Why a narrow access is not performed: a fault code, or none (R201). -/
def Dev.narrowFault (d : Dev) (g w : Nat) (a : Agent) : Option Nat :=
  let owner := match a with
    | .firmware => true
    | .bmc => false
    | _ => match d.coreJob g with
      | some j => d.agentFn a == some j.fn
      | none => false
  if !owner then some 0x0502 else if bit (d.core g).segState (w / 524288) then none else some 0x0305

/-- The record of a narrow access that is not performed goes to the accessing function (R201). -/
def Dev.narrowRefuse (d : Dev) (g w : Nat) (a : Agent) (code : Nat) : Dev :=
  d.fnFault ((d.agentFn a).getD 0) (plainFault code 1 (coreLoc g) (narrowAddr g w))

/-- The die from which an agent reaches the device: its own for an application core, die 0 for the others (R302). -/
def dieOfAgent (a : Agent) : Nat := match a with | .app k => dieOfApp k.val | _ => 0

/-- A narrow read: the word zero-extended, zero when not performed, an error response for an uncorrectable codeword. -/
def Dev.narrowRead (d : Dev) (g w : Nat) (a : Agent) : Dev × Option Nat :=
  match d.narrowFault g w a with
  | some code => (d.narrowRefuse g w a code, some 0)
  | none =>
    match (d.core g).sideRead [w] with
    | (c, none) => ((d.setCore g c).updMem fun m => m.bridge (dieOfCore g) (dieOfAgent a) 8, some (c.word w).toNat)
    | (c, some detail) => ((d.setCore g c).coreFault g (plainFault 0x0501 0 (coreLoc g) detail), none)

/-- NARROW_READ (R200, R201). -/
def fxNarrowRead (d : Dev) (g w : Nat) (a : Agent) (up : List Upset) : Dev :=
  match (d.updCore g fun c => c.strike up).narrowRead g w a with
  | (d, some v) => d.emit (.data (leBytes 8 v))
  | (d, none) => d.emit (.error 0x0501)

/-- A slot image with the bytes of a mask replaced (R200). -/
def mergeSlot (old v mask : Nat) : Nat :=
  leNat ((List.range 8).map fun i => BitVec.ofNat 8 (fld (if bit mask i then v else old) (8 * i) 8))

/-- A narrow write of some bytes of a slot: they merge into the slot image, and bits [35:0] are stored. -/
def Dev.narrowWrite (d : Dev) (g w v mask : Nat) (a : Agent) : Dev :=
  match d.narrowFault g w a with
  | some code => d.narrowRefuse g w a code
  | none =>
    match (d.core g).sideWrite [(w, BitVec.ofNat 36 (mergeSlot ((d.core g).word w).toNat v mask))] with
    | (c, none) => (d.setCore g c).updMem fun m => m.bridge (dieOfAgent a) (dieOfCore g) (bitsOf 8 mask).length
    | (c, some detail) => (d.setCore g c).coreFault g (plainFault 0x0501 0 (coreLoc g) detail)

/-- NARROW_WRITE (R200, R201). -/
def fxNarrowWrite (d : Dev) (g w v mask : Nat) (a : Agent) (up : List Upset) : Dev :=
  (d.updCore g fun c => c.strike up).narrowWrite g w v mask a

/-! ### Scrubber, rewrites, wipes (R205, R207, R208, R225) -/

/-- The next powered row from a row on, in ascending order with wrap (R207). -/
def Core.scrubNext (c : Core) (row : Nat) : Option Nat :=
  ((List.range 9).map fun k => if k = 0 then row else (row / 8192 + k) % 8 * 8192).find? fun r => bit c.segState (r / 8192)

/-- LS_SCRUB_STEP (R207): the scrubber reads the next powered row. -/
def fxLsScrubStep (d : Dev) (g : Nat) (up : List Upset) : Dev :=
  d.updCore g fun c =>
    let c := c.strike up
    match c.scrubNext (c.scrubRow % 65536) with
    | none => c
    | some row =>
      let cws := (List.range 4).map fun k => 4 * row + k
      let bad := cws.any fun cw => c.upsetOf cw == some true
      { (c.correct cws).foundUe cws with scrubRow := (row + 1) % 65536, ueScrub := c.ueScrub || bad }

/-- LS_CORRECTION_REWRITE (R205, R207): a corrected row is rewritten, when no write has reached it in between. -/
def fxLsCorrectionRewrite (d : Dev) (g : Nat) : Dev :=
  d.updCore g fun c => match c.rewrite with
    | row :: t => { c with rewrite := t, upset := c.upset.filter (fun p => !(decide (p.1 / 4 = row) && !p.2)), scrubCnt := satAdd 64 c.scrubCnt 1 }
    | [] => c

/-- LS_WIPE_DONE (R208, R225): the wipe or power-up of the store's segments has ended. -/
def fxLsWipeDone (d : Dev) (g : Nat) : Dev := d.updCore g fun c => { c with wiping := false, segBusy := 0 }

/-! ### Cluster exchange (R292 to R297) -/

/-- EXCHANGE_LAND (R292, R294, R296): the target's port serves one egress buffer. -/
def fxExchangeLand (d : Dev) (g : Nat) : Dev := d.exchangeLand g

end Sys2Proof.Machine
end

