-- ==== Sys2Proof/Machine/ExecLocalStore.lean ====
section
/-! DEFINITION. The meanings of the commands of the local stores and the cluster exchange: one for each row
of the table, over the operation that `LocalStore.lean` defines from the rules. -/

namespace Sys2Proof.Machine

/-- LS_CORRECTION_REWRITE (R205). -/
def execLsCorrectionRewrite (g : CoreId) (s : State) : Host.Outcome State Fault Refusal :=
  lift (fun d => fxLsCorrectionRewrite d g.val) s
/-- LS_SCRUB_STEP (R207). -/
def execLsScrubStep (g : CoreId) (up : List Upset) (s : State) : Host.Outcome State Fault Refusal :=
  lift (fun d => fxLsScrubStep d g.val up) s
/-- NARROW_READ (R200). -/
def execNarrowRead (g : CoreId) (w : BitVec 22) (a : Agent) (up : List Upset) (s : State) : Host.Outcome State Fault Refusal :=
  lift (fun d => fxNarrowRead d g.val w.toNat a up) s
/-- NARROW_WRITE (R200). -/
def execNarrowWrite (g : CoreId) (w : BitVec 22) (v : BitVec 64) (mask : BitVec 8) (a : Agent) (up : List Upset) (s : State) : Host.Outcome State Fault Refusal :=
  lift (fun d => fxNarrowWrite d g.val w.toNat v.toNat mask.toNat a up) s
/-- LS_WIPE_DONE (R225). -/
def execLsWipeDone (g : CoreId) (s : State) : Host.Outcome State Fault Refusal :=
  lift (fun d => fxLsWipeDone d g.val) s
/-- EXCHANGE_LAND (R292). -/
def execExchangeLand (g : CoreId) (s : State) : Host.Outcome State Fault Refusal :=
  lift (fun d => fxExchangeLand d g.val) s

end Sys2Proof.Machine
end

