-- ==== Sys2Proof/Machine/ExecMemory.lean ====
section
/-! DEFINITION. The meanings of the commands of the stacked memory system and the fabric: one for each row
of the table, over the operation that `Memory.lean` defines from the rules. -/

namespace Sys2Proof.Machine

/-- SMALL_PATH_WINDOW (R261). -/
def execSmallPathWindow (h : ChanId) (s : State) : Host.Outcome State Fault Refusal :=
  lift (fun d => fxSmallPathWindow d h.val) s
/-- WCB_PARTIAL_WRITE (R262). -/
def execWcbPartialWrite (part : PartId) (job : Option Nat) (addr : BitVec 52) (data : List Byte) (s : State) : Host.Outcome State Fault Refusal :=
  lift (fun d => fxWcbPartialWrite d part.val job addr.toNat data) s
/-- WCB_AGE_FLUSH (R263). -/
def execWcbAgeFlush (die : DieId) (s : State) : Host.Outcome State Fault Refusal :=
  lift (fun d => fxWcbAgeFlush d die.val) s
/-- WCB_FLUSH (R263). -/
def execWcbFlush (die : DieId) (a : Agent) (s : State) : Host.Outcome State Fault Refusal :=
  lift (fun d => fxWcbFlush d die.val a) s
/-- REGULATOR_TICK (R267). -/
def execRegulatorTick (p : PartId) (s : State) : Host.Outcome State Fault Refusal :=
  lift (fun d => fxRegulatorTick d p.val) s
/-- REGULATED_ISSUE (R267). -/
def execRegulatedIssue (p : PartId) (s : State) : Host.Outcome State Fault Refusal :=
  lift (fun d => fxRegulatedIssue d p.val) s
/-- MREG_RATE_WRITE (R270). -/
def execMregRateWrite (p : PartId) (v : BitVec 64) (a : Agent) (s : State) : Host.Outcome State Fault Refusal :=
  lift (fun d => fxMregRateWrite d p.val v.toNat a) s
/-- REFRESH_SLOT (R274). -/
def execRefreshSlot (h : ChanId) (temp : Nat) (found : AtomState) (s : State) : Host.Outcome State Fault Refusal :=
  lift (fun d => fxRefreshSlot d h.val temp found) s
/-- TGC_START (R278). -/
def execTgcStart (h : ChanId) (v : BitVec 64) (a : Agent) (s : State) : Host.Outcome State Fault Refusal :=
  lift (fun d => fxTgcStart d h.val v.toNat a) s
/-- TGC_STOP (R279). -/
def execTgcStop (h : ChanId) (written : Nat) (checked : Nat) (errs : TestErrors) (s : State) : Host.Outcome State Fault Refusal :=
  lift (fun d => fxTgcStop d h.val written checked errs.count errs.first) s
/-- TGC_TEST_END (R279). -/
def execTgcTestEnd (h : ChanId) (errs : Nat) (first : Option (Bool × Nat × Nat)) (s : State) : Host.Outcome State Fault Refusal :=
  lift (fun d => fxTgcTestEnd d h.val errs first) s
/-- MAINT_SET (R280). -/
def execMaintSet (a : Agent) (s : State) : Host.Outcome State Fault Refusal := lift (fun d => fxMaintSet d a) s
/-- MAINT_CLEAR (R281). -/
def execMaintClear (a : Agent) (s : State) : Host.Outcome State Fault Refusal := lift (fun d => fxMaintClear d a) s
/-- MAINT_WIPE_DONE (R281). -/
def execMaintWipeDone (s : State) : Host.Outcome State Fault Refusal := lift fxMaintWipeDone s
/-- FLIT_CRC_REPLAY (R304). -/
def execFlitCrcReplay (die : DieId) (i : Fin 39) (ok : Bool) (s : State) : Host.Outcome State Fault Refusal :=
  lift (fun d => fxFlitCrcReplay d die.val i.val ok) s
/-- LANE_SPARE_REPLACE (R305). -/
def execLaneSpareReplace (die : DieId) (i : Fin 39) (s : State) : Host.Outcome State Fault Refusal :=
  lift (fun d => fxLaneSpareReplace d die.val i.val) s
/-- D2D_RETRAIN (R309). -/
def execD2dRetrain (a : Agent) (s : State) : Host.Outcome State Fault Refusal := lift (fun d => fxD2dRetrain d a) s

end Sys2Proof.Machine
end

