-- ==== Sys2Proof/Machine/ExecModule.lean ====
section
/-! DEFINITION. The meanings of the commands of module hardware: one for each row
of the table, over the operation that `Module.lean` defines from the rules. -/

namespace Sys2Proof.Machine

/-- VIN_RISE (R562). -/
def execVinRise (s : State) : Host.Outcome State Fault Refusal := lift fxVinRise s
/-- VIN_FALL (R562). -/
def execVinFall (us : Nat) (s : State) : Host.Outcome State Fault Refusal := lift (fun d => fxVinFall d us) s
/-- VIN_OVERVOLTAGE (R562). -/
def execVinOvervoltage (s : State) : Host.Outcome State Fault Refusal := lift fxVinOvervoltage s
/-- OVERCURRENT_TRIP (R563). -/
def execOvercurrentTrip (s : State) : Host.Outcome State Fault Refusal := lift fxOvercurrentTrip s
/-- HOTSWAP_RETRY (R563). -/
def execHotswapRetry (s : State) : Host.Outcome State Fault Refusal := lift fxHotswapRetry s
/-- RAIL_FAULT (R565). -/
def execRailFault (rail : Fin 16) (kind : Nat) (s : State) : Host.Outcome State Fault Refusal :=
  lift (fun d => fxRailFault d rail.val kind) s
/-- RAIL_RESTART (R565). -/
def execRailRestart (s : State) : Host.Outcome State Fault Refusal := lift fxRailRestart s
/-- SETDASA (R561). -/
def execSetdasa (static : BitVec 7) (dyn : BitVec 7) (s : State) : Host.Outcome State Fault Refusal :=
  lift (fun d => fxSetdasa d static.toNat dyn.toNat) s
/-- ENTDAA (R561). -/
def execEntdaa (dyn : BitVec 7) (s : State) : Host.Outcome State Fault Refusal :=
  lift (fun d => fxEntdaa d dyn.toNat) s
/-- PCIE_LINK_REACHES_L0 (R559). -/
def execPcieLinkReachesL0 (s : State) : Host.Outcome State Fault Refusal := lift fxPcieLinkReachesL0 s
/-- OVERVOLTAGE_TURN_ON (R562). -/
def execOvervoltageTurnOn (s : State) : Host.Outcome State Fault Refusal := lift fxOvervoltageTurnOn s

end Sys2Proof.Machine
end

