-- ==== Sys2Proof/Machine/ExecPeers.lean ====
section
/-! DEFINITION. The meanings of the commands of peers and stream transfers over links: one for each row
of the table, over the operation that `Peers.lean` defines from the rules. -/

namespace Sys2Proof.Machine

/-- LSEND (R328). -/
def execLsend (g : CoreId) (e : EngId) (s : State) : Host.Outcome State Fault Refusal :=
  lift (fun d => d.unlessRelock g.val fun d => fxLsend d g.val e.val) s
/-- TRANSFER_REQUEST (R240). -/
def execTransferRequest (g : CoreId) (e : EngId) (n : Nat) (s : State) : Host.Outcome State Fault Refusal :=
  lift (fun d => d.unlessRelock g.val fun d => fxTransferRequest d g.val e.val n) s
/-- OUTBOUND_ROW_DRAIN (R235). -/
def execOutboundRowDrain (g : CoreId) (r : RingId) (up : List Upset) (s : State) : Host.Outcome State Fault Refusal :=
  lift (fun d => d.unlessRelock g.val fun d => fxOutboundRowDrain d g.val r.val up) s
/-- PEER_ADD (R326). -/
def execPeerAdd (id : BitVec 16) (s : State) : Host.Outcome State Fault Refusal :=
  lift (fun d => fxPeerAdd d id.toNat) s
/-- PEER_REMOVE (R327). -/
def execPeerRemove (id : BitVec 16) (s : State) : Host.Outcome State Fault Refusal :=
  lift (fun d => fxPeerRemove d id.toNat) s
/-- PEER_SET_OWNERS (R349). -/
def execPeerSetOwners (id : BitVec 16) (owners : BitVec 64) (s : State) : Host.Outcome State Fault Refusal :=
  lift (fun d => fxPeerSetOwners d id.toNat owners.toNat) s
/-- PEER_DRAIN_DONE (R327). -/
def execPeerDrainDone (id : BitVec 16) (s : State) : Host.Outcome State Fault Refusal :=
  lift (fun d => fxPeerDrainDone d id.toNat) s
/-- PROBE (R326). -/
def execProbe (l : LinkId) (s : State) : Host.Outcome State Fault Refusal := lift (fun d => fxProbe d l.val) s
/-- PROBE_ACK (R326). -/
def execProbeAck (l : LinkId) (s : State) : Host.Outcome State Fault Refusal := lift (fun d => fxProbeAck d l.val) s
/-- PROBE_NAK (R326). -/
def execProbeNak (l : LinkId) (s : State) : Host.Outcome State Fault Refusal := lift (fun d => fxProbeNak d l.val) s
/-- PROBE_RETRY (R326). -/
def execProbeRetry (id : BitVec 16) (s : State) : Host.Outcome State Fault Refusal :=
  lift (fun d => fxProbeRetry d id.toNat) s
/-- STREAM_MESSAGE_RECEIVE (R331). -/
def execStreamMessageReceive (l : LinkId) (s : State) : Host.Outcome State Fault Refusal :=
  lift (fun d => fxStreamMessageReceive d l.val) s
/-- MACK_SEND (R333). -/
def execMackSend (g : CoreId) (r : RingId) (s : State) : Host.Outcome State Fault Refusal :=
  lift (fun d => fxMackSend d g.val r.val) s
/-- REFUSE (R331). -/
def execRefuse (l : LinkId) (core : CoreId) (queue : BitVec 12) (mseq : BitVec 16) (reason : BitVec 4) (s : State) : Host.Outcome State Fault Refusal :=
  lift (fun d => fxRefuse d l.val core.val queue.toNat mseq.toNat reason.toNat) s
/-- RNR (R332). -/
def execRnr (l : LinkId) (core : CoreId) (queue : BitVec 12) (mseq : BitVec 16) (s : State) : Host.Outcome State Fault Refusal :=
  lift (fun d => fxRnr d l.val core.val queue.toNat mseq.toNat) s
/-- RNR_RESEND (R332). -/
def execRnrResend (g : CoreId) (peer : BitVec 16) (queue : BitVec 12) (s : State) : Host.Outcome State Fault Refusal :=
  lift (fun d => fxRnrResend d g.val peer.toNat queue.toNat) s
/-- LINK_SEND_TIMEOUT (R334). -/
def execLinkSendTimeout (g : CoreId) (peer : BitVec 16) (queue : BitVec 12) (s : State) : Host.Outcome State Fault Refusal :=
  lift (fun d => fxLinkSendTimeout d g.val peer.toNat queue.toNat) s
/-- PEER_WAIT_TIMEOUT (R335). -/
def execPeerWaitTimeout (g : CoreId) (e : EngId) (s : State) : Host.Outcome State Fault Refusal :=
  lift (fun d => fxPeerWaitTimeout d g.val e.val) s
/-- LINK_GROUP_MEMBER_DROP (R338). -/
def execLinkGroupMemberDrop (g : CoreId) (e : EngId) (n : Nat) (i : Fin 16) (s : State) : Host.Outcome State Fault Refusal :=
  lift (fun d => fxLinkGroupMemberDrop d g.val e.val n i.val) s

end Sys2Proof.Machine
end

