-- ==== Sys2Proof/Machine/ExecPower.lean ====
section
/-! DEFINITION. The meanings of the commands of power, clocks and temperature: one for each row
of the table, over the operation that `Power.lean` defines from the rules. -/

namespace Sys2Proof.Machine

/-- POWER_SAMPLE (R511). -/
def execPowerSample (w : Nat) (s : State) : Host.Outcome State Fault Refusal := lift (fun d => fxPowerSample d w) s
/-- GAP_RATIO_UPDATE (R511). -/
def execGapRatioUpdate (s : State) : Host.Outcome State Fault Refusal := lift fxGapRatioUpdate s
/-- THERMAL_LEVEL_CHANGE (R513). -/
def execThermalLevelChange (die : DieId) (cls : Fin 3) (t : Nat) (s : State) : Host.Outcome State Fault Refusal :=
  lift (fun d => fxThermalLevelChange d die.val cls.val t) s
/-- THROTTLE_STEP (R513). -/
def execThrottleStep (die : DieId) (s : State) : Host.Outcome State Fault Refusal :=
  lift (fun d => fxThrottleStep d die.val) s
/-- FREQ_STEP (R513). -/
def execFreqStep (die : DieId) (s : State) : Host.Outcome State Fault Refusal := lift (fun d => fxFreqStep d die.val) s
/-- CLUSTER_RELOCK (R507). -/
def execClusterRelock (c : ClusterId) (s : State) : Host.Outcome State Fault Refusal :=
  lift (fun d => fxClusterRelock d c.val) s
/-- RELOCK_DONE (R507). -/
def execRelockDone (c : ClusterId) (s : State) : Host.Outcome State Fault Refusal :=
  lift (fun d => fxRelockDone d c.val) s
/-- PWR_CTRL_WRITE (R510). -/
def execPwrCtrlWrite (v : BitVec 64) (a : Agent) (s : State) : Host.Outcome State Fault Refusal :=
  lift (fun d => fxPwrCtrlWrite d v.toNat a) s
/-- CLK_CLUSTER_WRITE (R507). -/
def execClkClusterWrite (c : ClusterId) (v : BitVec 64) (a : Agent) (s : State) : Host.Outcome State Fault Refusal :=
  lift (fun d => fxClkClusterWrite d c.val v.toNat a) s

end Sys2Proof.Machine
end

