-- ==== Sys2Proof/Machine/ExecReset.lean ====
section
/-! DEFINITION. The meanings of the commands of resets and the start: one for each row
of the table, over the operation that `Reset.lean` defines from the rules. -/

namespace Sys2Proof.Machine

/-- POWER_ON_RESET (R478). -/
def execPowerOnReset (s : State) : Host.Outcome State Fault Refusal := lift fxPowerOnReset s
/-- CLOCK_MISSING (R481). -/
def execClockMissing (s : State) : Host.Outcome State Fault Refusal := lift fxClockMissing s
/-- CLOCK_RETURN (R481). -/
def execClockReturn (s : State) : Host.Outcome State Fault Refusal := lift fxClockReturn s
/-- PERST_ASSERT (R482). -/
def execPerstAssert (n : Nat) (acts : Bool) (s : State) : Host.Outcome State Fault Refusal :=
  lift (fun d => fxPerstAssert d n acts) s
/-- PERST_DEASSERT (R482). -/
def execPerstDeassert (s : State) : Host.Outcome State Fault Refusal := lift fxPerstDeassert s
/-- HOT_RESET (R478). -/
def execHotReset (s : State) : Host.Outcome State Fault Refusal := lift fxHotReset s
/-- RST_CTRL_DEVICE (R499). -/
def execRstCtrlDevice (v : BitVec 64) (s : State) : Host.Outcome State Fault Refusal :=
  lift (fun d => fxRstCtrlDevice d v.toNat) s
/-- WATCHDOG_EXPIRY (R478). -/
def execWatchdogExpiry (s : State) : Host.Outcome State Fault Refusal := lift fxWatchdogExpiry s
/-- THERMAL_TRIP (R483). -/
def execThermalTrip (cls : Fin 3) (t : Nat) (s : State) : Host.Outcome State Fault Refusal :=
  lift (fun d => fxThermalTrip d cls.val t) s
/-- RESET_RELEASE (R483). -/
def execResetRelease (t : Nat) (s : State) : Host.Outcome State Fault Refusal := lift (fun d => fxResetRelease d t) s
/-- FUSE_COPY_CHECK (R487). -/
def execFuseCopyCheck (ok : Bool) (s : State) : Host.Outcome State Fault Refusal :=
  lift (fun d => fxFuseCopyCheck d ok) s
/-- STRAP_SET_DONE (R489). -/
def execStrapSetDone (codes : List Nat) (s : State) : Host.Outcome State Fault Refusal :=
  lift (fun d => fxStrapSetDone d codes) s
/-- START_TIMEOUT (R494). -/
def execStartTimeout (s : State) : Host.Outcome State Fault Refusal := lift fxStartTimeout s

end Sys2Proof.Machine
end

