-- ==== Sys2Proof/Machine/ExecResilience.lean ====
section
/-! DEFINITION. The meanings of the commands of spares, self-tests and mirroring: one for each row
of the table, over the operation that `Resilience.lean` defines from the rules. -/

namespace Sys2Proof.Machine

/-- CORE_FAIL (R453). -/
def execCoreFail (c : ClusterId) (p : Fin 9) (ev : Nat) (s : State) : Host.Outcome State Fault Refusal :=
  lift (fun d => fxCoreFail d c.val p.val ev) s
/-- SPARE_SUBSTITUTION (R454). -/
def execSpareSubstitution (c : ClusterId) (s : State) : Host.Outcome State Fault Refusal :=
  lift (fun d => fxSpareSubstitution d c.val) s
/-- PDD_SELFTEST_GO (R458). -/
def execPddSelftestGo (die : DieId) (v : BitVec 64) (a : Agent) (s : State) : Host.Outcome State Fault Refusal :=
  lift (fun d => fxPddSelftestGo d die.val v.toNat a) s
/-- SELFTEST_START (R458). -/
def execSelftestStart (die : DieId) (s : State) : Host.Outcome State Fault Refusal :=
  lift (fun d => fxSelftestStart d die.val) s
/-- SELFTEST_END (R458). -/
def execSelftestEnd (die : DieId) (pass : Bool) (s : State) : Host.Outcome State Fault Refusal :=
  lift (fun d => fxSelftestEnd d die.val pass) s
/-- PAIRING_MESSAGE (R460). -/
def execPairingMessage (l : LinkId) (feed : BitVec 8) (answer : Option Bool) (s : State) : Host.Outcome State Fault Refusal :=
  lift (fun d => fxPairingMessage d l.val feed.toNat answer) s
/-- PDD_COMMIT_PUSH (R463). -/
def execPddCommitPush (a : Agent) (rcd : List Byte) (s : State) : Host.Outcome State Fault Refusal :=
  lift (fun d => fxPddCommitPush d a rcd) s
/-- COMMIT_RECEIVE (R464). -/
def execCommitReceive (l : LinkId) (rcd : List Byte) (s : State) : Host.Outcome State Fault Refusal :=
  lift (fun d => fxCommitReceive d l.val rcd) s
/-- COMMIT_ANSWER (R463). -/
def execCommitAnswer (l : LinkId) (code : BitVec 16) (detail : BitVec 64) (mirrored : Bool) (s : State) : Host.Outcome State Fault Refusal :=
  lift (fun d => fxCommitAnswer d l.val code.toNat detail.toNat mirrored) s
/-- PDD_DIGEST_PUSH (R466). -/
def execPddDigestPush (a : Agent) (rcd : List Byte) (s : State) : Host.Outcome State Fault Refusal :=
  lift (fun d => fxPddDigestPush d a rcd) s
/-- DIGEST_DONE (R466). -/
def execDigestDone (s : State) : Host.Outcome State Fault Refusal := lift fxDigestDone s
/-- LOST_WAIT_EXPIRY (R467). -/
def execLostWaitExpiry (w : Nat) (s : State) : Host.Outcome State Fault Refusal :=
  lift (fun d => fxLostWaitExpiry d w) s

end Sys2Proof.Machine
end

