-- ==== Sys2Proof/Machine/ExecSecurity.lean ====
section
/-! DEFINITION. The meanings of the commands of boot, attestation, kernel loads and the big-number engine: one for each row
of the table, over the operation that `Security.lean` defines from the rules. -/

namespace Sys2Proof.Machine

/-- KLOAD_GO (R156). -/
def execKloadGo (g : CoreId) (v : BitVec 64) (a : Agent) (s : State) : Host.Outcome State Fault Refusal :=
  lift (fun d => fxKloadGo d g.val v.toNat a) s
/-- KLOAD_FORCE (R157). -/
def execKloadForce (g : CoreId) (v : BitVec 64) (a : Agent) (s : State) : Host.Outcome State Fault Refusal :=
  lift (fun d => fxKloadForce d g.val v.toNat a) s
/-- KLOAD_DONE (R156). -/
def execKloadDone (g : CoreId) (s : State) : Host.Outcome State Fault Refusal := lift (fun d => fxKloadDone d g.val) s
/-- GET_VERSION (R434). -/
def execGetVersion (s : State) : Host.Outcome State Fault Refusal := lift fxGetVersion s
/-- GET_CAPABILITIES (R434). -/
def execGetCapabilities (s : State) : Host.Outcome State Fault Refusal := lift fxGetCapabilities s
/-- NEGOTIATE_ALGORITHMS (R434). -/
def execNegotiateAlgorithms (offered : Bool) (s : State) : Host.Outcome State Fault Refusal :=
  lift (fun d => fxNegotiateAlgorithms d offered) s
/-- KEY_EXCHANGE (R435). -/
def execKeyExchange (slot : Nat) (hash : Nat) (s : State) : Host.Outcome State Fault Refusal :=
  lift (fun d => fxKeyExchange d slot hash) s
/-- FINISH (R434). -/
def execFinish (sid : Nat) (ok : Bool) (s : State) : Host.Outcome State Fault Refusal :=
  lift (fun d => fxFinish d sid ok) s
/-- GET_MEASUREMENTS (R434). -/
def execGetMeasurements (sid : Nat) (hash : Nat) (s : State) : Host.Outcome State Fault Refusal :=
  lift (fun d => fxGetMeasurements d sid hash) s
/-- GET_REPORT (R433). -/
def execGetReport (nonce : List Byte) (s : State) : Host.Outcome State Fault Refusal :=
  lift (fun d => fxGetReport d nonce) s
/-- GET_DEVICE_CERT (R433). -/
def execGetDeviceCert (off : Nat) (len : Nat) (s : State) : Host.Outcome State Fault Refusal :=
  lift (fun d => fxGetDeviceCert d off len) s
/-- BOOT_STAGE (R424). -/
def execBootStage (given : List (Nat × Nat)) (loader : Option Image) (fw : Option Image) (s : State) : Host.Outcome State Fault Refusal :=
  lift (fun d => fxBootStage d given loader fw) s
/-- SEC_KCOPY_GO (R428). -/
def execSecKcopyGo (v : BitVec 64) (a : Agent) (s : State) : Host.Outcome State Fault Refusal :=
  lift (fun d => fxSecKcopyGo d v.toNat a) s
/-- KCOPY_DONE (R428). -/
def execKcopyDone (s : State) : Host.Outcome State Fault Refusal := lift fxKcopyDone s
/-- RESERVATION_LOG_WRITE (R429). -/
def execReservationLogWrite (ok : Bool) (s : State) : Host.Outcome State Fault Refusal :=
  lift (fun d => fxReservationLogWrite d ok) s
/-- BNE_REQ_PUSH (R436). -/
def execBneReqPush (rcd : List Byte) (s : State) : Host.Outcome State Fault Refusal :=
  lift (fun d => fxBneReqPush d rcd) s
/-- BNE_REQUEST_START (R439). -/
def execBneRequestStart (s : State) : Host.Outcome State Fault Refusal := lift fxBneRequestStart s
/-- BNE_FETCH_DONE (R438). -/
def execBneFetchDone (host : List Byte) (bad : Option Nat) (s : State) : Host.Outcome State Fault Refusal :=
  lift (fun d => fxBneFetchDone d host bad) s
/-- BNE_COMPUTE_DONE (R438). -/
def execBneComputeDone (mismatch : Bool) (s : State) : Host.Outcome State Fault Refusal :=
  lift (fun d => fxBneComputeDone d mismatch) s
/-- BNE_WIPE_DONE (R443). -/
def execBneWipeDone (s : State) : Host.Outcome State Fault Refusal := lift fxBneWipeDone s
/-- SECURITY_VIOLATION (R444). -/
def execSecurityViolation (bits : BitVec 5) (s : State) : Host.Outcome State Fault Refusal :=
  lift (fun d => fxSecurityViolation d bits.toNat) s

end Sys2Proof.Machine
end

