-- ==== Sys2Proof/Machine/ExecShares.lean ====
section
/-! DEFINITION. The meanings of the commands of share slots and partial decryptions: one for each row
of the table, over the operation that `Shares.lean` defines from the rules. -/

namespace Sys2Proof.Machine

/-- SLOT_LOAD (R361). -/
def execSlotLoad (f : FnId) (slot : ShareId) (v : BitVec 64) (s : State) : Host.Outcome State Fault Refusal :=
  lift (fun d => fxSlotLoad d f.val slot.val v.toNat) s
/-- SLOT_LOAD_DONE (R361). -/
def execSlotLoadDone (slot : ShareId) (s : State) : Host.Outcome State Fault Refusal :=
  lift (fun d => fxSlotLoadDone d slot.val) s
/-- SLOT_RELEASE (R362). -/
def execSlotRelease (f : FnId) (slot : ShareId) (s : State) : Host.Outcome State Fault Refusal :=
  lift (fun d => fxSlotRelease d f.val slot.val) s
/-- SLOT_WIPE_DONE (R362). -/
def execSlotWipeDone (slot : ShareId) (s : State) : Host.Outcome State Fault Refusal :=
  lift (fun d => fxSlotWipeDone d slot.val) s
/-- PDEC_PUSH (R363). -/
def execPdecPush (a : Agent) (rcd : List Byte) (s : State) : Host.Outcome State Fault Refusal :=
  lift (fun d => fxPdecPush d a rcd) s
/-- PDEC_REQUEST_START (R364). -/
def execPdecRequestStart (s : State) : Host.Outcome State Fault Refusal := lift fxPdecRequestStart s
/-- PDEC_DONE (R365). -/
def execPdecDone (s : State) : Host.Outcome State Fault Refusal := lift fxPdecDone s

end Sys2Proof.Machine
end

