-- ==== Sys2Proof/Machine/ExecStart.lean ====
section
/-! DEFINITION. The meanings of the commands of start steps, partial resets and Dusk: one for each row
of the table, over the operation that `Start.lean` defines from the rules. -/

namespace Sys2Proof.Machine

/-- START_STEP_DONE (R492). -/
def execStartStepDone (n : Nat) (norOk : Bool) (bad : List Nat) (s : State) : Host.Outcome State Fault Refusal :=
  lift (fun d => fxStartStepDone d n norOk bad) s
/-- START_CONFIRM (R494). -/
def execStartConfirm (s : State) : Host.Outcome State Fault Refusal := lift fxStartConfirm s
/-- PART_RESET_CORE (R485). -/
def execPartResetCore (g : CoreId) (a : Agent) (s : State) : Host.Outcome State Fault Refusal :=
  lift (fun d => fxPartResetCore d g.val a) s
/-- PART_RESET_CLUSTER (R485). -/
def execPartResetCluster (c : ClusterId) (a : Agent) (s : State) : Host.Outcome State Fault Refusal :=
  lift (fun d => fxPartResetCluster d c.val a) s
/-- PART_RESET_HBM_CHANNEL (R256). -/
def execPartResetHbmChannel (h : ChanId) (a : Agent) (s : State) : Host.Outcome State Fault Refusal :=
  lift (fun d => fxPartResetHbmChannel d h.val a) s
/-- PART_RESET_LINK (R485). -/
def execPartResetLink (l : LinkId) (a : Agent) (s : State) : Host.Outcome State Fault Refusal :=
  lift (fun d => fxPartResetLink d l.val a) s
/-- PART_RESET_OPT_ENGINE (R485). -/
def execPartResetOptEngine (e : OptId) (a : Agent) (s : State) : Host.Outcome State Fault Refusal :=
  lift (fun d => fxPartResetOptEngine d e.val a) s
/-- PART_RESET_APP_CORE (R485). -/
def execPartResetAppCore (k : AppId) (a : Agent) (s : State) : Host.Outcome State Fault Refusal :=
  lift (fun d => fxPartResetAppCore d k.val a) s
/-- PART_RESET_START (R485). -/
def execPartResetStart (s : State) : Host.Outcome State Fault Refusal := lift fxPartResetStart s
/-- DUSK_ENTRY (R516). -/
def execDuskEntry (s : State) : Host.Outcome State Fault Refusal := lift fxDuskEntry s
/-- DUSK_WAKE (R518). -/
def execDuskWake (s : State) : Host.Outcome State Fault Refusal := lift fxDuskWake s
/-- WAKE_COMPLETE (R519). -/
def execWakeComplete (s : State) : Host.Outcome State Fault Refusal := lift fxWakeComplete s
/-- PARTIAL_RESET_DONE (R485). -/
def execPartialResetDone (ok : Bool) (s : State) : Host.Outcome State Fault Refusal :=
  lift (fun d => fxPartialResetDone d ok) s

end Sys2Proof.Machine
end

