-- ==== Sys2Proof/Machine/ExecStreams.lean ====
section
/-! DEFINITION. The meanings of the commands of stream records and stream instructions: one for each row
of the table, over the operation that `Streams.lean` defines from the rules. -/

namespace Sys2Proof.Machine

/-- TOKEN_SIGNAL_ARRIVES (R160). -/
def execTokenSignalArrives (g : CoreId) (who : Nat) (s : State) : Host.Outcome State Fault Refusal :=
  lift (fun d => fxTokenSignalArrives d g.val who) s
/-- RUN (R230). -/
def execRun (g : CoreId) (e : EngId) (s : State) : Host.Outcome State Fault Refusal :=
  lift (fun d => d.unlessRelock g.val fun d => fxRun d g.val e.val) s
/-- POST (R233). -/
def execPost (g : CoreId) (e : EngId) (s : State) : Host.Outcome State Fault Refusal :=
  lift (fun d => d.unlessRelock g.val fun d => fxPost d g.val e.val) s
/-- KBIND (R246). -/
def execKbind (g : CoreId) (e : EngId) (s : State) : Host.Outcome State Fault Refusal :=
  lift (fun d => d.unlessRelock g.val fun d => fxKbind d g.val e.val) s
/-- LEAVE (R248). -/
def execLeave (g : CoreId) (e : EngId) (s : State) : Host.Outcome State Fault Refusal :=
  lift (fun d => d.unlessRelock g.val fun d => fxLeave d g.val e.val) s
/-- UNPOST (R236). -/
def execUnpost (g : CoreId) (e : EngId) (s : State) : Host.Outcome State Fault Refusal :=
  lift (fun d => d.unlessRelock g.val fun d => fxUnpost d g.val e.val) s
/-- UNPOST_COMPLETE (R236). -/
def execUnpostComplete (g : CoreId) (e : EngId) (s : State) : Host.Outcome State Fault Refusal :=
  lift (fun d => d.unlessRelock g.val fun d => fxUnpostComplete d g.val e.val) s
/-- RELEASE (R234). -/
def execRelease (g : CoreId) (e : EngId) (s : State) : Host.Outcome State Fault Refusal :=
  lift (fun d => d.unlessRelock g.val fun d => fxRelease d g.val e.val) s
/-- END (R237). -/
def execStrEnd (g : CoreId) (e : EngId) (s : State) : Host.Outcome State Fault Refusal :=
  lift (fun d => d.unlessRelock g.val fun d => fxStrEnd d g.val e.val) s
/-- SETA (R237). -/
def execSeta (g : CoreId) (e : EngId) (s : State) : Host.Outcome State Fault Refusal :=
  lift (fun d => d.unlessRelock g.val fun d => fxSeta d g.val e.val) s
/-- ADDA (R237). -/
def execAdda (g : CoreId) (e : EngId) (s : State) : Host.Outcome State Fault Refusal :=
  lift (fun d => d.unlessRelock g.val fun d => fxAdda d g.val e.val) s
/-- SETL (R237). -/
def execSetl (g : CoreId) (e : EngId) (s : State) : Host.Outcome State Fault Refusal :=
  lift (fun d => d.unlessRelock g.val fun d => fxSetl d g.val e.val) s
/-- ADDL (R237). -/
def execAddl (g : CoreId) (e : EngId) (s : State) : Host.Outcome State Fault Refusal :=
  lift (fun d => d.unlessRelock g.val fun d => fxAddl d g.val e.val) s
/-- STR_LOOP (R238). -/
def execStrLoop (g : CoreId) (e : EngId) (s : State) : Host.Outcome State Fault Refusal :=
  lift (fun d => d.unlessRelock g.val fun d => fxStrLoop d g.val e.val) s
/-- RD (R240). -/
def execRd (g : CoreId) (e : EngId) (s : State) : Host.Outcome State Fault Refusal :=
  lift (fun d => d.unlessRelock g.val fun d => fxRd d g.val e.val) s
/-- WR (R240). -/
def execWr (g : CoreId) (e : EngId) (s : State) : Host.Outcome State Fault Refusal :=
  lift (fun d => d.unlessRelock g.val fun d => fxWr d g.val e.val) s
/-- RRD (R210). -/
def execRrd (g : CoreId) (e : EngId) (s : State) : Host.Outcome State Fault Refusal :=
  lift (fun d => d.unlessRelock g.val fun d => fxRrd d g.val e.val) s
/-- RWR (R210). -/
def execRwr (g : CoreId) (e : EngId) (s : State) : Host.Outcome State Fault Refusal :=
  lift (fun d => d.unlessRelock g.val fun d => fxRwr d g.val e.val) s
/-- WAITT (R237). -/
def execWaitt (g : CoreId) (e : EngId) (s : State) : Host.Outcome State Fault Refusal :=
  lift (fun d => d.unlessRelock g.val fun d => fxWaitt d g.val e.val) s
/-- WAITT_SATISFIED (R237). -/
def execWaittSatisfied (g : CoreId) (e : EngId) (s : State) : Host.Outcome State Fault Refusal :=
  lift (fun d => d.unlessRelock g.val fun d => fxWaittSatisfied d g.val e.val) s
/-- SIG (R241). -/
def execSig (g : CoreId) (e : EngId) (s : State) : Host.Outcome State Fault Refusal :=
  lift (fun d => d.unlessRelock g.val fun d => fxSig d g.val e.val) s
/-- SIG_SIGNALLED (R241). -/
def execSigSignalled (g : CoreId) (e : EngId) (s : State) : Host.Outcome State Fault Refusal :=
  lift (fun d => d.unlessRelock g.val fun d => fxSigSignalled d g.val e.val) s
/-- FENCE (R237). -/
def execFence (g : CoreId) (e : EngId) (s : State) : Host.Outcome State Fault Refusal :=
  lift (fun d => d.unlessRelock g.val fun d => fxFence d g.val e.val) s
/-- FENCE_COMPLETE (R237). -/
def execFenceComplete (g : CoreId) (e : EngId) (s : State) : Host.Outcome State Fault Refusal :=
  lift (fun d => d.unlessRelock g.val fun d => fxFenceComplete d g.val e.val) s
/-- RING_ROW_LANDS (R234). -/
def execRingRowLands (g : CoreId) (r : RingId) (up : List Upset) (s : State) : Host.Outcome State Fault Refusal :=
  lift (fun d => d.unlessRelock g.val fun d => fxRingRowLands d g.val r.val up) s

end Sys2Proof.Machine
end

