-- ==== Sys2Proof/Machine/ExecUpdate.lean ====
section
/-! DEFINITION. The meanings of the commands of management commands and updates: one for each row
of the table, over the operation that `Update.lean` defines from the rules. -/

namespace Sys2Proof.Machine

/-- CFG_CMD_POWER_LIMIT (R532). -/
def execCfgCmdPowerLimit (a : Agent) (v : BitVec 64) (persist : Bool) (norOk : Bool) (s : State) : Host.Outcome State Fault Refusal :=
  lift (fun d => fxCfgCmdPowerLimit d a v.toNat persist norOk) s
/-- CFG_CMD_IDLE_US (R532). -/
def execCfgCmdIdleUs (a : Agent) (v : BitVec 64) (persist : Bool) (norOk : Bool) (s : State) : Host.Outcome State Fault Refusal :=
  lift (fun d => fxCfgCmdIdleUs d a v.toNat persist norOk) s
/-- CFG_CMD_DUSK_EN (R532). -/
def execCfgCmdDuskEn (a : Agent) (v : BitVec 64) (persist : Bool) (norOk : Bool) (s : State) : Host.Outcome State Fault Refusal :=
  lift (fun d => fxCfgCmdDuskEn d a v.toNat persist norOk) s
/-- CFG_CMD_CLUSTER_FREQ (R532). -/
def execCfgCmdClusterFreq (a : Agent) (v : BitVec 64) (persist : Bool) (norOk : Bool) (s : State) : Host.Outcome State Fault Refusal :=
  lift (fun d => fxCfgCmdClusterFreq d a v.toNat persist norOk) s
/-- CFG_CMD_SEND_LIMIT (R532). -/
def execCfgCmdSendLimit (a : Agent) (v : BitVec 64) (persist : Bool) (norOk : Bool) (s : State) : Host.Outcome State Fault Refusal :=
  lift (fun d => fxCfgCmdSendLimit d a v.toNat persist norOk) s
/-- CFG_CMD_PEER_WAIT (R532). -/
def execCfgCmdPeerWait (a : Agent) (v : BitVec 64) (persist : Bool) (norOk : Bool) (s : State) : Host.Outcome State Fault Refusal :=
  lift (fun d => fxCfgCmdPeerWait d a v.toNat persist norOk) s
/-- CFG_CMD_RETRY (R532). -/
def execCfgCmdRetry (a : Agent) (v : BitVec 64) (persist : Bool) (norOk : Bool) (s : State) : Host.Outcome State Fault Refusal :=
  lift (fun d => fxCfgCmdRetry d a v.toNat persist norOk) s
/-- CFG_CMD_LOST_WAIT (R532). -/
def execCfgCmdLostWait (a : Agent) (v : BitVec 64) (persist : Bool) (norOk : Bool) (s : State) : Host.Outcome State Fault Refusal :=
  lift (fun d => fxCfgCmdLostWait d a v.toNat persist norOk) s
/-- CFG_CMD_FEED_OVERRIDE (R532). -/
def execCfgCmdFeedOverride (a : Agent) (v : BitVec 64) (persist : Bool) (norOk : Bool) (s : State) : Host.Outcome State Fault Refusal :=
  lift (fun d => fxCfgCmdFeedOverride d a v.toNat persist norOk) s
/-- CFG_CMD_REGULATOR (R532). -/
def execCfgCmdRegulator (a : Agent) (p : PartId) (v : BitVec 64) (persist : Bool) (norOk : Bool) (s : State) : Host.Outcome State Fault Refusal :=
  lift (fun d => fxCfgCmdRegulator d a p.val v.toNat persist norOk) s
/-- UPD_APPLY (R538). -/
def execUpdApply (a : Agent) (s : State) : Host.Outcome State Fault Refusal := lift (fun d => fxUpdApply d a) s
/-- UPD_RESET_NOW (R538). -/
def execUpdResetNow (a : Agent) (s : State) : Host.Outcome State Fault Refusal := lift (fun d => fxUpdResetNow d a) s
/-- UPDATE_STEP_CONFIRM (R538). -/
def execUpdateStepConfirm (s : State) : Host.Outcome State Fault Refusal := lift fxUpdateStepConfirm s
/-- UPDATE_WINDOW_MISS (R539). -/
def execUpdateWindowMiss (s : State) : Host.Outcome State Fault Refusal := lift fxUpdateWindowMiss s
/-- UPDATE_DEVICE_RESET (R538). -/
def execUpdateDeviceReset (s : State) : Host.Outcome State Fault Refusal := lift fxUpdateDeviceReset s
/-- CARD_INSERT (R572). -/
def execCardInsert (p : Option Package) (s : State) : Host.Outcome State Fault Refusal :=
  lift (fun d => fxCardInsert d p) s
/-- CARD_REMOVE (R572). -/
def execCardRemove (s : State) : Host.Outcome State Fault Refusal := lift fxCardRemove s
/-- UPDATE_IMAGE_WRITTEN (R538). -/
def execUpdateImageWritten (res : Nat) (s : State) : Host.Outcome State Fault Refusal :=
  lift (fun d => fxUpdateImageWritten d res) s

end Sys2Proof.Machine
end

