-- ==== Sys2Proof/Machine/ExecWindows.lean ====
section
/-! DEFINITION. The meanings of the commands of remote windows: one for each row
of the table, over the operation that `Windows.lean` defines from the rules. -/

namespace Sys2Proof.Machine

/-- MACK (R333). -/
def execMack (l : LinkId) (kind : Nat) (core : CoreId) (queue : BitVec 12) (mseq : BitVec 16) (s : State) : Host.Outcome State Fault Refusal :=
  lift (fun d => fxMack d l.val kind core.val queue.toNat mseq.toNat) s
/-- WIN_OPEN (R340). -/
def execWinOpen (w : WinId) (s : State) : Host.Outcome State Fault Refusal := lift (fun d => fxWinOpen d w.val) s
/-- WIN_CLOSE (R342). -/
def execWinClose (w : WinId) (s : State) : Host.Outcome State Fault Refusal := lift (fun d => fxWinClose d w.val) s
/-- WIN_CLOSED (R342). -/
def execWinClosed (w : WinId) (s : State) : Host.Outcome State Fault Refusal := lift (fun d => fxWinClosed d w.val) s
/-- WINDOW_WRITE_RECEIVE (R341). -/
def execWindowWriteReceive (l : LinkId) (s : State) : Host.Outcome State Fault Refusal :=
  lift (fun d => fxWindowWriteReceive d l.val) s
/-- WINDOW_WRITE_COMPLETE (R341). -/
def execWindowWriteComplete (w : WinId) (s : State) : Host.Outcome State Fault Refusal :=
  lift (fun d => fxWindowWriteComplete d w.val) s
/-- WIN_XFER_PUSH (R343). -/
def execWinXferPush (a : Agent) (rcd : List Byte) (s : State) : Host.Outcome State Fault Refusal :=
  lift (fun d => fxWinXferPush d a rcd) s
/-- WIN_XFER_START (R343). -/
def execWinXferStart (s : State) : Host.Outcome State Fault Refusal := lift fxWinXferStart s
/-- WINDOW_CLOSED (R343). -/
def execWindowClosed (l : LinkId) (mseq : BitVec 16) (s : State) : Host.Outcome State Fault Refusal :=
  lift (fun d => fxWindowClosed d l.val mseq.toNat) s
/-- WINDOW_REFUSED (R341). -/
def execWindowRefused (l : LinkId) (mseq : BitVec 16) (s : State) : Host.Outcome State Fault Refusal :=
  lift (fun d => fxWindowRefused d l.val mseq.toNat) s

end Sys2Proof.Machine
end

