-- ==== Sys2Proof/Machine/Dispatch.lean ====
section
/-! DEFINITION. One arm for each command: a direct call of its meaning. -/

namespace Sys2Proof.Machine

def exec (i : Instr) (s : State) : Host.Outcome State Fault Refusal :=
  match i with
  | .opOpen g => Sys2Proof.Machine.execOpOpen g s
  | .opClose g => Sys2Proof.Machine.execOpClose g s
  | .clusterOperationStop g => Sys2Proof.Machine.execClusterOperationStop g s
  | .loop g => Sys2Proof.Machine.execLoop g s
  | .shapeSet g => Sys2Proof.Machine.execShapeSet g s
  | .pxSet g => Sys2Proof.Machine.execPxSet g s
  | .nttFwd g up => Sys2Proof.Machine.execNttFwd g up s
  | .nttInv g => Sys2Proof.Machine.execNttInv g s
  | .nttFwdq g => Sys2Proof.Machine.execNttFwdq g s
  | .nttInvq g => Sys2Proof.Machine.execNttInvq g s
  | .bcvLdm g => Sys2Proof.Machine.execBcvLdm g s
  | .bcvExt g => Sys2Proof.Machine.execBcvExt g s
  | .bcvMatmul g => Sys2Proof.Machine.execBcvMatmul g s
  | .ld g up => Sys2Proof.Machine.execLd g up s
  | .qpop g => Sys2Proof.Machine.execQpop g s
  | .st g => Sys2Proof.Machine.execSt g s
  | .add g => Sys2Proof.Machine.execAdd g s
  | .sub g => Sys2Proof.Machine.execSub g s
  | .neg g => Sys2Proof.Machine.execNeg g s
  | .mul g => Sys2Proof.Machine.execMul g s
  | .mac g => Sys2Proof.Machine.execMac g s
  | .cmplt g => Sys2Proof.Machine.execCmplt g s
  | .cmpeq g => Sys2Proof.Machine.execCmpeq g s
  | .sel g => Sys2Proof.Machine.execSel g s
  | .shuf g => Sys2Proof.Machine.execShuf g s
  | .bcast g => Sys2Proof.Machine.execBcast g s
  | .add64 g => Sys2Proof.Machine.execAdd64 g s
  | .sub64 g => Sys2Proof.Machine.execSub64 g s
  | .mul64 g => Sys2Proof.Machine.execMul64 g s
  | .cmplt64 g => Sys2Proof.Machine.execCmplt64 g s
  | .prmAuto g => Sys2Proof.Machine.execPrmAuto g s
  | .prmAutoip g => Sys2Proof.Machine.execPrmAutoip g s
  | .prmTrans g => Sys2Proof.Machine.execPrmTrans g s
  | .prmTransip g => Sys2Proof.Machine.execPrmTransip g s
  | .prmGather g => Sys2Proof.Machine.execPrmGather g s
  | .prmScatter g => Sys2Proof.Machine.execPrmScatter g s
  | .coordListFail g => Sys2Proof.Machine.execCoordListFail g s
  | .prmSend g => Sys2Proof.Machine.execPrmSend g s
  | .kexGen g => Sys2Proof.Machine.execKexGen g s
  | .kexGenq g => Sys2Proof.Machine.execKexGenq g s
  | .strIssue g => Sys2Proof.Machine.execStrIssue g s
  | .engineWriteLands g => Sys2Proof.Machine.execEngineWriteLands g s
  | .tileDeposit g => Sys2Proof.Machine.execTileDeposit g s
  | .freezeEnd g n => Sys2Proof.Machine.execFreezeEnd g n s
  | .streamTimeout g n => Sys2Proof.Machine.execStreamTimeout g n s
  | .auditFreeze g => Sys2Proof.Machine.execAuditFreeze g s
  | .lsCorrectionRewrite g => Sys2Proof.Machine.execLsCorrectionRewrite g s
  | .lsScrubStep g up => Sys2Proof.Machine.execLsScrubStep g up s
  | .blockDispatch g => Sys2Proof.Machine.execBlockDispatch g s
  | .blockBoundary g => Sys2Proof.Machine.execBlockBoundary g s
  | .seqBqPush g entry => Sys2Proof.Machine.execSeqBqPush g entry s
  | .pushHeldAccept g => Sys2Proof.Machine.execPushHeldAccept g s
  | .imageFetchDone g image => Sys2Proof.Machine.execImageFetchDone g image s
  | .kloadGo g v a => Sys2Proof.Machine.execKloadGo g v a s
  | .kloadForce g v a => Sys2Proof.Machine.execKloadForce g v a s
  | .kloadDone g => Sys2Proof.Machine.execKloadDone g s
  | .tokenSignalArrives g who => Sys2Proof.Machine.execTokenSignalArrives g who s
  | .narrowRead g w a up => Sys2Proof.Machine.execNarrowRead g w a up s
  | .narrowWrite g w v mask a up => Sys2Proof.Machine.execNarrowWrite g w v mask a up s
  | .lsWipeDone g => Sys2Proof.Machine.execLsWipeDone g s
  | .run g e => Sys2Proof.Machine.execRun g e s
  | .post g e => Sys2Proof.Machine.execPost g e s
  | .kbind g e => Sys2Proof.Machine.execKbind g e s
  | .leave g e => Sys2Proof.Machine.execLeave g e s
  | .unpost g e => Sys2Proof.Machine.execUnpost g e s
  | .unpostComplete g e => Sys2Proof.Machine.execUnpostComplete g e s
  | .release g e => Sys2Proof.Machine.execRelease g e s
  | .strEnd g e => Sys2Proof.Machine.execStrEnd g e s
  | .seta g e => Sys2Proof.Machine.execSeta g e s
  | .adda g e => Sys2Proof.Machine.execAdda g e s
  | .setl g e => Sys2Proof.Machine.execSetl g e s
  | .addl g e => Sys2Proof.Machine.execAddl g e s
  | .strLoop g e => Sys2Proof.Machine.execStrLoop g e s
  | .rd g e => Sys2Proof.Machine.execRd g e s
  | .wr g e => Sys2Proof.Machine.execWr g e s
  | .rrd g e => Sys2Proof.Machine.execRrd g e s
  | .rwr g e => Sys2Proof.Machine.execRwr g e s
  | .lsend g e => Sys2Proof.Machine.execLsend g e s
  | .waitt g e => Sys2Proof.Machine.execWaitt g e s
  | .waittSatisfied g e => Sys2Proof.Machine.execWaittSatisfied g e s
  | .sig g e => Sys2Proof.Machine.execSig g e s
  | .sigSignalled g e => Sys2Proof.Machine.execSigSignalled g e s
  | .fence g e => Sys2Proof.Machine.execFence g e s
  | .fenceComplete g e => Sys2Proof.Machine.execFenceComplete g e s
  | .transferRequest g e n => Sys2Proof.Machine.execTransferRequest g e n s
  | .ringRowLands g r up => Sys2Proof.Machine.execRingRowLands g r up s
  | .outboundRowDrain g r up => Sys2Proof.Machine.execOutboundRowDrain g r up s
  | .kstGrpOpen die n a v => Sys2Proof.Machine.execKstGrpOpen die n a v s
  | .kstGrpClose die n a v => Sys2Proof.Machine.execKstGrpClose die n a v s
  | .groupHeaderRead die n => Sys2Proof.Machine.execGroupHeaderRead die n s
  | .keyHeaderArrives die n k => Sys2Proof.Machine.execKeyHeaderArrives die n k s
  | .expectedTagReady g slot => Sys2Proof.Machine.execExpectedTagReady g slot s
  | .keyChunkArrives die n => Sys2Proof.Machine.execKeyChunkArrives die n s
  | .multicastRowSend die n => Sys2Proof.Machine.execMulticastRowSend die n s
  | .memberDrop die n m => Sys2Proof.Machine.execMemberDrop die n m s
  | .catchupRead die n k => Sys2Proof.Machine.execCatchupRead die n k s
  | .groupStreamEnd die n => Sys2Proof.Machine.execGroupStreamEnd die n s
  | .hbmReadReturn h atom found who => Sys2Proof.Machine.execHbmReadReturn h atom found who s
  | .smallPathWindow h => Sys2Proof.Machine.execSmallPathWindow h s
  | .wcbPartialWrite part job addr data => Sys2Proof.Machine.execWcbPartialWrite part job addr data s
  | .wcbAgeFlush die => Sys2Proof.Machine.execWcbAgeFlush die s
  | .wcbFlush die a => Sys2Proof.Machine.execWcbFlush die a s
  | .regulatorTick p => Sys2Proof.Machine.execRegulatorTick p s
  | .regulatedIssue p => Sys2Proof.Machine.execRegulatedIssue p s
  | .mregRateWrite p v a => Sys2Proof.Machine.execMregRateWrite p v a s
  | .refreshSlot h temp found => Sys2Proof.Machine.execRefreshSlot h temp found s
  | .tgcStart h v a => Sys2Proof.Machine.execTgcStart h v a s
  | .tgcStop h written checked errs => Sys2Proof.Machine.execTgcStop h written checked errs s
  | .tgcTestEnd h errs first => Sys2Proof.Machine.execTgcTestEnd h errs first s
  | .maintSet a => Sys2Proof.Machine.execMaintSet a s
  | .maintClear a => Sys2Proof.Machine.execMaintClear a s
  | .maintWipeDone => Sys2Proof.Machine.execMaintWipeDone s
  | .exchangeLand g => Sys2Proof.Machine.execExchangeLand g s
  | .flitCrcReplay die k ok => Sys2Proof.Machine.execFlitCrcReplay die k ok s
  | .laneSpareReplace die k => Sys2Proof.Machine.execLaneSpareReplace die k s
  | .fabricUncorrectable die r vc who => Sys2Proof.Machine.execFabricUncorrectable die r vc who s
  | .d2dRetrain a => Sys2Proof.Machine.execD2dRetrain a s
  | .cartridgeFailure k => Sys2Proof.Machine.execCartridgeFailure k s
  | .cartRelease k => Sys2Proof.Machine.execCartRelease k s
  | .cartRestore k => Sys2Proof.Machine.execCartRestore k s
  | .cartridgeInsert k => Sys2Proof.Machine.execCartridgeInsert k s
  | .cartridgeLit k => Sys2Proof.Machine.execCartridgeLit k s
  | .cartridgeLeverOpen k => Sys2Proof.Machine.execCartridgeLeverOpen k s
  | .linkLightDetect l => Sys2Proof.Machine.execLinkLightDetect l s
  | .linkTrainStep l => Sys2Proof.Machine.execLinkTrainStep l s
  | .linkTrainTimeout l => Sys2Proof.Machine.execLinkTrainTimeout l s
  | .hello l id far version => Sys2Proof.Machine.execHello l id far version s
  | .lossOfLock l => Sys2Proof.Machine.execLossOfLock l s
  | .fastRetrainDone l => Sys2Proof.Machine.execFastRetrainDone l s
  | .fastRetrainFail l => Sys2Proof.Machine.execFastRetrainFail l s
  | .linkRetryExpiry l => Sys2Proof.Machine.execLinkRetryExpiry l s
  | .flitReceive l flit fec => Sys2Proof.Machine.execFlitReceive l flit fec s
  | .nakReceive l seq => Sys2Proof.Machine.execNakReceive l seq s
  | .peerAdd id => Sys2Proof.Machine.execPeerAdd id s
  | .peerRemove id => Sys2Proof.Machine.execPeerRemove id s
  | .peerSetOwners id owners => Sys2Proof.Machine.execPeerSetOwners id owners s
  | .peerDrainDone id => Sys2Proof.Machine.execPeerDrainDone id s
  | .probe l => Sys2Proof.Machine.execProbe l s
  | .probeAck l => Sys2Proof.Machine.execProbeAck l s
  | .probeNak l => Sys2Proof.Machine.execProbeNak l s
  | .probeRetry id => Sys2Proof.Machine.execProbeRetry id s
  | .streamMessageReceive l => Sys2Proof.Machine.execStreamMessageReceive l s
  | .mackSend g r => Sys2Proof.Machine.execMackSend g r s
  | .mack l kind core queue mseq => Sys2Proof.Machine.execMack l kind core queue mseq s
  | .refuse l core queue mseq reason => Sys2Proof.Machine.execRefuse l core queue mseq reason s
  | .rnr l core queue mseq => Sys2Proof.Machine.execRnr l core queue mseq s
  | .rnrResend g peer queue => Sys2Proof.Machine.execRnrResend g peer queue s
  | .linkSendTimeout g peer queue => Sys2Proof.Machine.execLinkSendTimeout g peer queue s
  | .peerWaitTimeout g e => Sys2Proof.Machine.execPeerWaitTimeout g e s
  | .linkGroupMemberDrop g e n k => Sys2Proof.Machine.execLinkGroupMemberDrop g e n k s
  | .winOpen w => Sys2Proof.Machine.execWinOpen w s
  | .winClose w => Sys2Proof.Machine.execWinClose w s
  | .winClosed w => Sys2Proof.Machine.execWinClosed w s
  | .windowWriteReceive l => Sys2Proof.Machine.execWindowWriteReceive l s
  | .windowWriteComplete w => Sys2Proof.Machine.execWindowWriteComplete w s
  | .winXferPush a rcd => Sys2Proof.Machine.execWinXferPush a rcd s
  | .winXferStart => Sys2Proof.Machine.execWinXferStart s
  | .windowClosed l mseq => Sys2Proof.Machine.execWindowClosed l mseq s
  | .windowRefused l mseq => Sys2Proof.Machine.execWindowRefused l mseq s
  | .lnkRetrain l a => Sys2Proof.Machine.execLnkRetrain l a s
  | .slotLoad f slot v => Sys2Proof.Machine.execSlotLoad f slot v s
  | .slotLoadDone slot => Sys2Proof.Machine.execSlotLoadDone slot s
  | .slotRelease f slot => Sys2Proof.Machine.execSlotRelease f slot s
  | .slotWipeDone slot => Sys2Proof.Machine.execSlotWipeDone slot s
  | .pdecPush a rcd => Sys2Proof.Machine.execPdecPush a rcd s
  | .pdecRequestStart => Sys2Proof.Machine.execPdecRequestStart s
  | .pdecDone => Sys2Proof.Machine.execPdecDone s
  | .intakeSeal f off data stream => Sys2Proof.Machine.execIntakeSeal f off data stream s
  | .heldSealEvaluate f => Sys2Proof.Machine.execHeldSealEvaluate f s
  | .jobCheck f seq => Sys2Proof.Machine.execJobCheck f seq s
  | .jobStart f seq => Sys2Proof.Machine.execJobStart f seq s
  | .resourceReserve f seq => Sys2Proof.Machine.execResourceReserve f seq s
  | .jobTimeLimit f seq => Sys2Proof.Machine.execJobTimeLimit f seq s
  | .intkCancel f seq => Sys2Proof.Machine.execIntkCancel f seq s
  | .jobBoundary f seq => Sys2Proof.Machine.execJobBoundary f seq s
  | .jobCompletion f seq => Sys2Proof.Machine.execJobCompletion f seq s
  | .intkEn f v => Sys2Proof.Machine.execIntkEn f v s
  | .hifExpertEnWrite f v => Sys2Proof.Machine.execHifExpertEnWrite f v s
  | .functionLevelReset f => Sys2Proof.Machine.execFunctionLevelReset f s
  | .bar0Access f off wr len stream => Sys2Proof.Machine.execBar0Access f off wr len stream s
  | .bar2Access f off wr len stream => Sys2Proof.Machine.execBar2Access f off wr len stream s
  | .kSetGo k => Sys2Proof.Machine.execKSetGo k s
  | .ideIntegrityFail sid => Sys2Proof.Machine.execIdeIntegrityFail sid s
  | .stopInterface f => Sys2Proof.Machine.execStopInterface f s
  | .lockInterfaceRequest f stream => Sys2Proof.Machine.execLockInterfaceRequest f stream s
  | .tdiConfigChange f => Sys2Proof.Machine.execTdiConfigChange f s
  | .msixModerationTimer f v => Sys2Proof.Machine.execMsixModerationTimer f v s
  | .getVersion => Sys2Proof.Machine.execGetVersion s
  | .getCapabilities => Sys2Proof.Machine.execGetCapabilities s
  | .negotiateAlgorithms offered => Sys2Proof.Machine.execNegotiateAlgorithms offered s
  | .keyExchange slot hash => Sys2Proof.Machine.execKeyExchange slot hash s
  | .finish sid ok => Sys2Proof.Machine.execFinish sid ok s
  | .getMeasurements sid hash => Sys2Proof.Machine.execGetMeasurements sid hash s
  | .getReport nonce => Sys2Proof.Machine.execGetReport nonce s
  | .getDeviceCert off len => Sys2Proof.Machine.execGetDeviceCert off len s
  | .appExit a code => Sys2Proof.Machine.execAppExit a code s
  | .tokenSignal a t => Sys2Proof.Machine.execTokenSignal a t s
  | .tokenWait a t threshold limit => Sys2Proof.Machine.execTokenWait a t threshold limit s
  | .tokenWaitResume a => Sys2Proof.Machine.execTokenWaitResume a s
  | .tokenRead a t => Sys2Proof.Machine.execTokenRead a t s
  | .kgroupOpen a die hdr members level => Sys2Proof.Machine.execKgroupOpen a die hdr members level s
  | .kgroupClose a die n => Sys2Proof.Machine.execKgroupClose a die n s
  | .kgroupStatus a die n => Sys2Proof.Machine.execKgroupStatus a die n s
  | .guestPageFault a addr => Sys2Proof.Machine.execGuestPageFault a addr s
  | .loadAccessFault a addr => Sys2Proof.Machine.execLoadAccessFault a addr s
  | .ctrlTrap a vscause vsepc => Sys2Proof.Machine.execCtrlTrap a vscause vsepc s
  | .bootStage given loader fw => Sys2Proof.Machine.execBootStage given loader fw s
  | .secKcopyGo v a => Sys2Proof.Machine.execSecKcopyGo v a s
  | .kcopyDone => Sys2Proof.Machine.execKcopyDone s
  | .reservationLogWrite ok => Sys2Proof.Machine.execReservationLogWrite ok s
  | .bneReqPush rcd => Sys2Proof.Machine.execBneReqPush rcd s
  | .bneRequestStart => Sys2Proof.Machine.execBneRequestStart s
  | .bneFetchDone host bad => Sys2Proof.Machine.execBneFetchDone host bad s
  | .bneComputeDone mismatch => Sys2Proof.Machine.execBneComputeDone mismatch s
  | .bneWipeDone => Sys2Proof.Machine.execBneWipeDone s
  | .securityViolation bits => Sys2Proof.Machine.execSecurityViolation bits s
  | .coreFail c p ev => Sys2Proof.Machine.execCoreFail c p ev s
  | .spareSubstitution c => Sys2Proof.Machine.execSpareSubstitution c s
  | .pddSelftestGo die v a => Sys2Proof.Machine.execPddSelftestGo die v a s
  | .selftestStart die => Sys2Proof.Machine.execSelftestStart die s
  | .selftestEnd die pass => Sys2Proof.Machine.execSelftestEnd die pass s
  | .pairingMessage l feed answer => Sys2Proof.Machine.execPairingMessage l feed answer s
  | .pddCommitPush a rcd => Sys2Proof.Machine.execPddCommitPush a rcd s
  | .commitReceive l rcd => Sys2Proof.Machine.execCommitReceive l rcd s
  | .commitAnswer l code detail mirrored => Sys2Proof.Machine.execCommitAnswer l code detail mirrored s
  | .pddDigestPush a rcd => Sys2Proof.Machine.execPddDigestPush a rcd s
  | .digestDone => Sys2Proof.Machine.execDigestDone s
  | .lostWaitExpiry w => Sys2Proof.Machine.execLostWaitExpiry w s
  | .powerOnReset => Sys2Proof.Machine.execPowerOnReset s
  | .clockMissing => Sys2Proof.Machine.execClockMissing s
  | .clockReturn => Sys2Proof.Machine.execClockReturn s
  | .perstAssert n acts => Sys2Proof.Machine.execPerstAssert n acts s
  | .perstDeassert => Sys2Proof.Machine.execPerstDeassert s
  | .hotReset => Sys2Proof.Machine.execHotReset s
  | .rstCtrlDevice v => Sys2Proof.Machine.execRstCtrlDevice v s
  | .watchdogExpiry => Sys2Proof.Machine.execWatchdogExpiry s
  | .thermalTrip cls t => Sys2Proof.Machine.execThermalTrip cls t s
  | .resetRelease t => Sys2Proof.Machine.execResetRelease t s
  | .fuseCopyCheck ok => Sys2Proof.Machine.execFuseCopyCheck ok s
  | .strapSetDone codes => Sys2Proof.Machine.execStrapSetDone codes s
  | .startStepDone n norOk bad => Sys2Proof.Machine.execStartStepDone n norOk bad s
  | .startConfirm => Sys2Proof.Machine.execStartConfirm s
  | .startTimeout => Sys2Proof.Machine.execStartTimeout s
  | .partResetCore g a => Sys2Proof.Machine.execPartResetCore g a s
  | .partResetCluster c a => Sys2Proof.Machine.execPartResetCluster c a s
  | .partResetHbmChannel h a => Sys2Proof.Machine.execPartResetHbmChannel h a s
  | .partResetLink l a => Sys2Proof.Machine.execPartResetLink l a s
  | .partResetOptEngine e a => Sys2Proof.Machine.execPartResetOptEngine e a s
  | .partResetAppCore k a => Sys2Proof.Machine.execPartResetAppCore k a s
  | .partResetStart => Sys2Proof.Machine.execPartResetStart s
  | .powerSample w => Sys2Proof.Machine.execPowerSample w s
  | .gapRatioUpdate => Sys2Proof.Machine.execGapRatioUpdate s
  | .thermalLevelChange die cls t => Sys2Proof.Machine.execThermalLevelChange die cls t s
  | .throttleStep die => Sys2Proof.Machine.execThrottleStep die s
  | .freqStep die => Sys2Proof.Machine.execFreqStep die s
  | .clusterRelock c => Sys2Proof.Machine.execClusterRelock c s
  | .relockDone c => Sys2Proof.Machine.execRelockDone c s
  | .pwrCtrlWrite v a => Sys2Proof.Machine.execPwrCtrlWrite v a s
  | .clkClusterWrite c v a => Sys2Proof.Machine.execClkClusterWrite c v a s
  | .duskEntry => Sys2Proof.Machine.execDuskEntry s
  | .duskWake => Sys2Proof.Machine.execDuskWake s
  | .wakeComplete => Sys2Proof.Machine.execWakeComplete s
  | .cfgCmdPowerLimit a v persist norOk => Sys2Proof.Machine.execCfgCmdPowerLimit a v persist norOk s
  | .cfgCmdIdleUs a v persist norOk => Sys2Proof.Machine.execCfgCmdIdleUs a v persist norOk s
  | .cfgCmdDuskEn a v persist norOk => Sys2Proof.Machine.execCfgCmdDuskEn a v persist norOk s
  | .cfgCmdClusterFreq a v persist norOk => Sys2Proof.Machine.execCfgCmdClusterFreq a v persist norOk s
  | .cfgCmdSendLimit a v persist norOk => Sys2Proof.Machine.execCfgCmdSendLimit a v persist norOk s
  | .cfgCmdPeerWait a v persist norOk => Sys2Proof.Machine.execCfgCmdPeerWait a v persist norOk s
  | .cfgCmdRetry a v persist norOk => Sys2Proof.Machine.execCfgCmdRetry a v persist norOk s
  | .cfgCmdLostWait a v persist norOk => Sys2Proof.Machine.execCfgCmdLostWait a v persist norOk s
  | .cfgCmdFeedOverride a v persist norOk => Sys2Proof.Machine.execCfgCmdFeedOverride a v persist norOk s
  | .cfgCmdRegulator a p v persist norOk => Sys2Proof.Machine.execCfgCmdRegulator a p v persist norOk s
  | .updApply a => Sys2Proof.Machine.execUpdApply a s
  | .updResetNow a => Sys2Proof.Machine.execUpdResetNow a s
  | .updateStepConfirm => Sys2Proof.Machine.execUpdateStepConfirm s
  | .updateWindowMiss => Sys2Proof.Machine.execUpdateWindowMiss s
  | .updateDeviceReset => Sys2Proof.Machine.execUpdateDeviceReset s
  | .cardInsert p => Sys2Proof.Machine.execCardInsert p s
  | .cardRemove => Sys2Proof.Machine.execCardRemove s
  | .vinRise => Sys2Proof.Machine.execVinRise s
  | .vinFall us => Sys2Proof.Machine.execVinFall us s
  | .vinOvervoltage => Sys2Proof.Machine.execVinOvervoltage s
  | .overcurrentTrip => Sys2Proof.Machine.execOvercurrentTrip s
  | .hotswapRetry => Sys2Proof.Machine.execHotswapRetry s
  | .railFault rail kind => Sys2Proof.Machine.execRailFault rail kind s
  | .railRestart => Sys2Proof.Machine.execRailRestart s
  | .i3cSetOffset b => Sys2Proof.Machine.execI3cSetOffset b s
  | .i3cRegisterWrite b => Sys2Proof.Machine.execI3cRegisterWrite b s
  | .i3cRegisterRead => Sys2Proof.Machine.execI3cRegisterRead s
  | .setdasa static dyn => Sys2Proof.Machine.execSetdasa static dyn s
  | .entdaa dyn => Sys2Proof.Machine.execEntdaa dyn s
  | .registerWrite a addr b => Sys2Proof.Machine.execRegisterWrite a addr b s
  | .startInterfaceRequest f => Sys2Proof.Machine.execStartInterfaceRequest f s
  | .stopInterfaceWipeDone f => Sys2Proof.Machine.execStopInterfaceWipeDone f s
  | .configurationRequest q => Sys2Proof.Machine.execConfigurationRequest q s
  | .pcieLinkReachesL0 => Sys2Proof.Machine.execPcieLinkReachesL0 s
  | .overvoltageTurnOn => Sys2Proof.Machine.execOvervoltageTurnOn s
  | .partialResetDone ok => Sys2Proof.Machine.execPartialResetDone ok s
  | .updateImageWritten res => Sys2Proof.Machine.execUpdateImageWritten res s

end Sys2Proof.Machine
end

