-- ==== Sys2Proof/Machine/Step.lean ====
section
/-! DEFINITION. One step: the command at the front of the queue; with none, one always-on cycle. -/

namespace Sys2Proof.Machine

/-- The command at the front runs with the rest of the queue; an empty queue lets one always-on cycle pass. -/
def step (s : State) : Host.Outcome State Fault Refusal :=
  match s.pending with
  | [] => idleCycle s
  | c :: rest => exec c { s with pending := rest }

/-- The command that a word spells, in front of the queue; the table gives no command a word. -/
def State.withFetchWord (s : State) (nbits w : Nat) : State :=
  match decodeTableWord nbits w with
  | some c => { s with pending := c :: s.pending }
  | none => s

end Sys2Proof.Machine
end

