-- ==== Sys2Proof/Safety.lean ====
section
/-! DEFINITION. The terms in which statements about the block are made: what a command finds, what it leaves behind, and
the forms that a run never loses. -/

namespace Sys2Proof.Machine

/-- The device as the next command finds it: what the command before put out of the device is gone. -/
def State.found (s : State) : Dev := { s.dev with out := [] }

/-- On every device that satisfies `pre` the command answers a next state: its own effect leaves the device `post d`,
what follows every effect follows (R423, R561), and the waiting commands are those that waited. -/
def Completes (c : Instr) (pre : Dev → Prop) (post : Dev → Dev) : Prop :=
  ∀ s : State, pre s.found → exec c s = .next { s with dev := (post s.found).settle }

/-- The same where the rules say some of what the command's own effect leaves: `post d e` relates the device `d` found
and the device `e` left. -/
def Yields (c : Instr) (pre : Dev → Prop) (post : Dev → Dev → Prop) : Prop :=
  ∀ s : State, pre s.found → ∃ e : Dev, exec c s = .next { s with dev := e.settle } ∧ post s.found e

/-- A request of function f on a stream reaches the device (R375, R377, R493): the link is up, the function is present, and
a function whose TDI runs uses the stream it is bound to. -/
abbrev Dev.hostOpen (d : Dev) (f : Nat) (stream : Option Nat) : Prop :=
  d.rst.pcie = 1 ∧ d.rst.lodestar = false ∧ (f ≠ 0 → d.pcie.vfEnable = true ∧ f ≤ d.pcie.numVfs) ∧
    ((d.fn f).tdisp = 2 → stream ≠ none ∧ (d.fn f).ide = stream)

/-- The device once a host access of BAR2 to partition p has been asked for: it is charged, and counted on the small path when it is
below 512 bytes (R261, R269). -/
def Dev.hostAsked (d : Dev) (p addr len : Nat) (wr : Bool) : Dev :=
  d.updMem fun m => { m.ask (.host m.hostNo) (some p) (decide (len < 512)) wr addr len with hostNo := m.hostNo + 1 }

/-- Nothing holds back the host access that has been asked for: no tokens that lack, no small path that is full, no channel in
a partial reset, no earlier access (R256, R261, R267). -/
abbrev Dev.hostFree (d : Dev) (p addr len : Nat) (wr : Bool) : Prop :=
  d.mem.hostQ = [] ∧ (d.hostAsked p addr len wr).mem.holds.contains (.host d.mem.hostNo) = false ∧
    (d.hostAsked p addr len wr).mem.resetting addr len = false

/-- A message in a secured session reaches the security firmware (R377, R379, R434): the firmware runs, the link is up, and a
session is established. -/
abbrev Dev.secureOpen (d : Dev) : Prop := 3 ≤ d.sec.stage ∧ d.rst.pcie = 1 ∧ d.sec.sessions.any Session.established = true

/-- The device at which the command of a bundle's slot has its effect, and whether the command may issue: the bundle is in issue, and
what the side port has written in the cycle is hidden from the command's reads (R204). -/
def Dev.slotReady (d : Dev) (g slot op : Nat) : Dev × Bool :=
  ((d.reach g slot op).1.updCore g Core.sideHidden, (d.reach g slot op).2)

/-- Memory in canonical form: addresses strictly rising, no entry equal to what an unlisted address reads as. -/
def Mem.wf (m : Mem) : Bool := Tab.wf 0 m.hbm

/-- Every local store in canonical form. -/
def StoresOk (t : Tab Core) : Prop := ∀ p ∈ t, Tab.wf 0 p.2.ls = true

/-- PWR_CTRL.LIMIT_W is in the range that R510 gives it, or no record has set it since the reset. -/
def LimitOk (p : Pwr) : Prop := p.limitW = 0 ∨ (400 ≤ p.limitW ∧ p.limitW ≤ 950)

/-- Fuses are burnt and never restored (R420): a revoked key stays revoked, a security version never falls, and what is
programmed once stays as it is. -/
structure FusesBurn (a b : Fuses) : Prop where
  keyHash : b.keyHash = a.keyHash
  uds : b.uds = a.uds
  uid : b.uid = a.uid
  lifecycle : b.lifecycle = a.lifecycle
  revoked : ∀ i, bit a.keyRevoke i = true → bit b.keyRevoke i = true
  svn : ∀ c, Tab.get 0 a.svn c ≤ Tab.get 0 b.svn c

theorem FusesBurn.refl (a : Fuses) : FusesBurn a a := ⟨rfl, rfl, rfl, rfl, fun _ h => h, fun _ => Nat.le_refl _⟩

theorem FusesBurn.trans {a b c : Fuses} (h : FusesBurn a b) (e : FusesBurn b c) : FusesBurn a c :=
  ⟨e.keyHash.trans h.keyHash, e.uds.trans h.uds, e.uid.trans h.uid, e.lifecycle.trans h.lifecycle,
    fun i x => e.revoked i (h.revoked i x), fun k => Nat.le_trans (h.svn k) (e.svn k)⟩

/-- The pieces of the device. -/
inductive Piece where
  /-- the polynomial cores: local stores, registers, queues, engines (chapters 02 to 09) -/
  | cores
  /-- the application cores (15) -/
  | appCores
  /-- the key-stream groups (05) -/
  | groups
  /-- the registers of the PCIe functions (14) -/
  | functions
  /-- the PCIe configuration (14) -/
  | pcie
  /-- HIF_EXPERT_EN (R3, R399) -/
  | expert
  /-- the outstanding jobs (14) -/
  | jobs
  /-- the acceptance number of the next job (R383) -/
  | nextJob
  /-- the grants of the configuration record in use (R529) -/
  | grants
  /-- HBM, its controllers, regulators and fabrics (10, 11) -/
  | memory
  /-- links, engines, peers and windows (12) -/
  | starlane
  /-- power, clocks and temperatures (19) -/
  | power
  /-- reset and start (18) -/
  | reset
  /-- the contents of the NOR (20) -/
  | nor
  /-- the record in use (20) -/
  | config
  /-- the updater (20) -/
  | update
  /-- spares, self-tests and mirroring (17) -/
  | mirror
  /-- the security complex (16) and the share slots (13) -/
  | security
  /-- the fuses (R420) -/
  | fuses
  /-- SEC_VIOL (R444) -/
  | violations
  /-- the module hardware (22) -/
  | module
  /-- records logged before the physical function has a ring (R423) -/
  | bootLog
  /-- AON_COUNT of die 0 (R504) -/
  | aon0
  /-- AON_COUNT of die 1 (R504) -/
  | aon1
  /-- the counter that free values are drawn from (the model's own) -/
  | free
  /-- what the latest command put out -/
  | output
  deriving DecidableEq, Repr

/-- A part of b is as it is in a. -/
def Piece.same (a b : Dev) : Piece → Prop
  | .cores => b.cores = a.cores
  | .appCores => b.apps = a.apps
  | .groups => b.groups = a.groups
  | .functions => b.fns = a.fns
  | .pcie => b.pcie = a.pcie
  | .expert => b.expertEn = a.expertEn
  | .jobs => b.jobs = a.jobs
  | .nextJob => b.nextJob = a.nextJob
  | .grants => b.grants = a.grants
  | .memory => b.mem = a.mem
  | .starlane => b.lane = a.lane
  | .power => b.pwr = a.pwr
  | .reset => b.rst = a.rst
  | .nor => b.nor = a.nor
  | .config => b.cfg = a.cfg
  | .update => b.upd = a.upd
  | .mirror => b.pdd = a.pdd
  | .security => b.sec = a.sec
  | .fuses => b.fuses = a.fuses
  | .violations => b.viol = a.viol
  | .module => b.hw = a.hw
  | .bootLog => b.bootLog = a.bootLog
  | .aon0 => b.aon0 = a.aon0
  | .aon1 => b.aon1 = a.aon1
  | .free => b.freeCtr = a.freeCtr
  | .output => b.out = a.out

/-- The parts that the step of any command may change after its own effect: an in-band interrupt and the module's LED code
(R561), and the delivery of the boot log (R423, R495), which writes fault records of the physical function. -/
def afterEffect : List Piece := [.functions, .reset, .module, .bootLog, .output]

/-- The parts that a command's own effect may change beside those of `afterEffect`: what its chapter says it does, with the
faults, ends of jobs and resets that it can bring. -/
def touches : Instr → List Piece
  | .opOpen .. | .opClose .. | .clusterOperationStop .. | .loop .. | .shapeSet .. | .pxSet .. | .nttFwd .. | .nttInv .. |
    .nttFwdq .. | .nttInvq .. | .bcvLdm .. | .bcvExt .. | .bcvMatmul .. | .ld .. | .qpop .. | .st .. | .add .. | .sub .. |
    .neg .. | .mul .. | .mac .. | .cmplt .. | .cmpeq .. | .sel .. | .shuf .. | .bcast .. | .add64 .. | .sub64 .. |
    .mul64 .. | .cmplt64 .. | .prmAuto .. | .prmAutoip .. | .prmTrans .. | .prmTransip .. | .prmGather .. |
    .prmScatter .. | .coordListFail .. | .prmSend .. | .kexGen .. | .kexGenq .. | .strIssue .. | .engineWriteLands .. |
    .tileDeposit .. | .freezeEnd .. | .streamTimeout .. | .auditFreeze .. | .blockDispatch .. | .blockBoundary .. |
    .seqBqPush .. | .pushHeldAccept .. | .imageFetchDone .. | .lsCorrectionRewrite .. | .lsScrubStep .. | .lsWipeDone .. |
    .kloadGo .. | .kloadForce .. | .kloadDone .. | .rd .. | .wr .. | .rrd .. | .rwr .. | .lsend .. | .groupHeaderRead .. |
    .keyHeaderArrives .. | .expectedTagReady .. | .keyChunkArrives .. | .multicastRowSend .. | .memberDrop .. |
    .catchupRead .. | .groupStreamEnd .. =>
    [.cores, .appCores, .groups, .jobs, .memory, .free]
  | .narrowRead .. | .narrowWrite .. | .exchangeLand .. | .ringRowLands .. | .smallPathWindow .. | .wcbPartialWrite .. |
    .wcbAgeFlush .. | .wcbFlush .. | .regulatedIssue .. | .jobCheck .. | .loadAccessFault .. =>
    [.cores, .appCores, .jobs, .memory]
  | .getVersion .. | .getCapabilities .. | .negotiateAlgorithms .. | .finish .. | .getReport .. | .secKcopyGo .. |
    .bneReqPush .. | .bneWipeDone .. =>
    [.security]
  | .keyExchange .. | .jobStart .. | .slotLoad .. | .slotLoadDone .. | .slotRelease .. | .slotWipeDone .. | .pdecPush .. |
    .pdecRequestStart .. | .pdecDone .. =>
    [.cores, .appCores, .groups, .jobs, .memory, .security, .free]
  | .getMeasurements .. =>
    [.free]
  | .getDeviceCert .. | .lockInterfaceRequest .. | .i3cSetOffset .. | .intkEn .. | .msixModerationTimer .. |
    .tokenRead .. | .kgroupStatus .. | .clockMissing .. | .perstDeassert .. | .fuseCopyCheck .. | .strapSetDone .. |
    .vinRise .. | .hotswapRetry .. | .railRestart .. | .setdasa .. | .entdaa .. | .pcieLinkReachesL0 .. |
    .overvoltageTurnOn .. =>
    []
  | .bootStage .. =>
    [.nor, .security, .fuses, .free]
  | .kcopyDone .. | .bneRequestStart .. | .bneFetchDone .. =>
    [.cores, .appCores, .jobs, .memory, .security]
  | .reservationLogWrite .. =>
    [.nor, .security]
  | .bneComputeDone .. =>
    [.cores, .appCores, .groups, .pcie, .expert, .jobs, .nextJob, .grants, .memory, .starlane, .power, .nor, .config,
     .update, .mirror, .security, .violations, .free]
  | .securityViolation .. =>
    [.cores, .appCores, .groups, .pcie, .expert, .jobs, .nextJob, .grants, .memory, .starlane, .power, .nor, .config,
     .update, .mirror, .security, .violations]
  | .tokenSignalArrives .. | .run .. | .unpostComplete .. | .strEnd .. | .seta .. | .adda .. | .setl .. | .addl .. |
    .strLoop .. | .waitt .. | .waittSatisfied .. | .sig .. | .fence .. | .fenceComplete .. =>
    [.cores]
  | .post .. | .unpost .. | .release .. | .i3cRegisterRead .. | .intkCancel .. | .appExit .. | .guestPageFault .. |
    .ctrlTrap .. =>
    [.cores, .appCores, .jobs]
  | .kbind .. =>
    [.cores, .appCores, .groups, .jobs]
  | .leave .. | .kstGrpOpen .. | .kstGrpClose .. | .kgroupClose .. =>
    [.cores, .groups, .memory]
  | .sigSignalled .. | .tokenSignal .. =>
    [.cores, .jobs]
  | .transferRequest .. | .outboundRowDrain .. | .hbmReadReturn .. | .fabricUncorrectable .. | .jobBoundary .. |
    .jobCompletion .. =>
    [.cores, .appCores, .groups, .jobs, .memory, .starlane, .free]
  | .peerAdd .. | .peerSetOwners .. | .peerDrainDone .. | .probe .. | .probeRetry .. | .mackSend .. | .rnr .. |
    .rnrResend .. | .cartRestore .. | .cartridgeInsert .. | .cartridgeLit .. | .linkLightDetect .. | .linkTrainStep .. |
    .lossOfLock .. | .linkRetryExpiry .. | .nakReceive .. | .winClose .. | .winClosed .. | .windowWriteReceive .. |
    .winXferPush .. =>
    [.starlane]
  | .peerRemove .. | .probeAck .. | .probeNak .. | .cartridgeFailure .. | .cartRelease .. | .cartridgeLeverOpen .. |
    .linkTrainTimeout .. | .hello .. | .fastRetrainDone .. | .fastRetrainFail .. | .lnkRetrain .. =>
    [.cores, .starlane, .mirror]
  | .streamMessageReceive .. | .commitReceive .. =>
    [.cores, .appCores, .groups, .jobs, .memory, .starlane, .mirror, .free]
  | .refuse .. | .linkSendTimeout .. | .peerWaitTimeout .. | .linkGroupMemberDrop .. =>
    [.cores, .appCores, .jobs, .starlane]
  | .functionLevelReset .. =>
    [.cores, .appCores, .groups, .pcie, .expert, .jobs, .memory, .starlane, .security, .free]
  | .kSetGo .. =>
    [.pcie]
  | .ideIntegrityFail .. | .tdiConfigChange .. =>
    [.cores, .appCores, .groups, .jobs, .memory, .starlane, .security, .free]
  | .stopInterface .. =>
    [.cores, .appCores, .groups, .jobs, .nextJob, .memory, .starlane, .free]
  | .startInterfaceRequest .. | .heldSealEvaluate .. =>
    [.jobs, .nextJob]
  | .stopInterfaceWipeDone .. | .regulatorTick .. | .mregRateWrite .. | .refreshSlot .. | .tgcStart .. | .tgcStop .. |
    .tgcTestEnd .. | .maintSet .. | .maintClear .. | .maintWipeDone .. | .flitCrcReplay .. | .laneSpareReplace .. |
    .d2dRetrain .. =>
    [.memory]
  | .flitReceive .. =>
    [.starlane, .power]
  | .mack .. | .windowWriteComplete .. | .winXferStart .. | .windowClosed .. =>
    [.cores, .appCores, .jobs, .memory, .starlane]
  | .winOpen .. | .pairingMessage .. | .pddCommitPush .. =>
    [.starlane, .mirror]
  | .windowRefused .. =>
    [.cores, .appCores, .jobs, .memory, .starlane, .mirror]
  | .intakeSeal .. =>
    [.jobs, .nextJob, .power, .nor, .update, .security, .free]
  | .bar0Access .. | .i3cRegisterWrite .. | .registerWrite .. =>
    [.cores, .appCores, .groups, .pcie, .expert, .jobs, .nextJob, .grants, .memory, .starlane, .power, .nor, .config,
     .update, .mirror, .security, .free]
  | .bar2Access .. =>
    [.cores, .appCores, .jobs, .memory, .power, .nor, .update, .security, .free]
  | .configurationRequest .. =>
    [.cores, .appCores, .groups, .pcie, .expert, .jobs, .memory, .starlane, .nor, .update, .security, .free]
  | .resourceReserve .. =>
    [.jobs]
  | .jobTimeLimit .. =>
    [.cores, .appCores, .jobs, .power]
  | .hifExpertEnWrite .. =>
    [.expert]
  | .tokenWait .. | .tokenWaitResume .. =>
    [.appCores]
  | .kgroupOpen .. =>
    [.groups]
  | .coreFail .. | .selftestEnd .. =>
    [.cores, .appCores, .groups, .jobs, .memory, .nor, .mirror, .free]
  | .spareSubstitution .. =>
    [.cores, .mirror]
  | .pddSelftestGo .. | .selftestStart .. | .pddDigestPush .. | .lostWaitExpiry .. =>
    [.mirror]
  | .commitAnswer .. | .digestDone .. =>
    [.cores, .appCores, .jobs, .memory, .mirror]
  | .powerOnReset .. | .vinFall .. | .vinOvervoltage .. | .overcurrentTrip .. | .railFault .. =>
    [.cores, .appCores, .groups, .pcie, .expert, .jobs, .nextJob, .grants, .memory, .starlane, .power, .nor, .config,
     .update, .mirror, .security, .violations, .aon0, .aon1]
  | .clockReturn .. | .perstAssert .. | .hotReset .. | .rstCtrlDevice .. | .watchdogExpiry .. | .thermalTrip .. |
    .startTimeout .. | .updResetNow .. | .updateDeviceReset .. | .updateImageWritten .. =>
    [.cores, .appCores, .groups, .pcie, .expert, .jobs, .nextJob, .grants, .memory, .starlane, .power, .nor, .config,
     .update, .mirror, .security]
  | .resetRelease .. =>
    [.nor]
  | .startStepDone .. =>
    [.cores, .appCores, .groups, .jobs, .grants, .memory, .starlane, .power, .nor, .config, .update, .mirror, .security,
     .free]
  | .startConfirm .. =>
    [.jobs, .nextJob, .nor, .update, .security, .fuses, .free]
  | .partResetCore .. | .partResetCluster .. | .partResetHbmChannel .. | .partResetLink .. | .partResetOptEngine .. |
    .partResetAppCore .. | .partResetStart .. =>
    [.cores, .appCores, .memory, .starlane, .power, .nor, .update, .mirror, .security, .free]
  | .duskEntry .. =>
    [.cores, .appCores, .jobs, .memory, .starlane, .power, .nor, .update, .security, .free]
  | .duskWake .. | .powerSample .. | .gapRatioUpdate .. | .thermalLevelChange .. | .throttleStep .. | .freqStep .. |
    .clusterRelock .. | .relockDone .. | .pwrCtrlWrite .. | .clkClusterWrite .. =>
    [.power]
  | .wakeComplete .. =>
    [.cores, .jobs, .nextJob, .memory, .starlane, .power, .mirror]
  | .partialResetDone .. =>
    [.cores, .appCores, .groups, .jobs, .memory, .starlane, .power, .nor, .update, .mirror, .security, .free]
  | .cfgCmdPowerLimit .. | .cfgCmdIdleUs .. | .cfgCmdDuskEn .. | .cfgCmdClusterFreq .. =>
    [.power, .nor, .config]
  | .cfgCmdSendLimit .. | .cfgCmdPeerWait .. | .cfgCmdRetry .. =>
    [.starlane, .nor, .config]
  | .cfgCmdLostWait .. | .cfgCmdFeedOverride .. =>
    [.nor, .config, .mirror]
  | .cfgCmdRegulator .. =>
    [.memory, .nor, .config]
  | .updApply .. | .updateStepConfirm .. | .cardInsert .. | .cardRemove .. =>
    [.nor, .update]
  | .updateWindowMiss .. =>
    [.nor, .update, .security]

/-- The commands with which the power goes or comes (R478, R479, R562, R563, R565, R568). -/
def powersOn : Instr → Bool
  | .powerOnReset .. | .vinFall .. | .vinOvervoltage .. | .overcurrentTrip .. | .railFault .. => true
  | _ => false

end Sys2Proof.Machine
end

