-- ==== Sys2Proof/Certificates/Slice0/Obligations.lean ====
section
/-! DEFINITION. The statements about the block: what every step keeps, what the shared operations compute, and when the
commands of each family complete and what they then leave. -/

open Sys2Proof Sys2Proof.Machine

/-- For every command c, queue rest and state: the step of the state with c in front of rest is exec of c on the state
with rest. The queue is the model's own (log entry 1). -/
def Obligations.StepRunsFront : Prop :=
  ∀ (c : Instr) (rest : List Instr) (s : State), step { s with pending := c :: rest } = exec c { s with pending := rest }

/-- With an empty queue a step lets one always-on cycle pass (the model's choice, log entry 1): it answers a next
state with an empty queue in which each AON_COUNT has risen by one modulo 2^64, or is unchanged while the always-on
clock is missing, and in which only the cores, the groups, the links, the power state, the mirroring state, the
always-on counts and the pieces of every step can differ. -/
def Obligations.IdleStep : Prop :=
  ∀ s : State, s.pending = [] → ∃ t : State, step s = .next t ∧ t.pending = [] ∧
    t.dev.aon0 = (if s.dev.rst.clkMissing then s.dev.aon0 else (s.dev.aon0 + 1) % 2 ^ 64) ∧
    t.dev.aon1 = (if s.dev.rst.clkMissing then s.dev.aon1 else (s.dev.aon1 + 1) % 2 ^ 64) ∧
    ∀ p : Piece, p ∉ [.cores, .groups, .starlane, .power, .mirror, .aon0, .aon1] → p ∉ afterEffect → p.same s.dev t.dev

/-- For every command and every state exec answers a next state with the same waiting commands: no command of the
table stops the block, and none touches the queue. -/
def Obligations.CommandsAlwaysAnswer : Prop :=
  ∀ (c : Instr) (s : State), ∃ t : State, exec c s = .next t ∧ t.pending = s.pending

/-- The frame of all 299 commands: if exec of a command answers a next state, every piece of the device outside the
list the command touches, and outside the five that any step may change (function registers, reset state, module
hardware, boot log, output), is as it was. The lists are those of `touches` in Safety.lean. -/
def Obligations.CommandsKeepOtherPieces : Prop :=
  ∀ (c : Instr) (s t : State) (p : Piece), exec c s = .next t → p ∉ touches c → p ∉ afterEffect → p.same s.dev t.dev

/-- For every state whose HBM list and whose local-store lists are in canonical form (addresses strictly rising, no
entry equal to what an unlisted address reads as), the next state of a step has them in canonical form too: equal
contents are equal data after any command and any idle cycle. -/
def Obligations.StepKeepsStorageCanonical : Prop :=
  ∀ s t : State, s.dev.mem.wf = true → StoresOk s.dev.cores → step s = .next t → t.dev.mem.wf = true ∧ StoresOk t.dev.cores

/-- Whatever command a step runs, a key that is revoked stays revoked, no security version count falls, and key
hashes, the device secret, the identifier and the life cycle stay as they are. R420 says that a fuse bit once burnt is
never cleared. -/
def Obligations.StepOnlyBurnsFuses : Prop :=
  ∀ s t : State, step s = .next t → FusesBurn s.dev.fuses t.dev.fuses

/-- A command other than BOOT_STAGE and START_CONFIRM leaves every fuse as it is, and so does an idle cycle: no
register write, reset, update or loss of power burns one. -/
def Obligations.FusesBurnOnlyAtStart : Prop :=
  ∀ s t : State, step s = .next t →
    (∀ c rest, s.pending = c :: rest → Piece.fuses ∉ touches c) → t.dev.fuses = s.dev.fuses

/-- A step whose command is not one with which the power goes or comes clears no bit of SEC_VIOL, whatever device
reset, register write or violation it brings. R444 says that SEC_VIOL keeps its bits until the next power-on reset. -/
def Obligations.ViolationsStayUntilPowerOn : Prop :=
  ∀ s t : State, step s = .next t → (∀ c rest, s.pending = c :: rest → powersOn c = false) →
    ∀ i, bit s.dev.viol i = true → bit t.dev.viol i = true

/-- For every state in which LIMIT_W is in its range, or is zero because no configuration record has set it since the
reset (the model's value there, log entry 179), the next state of a step has it so again: no write, record or
management command leaves it outside. -/
def Obligations.PowerLimitStaysInRange : Prop :=
  ∀ s t : State, LimitOk s.dev.pwr → step s = .next t → LimitOk t.dev.pwr

/-- State.reset has HBM and local stores in canonical form, LIMIT_W as the range invariant asks and an empty queue. -/
def Obligations.ResetIsCanonical : Prop :=
  State.reset.dev.mem.wf = true ∧ StoresOk State.reset.dev.cores ∧ LimitOk State.reset.dev.pwr ∧ State.reset.pending = []

/-- No command but those with which the power goes or comes changes AON_COUNT of either die: R504 says that the count
is not changed by any other reset. -/
def Obligations.AlwaysOnCountsKeepTime : Prop :=
  ∀ (c : Instr) (s t : State), exec c s = .next t → powersOn c = false →
    t.dev.aon0 = s.dev.aon0 ∧ t.dev.aon1 = s.dev.aon1

/-- Every reset that resets a function leaves its bit of HIF_EXPERT_EN clear: a device reset, a power-on, a loss of
power and a function-level reset of that function, which leaves the bits of the others as they were; a function-level
reset of the physical function completes with bit 0 clear. -/
def Obligations.ExpertBitsClearAtResets : Prop :=
  (∀ (d : Dev) (cause f : Nat), bit (d.deviceReset cause).expertEn f = false) ∧
    (∀ (d : Dev) (rose : Bool) (f : Nat), bit (d.powerOn rose).expertEn f = false) ∧
    (∀ (d : Dev) (hw : Hw) (f : Nat), bit (d.unpowered hw).expertEn f = false) ∧
    (∀ (d : Dev) (f k : Nat), bit (d.resetFn f).expertEn k = (bit d.expertEn k && decide (k ≠ f))) ∧
    ∀ (f : FnId) (s : State), ∃ t : State, exec (.functionLevelReset f) s = .next t ∧ bit t.dev.expertEn f.val = false

/-- HIF_EXPERT_EN_WRITE by the physical function sets exactly the written bits whose function the configuration record
grants expert level; a write without a grant leaves the bit clear; by another function it changes nothing. Registers,
memory, jobs and everything else outside the pieces of every step stay as they were. -/
def Obligations.ExpertWritesNeedGrants : Prop :=
  ∀ (f : FnId) (v : BitVec 64) (s : State), ∃ t : State, exec (.hifExpertEnWrite f v) s = .next t ∧
    (∀ k : Nat, bit t.dev.expertEn k = if f.val = 0 then decide (k < 64) && bit v.toNat k && (Tab.get Grant.none s.dev.grants k).expert
      else bit s.dev.expertEn k) ∧
    ∀ p : Piece, p ≠ .expert → p ∉ afterEffect → p.same s.dev t.dev

/-- After a device reset of any cause: no job, no core state, no HBM contents, no share slot, no session and no link
is left; the always-on counts, fuses, SEC_VIOL, the module hardware and the boot log are kept, and every cartridge
keeps its presence, its state and its lever and may feed an engine from the start on; RST_CAUSE holds the cause (R314,
R478, R479). -/
def Obligations.DeviceResetClearsAndKeeps : Prop :=
  ∀ (d : Dev) (cause : Nat),
    (d.deviceReset cause).jobs = [] ∧ (d.deviceReset cause).cores = [] ∧ (d.deviceReset cause).apps = [] ∧
    (d.deviceReset cause).groups = [] ∧ (d.deviceReset cause).mem = Mem.reset ∧ (d.deviceReset cause).sec.sessions = [] ∧
    (d.deviceReset cause).sec.mpc = Mpc.reset ∧ (d.deviceReset cause).lane.links = [] ∧ (d.deviceReset cause).expertEn = 0 ∧
    (d.deviceReset cause).aon0 = d.aon0 ∧ (d.deviceReset cause).aon1 = d.aon1 ∧ (d.deviceReset cause).fuses = d.fuses ∧
    (d.deviceReset cause).viol = d.viol ∧ (d.deviceReset cause).hw = d.hw ∧ (d.deviceReset cause).bootLog = d.bootLog ∧
    (d.deviceReset cause).lane.carts = d.lane.carts.map (fun p => (p.1, { p.2 with fresh := false })) ∧
    (d.deviceReset cause).rst.cause = cause ∧ (d.deviceReset cause).rst.hold = true

/-- Where a second request acts while the hold of the first stands, RST_CAUSE holds the lower of the two codes, and
the order of the two does not matter (R484; that a request in the hold merges is the model's reading, log entry 13).
-/
def Obligations.LowestResetCauseStands : Prop :=
  ∀ (d : Dev) (a b : Nat), d.rst.clkMissing = false → d.rst.hold = false →
    ((d.requestReset a).requestReset b).rst.cause = min a b ∧
    ((d.requestReset a).requestReset b).rst.cause = ((d.requestReset b).requestReset a).rst.cause

/-- In an HBM in canonical form a store of bytes at an address makes exactly those bytes read as stored and leaves
every other byte of memory as it was, and the form is kept (R255). -/
def Obligations.HbmReadsBack : Prop :=
  ∀ (m : Mem) (addr a : Nat) (data : List Byte), m.wf = true →
    (m.store addr data).byte a = (if addr ≤ a ∧ a < addr + data.length then data.getD (a - addr) 0 else m.byte a) ∧
    (m.store addr data).wf = true

/-- In a local store in canonical form a list of word writes makes each of its addresses read as the last write of
that address in the list and leaves every other word as it was: of two writes of one cycle the later-issued remains
(R48). -/
def Obligations.LocalStoreReadsBack : Prop :=
  ∀ (c : Core) (l : List (Nat × Word)) (a : Nat), Tab.wf 0 c.ls = true → a < 2 ^ 22 →
    (c.store l).word a = (match l.reverse.find? (fun p => p.1 = a) with | some p => p.2 | none => c.word a)

/-- For every lane and every prime q below 2^36, on residues of q: ADD, SUB, NEG, MUL and MAC give the sum,
difference, negation, product and multiply-add modulo q; CMPLT and CMPEQ give 1 or 0; SEL takes a where the mask is
not zero; SHUF takes lane (i + r) mod 128; BCAST takes one lane (R59). On words that are no residues the value is free
(log entry 177) and no clause speaks of them. -/
def Obligations.ElementwiseLanes : Prop :=
  ∀ (q : Nat) (a b d m : List Word) (r i : Nat), 0 < q → q < 2 ^ 36 → i < 128 →
    (∀ k, (a.getD k 0).toNat < q ∧ (b.getD k 0).toNat < q ∧ (d.getD k 0).toNat < q) →
    ((arithVal 1 q a b d m r).getD i 0).toNat = ((a.getD i 0).toNat + (b.getD i 0).toNat) % q ∧
    (((arithVal 2 q a b d m r).getD i 0).toNat : Int) = ((a.getD i 0).toNat - (b.getD i 0).toNat : Int) % q ∧
    (((arithVal 3 q a b d m r).getD i 0).toNat : Int) = (-(a.getD i 0).toNat : Int) % q ∧
    ((arithVal 4 q a b d m r).getD i 0).toNat = (a.getD i 0).toNat * (b.getD i 0).toNat % q ∧
    ((arithVal 5 q a b d m r).getD i 0).toNat = ((d.getD i 0).toNat + (a.getD i 0).toNat * (b.getD i 0).toNat) % q ∧
    (arithVal 6 q a b d m r).getD i 0 = (if (a.getD i 0).toNat < (b.getD i 0).toNat then 1 else 0) ∧
    (arithVal 7 q a b d m r).getD i 0 = (if a.getD i 0 = b.getD i 0 then 1 else 0) ∧
    (arithVal 8 q a b d m r).getD i 0 = (if m.getD i 0 = 0 then b.getD i 0 else a.getD i 0) ∧
    (arithVal 9 q a b d m r).getD i 0 = a.getD ((i + r) % 128) 0 ∧
    (arithVal 10 q a b d m r).getD i 0 = a.getD r 0

/-- For each of the 64 pairs: ADD64, SUB64 and MUL64 give the sum, difference and low product of the two 64-bit values
modulo 2^64, with bits 31:0 of the value in the even lane and bits 63:32 in the odd one; CMPLT64 gives 1 or 0 in both
lanes; every word written is below 2^32; operands with equal pairs give equal results, so bits 35:32 are ignored; no
prime matters. -/
def Obligations.LanePairs : Prop :=
  ∀ (q q' : Nat) (a b d m : List Word) (r i : Nat), i < 64 →
    pairAt (arithVal 11 q a b d m r) i = (pairAt a i + pairAt b i) % 2 ^ 64 ∧
    (pairAt (arithVal 12 q a b d m r) i : Int) = ((pairAt a i : Int) - pairAt b i) % 2 ^ 64 ∧
    pairAt (arithVal 13 q a b d m r) i = pairAt a i * pairAt b i % 2 ^ 64 ∧
    (∀ e : Nat, e < 2 → (arithVal 14 q a b d m r).getD (2 * i + e) 0 = if pairAt a i < pairAt b i then 1 else 0) ∧
    (∀ op : Nat, 11 ≤ op → op ≤ 14 → (arithVal op q a b d m r).length = 128 ∧
      (∀ w ∈ arithVal op q a b d m r, w.toNat < 2 ^ 32) ∧
      ∀ a' b' : List Word, (∀ k, pairAt a' k = pairAt a k) → (∀ k, pairAt b' k = pairAt b k) →
        arithVal op q' a' b' d m r = arithVal op q a b d m r)

/-- A signal that a core sees, and the counter of the job, rise by one and stay at 0xFFFF_FFFF; every other token of
the core and of the job stays (R160). -/
def Obligations.TokensSaturate : Prop :=
  (∀ (c : Core) (t u : Nat), (c.see t).token u = if u = t then min (c.token t + 1) 0xFFFFFFFF else c.token u) ∧
    ∀ (d : Dev) (id t u g : Nat) (j : Job), d.job id = some j →
      ((d.signal id t g).job id).map (fun k => k.token u) =
        some (if u = t then min (j.token t + 1) 0xFFFFFFFF else j.token u)

/-- On every state the effective limit is at least 400 W and at most 950 W; with no strap limit and no thermal limit
it is LIMIT_W clamped into that range; a strap limit or a thermal limit never raises it (R510). -/
def Obligations.EffectiveLimitRange : Prop :=
  ∀ d : Dev, 400 ≤ d.effLimit ∧ d.effLimit ≤ 950 ∧ d.effLimit ≤ clampLimit d.pwr.limitW ∧
    (d.strapPower = none → d.pwr.thermLimit = none → d.effLimit = clampLimit d.pwr.limitW) ∧
    (∀ w, d.strapPower = some w → d.effLimit ≤ max 400 w) ∧ ∀ w, d.pwr.thermLimit = some w → d.effLimit ≤ max 400 w

/-- The 32 bytes of a fault record hold its code, severity, function, location, job, block, extent start, extent
length and detail at the offsets and sizes of the table, little-endian. -/
def Obligations.FaultRecordLayout : Prop :=
  ∀ r : FaultRec, r.code < 2 ^ 16 → r.sev < 2 ^ 8 → r.fn < 2 ^ 8 → r.loc < 2 ^ 32 → r.job < 2 ^ 32 → r.block < 2 ^ 32 →
    r.extStart < 2 ^ 32 → r.extLen < 2 ^ 32 → r.detail < 2 ^ 64 →
    r.bytes.length = 32 ∧ numAt r.bytes 0x00 2 = r.code ∧ numAt r.bytes 0x02 1 = r.sev ∧ numAt r.bytes 0x03 1 = r.fn ∧
    numAt r.bytes 0x04 4 = r.loc ∧ numAt r.bytes 0x08 4 = r.job ∧ numAt r.bytes 0x0C 4 = r.block ∧
    numAt r.bytes 0x10 4 = r.extStart ∧ numAt r.bytes 0x14 4 = r.extLen ∧ numAt r.bytes 0x18 8 = r.detail

/-- For a function with a fault ring, a record of severity below DEVICE is written to the entry numbered by the count
so far modulo the size, its code last, the count rises by one modulo 2^48 and vector 16 is signalled; without a ring
the count rises, LOST rises and saturates, and nothing is written. Every other function keeps its registers, and every
piece but the function registers and the output is as it was. -/
def Obligations.FaultRecordsAreRingEntries : Prop :=
  ∀ (d : Dev) (r : FaultRec), r.sev < 4 →
    ((d.faultRing r).fn r.fn).faultCount = ((d.fn r.fn).faultCount + 1) % 2 ^ 48 ∧
    (∀ f, f ≠ r.fn → (d.faultRing r).fn f = d.fn f) ∧
    (∀ p : Piece, p ≠ .functions → p ≠ .output → p.same d (d.faultRing r)) ∧
    ((d.fn r.fn).faultBase = 0 → (d.faultRing r).out = d.out ∧
      ((d.faultRing r).fn r.fn).faultLost = min ((d.fn r.fn).faultLost + 1) 0xFFFF) ∧
    ((d.fn r.fn).faultBase ≠ 0 → ∃ (ide : Option Nat) (rest : List Out),
      (d.faultRing r).out = d.out ++
        .host r.fn ((d.fn r.fn).faultBase + 32 * ((d.fn r.fn).faultCount % faultEntries (d.fn r.fn).faultSize) + 2) (r.bytes.drop 2) ide ::
        .host r.fn ((d.fn r.fn).faultBase + 32 * ((d.fn r.fn).faultCount % faultEntries (d.fn r.fn).faultSize)) (r.bytes.take 2) ide :: rest ∧
      ((d.faultRing r).fn r.fn).faultLost = (d.fn r.fn).faultLost)

/-- A signal on an unmasked vector sends its message, on the bound stream of a function whose TDI is in RUN, and
changes no register; on a masked one it sends nothing and sets the vector's Pending Bit, leaving the other bits and
functions (R377, R397). -/
def Obligations.MaskedVectorsPend : Prop :=
  ∀ (d : Dev) (f v : Nat),
    ((d.fn f).unmasked.contains v = true → d.msix f v = d.emit (.msix f v (if (d.fn f).tdisp = 2 then (d.fn f).ide else none))) ∧
    ((d.fn f).unmasked.contains v = false → (d.msix f v).out = d.out ∧ v ∈ ((d.msix f v).fn f).pendingBits ∧
      (∀ u ∈ ((d.msix f v).fn f).pendingBits, u = v ∨ u ∈ (d.fn f).pendingBits) ∧ ∀ g, g ≠ f → (d.msix f v).fn g = d.fn g)

/-- For each die, the map of a die offset below 2^39 to a pseudo-channel below 128 and a local byte address below 2^32
is the function of the rule (the pseudo-channel is bits 14:8 folded with the granule index, the local address the
granule index above the low byte), the inverse gives the offset back, and the map after the inverse gives the
pseudo-channel and local address back. -/
def Obligations.InterleaveIsBijection : Prop :=
  (∀ o : Nat, o < 2 ^ 39 →
      pseudoOf o = (o / 2 ^ 8 % 128) ^^^ (o / 2 ^ 15 % 128) ^^^ (o / 2 ^ 22 % 128) ^^^ (o / 2 ^ 29 % 128) ^^^ (o / 2 ^ 36 % 8) ∧
      localOf o = o / 2 ^ 15 * 256 + o % 256 ∧ pseudoOf o < 128 ∧ localOf o < 2 ^ 32 ∧
      ∀ die : Nat, die < 2 → hbmAddrOf die (pseudoOf o) (localOf o) = die * 2 ^ 39 + o) ∧
    ∀ die p l : Nat, die < 2 → p < 128 → l < 2 ^ 32 →
      hbmDie (hbmAddrOf die p l) = die ∧ pseudoOf (hbmOff (hbmAddrOf die p l)) = p ∧ localOf (hbmOff (hbmAddrOf die p l)) = l ∧
      chanOf (hbmAddrOf die p l) = 16 * (4 * die + p % 4) + p / 4 % 16

/-- PACKED gives 36 bytes for each 8 words, so a row is 288 bytes, and unpacking gives the words back; WIDE32 gives 4
bytes for each word, so a row is 256 bytes, sends bits 31:0 and ignores bits 35:32, and unpacking gives words whose
bits 35:32 are zero. -/
def Obligations.StreamFormsRoundTrip : Prop :=
  ∀ l : List Word, l.length % 8 = 0 →
    (packWords 0 l).length = 36 * (l.length / 8) ∧ formBytes 0 64 = 288 ∧ unpackWords 0 l.length (packWords 0 l) = l ∧
    (packWords 1 l).length = 4 * l.length ∧ formBytes 1 64 = 256 ∧
    unpackWords 1 l.length (packWords 1 l) = l.map (fun w => BitVec.ofNat 36 (w.toNat % 2 ^ 32))

/-- A limb of a multiple of 8 words packs into 36 bytes for each 8 words, and unpacking those bytes gives the words
back (R33). -/
def Obligations.LimbRoundTrip : Prop :=
  ∀ l : List Word, l.length % 8 = 0 →
    (packLimb l).length = 36 * (l.length / 8) ∧ unpackLimb (packLimb l) l.length = l.map (·.toNat)

/-- After reset: no EXPERT_EN bit; every function with INTK_CTRL, bases and counts zero; every HBM channel with WB_EN
and PATROL_EN set, TGC_SEED 1 and counters zero; every key-stream group and link group with STALL_LIMIT 0x14; every
link disabled; SEC_VIOL zero; no fault logged; the reset held with cause 1. -/
def Obligations.ResetRegisters : Prop :=
  State.reset.dev.expertEn = 0 ∧
    (∀ f : Nat, (State.reset.dev.fn f).en = false ∧ (State.reset.dev.fn f).cmplBase = 0 ∧ (State.reset.dev.fn f).faultBase = 0 ∧
      (State.reset.dev.fn f).faultCount = 0 ∧ (State.reset.dev.fn f).expect = 0 ∧ (State.reset.dev.fn f).denied = false) ∧
    (∀ h : Nat, (State.reset.dev.mem.chan h).wb = true ∧ (State.reset.dev.mem.chan h).patrol = true ∧
      (State.reset.dev.mem.chan h).seed = 1 ∧ (State.reset.dev.mem.chan h).state = 0 ∧ (State.reset.dev.mem.chan h).ueCnt = 0) ∧
    (∀ die n : Nat, (State.reset.dev.group die n).stall = 0x14 ∧ (State.reset.dev.group die n).state = 0) ∧
    (∀ l : Nat, (State.reset.dev.lane.link l).state = 0) ∧ (∀ n : Nat, (State.reset.dev.lane.grp n).stall = 0x14) ∧
    State.reset.dev.viol = 0 ∧ State.reset.dev.bootLog = [] ∧ State.reset.dev.rst.hold = true ∧ State.reset.dev.rst.cause = 1

/-- Where the 88 entries of 8 bytes at ARGS of the job can be read: when some entry is zero or lies outside the HBM of
the die of the core, the kernel ends with BOOT_KEYS_INCOMPLETE and the index of the first such entry; when none does,
the table is accepted (R137). -/
def Obligations.BootstrapKeyTable : Prop :=
  ∀ (d e : Dev) (g : Nat) (j : Job) (b : List Byte), d.hbmRead j.args 704 = (e, .ok b) →
    (∀ i : Nat, i < 88 →
      (numAt b (8 * i) 8 = 0 ∨ isHbm (numAt b (8 * i) 8) = false ∨ hbmDie (numAt b (8 * i) 8) ≠ g / 64) →
      (∀ k : Nat, k < i → numAt b (8 * k) 8 ≠ 0 ∧ isHbm (numAt b (8 * k) 8) = true ∧ hbmDie (numAt b (8 * k) 8) = g / 64) →
      d.bootKeys g j = (e, some (0x0205, i))) ∧
    ((∀ k : Nat, k < 88 → numAt b (8 * k) 8 ≠ 0 ∧ isHbm (numAt b (8 * k) 8) = true ∧ hbmDie (numAt b (8 * k) 8) = g / 64) →
      d.bootKeys g j = (e, none))

/-- Every reset command completes: the conditions under which each acts, and the device it leaves (R478, R481 to R484,
R487 to R489, R494, R499). Each clause names a command and the condition on the device that it finds; where the
condition holds, exec answers a next state, with the device that the clause gives once the effects that follow every
command are in. -/
def Obligations.ResetCommandsComplete : Prop :=
  (Completes (.powerOnReset) (fun d => d.hw.porPending = true ∧ d.hw.on = true ∧ d.hw.rails = 0xFFFF ∧
        d.rst.clkMissing = false) (fun d => d.powerOn d.hw.railOff.isNone)) ∧
  (Completes (.clockMissing) (fun d => d.rst.clkMissing = false) (fun d =>
        { d with rst := { d.rst with clkMissing := true, latched := d.rst.latched ++ [2] } })) ∧
  (∀ (k : Nat) (t : List Nat), Completes (.clockReturn) (fun d => d.rst.clkMissing = true ∧ d.rst.hold = false ∧
        d.rst.latched ++ (if d.rst.perst then [7] else []) = k :: t) (fun d =>
        ({ d with rst := { d.rst with clkMissing := false } } : Dev).deviceReset (t.foldl min k))) ∧
  (∀ (n : Nat) (acts : Bool), Completes (.perstAssert n acts)
      (fun d => 25 ≤ n ∧ d.rst.clkMissing = false ∧ d.rst.hold = false)
      (fun d => ({ d with rst := { d.rst with wake := false, perst := true } } : Dev).deviceReset 7)) ∧
  (∀ (n : Nat) (acts : Bool), Completes (.perstAssert n acts) (fun _ => n < 8)
      (fun d => { d with rst := { d.rst with wake := false } })) ∧
  (Completes (.perstDeassert) (fun d => d.rst.perst = true) (fun d =>
        { d with rst := { d.rst with perst := false, perstAon := d.aon0 } })) ∧
  (Completes (.hotReset) (fun d => d.rst.pcie ≠ 0 ∧ d.rst.clkMissing = false ∧ d.rst.hold = false)
      (fun d => d.deviceReset 8)) ∧
  (∀ (v : BitVec 64), Completes (.rstCtrlDevice v) (fun d => bit v.toNat 0 = true ∧ fld v.toNat 16 16 = 0x5254 ∧
        d.rst.clkMissing = false ∧ d.rst.hold = false) (fun d => d.deviceReset 9)) ∧
  (Completes (.watchdogExpiry) (fun d => 6 ∈ d.rst.steps ∧ d.rst.clkMissing = false ∧ d.rst.hold = false)
      (fun d => d.deviceReset 5)) ∧
  (∀ (cls : Fin 3) (t : Nat), Completes (.thermalTrip cls t) (fun d => tripOf cls.val ≤ t ∧ d.rst.clkMissing = false ∧
        d.rst.hold = false) (fun d => ({ d with rst := { d.rst with thermHold := true } } : Dev).deviceReset 4)) ∧
  (∀ (t : Nat), Completes (.resetRelease t) (fun d => d.rst.hold = true ∧ d.rst.clkMissing = false ∧ d.rst.perst =
        false ∧ d.pwrGood = true ∧ d.hw.porPending = false ∧ d.rst.holdAon + 25 ≤ d.aon0 ∧ d.rst.perstAon + 8 ≤ d.aon0
        ∧ (d.rst.thermHold = true → t + 10 ≤ 115)) (fun d => compIds.foldl Dev.fallbackComp
        { d with
            rst := { d.rst with
                  hold := false, thermHold := false, fuseReads := 0, fuseRedundant := false, fuseFailed := false,
                  fuseDone := false, strapDone := false, strapSets := 0, strapUnstable := false, strapCode := 0,
                  steps := [], secAon := none } })) ∧
  (∀ (ok : Bool), Completes (.fuseCopyCheck ok) (fun d => ok = true ∧ d.rst.hold = false ∧ d.rst.fuseDone = false ∧
        d.rst.fuseFailed = false) (fun d => { d with
            rst := { d.rst with
                  fuseReads := d.rst.fuseReads + 1, fuseRedundant := decide (d.rst.fuseReads % 2 = 1),
                  fuseDone := true } })) ∧
  (∀ (ok : Bool), Completes (.fuseCopyCheck ok) (fun d => ok = false ∧ d.rst.hold = false ∧ d.rst.fuseDone = false ∧
        d.rst.fuseFailed = false) (fun d => { d with
            rst := { d.rst with fuseReads := d.rst.fuseReads + 1, fuseFailed := decide (d.rst.fuseReads + 1 = 6) } })) ∧
  (∀ (codes : List Nat) (v : Nat), Completes (.strapSetDone codes) (fun d => codes.length = 8 ∧
        (∀ x ∈ codes, x % 256 / 16 = v) ∧ d.rst.hold = false ∧ d.rst.fuseDone = true ∧ d.rst.strapDone = false)
      (fun d => { d with
            rst := { d.rst with
                  strapSets := d.rst.strapSets + 1, strapCode := codes.headD 0 % 256, strap := v, strapDone := true,
                  secAon := some d.aon0 } })) ∧
  (∀ (t : Nat), Completes (.startTimeout) (fun d => d.rst.secAon = some t ∧ d.rst.confirmed = false ∧ t + 50000000 ≤
        d.aon0 ∧ d.rst.clkMissing = false ∧ d.rst.hold = false) (fun d => d.deviceReset 6))

/-- Every power, clock and thermal command completes (R507, R510, R511, R513, R521, R522). Each clause names a command
and the condition on the device that it finds; where the condition holds, exec answers a next state, with the device
that the clause gives once the effects that follow every command are in. -/
def Obligations.PowerCommandsComplete : Prop :=
  (∀ (w : Nat), Completes (.powerSample w) (fun _ => True) (fun d => { d with
            pwr := { d.pwr with
                  samples := (w :: d.pwr.samples).take 100,
                  atFloor := decide (d.effLimit < ((w :: d.pwr.samples).take 100).sum / max 1
                      ((w :: d.pwr.samples).take 100).length) && (
                      ((List.range 16).all fun i => Tab.get 0 d.pwr.gap i = 255) || d.pwr.atFloor) } })) ∧
  (Completes (.gapRatioUpdate) (fun _ => True) (fun d => { d with
            pwr := { d.pwr with
                  gap := (List.range 16).foldl (fun t i => Tab.set t i (gapNext i (Tab.get 0 d.pwr.gap i)
                        (d.pwr.samples.sum / max 1 d.pwr.samples.length) d.effLimit)) d.pwr.gap } })) ∧
  (∀ (die : DieId) (cls : Fin 3) (t : Nat), Completes (.thermalLevelChange die cls t) (fun _ => True)
      (fun d => (
          let old := d.pwr.dieLevel die.val;
          let p := match cls.val with
            | 0 => { d.pwr with dieMax := Tab.set d.pwr.dieMax die.val t }
            | 1 => { d.pwr with hbmMax := Tab.set d.pwr.hbmMax die.val t }
            | _ => { d.pwr with optMax := Tab.set d.pwr.optMax die.val t };
          let p := { p with
                level := Tab.set p.level (3 * die.val + min cls.val 2) (levelOf (levelTable cls.val)
                    (Tab.get 0 p.level (3 * die.val + min cls.val 2)) t) };
          let new := p.dieLevel die.val;
          let p := if old < 2 ∧ 2 ≤ new then { p with stepAon := Tab.set p.stepAon (2 * die.val) (d.aon die.val) }
            else p;
          let p := if old < 3 ∧ 3 ≤ new then { p with
                thermStep := Tab.set p.thermStep die.val (min 2 (Tab.get 0 p.thermStep die.val + 1)),
                stepAon := Tab.set p.stepAon (2 * die.val + 1) (d.aon die.val) } else p;
          let p := if cls.val = 0 ∧ 95 ≤ Tab.get 0 d.pwr.dieMax die.val ∧ t < 95 then
            { p with stepAon := Tab.set p.stepAon (2 * die.val + 1) (d.aon die.val) } else p;
          let p := if p.therm < 2 then { p with thermLimit := none } else p;
          let e := ({ d with pwr := p } : Dev).retune;
          if new = old then e else
          let e := ((e.fnFault 0 (plainFault 0x090D 0 (location 0 die.val 0 0 0) (new + 256 * (t % 256)))).msix 0 22).emit
            (.ibi (0x20 + new));
          if old < new then e.wakeUp else e))) ∧
  (∀ (die : DieId), Completes (.throttleStep die) (fun d => 2 ≤ d.pwr.dieLevel die.val ∧ Tab.get 0 d.pwr.stepAon
        (2 * die.val) + 25000 ≤ d.aon die.val) (fun d => { d with
            pwr := { d.pwr with
                  thermLimit := some (max 400 (d.effLimit * 95 / 100)),
                  stepAon := Tab.set d.pwr.stepAon (2 * die.val) (d.aon die.val) } })) ∧
  (∀ (die : DieId), Completes (.freqStep die) (fun d => 3 ≤ d.pwr.dieLevel die.val ∧ Tab.get 0 d.pwr.stepAon
        (2 * die.val + 1) + 250000 ≤ d.aon die.val) (fun d => ({ d with
              pwr := { d.pwr with
                    thermStep := Tab.set d.pwr.thermStep die.val (min 2 (Tab.get 0 d.pwr.thermStep die.val + 1)),
                    stepAon := Tab.set d.pwr.stepAon (2 * die.val + 1) (d.aon die.val) } } : Dev).retune)) ∧
  (∀ (die : DieId), Completes (.freqStep die) (fun d => d.pwr.dieLevel die.val < 3 ∧ Tab.get 0 d.pwr.dieMax die.val <
        95 ∧ 0 < Tab.get 0 d.pwr.thermStep die.val ∧ Tab.get 0 d.pwr.stepAon (2 * die.val + 1) + 250000 ≤ d.aon
        die.val) (fun d => ({ d with
              pwr := { d.pwr with
                    thermStep := Tab.set d.pwr.thermStep die.val (Tab.get 0 d.pwr.thermStep die.val - 1),
                    stepAon := Tab.set d.pwr.stepAon (2 * die.val + 1) (d.aon die.val) } } : Dev).retune)) ∧
  (∀ (i : ClusterId), Completes (.clusterRelock i) (fun d => Tab.get false d.pwr.relocking i.val = true ∧ ∀ g ∈
        coresOfCluster i.val, (d.core g).seq.running = none) (fun d => { d with
            pwr := { d.pwr with relock := Tab.set d.pwr.relock i.val true } })) ∧
  (∀ (i : ClusterId), Completes (.relockDone i) (fun d => Tab.get false d.pwr.relock i.val = true)
      (fun d => { d with
            pwr := { d.pwr with
                  freqCur := Tab.set d.pwr.freqCur i.val (d.freqTarget i.val),
                  relock := Tab.set d.pwr.relock i.val false, relocking := Tab.set d.pwr.relocking i.val false } })) ∧
  (∀ (v : BitVec 64) (a : Agent), Completes (.pwrCtrlWrite v a) (fun d => d.expert a = true)
      (fun d => ({ d with
              pwr := { d.pwr with
                    limitW := max 400 (min (fld v.toNat 32 12) 950),
                    clamped := decide (max 400 (min (fld v.toNat 32 12) 950) ≠ fld v.toNat 32 12),
                    idleUs := fld v.toNat 4 20, duskEn := bit v.toNat 0 } } : Dev).wakeUp)) ∧
  (∀ (i : ClusterId) (v : BitVec 64) (a : Agent), Completes (.clkClusterWrite i v a) (fun d => d.expert a = true)
      (fun d => ({ d with pwr := { d.pwr with freqReq := Tab.set d.pwr.freqReq i.val (fld v.toNat 0 2) } } : Dev).retune))

/-- Every command of the input power, the rails, the I3C addresses and the PCIe link completes (R559 to R567). Each
clause names a command and the condition on the device that it finds; where the condition holds, exec answers a next
state, with the device that the clause gives once the effects that follow every command are in. -/
def Obligations.ModuleCommandsComplete : Prop :=
  (Completes (.vinRise) (fun d => d.hw.on = false) (fun d => { d with
            hw := { Hw.reset with porPending := true, card := d.hw.card } })) ∧
  (∀ (us : Nat), Completes (.vinFall us) (fun d => 10 ≤ us ∧ d.hw.on = true)
      (fun d => d.unpowered { Hw.reset with on := false, offReason := 1, rails := 0, card := d.hw.card })) ∧
  (∀ (us : Nat), Completes (.vinFall us) (fun _ => us < 10) (fun d => d)) ∧
  (Completes (.vinOvervoltage) (fun d => d.hw.on = true) (fun d => d.unpowered
        { Hw.reset with on := false, offReason := 2, rails := 0, card := d.hw.card })) ∧
  (Completes (.overvoltageTurnOn) (fun d => d.hw.offReason = 2 ∧ d.hw.on = false)
      (fun d => { d with hw := { Hw.reset with porPending := true, card := d.hw.card } })) ∧
  (Completes (.overcurrentTrip) (fun d => d.hw.on = true) (fun d => d.unpowered
        { Hw.reset with on := false, offReason := 3, rails := 0, card := d.hw.card })) ∧
  (Completes (.hotswapRetry) (fun d => d.hw.offReason = 3 ∧ d.hw.on = false)
      (fun d => { d with hw := { Hw.reset with porPending := true, card := d.hw.card } })) ∧
  (∀ (rail : Fin 16) (kind : Nat), Completes (.railFault rail kind) (fun d => rail.val < 4 ∧ d.hw.on = true ∧
        d.hw.railDead = false ∧ d.hw.railOff = none ∧ bit d.hw.rails rail.val = true ∧ 1 ≤ kind ∧ kind ≤ 3)
      (fun d => d.unpowered { Hw.reset with rails := 0, card := d.hw.card, railOff := some 0 })) ∧
  (∀ (rail : Fin 16) (kind : Nat), Completes (.railFault rail kind) (fun d => 4 ≤ rail.val ∧ d.hw.on = true ∧
        d.hw.railDead = false ∧ d.hw.railOff = none ∧ bit d.hw.rails rail.val = true ∧ 1 ≤ kind ∧ kind ≤ 3)
      (fun d => { d.deviceReset d.rst.cause with
            hw := { d.hw with
                  rails := d.hw.rails % 16, railKind := kind, rail := rail.val, railValid := true,
                  railTimes := (d.hw.railTimes.filter fun t => decide (d.aon0 < t + 1500000000)) ++ [d.aon0],
                  railOff := some d.aon0,
                  railDead := decide (3 ≤ ((d.hw.railTimes.filter fun t => decide (d.aon0 < t + 1500000000)) ++
                        [d.aon0]).length), railRecord := true } })) ∧
  (∀ (t : Nat), Completes (.railRestart) (fun d => d.hw.railOff = some t ∧ d.hw.railDead = false ∧ d.hw.rails = 0)
      (fun d => { d with hw := { Hw.reset with porPending := true, card := d.hw.card } })) ∧
  (∀ (t : Nat), Completes (.railRestart) (fun d => d.hw.railOff = some t ∧ d.hw.railDead = false ∧ d.hw.rails ≠ 0 ∧ t
        + 2500000 ≤ d.aon0) (fun d => { d with
            hw := { d.hw with rails := 0xFFFF, porPending := true, railFaults := satAdd 16 d.hw.railFaults 1 } })) ∧
  (∀ (static dyn : BitVec 7), Completes (.setdasa static dyn) (fun d => d.hw.on = true ∧ static.toNat =
        (if d.rst.strap = 0xE then 0x5B else 0x5A)) (fun d =>
        ({ d with hw := { d.hw with i3cAddr := some dyn.toNat } } : Dev).emit (.ack true))) ∧
  (∀ (dyn : BitVec 7), Completes (.entdaa dyn) (fun d => d.hw.on = true ∧ d.hw.i3cAddr = none)
      (fun d => ({ d with hw := { d.hw with i3cAddr := some dyn.toNat } } : Dev).emit (.ack true))) ∧
  (Completes (.pcieLinkReachesL0) (fun d => 5 ∈ d.rst.steps ∨ d.rst.lodestar = true)
      (fun d => { d with rst := { d.rst with pcie := 1, wake := false } }))

/-- Every command of the start, the partial resets and Dusk completes (R485, R492, R494, R500, R516, R518, R519). Each
clause names a command and the condition on the device that it finds; where the condition holds, exec answers a next
state, with the device that the clause gives once the effects that follow every command are in. -/
def Obligations.StartCommandsComplete : Prop :=
  (∀ (n : Nat) (norOk : Bool) (bad : List Nat), Completes (.startStepDone n norOk bad) (fun d => n ∈ [3, 5, 11, 12] ∧
        d.rst.hold = false ∧ d.rst.romHalt = false ∧ d.rst.lodestar = false ∧ d.stepDone n = false ∧
        (∀ m ∈ stepNeeds n, d.stepDone m = true) ∧ d.stepReady n = true ∧ d.upd.offline = false)
      (fun d => { d with rst := { d.rst with steps := d.rst.steps ++ [n] } })) ∧
  (∀ (n : Nat) (norOk : Bool) (bad : List Nat), Completes (.startStepDone n norOk bad) (fun d => n ∈ [4, 6, 8, 9, 10]
        ∧ d.rst.hold = false ∧ d.rst.romHalt = false ∧ d.rst.lodestar = false ∧ d.stepDone n = false ∧
        (∀ m ∈ stepNeeds n, d.stepDone m = true) ∧ d.stepReady n = true ∧ d.upd.offline = false)
      (fun d => (
          let e : Dev := { d with rst := { d.rst with steps := d.rst.steps ++ [n] } };
          if n = 4 then e.step4 else if n = 6 then e.railNotice else if n = 8 then e.step8 bad else if n = 9 then
            e.step9 bad else (e.forAll (List.range 12) Dev.startEngine).forAll (List.range 96) Dev.startLink))) ∧
  (∀ (n : Nat) (norOk : Bool) (bad : List Nat), Completes (.startStepDone n norOk bad) (fun d => n = 7 ∧ d.rst.hold =
        false ∧ d.rst.romHalt = false ∧ d.rst.lodestar = false ∧ d.stepDone 7 = false ∧ d.stepDone 6 = true ∧
        d.upd.offline = false) (fun d => d.step7 norOk)) ∧
  (Completes (.startConfirm) (fun d => d.mayConfirm = true) (fun d => (
          let e := d.updRst fun r => { r with confirmed := true, caps := some d.capSnap };
          let e : Dev := { e with nor := compIds.foldl Nor.confirmComp { e.nor with fails := 0, confirmed := true } };
          let e := ([1, 2, 3, 4, 5, 6, 7, 8].foldl Dev.noteSvn e).burnRevoke;
          let e := if e.upd.state = 5 then { e with
                nor := { e.nor with pkgId := e.upd.pkgId, pkgDigest := e.upd.pkgDigest },
                upd := { Upd.reset with result := 1 } } else e;
          (e.msix 0 23).forAll (List.range 64) Dev.evalExpected))) ∧
  (∀ (g : CoreId) (a : Agent), Completes (.partResetCore g a) (fun d => d.expert a = true ∧ d.rst.partBusy = false ∧
        d.partFree 1 g.val = true) (fun d => ({ d with
              rst := { d.rst with
                    partCtrlIndex := g.val, partCtrlKind := 1, partIndex := g.val, partKind := 1, partResult := 0,
                    partBusy := true, partWaiting := false } } : Dev).beginPart 1 g.val)) ∧
  (∀ (g : ClusterId) (a : Agent), Completes (.partResetCluster g a) (fun d => d.expert a = true ∧ d.rst.partBusy =
        false ∧ d.partFree 2 g.val = true) (fun d => ({ d with
              rst := { d.rst with
                    partCtrlIndex := g.val, partCtrlKind := 2, partIndex := g.val, partKind := 2, partResult := 0,
                    partBusy := true, partWaiting := false } } : Dev).beginPart 2 g.val)) ∧
  (∀ (g : ChanId) (a : Agent), Completes (.partResetHbmChannel g a) (fun d => d.expert a = true ∧ d.rst.partBusy =
        false ∧ d.partFree 3 g.val = true) (fun d => ({ d with
              rst := { d.rst with
                    partCtrlIndex := g.val, partCtrlKind := 3, partIndex := g.val, partKind := 3, partResult := 0,
                    partBusy := true, partWaiting := false } } : Dev).beginPart 3 g.val)) ∧
  (∀ (g : LinkId) (a : Agent), Completes (.partResetLink g a) (fun d => d.expert a = true ∧ d.rst.partBusy = false ∧
        d.partFree 4 g.val = true) (fun d => ({ d with
              rst := { d.rst with
                    partCtrlIndex := g.val, partCtrlKind := 4, partIndex := g.val, partKind := 4, partResult := 0,
                    partBusy := true, partWaiting := false } } : Dev).beginPart 4 g.val)) ∧
  (∀ (g : OptId) (a : Agent), Completes (.partResetOptEngine g a) (fun d => d.expert a = true ∧ d.rst.partBusy = false
        ∧ d.partFree 5 g.val = true) (fun d => ({ d with
              rst := { d.rst with
                    partCtrlIndex := g.val, partCtrlKind := 5, partIndex := g.val, partKind := 5, partResult := 0,
                    partBusy := true, partWaiting := false } } : Dev).beginPart 5 g.val)) ∧
  (∀ (g : AppId) (a : Agent), Completes (.partResetAppCore g a) (fun d => d.expert a = true ∧ d.rst.partBusy = false ∧
        d.partFree 6 g.val = true) (fun d => ({ d with
              rst := { d.rst with
                    partCtrlIndex := g.val, partCtrlKind := 6, partIndex := g.val, partKind := 6, partResult := 0,
                    partBusy := true, partWaiting := false } } : Dev).beginPart 6 g.val)) ∧
  (Completes (.partResetStart) (fun d => d.rst.partBusy = true ∧ d.rst.partWaiting = true ∧ d.partFree d.rst.partKind
        d.rst.partIndex = true) (fun d => ({ d with rst := { d.rst with partWaiting := false } } : Dev).beginPart
        d.rst.partKind d.rst.partIndex)) ∧
  (∀ (ok : Bool), Completes (.partialResetDone ok) (fun d => d.rst.partBusy = true ∧ d.rst.partWaiting = false ∧
        d.rst.partKind = 1) (fun d => { (d.updCore d.rst.partIndex fun x => { x with wiping := false, segBusy := 0 })
          with
            rst := { d.rst with partBusy := false, partResult := 1 },
            upd := if ok then d.upd.confirm 1 d.rst.partIndex else d.upd })) ∧
  (Completes (.duskEntry) (fun d => d.idle = true ∧ d.pwr.state = 0 ∧ d.pwr.duskEn = true ∧ d.rst.strap ≠ 9 ∧
        d.rst.confirmed = true ∧ d.rst.lodestar = false ∧ d.pwr.idleLimit ≤ d.pwr.idleCnt)
      (fun d => (
          let flushed := (d.flushWhere 0 fun _ => true).flushWhere 1 fun _ => true;
          let ended := flushed.forAll (List.range 128) Dev.stopTest;
          let slept := ended.updMem fun m => { m with
                chans := m.chans.map fun h => (h.1, if h.2.state = 2 then { h.2 with state := 3 } else h.2) };
          let quiet := (List.range 96).foldl (fun d l => if (d.lane.link l).state = 6 then d.linkState l 9 else d)
            slept;
          { quiet with pwr := { quiet.pwr with state := 2, duskCnt := satAdd 64 quiet.pwr.duskCnt 1 } }))) ∧
  (Completes (.duskWake) (fun d => d.pwr.state = 2) (fun d => { d with
            pwr := { d.pwr with state := 3, idleCnt := 0 },
            rst := { d.rst with wake := d.rst.wake || decide (d.rst.pcie = 2) } })) ∧
  (Completes (.wakeComplete) (fun d => d.pwr.state = 3) (fun d => (
          let woken := d.updMem fun m => { m with
                chans := m.chans.map fun h => (h.1, if h.2.state = 3 then { h.2 with state := 2 } else h.2) };
          let woken : Dev := { woken with pwr := { woken.pwr with state := 0 } };
          let up := (List.range 96).filter fun l => decide ((woken.lane.link l).state = 9);
          ((woken.forAll up fun d l => d.linkState l 6).forAll up Dev.serve).forAll (List.range 64) Dev.evalExpected)))

/-- Every command of the intake, of job control and of the host windows completes (R4, R372, R374, R375, R380 to R382,
R385, R386, R388, R390, R397). Each clause names a command and the condition on the device that it finds; where the
condition holds, exec answers a next state, with the device that the clause gives once the effects that follow every
command are in. -/
def Obligations.HostCommandsComplete : Prop :=
  (∀ (f : FnId) (off : Nat) (data : List Byte) (st : Option Nat), Completes (.intakeSeal f off data st)
      (fun d => d.hostOpen f.val st) (fun d => d.wakeUp.intakeWrite f.val off data)) ∧
  (∀ (f : FnId), Completes (.heldSealEvaluate f) (fun d => d.intakeOpen f.val = true ∧ d.pwr.state = 0 ∧
        (d.fn f.val).seal (((d.fn f.val).expect - 1) % 4096) = (d.fn f.val).expect) (fun d =>
        ({ d with
              nextJob := d.nextJob + 1,
              jobs := d.jobs ++ [{
                      id := d.nextJob, fn := f.val, seq := (d.fn f.val).expect,
                      rcd := (List.range 256).map fun i => Tab.get 0 (d.fn f.val).intake
                        (256 * (((d.fn f.val).expect - 1) % 4096) + i), phase := .accepted,
                      expert := bit d.expertEn f.val, acceptAon := d.aon0, startAon := 0, causeAon := 0, endAon := 0,
                      cause := 0, psets := [], tokens := [], faults := 0, first := none, rsvCores := [],
                      rsvApps := [], reserving := false }] } : Dev).updFn f.val fun x => { x with
            expect := ((d.fn f.val).expect + 1) % 2 ^ 64, acceptCnt := satAdd 64 x.acceptCnt 1,
            held := x.held.filter fun s => s ≠ (d.fn f.val).expect })) ∧
  (∀ (f : FnId) (seq : BitVec 64) (j : Job) (code detail : Nat), Completes (.jobCheck f seq)
      (fun d => d.jobOf f.val seq.toNat = some j ∧ j.phase = .accepted ∧ d.jobFail j = some (code, detail))
      (fun d => d.refuse j code detail)) ∧
  (∀ (f : FnId) (seq : BitVec 64) (j : Job) (e : Dev) (recs : List (List Byte)) (sets : List Machine.PSet), Completes
      (.jobCheck f seq) (fun d => d.jobOf f.val seq.toNat = some j ∧ j.phase = .accepted ∧ d.jobFail j = none ∧
        (((List.range j.psetCount).map j.psetAddr).any fun a => d.mem.resetting a 1216) = false ∧ d.readPSets
        ((List.range j.psetCount).map j.psetAddr) = (e, .ok recs) ∧ checkPSets recs = .ok sets)
      (fun _ => e.updJob j.id fun j => { j with phase := .waiting, psets := sets })) ∧
  (∀ (f : FnId) (seq : BitVec 64) (j : Job), Completes (.jobStart f seq) (fun d => d.jobOf f.val seq.toNat = some j ∧
        d.startable j = true ∧ (∀ o ∈ d.jobs, o.id < j.id → d.startable o = false) ∧ d.pwr.state = 0 ∧ ∀ g ∈ j.cores,
        (d.core g).lastFn = none ∨ (d.core g).lastFn = some f.val) (fun d => (
          let e := d.updJob j.id fun j => { j with
                phase := .running, startAon := d.aon0, tokens := [], rsvCores := [], rsvApps := [], reserving := false };
          let e := e.forAll j.cores fun d g => (d.updCore g fun c => c.startJob j (fillPrimes j.psets)).updMem fun m
            => m.updXch (g / 8) fun x => { x with served := [] };
          let e := e.forAll j.appCores fun d a => d.updApp a fun x => { AppCore.reset with
                job := some j.id, lastFn := some j.fn, flushed := decide (x.lastFn ≠ some j.fn) };
          e.startProgram j))) ∧
  (∀ (f : FnId) (seq : BitVec 64) (j : Job), Completes (.resourceReserve f seq)
      (fun d => d.jobOf f.val seq.toNat = some j ∧ j.phase = .waiting ∧ j.acceptAon + 25000 ≤ d.aon0)
      (fun d => d.updJob j.id fun j => { j with
            reserving := true, rsvCores := j.cores.filter fun g => (d.core g).job.isNone,
            rsvApps := j.appCores.filter fun a => (d.app a).job.isNone })) ∧
  (∀ (f : FnId) (seq : BitVec 64) (j : Job), Completes (.jobTimeLimit f seq)
      (fun d => d.jobOf f.val seq.toNat = some j ∧ j.phase = .running ∧ j.startAon + 25000 * j.timeLimit ≤ d.aon0)
      (fun d => ((d.endJob j.id 2).jobFault j.id (plainFault 0x0907 2 (location 0 0 0 0 0) 0)).wakeUp)) ∧
  (∀ (f : FnId) (seq : BitVec 64), Completes (.intkCancel f seq) (fun d => d.jobOf f.val seq.toNat = none)
      (fun d => d.updFn f.val fun x => { x with cancelRes := 3 })) ∧
  (∀ (f : FnId) (seq : BitVec 64) (j : Job), Completes (.intkCancel f seq)
      (fun d => d.jobOf f.val seq.toNat = some j ∧ j.phase = .waiting) (fun d =>
        ((d.complete j 4 none d.aon0).dropJob j.id).reserveFreed.updFn f.val fun x => { x with cancelRes := 1 })) ∧
  (∀ (f : FnId) (seq : BitVec 64) (j : Job), Completes (.intkCancel f seq)
      (fun d => d.jobOf f.val seq.toNat = some j ∧ j.phase = .running) (fun d => (d.endJob j.id 3).updFn f.val fun x
        => { x with cancelRes := 2 })) ∧
  (∀ (f : FnId) (seq : BitVec 64) (j : Job), Completes (.intkCancel f seq)
      (fun d => d.jobOf f.val seq.toNat = some j ∧ j.phase = .boundary)
      (fun d => d.updFn f.val fun x => { x with cancelRes := 4 })) ∧
  (∀ (f : FnId) (v : BitVec 64), Completes (.intkEn f v) (fun d => bit v.toNat 0 = true ∧ (d.fn f.val).cmplBase ≠ 0 ∧
        (d.fn f.val).en = false) (fun d => d.updFn f.val fun x => { x with
            modCnt := fld v.toNat 16 8, modUs := fld v.toNat 32 16, en := true, intake := [], expect := 1, held := [] })) ∧
  (∀ (f : FnId) (v : BitVec 64), Completes (.intkEn f v) (fun d => bit v.toNat 0 = true ∧ (d.fn f.val).cmplBase = 0)
      (fun d => d.updFn f.val fun x => { x with enRefused := true })) ∧
  (∀ (f : FnId) (v : BitVec 64), Completes (.intkEn f v) (fun d => bit v.toNat 0 = false ∧ d.outstanding f.val = 0)
      (fun d => d.updFn f.val fun x => { x with
            modCnt := fld v.toNat 16 8, modUs := fld v.toNat 32 16, en := false, expect := 0, held := [] })) ∧
  (∀ (f : FnId) (v : BitVec 64), Completes (.hifExpertEnWrite f v) (fun _ => f = 0)
      (fun d => { d with expertEn := maskOf 64 fun k => bit v.toNat k && (Tab.get Grant.none d.grants k).expert })) ∧
  (∀ (f : FnId) (v : BitVec 64), Completes (.hifExpertEnWrite f v) (fun _ => f ≠ 0) (fun d => d)) ∧
  (∀ (f : FnId) (v : Fin 16) (n t : Nat), Completes (.msixModerationTimer f v) (fun d => Tab.get (0, d.aon0)
        (d.fn f.val).unannounced v.val = (n, t) ∧ 0 < n ∧ t + 25 * (d.fn f.val).modUs ≤ d.aon0)
      (fun d => (d.updFn f.val fun x => { x with unannounced := Tab.del x.unannounced v.val }).msix f.val v.val)) ∧
  (∀ (f : FnId) (off : Nat) (wr : Option (List Byte)) (len : Nat) (st : Option Nat) (b : List Byte), Completes
      (.bar0Access f off wr len st) (fun d => d.hostOpen f.val st ∧ wr = some b ∧ inWindow f.val off = false)
      (fun d => d.wakeUp.bar0Store f.val off b)) ∧
  (∀ (f : FnId) (off : Nat) (wr : Option (List Byte)) (len : Nat) (st : Option Nat), Completes
      (.bar0Access f off wr len st) (fun d => d.hostOpen f.val st ∧ wr = none ∧ inWindow f.val off = false)
      (fun d => d.wakeUp.emit (.data (readUnits (d.wakeUp.bar0Unit f.val) off len)))) ∧
  (∀ (f : FnId) (off : Nat) (wr : Option (List Byte)) (len : Nat) (st : Option Nat) (b : List Byte) (p addr : Nat),
      Completes (.bar2Access f off wr len st) (fun d => d.hostOpen f.val st ∧ wr = some b ∧ off + b.length ≤ 2 ^
        (d.wakeUp.fn f.val).bar2Log ∧ d.wakeUp.bar2Place f.val off = some (p, addr) ∧ d.wakeUp.mem.inPart p addr
        b.length = true ∧ d.wakeUp.hostFree p addr b.length true) (fun d =>
        (d.wakeUp.hostAsked p addr b.length true).hostAccess ⟨d.wakeUp.mem.hostNo, f.val, p, addr, some b, b.length⟩)) ∧
  (∀ (f : FnId) (off : Nat) (wr : Option (List Byte)) (len : Nat) (st : Option Nat) (p addr : Nat), Completes
      (.bar2Access f off wr len st) (fun d => d.hostOpen f.val st ∧ wr = none ∧ off + len ≤ 2 ^
        (d.wakeUp.fn f.val).bar2Log ∧ d.wakeUp.bar2Place f.val off = some (p, addr) ∧ d.wakeUp.mem.inPart p addr len =
        true ∧ d.wakeUp.hostFree p addr len false) (fun d => (d.wakeUp.hostAsked p addr len false).hostAccess
        ⟨d.wakeUp.mem.hostNo, f.val, p, addr, none, len⟩))

/-- Every command of job boundaries, function-level reset, IDE and TDISP, and of data found uncorrectable completes
(R255, R271 to R273, R306, R377, R378, R387 to R389, R391). Each clause names a command and the condition on the
device that it finds; where the condition holds, exec answers a next state, with the device that the clause gives once
the effects that follow every command are in. -/
def Obligations.JobCommandsComplete : Prop :=
  (∀ (h : ChanId) (atom : BitVec 52) (found : AtomState) (who : Consumer), Completes (.hbmReadReturn h atom found who)
      (fun d => isHbm (atom.toNat / 64 * 64) = true ∧ chanOf (atom.toNat / 64 * 64) = h.val ∧ (∀ a, who ≠ .app a) ∧
        d.mem.resetting (atom.toNat / 64 * 64) 64 = false ∧ d.mem.finding (atom.toNat / 64 * 64) found ≠
        .uncorrectable) (fun d => d.updMem fun m => m.eccRead (atom.toNat / 64 * 64) false
        (d.mem.finding (atom.toNat / 64 * 64) found))) ∧
  (∀ (h : ChanId) (atom : BitVec 52) (found : AtomState) (who : Consumer), Completes (.hbmReadReturn h atom found who)
      (fun d => isHbm (atom.toNat / 64 * 64) = true ∧ chanOf (atom.toNat / 64 * 64) = h.val ∧ (∀ a, who ≠ .app a) ∧
        d.mem.resetting (atom.toNat / 64 * 64) 64 = false ∧ d.mem.finding (atom.toNat / 64 * 64) found =
        .uncorrectable) (fun d => (d.updMem fun m => m.eccRead (atom.toNat / 64 * 64) false .uncorrectable).abortConsumer
        0x0501 (atom.toNat / 64 * 64) (fun e => streamAddr e (atom.toNat / 64 * 64)) false who)) ∧
  (∀ (h : ChanId) (atom : BitVec 52) (found : AtomState) (who : Consumer) (a : AppId) (m : Mem), Completes
      (.hbmReadReturn h atom found who) (fun d => isHbm (atom.toNat / 64 * 64) = true ∧ chanOf (atom.toNat / 64 * 64)
        = h.val ∧ who = .app a ∧ d.mem.pass (.line a.val) none true (atom.toNat / 64 * 64) 64 = (m, true) ∧ m.finding
        (atom.toNat / 64 * 64) found ≠ .uncorrectable) (fun d => { d with
            mem := m.eccRead (atom.toNat / 64 * 64) false (m.finding (atom.toNat / 64 * 64) found) })) ∧
  (∀ (die : DieId) (r : Fin 24) (vc : Nat) (who : Consumer), Completes (.fabricUncorrectable die r vc who)
      (fun _ => True) (fun d => (d.updMem fun m => m.countNocUe die.val).abortConsumer 0x0606
        (r.val % 256 + 256 * (vc % 4)) (fun _ => r.val % 256 + 256 * (vc % 4)) true who)) ∧
  (∀ (f : FnId) (seq : BitVec 64) (j : Job), Completes (.jobBoundary f seq) (fun d => d.jobOf f.val seq.toNat = some j
        ∧ (d.programDone j = true ∨ j.phase = .ending ∧ ∀ g ∈ j.cores, (d.core g).seq.running = none))
      (fun d => (
          let e := d.updJob j.id fun j => { j with
                phase := .boundary, cause := if j.phase = .running then 5 else j.cause, endAon := d.aon0 };
          let e := e.forAll j.cores Dev.drainCore;
          let e := if j.cause = 1 then e.forAll j.cores Dev.abandonLinks else e;
          (List.range 64).foldl (fun d k => if (d.group (k / 32) (k % 32)).job = some j.id then d.closeGroup (k / 32)
              (k % 32) else d) e))) ∧
  (∀ (f : FnId) (seq : BitVec 64) (j : Job), Completes (.jobCompletion f seq)
      (fun d => d.jobOf f.val seq.toNat = some j ∧ j.phase = .boundary ∧ ∀ g ∈ j.cores, d.drained g = true)
      (fun d => (
          let e := ((d.clearGroups j.id).flushWhere 0 fun w => bit j.partMask w.part).flushWhere 1 fun w => bit
            j.partMask w.part;
          let e := e.forAll j.cores fun d g => (d.updCore g Core.endJob).updLane fun s =>
            { s with streams := s.streams.filter fun t => t.core ≠ g };
          let e := e.forAll j.appCores fun d a => d.updApp a fun x =>
            { AppCore.reset with lastFn := x.lastFn, flushed := x.flushed };
          let e := match e.job j.id with
            | some j => if j.cause = 1 then e else e.complete j j.status j.first j.endAon
            | none => e;
          (e.dropJob j.id).reserveFreed))) ∧
  (∀ (f : FnId), Completes (.functionLevelReset f) (fun _ => f ≠ 0) (fun d => d.resetFn f.val)) ∧
  (∀ (f : FnId), Completes (.functionLevelReset f) (fun _ => f = 0) (fun d => (
          let e := d.resetFn 0;
          let e := if e.pcie.vfEnable then (List.range 63).foldl (fun d k => d.resetFn (k + 1)) e else e;
          ({ e with pcie := { e.pcie with vfEnable := false } } : Dev).updBne fun b =>
            { b with queue := [], run := b.run.map fun (r : BnReq) => { r with discard := true } }))) ∧
  (∀ (k : KSet), Completes (.kSetGo k) (fun d => d.secureOpen ∧ k.sid.toNat ≤ 64) (fun d =>
        ({ d with pcie := { d.pcie with ideKeys := Tab.set d.pcie.ideKeys k.sid.toNat k.keys } } : Dev).msix 0 18)) ∧
  (∀ (sid : BitVec 8), Completes (.ideIntegrityFail sid) (fun _ => True)
      (fun d => d.forAll (List.range 64) fun d f => if (d.fn f).ide = some sid.toNat then d.tdiError f else d)) ∧
  (∀ (f : FnId), Completes (.stopInterface f) (fun d => d.secureOpen ∧ f ≠ 0) (fun d => (
          (((d.endJobs f.val).updFn f.val fun x => { x with stopping := true, ide := none }).updFn f.val fun x =>
            { x with tdisp := 0 }).msix 0 19).evalExpected f.val)) ∧
  (∀ (f : FnId) (st : BitVec 8), Completes (.lockInterfaceRequest f st)
      (fun d => d.secureOpen ∧ f ≠ 0 ∧ (d.fn f.val).tdisp = 0 ∧ d.outstanding f.val = 0) (fun d =>
        ((((d.updFn f.val fun x => { x with ide := some (st.toNat % 64) }).updFn f.val fun x => { x with tdisp := 1 }).msix
            0 19).emit (.response 0x03 [])).msix 0 18)) ∧
  (∀ (f : FnId) (st : BitVec 8), Completes (.lockInterfaceRequest f st)
      (fun d => d.secureOpen ∧ f ≠ 0 ∧ ((d.fn f.val).tdisp ≠ 0 ∨ 0 < d.outstanding f.val))
      (fun d => (d.emit (.error tdispState)).msix 0 18)) ∧
  (∀ (f : FnId), Completes (.startInterfaceRequest f) (fun d => d.secureOpen ∧ f ≠ 0 ∧ (d.fn f.val).tdisp = 1)
      (fun d => ((((d.updFn f.val fun x => { x with tdisp := 2 }).msix 0 19).evalExpected f.val).emit
          (.response 0x05 [])).msix 0 18)) ∧
  (∀ (f : FnId), Completes (.tdiConfigChange f) (fun d => f ≠ 0 ∧ ((d.fn f.val).tdisp = 1 ∨ (d.fn f.val).tdisp = 2))
      (fun d => (((d.endJobs f.val).wipeOwner f.val).updFn f.val fun x => { x with tdisp := 3 }).msix 0 19)) ∧
  (∀ (f : FnId), Completes (.stopInterfaceWipeDone f) (fun d => (d.fn f.val).stopping = true ∧ ∀ j ∈ d.jobs, ¬
        (j.fn = f.val ∧ j.cause = 1)) (fun d => (((d.updMem fun m => (bitsOf 64 (d.grantParts f.val)).foldl
              Mem.zeroPart m).updFn f.val fun x => { x with stopping := false }).emit (.response 0x06 [])).msix 0 18))

/-- Every runtime call and every trap of an application core completes (R406, R410, R415, R416). Each clause names a
command and the condition on the device that it finds; where the condition holds, exec answers a next state, with the
device that the clause gives once the effects that follow every command are in. -/
def Obligations.AppCoreCommandsComplete : Prop :=
  (∀ (a : AppId) (code : BitVec 64) (j : Job), Completes (.appExit a code)
      (fun d => d.calling a.val = some j ∧ code = 0) (fun d => d.updApp a.val fun x => { x with ended := true })) ∧
  (∀ (a : AppId) (code : BitVec 64) (j : Job), Completes (.appExit a code)
      (fun d => d.calling a.val = some j ∧ code.toNat ≠ 0) (fun d =>
        (d.updApp a.val fun x => { x with ended := true }).jobFault j.id
        (plainFault 0x0909 1 (appLoc a.val) code.toNat))) ∧
  (∀ (a : AppId) (t : BitVec 64) (j : Job), Completes (.tokenSignal a t)
      (fun d => d.calling a.val = some j ∧ t.toNat < j.tokenCount) (fun d =>
        (d.signal j.id t.toNat (128 + a.val)).emit (.call a.val 0 0))) ∧
  (∀ (a : AppId) (t : BitVec 64) (j : Job), Completes (.tokenSignal a t)
      (fun d => d.calling a.val = some j ∧ j.tokenCount ≤ t.toNat) (fun d => d.emit (.call a.val (2 ^ 64 - 3) 0))) ∧
  (∀ (a : AppId) (t th lim : BitVec 64) (j : Job), Completes (.tokenWait a t th lim)
      (fun d => d.calling a.val = some j ∧ t.toNat < j.tokenCount ∧ th.toNat ≤ j.token t.toNat)
      (fun d => d.emit (.call a.val 0 0))) ∧
  (∀ (a : AppId) (t th lim : BitVec 64) (j : Job), Completes (.tokenWait a t th lim)
      (fun d => d.calling a.val = some j ∧ t.toNat < j.tokenCount ∧ j.token t.toNat < th.toNat)
      (fun d => d.updApp a.val fun x => { x with
            wait := some {
                  token := t.toNat, threshold := th.toNat, limit := lim.toNat, since := d.aon (dieOfApp a.val) } })) ∧
  (∀ (a : AppId) (w : AppWait) (j : Job), Completes (.tokenWaitResume a)
      (fun d => (d.app a.val).wait = some w ∧ (d.app a.val).job.bind d.job = some j ∧ w.threshold ≤ j.token w.token)
      (fun d => (d.updApp a.val fun x => { x with wait := none }).emit (.call a.val 0 0))) ∧
  (∀ (a : AppId) (w : AppWait) (j : Job), Completes (.tokenWaitResume a) (fun d => (d.app a.val).wait = some w ∧
        (d.app a.val).job.bind d.job = some j ∧ j.token w.token < w.threshold ∧ w.since + 25 * w.limit ≤ d.aon
        (dieOfApp a.val)) (fun d => (d.updApp a.val fun x => { x with wait := none }).emit (.call a.val 0 1))) ∧
  (∀ (a : AppId) (t : BitVec 64) (j : Job), Completes (.tokenRead a t)
      (fun d => d.calling a.val = some j ∧ t.toNat < j.tokenCount) (fun d => d.emit (.call a.val 0 (j.token t.toNat)))) ∧
  (∀ (a : AppId) (die hdr members level : BitVec 64) (j : Job) (n : Nat), Completes
      (.kgroupOpen a die hdr members level) (fun d => d.calling a.val = some j ∧ die.toNat < 2 ∧ (List.range 32).find?
        (fun n => decide ((d.group die.toNat n).state = 0) || decide ((d.group die.toNat n).state = 4)) = some n ∧
        d.openErr die.toNat n j.fn hdr.toNat (members.toNat % 256) = 0) (fun d =>
        (d.openGroup die.toNat n j.fn hdr.toNat (level.toNat % 256) (members.toNat % 256) (some j.id)).emit
        (.call a.val 0 n))) ∧
  (∀ (a : AppId) (die hdr members level : BitVec 64) (j : Job), Completes (.kgroupOpen a die hdr members level)
      (fun d => d.calling a.val = some j ∧ 2 ≤ die.toNat) (fun d => d.emit (.call a.val (2 ^ 64 - 3) 0))) ∧
  (∀ (a : AppId) (die n : BitVec 64) (j : Job), Completes (.kgroupClose a die n)
      (fun d => d.calling a.val = some j ∧ d.opened j die.toNat n.toNat = true)
      (fun d => (d.closeGroup die.toNat n.toNat).emit (.call a.val 0 0))) ∧
  (∀ (a : AppId) (die n : BitVec 64) (j : Job), Completes (.kgroupStatus a die n)
      (fun d => d.calling a.val = some j ∧ d.opened j die.toNat n.toNat = true)
      (fun d => d.emit (.call a.val 0 (d.group die.toNat n.toNat).status))) ∧
  (∀ (a : AppId) (addr : BitVec 52) (j : Job), Completes (.guestPageFault a addr)
      (fun d => d.calling a.val = some j ∧ d.guest j addr.toNat = false)
      (fun d => d.jobFault j.id (plainFault 0x0502 2 (appLoc a.val) (addr.toNat % 2 ^ 52)))) ∧
  (∀ (a : AppId) (addr : BitVec 52) (j : Job), Completes (.loadAccessFault a addr)
      (fun d => d.calling a.val = some j ∧ d.guest j addr.toNat = true ∧ isHbm addr.toNat = true)
      (fun d => (d.updMem fun m => m.eccRead (addr.toNat / 64 * 64) false .uncorrectable).jobFault j.id
        (plainFault 0x0501 2 (appLoc a.val) (addr.toNat / 64 * 64)))) ∧
  (∀ (a : AppId) (cause pc : BitVec 64) (j : Job), Completes (.ctrlTrap a cause pc)
      (fun d => d.calling a.val = some j) (fun d => d.jobFault j.id (plainFault 0x090A 2 (appLoc a.val)
          (cause.toNat % 2 ^ 16 + 2 ^ 16 * (pc.toNat % 2 ^ 48)))))

/-- Every register write without a row of its own, every I3C access and every configuration request completes (R5,
R14, R407, R493, R552, R553, R561). Each clause names a command and the condition on the device that it finds; where
the condition holds, exec answers a next state, with the device that the clause gives once the effects that follow
every command are in. -/
def Obligations.AccessCommandsComplete : Prop :=
  (∀ (b : List Byte), Completes (.i3cSetOffset b) (fun d => d.hw.on = true ∧ b.length = 4)
      (fun d => { d with
            hw := { d.hw with i3cOff := fld (leNat (b.take 4)) 0 27, i3cDie := fld (leNat (b.take 4)) 31 1 } })) ∧
  (∀ (b : List Byte), Completes (.i3cRegisterWrite b) (fun d => d.hw.on = true ∧ b.length = 12 ∧
        (d.i3cOffset b).i3cReg.isSome = true) (fun d => (d.i3cOffset b).regWrite .bmc 0 (d.i3cOffset b).hw.i3cDie
        (d.i3cOffset b).hw.i3cOff 0 (b.drop 4))) ∧
  (Completes (.i3cRegisterRead) (fun d => d.hw.on = true ∧ d.i3cReg.isSome = true)
      (fun d => d.emit (.data (leBytes 8 (d.i3cReg.getD 0))))) ∧
  (Completes (.i3cRegisterRead) (fun d => d.hw.on = true ∧ d.i3cReg = none ∧ d.hw.i3cOff % 8 = 0 ∧ bmcReach
        d.hw.i3cOff = true) (fun d => (d.emit (.data (leBytes 8 0))).outside .bmc
        (regionBase d.hw.i3cDie + d.hw.i3cOff))) ∧
  (∀ (a : Agent) (addr : BitVec 52) (b : RegWrite) (f : FnId), Completes (.registerWrite a addr b)
      (fun d => d.hostOpen f.val b.stream ∧ a = .fn f ∧ (f = 0 ∨ vfReach f.val addr.toNat = true) ∧ notRegister
        addr.toNat = false) (fun d => d.wakeUp.regStore (.fn f) addr.toNat b.bytes)) ∧
  (∀ (a : Agent) (addr : BitVec 52) (b : RegWrite) (k : AppId) (j : Job), Completes (.registerWrite a addr b)
      (fun d => a = .app k ∧ d.calling k.val = some j ∧ d.guest j addr.toNat = true ∧ notRegister addr.toNat = false)
      (fun d => d.regStore (.app k) addr.toNat b.bytes)) ∧
  (∀ (a : Agent) (addr : BitVec 52) (b : RegWrite), Completes (.registerWrite a addr b)
      (fun _ => a = .firmware ∧ notRegister addr.toNat = false) (fun d => d.regStore .firmware addr.toNat b.bytes)) ∧
  (∀ (a : Agent) (addr : BitVec 52) (b : RegWrite) (p : Nat × Nat), Completes (.registerWrite a addr b)
      (fun _ => a = .bmc ∧ regPlace addr.toNat = some p ∧ bmcReach p.2 = true)
      (fun d => d.regStore .bmc addr.toNat b.bytes)) ∧
  (∀ (q : CfgReq), Completes (.configurationRequest q) (fun d => d.rst.pcie = 1 ∧ d.stepDone 7 = false ∧
        d.rst.lodestar = false) (fun d => d.emit .retry)) ∧
  (∀ (q : CfgReq), Completes (.configurationRequest q) (fun d => d.rst.pcie = 1 ∧
        (d.stepDone 7 = true ∨ d.rst.lodestar = true)) (fun d => (d.configure q).emit (.ack true)))

/-- Every command of the laser cartridges, of link training and of flits completes (R313, R314, R317, R318, R320,
R321, R345, R571). Each clause names a command and the condition on the device that it finds; where the condition
holds, exec answers a next state, with the device that the clause gives once the effects that follow every command are
in. -/
def Obligations.LinkCommandsComplete : Prop :=
  (∀ (k : CartId), Completes (.cartridgeFailure k) (fun d => (d.lane.cart k.val).state = 2)
      (fun d => (d.updCart k.val fun x => { x with state := 4 }).forAll (d.lane.fed k.val) Dev.switchOver)) ∧
  (∀ (k : CartId), Completes (.cartRelease k) (fun d => (d.lane.cart k.val).state = 1 ∨ (d.lane.cart k.val).state = 2)
      (fun d => (d.updCart k.val fun x => { x with state := 3 }).forAll (d.lane.fed k.val) Dev.switchOver)) ∧
  (∀ (k : CartId), Completes (.cartRestore k) (fun d => (d.lane.cart k.val).state = 2) (fun d =>
        (d.updCart k.val fun x => { x with fresh := false }).forAll [k.val, k.val + 6] fun d e => if
        (d.lane.opt e).state = 1 ∨ (d.lane.opt e).state = 2 then d.updOpt e fun x =>
        { x with state := 1, secondary := false, cart := k.val } else d)) ∧
  (∀ (k : CartId), Completes (.cartridgeInsert k) (fun d => (d.lane.cart k.val).present = false)
      (fun d => d.updCart k.val fun x => { x with
            present := true, state := 1, lever := true, fresh := d.rst.steps.contains 10 })) ∧
  (∀ (k : CartId), Completes (.cartridgeLit k) (fun d => (d.lane.cart k.val).state = 1)
      (fun d => d.updCart k.val fun x => { x with state := 2 })) ∧
  (∀ (k : CartId), Completes (.cartridgeLeverOpen k) (fun d => (d.lane.cart k.val).state ≠ 2)
      (fun d => (d.loseCart k.val 0).updCart k.val fun x => { x with present := false, state := 0, lever := false })) ∧
  (∀ (k : CartId), Completes (.cartridgeLeverOpen k) (fun d => (d.lane.cart k.val).state = 2)
      (fun d => ((d.loseCart k.val 0).updCart k.val fun x => { x with present := false, state := 0, lever := false }).fnFault
        0 (plainFault Config.cartCode 0 (location 6 0 0 0 k.val) 0))) ∧
  (∀ (l : LinkId), Completes (.linkLightDetect l) (fun d => (d.lane.link l.val).state = 1 ∧
        (d.lane.opt (l.val / 8)).state = 1) (fun d => (d.updLink l.val fun x =>
          { x with state := 2, since := d.aon (dieOfLink l.val) }).msix 0 20)) ∧
  (∀ (l : LinkId), Completes (.linkTrainStep l) (fun d => (d.lane.link l.val).state = 2 ∨ (d.lane.link l.val).state =
        3) (fun d => (d.updLink l.val fun x => { x with
              state := (d.lane.link l.val).state + 1, since := d.aon (dieOfLink l.val) }).msix 0 20)) ∧
  (∀ (l : LinkId), Completes (.linkTrainStep l) (fun d => (d.lane.link l.val).state = 4) (fun d =>
        ((d.updLink l.val fun x => { x with state := 5, since := d.aon (dieOfLink l.val) }).msix 0 20).showFlit l.val
        0 0 0 (.control (.hello d.lane.devId l.val 1)))) ∧
  (∀ (l : LinkId), Completes (.linkTrainTimeout l) (fun d => 2 ≤ (d.lane.link l.val).state ∧ (d.lane.link l.val).state
        ≤ 5 ∧ (d.lane.link l.val).since + trainLimit (d.lane.link l.val).state ≤ d.aon (dieOfLink l.val))
      (fun d => d.linkDown l.val 1 0)) ∧
  (∀ (l : LinkId) (id : BitVec 16) (far version : BitVec 8), Completes (.hello l id far version)
      (fun d => (d.lane.link l.val).state = 5 ∧ id.toNat ≠ d.lane.devId ∧ version.toNat = 1)
      (fun d => (d.updLink l.val fun x => { x with farId := id.toNat, farLink := far.toNat }).linkUp l.val)) ∧
  (∀ (l : LinkId) (id : BitVec 16) (far version : BitVec 8), Completes (.hello l id far version)
      (fun d => (d.lane.link l.val).state = 5 ∧ id.toNat = d.lane.devId)
      (fun d => (d.updLink l.val fun x => { x with farId := id.toNat, farLink := far.toNat }).failLink l.val 3)) ∧
  (∀ (l : LinkId) (id : BitVec 16) (far version : BitVec 8), Completes (.hello l id far version)
      (fun d => (d.lane.link l.val).state = 5 ∧ id.toNat ≠ d.lane.devId ∧ version.toNat ≠ 1)
      (fun d => (d.updLink l.val fun x => { x with farId := id.toNat, farLink := far.toNat }).failLink l.val 4)) ∧
  (∀ (l : LinkId), Completes (.lossOfLock l) (fun d => (d.lane.link l.val).state = 6)
      (fun d => (d.updLink l.val fun x => { x with state := 7, since := d.aon (dieOfLink l.val) }).msix 0 20)) ∧
  (∀ (l : LinkId), Completes (.fastRetrainDone l) (fun d => d.pwr.state ≠ 2 ∧ d.pwr.state ≠ 3 ∧
        (d.lane.link l.val).state = 7 ∧ d.aon (dieOfLink l.val) ≤ (d.lane.link l.val).since + 750)
      (fun d => ((d.updLink l.val fun x => { x with state := 6, since := d.aon (dieOfLink l.val) }).msix 0 20).serve
        l.val)) ∧
  (∀ (l : LinkId), Completes (.fastRetrainDone l) (fun d => (d.pwr.state = 2 ∨ d.pwr.state = 3) ∧
        (d.lane.link l.val).state = 7 ∧ d.aon (dieOfLink l.val) ≤ (d.lane.link l.val).since + 750)
      (fun d => (d.updLink l.val fun x => { x with state := 9, since := d.aon (dieOfLink l.val) }).msix 0 20)) ∧
  (∀ (l : LinkId), Completes (.fastRetrainFail l) (fun d => (d.lane.link l.val).state = 7 ∧ (d.lane.link l.val).since
        + 750 ≤ d.aon (dieOfLink l.val)) (fun d => d.linkDown l.val 8 1)) ∧
  (∀ (l : LinkId), Completes (.linkRetryExpiry l) (fun d => (d.lane.link l.val).state = 8 ∧ (d.lane.link l.val).since
        + 25000000 * (if d.lane.retry = 0 then 1 else d.lane.retry) ≤ d.aon (dieOfLink l.val))
      (fun d => (d.updLink l.val fun x => { x with state := 1, since := d.aon (dieOfLink l.val) }).msix 0 20)) ∧
  (∀ (l : LinkId) (flit fec : List Nat), Completes (.flitReceive l flit fec)
      (fun d => ((d.lane.link l.val).state = 6 ∨ (d.lane.link l.val).state = 9) ∧ rsDecode (flit ++ fec) = none)
      (fun d => (d.updLink l.val fun x => { x with fecUncorr := satAdd 64 x.fecUncorr 1 }).nakFlit l.val true)) ∧
  (∀ (l : LinkId) (flit fec data : List Nat) (fixed : Nat), Completes (.flitReceive l flit fec)
      (fun d => ((d.lane.link l.val).state = 6 ∨ (d.lane.link l.val).state = 9) ∧ rsDecode (flit ++ fec) = some
        (data, fixed) ∧ crc64 ((flitOf data).take 0x278) ≠ numAt (flitOf data) 0x278 8) (fun d =>
        (if fixed = 0 then d else d.updLink l.val fun x => { x with fecCorr := satAdd 64 x.fecCorr 1 }).nakFlit l.val
        true)) ∧
  (∀ (l : LinkId) (flit fec data : List Nat) (fixed : Nat), Completes (.flitReceive l flit fec)
      (fun d => ((d.lane.link l.val).state = 6 ∨ (d.lane.link l.val).state = 9) ∧ rsDecode (flit ++ fec) = some
        (data, fixed) ∧ crc64 ((flitOf data).take 0x278) = numAt (flitOf data) 0x278 8 ∧ numAt (flitOf data) 0 2 ≠
        (d.lane.link l.val).rxSeq) (fun d => (if fixed = 0 then d else d.updLink l.val fun x =>
          { x with fecCorr := satAdd 64 x.fecCorr 1 }).nakFlit l.val false)) ∧
  (∀ (l : LinkId) (flit fec data : List Nat) (fixed : Nat), Completes (.flitReceive l flit fec)
      (fun d => ((d.lane.link l.val).state = 6 ∨ (d.lane.link l.val).state = 9) ∧ rsDecode (flit ++ fec) = some
        (data, fixed) ∧ crc64 ((flitOf data).take 0x278) = numAt (flitOf data) 0x278 8 ∧ numAt (flitOf data) 0 2 =
        (d.lane.link l.val).rxSeq) (fun d => (if fixed = 0 then d else d.updLink l.val fun x =>
          { x with fecCorr := satAdd 64 x.fecCorr 1 }).takeFlit l.val (flitOf data))) ∧
  (∀ (l : LinkId) (seq : BitVec 16), Completes (.nakReceive l seq) (fun d => (d.lane.link l.val).state = 6 ∨
        (d.lane.link l.val).state = 9) (fun d => (((d.lane.link l.val).replay.filter fun r => decide
            ((r.1 + 65536 - seq.toNat) % 65536 < 32768)).foldl (fun e r => e.showFlit l.val r.1
            (((d.lane.link l.val).rxSeq + 65535) % 65536) r.2.1 r.2.2) (d.updLink l.val fun x =>
            { x with
                replays := satAdd 64 x.replays 1,
                replay := x.replay.filter fun r => decide ((r.1 + 65536 - seq.toNat) % 65536 < 32768), ackDue := false })).pump
        l.val)) ∧
  (∀ (l : LinkId) (a : Agent), Completes (.lnkRetrain l a)
      (fun d => d.expert a = true ∧ (d.lane.link l.val).state = 6) (fun d =>
        (d.updLink l.val fun x => { x with state := 7, since := d.aon (dieOfLink l.val) }).msix 0 20)) ∧
  (∀ (l : LinkId) (a : Agent), Completes (.lnkRetrain l a) (fun d => d.expert a = true ∧ (d.lane.link l.val).state ∈
        [1, 2, 3, 4, 5, 8]) (fun d => d.linkDown l.val 1 0))

/-- Every command of the HBM controllers, the channel tests and maintenance completes (R261, R274 to R276, R278 to
R281). Each clause names a command and the condition on the device that it finds; where the condition holds, exec
answers a next state, with the device that the clause gives once the effects that follow every command are in. -/
def Obligations.MemoryCommandsComplete : Prop :=
  (∀ (h : ChanId), Completes (.smallPathWindow h) (fun d => (d.mem.chan h.val).smallQ = [])
      (fun d => (d.updMem fun m => m.updChan h.val fun x => { x with small := 0, smallQ := [] }).serveHost
        d.mem.hostQ.length)) ∧
  (∀ (h : ChanId) (r : Nat × List (Nat × Waiter) × List (Nat × Waiter)), Completes (.smallPathWindow h)
      (fun d => smallPrefix 0 (d.mem.chan h.val).smallQ = r) (fun d => (
          let e := r.2.1.foldl (fun e q => e.letGo q.2) (d.updMem fun m => m.updChan h.val fun x =>
              { x with small := r.1, smallQ := r.2.2 });
          e.serveHost e.mem.hostQ.length))) ∧
  (∀ (n : ChanId) (t : Nat) (found : AtomState), Completes (.refreshSlot n t found)
      (fun d => ((d.mem.chan n.val).state = 2 ∨ (d.mem.chan n.val).state = 5) ∧ (d.mem.chan n.val).patrol = false)
      (fun d => d.updMem fun m => m.updChan n.val fun x => { x with
            temp := t % 256, hot := decide (85 < t), calib := x.calib + 1 })) ∧
  (∀ (n : ChanId) (t : Nat) (found : AtomState), Completes (.refreshSlot n t found)
      (fun d => ((d.mem.chan n.val).state = 2 ∨ (d.mem.chan n.val).state = 5) ∧ (d.mem.chan n.val).patrol = true)
      (fun d => (
          let e := d.updMem fun m => m.updChan n.val fun c => { c with
                temp := t % 256, hot := decide (85 < t), calib := c.calib + 1 };
          let atom := patrolAtom n.val (d.mem.chan n.val).patrolPos;
          let f := e.mem.finding atom found;
          let e := e.updMem fun m => (m.eccRead atom true f).updChan n.val fun c =>
            { c with patrolPos := (c.patrolPos + 1) % 2 ^ 27 };
          if f = .uncorrectable then e.fnFault 0 (plainFault 0x0501 0 (chanLoc n.val) atom) else e))) ∧
  (∀ (n : ChanId) (v : BitVec 64) (a : Agent), Completes (.tgcStart n v a) (fun d => bit v.toNat 2 = false ∧ d.expert
        a = true ∧ (d.mem.chan n.val).running = false ∧ (d.mem.chan n.val).state ≠ 5 ∧ fld v.toNat 4 4 ≤ 5 ∧ fld
        v.toNat 8 4 ≤ 2) (fun d => d.updMem fun m => m.updChan n.val fun x => { x with
            passes := fld v.toNat 32 32, op := fld v.toNat 8 4, pattern := fld v.toNat 4 4, destruct := false,
            tstate := 1, reason := 0, errors := 0, errPseudo := false, errAtom := 0, dqMask := 0, atoms := 0,
            running := true, full := false })) ∧
  (∀ (n : ChanId) (v : BitVec 64) (a : Agent), Completes (.tgcStart n v a) (fun d => bit v.toNat 2 = false ∧ d.expert
        a = false ∧ (d.mem.chan n.val).destruct = false ∧ (d.mem.chan n.val).running = false ∧
        (d.mem.chan n.val).state ≠ 5 ∧ fld v.toNat 4 4 ≤ 5 ∧ fld v.toNat 8 4 ≤ 2) (fun d => (d.deny a).updMem fun m =>
        m.updChan n.val fun x => { x with
            passes := fld v.toNat 32 32, op := fld v.toNat 8 4, pattern := fld v.toNat 4 4, destruct := false,
            tstate := 1, reason := 0, errors := 0, errPseudo := false, errAtom := 0, dqMask := 0, atoms := 0,
            running := true, full := false })) ∧
  (∀ (h : ChanId) (w k : Nat) (e : TestErrors), Completes (.tgcStop h w k e)
      (fun d => (d.mem.chan h.val).running = true) (fun d => d.updMem fun m => ((if (d.mem.chan h.val).op = 1 then m
            else m.fill h.val (d.mem.chan h.val).full (d.mem.chan h.val).pattern (d.mem.chan h.val).seed
            (min w (testAtoms (d.mem.chan h.val).full)))).updChan h.val fun x => { x with
            running := false, errors := min e.count (2 ^ 32 - 1), atoms := min k (2 ^ 64 - 1), tstate := 5,
            errPseudo := (e.first.map fun f => f.1).getD false,
            errAtom := (e.first.map fun f => f.2.1 % 2 ^ 26).getD 0,
            dqMask := (e.first.map fun f => f.2.2 % 2 ^ 32).getD 0 })) ∧
  (∀ (h : ChanId) (errs : Nat) (first : Option (Bool × Nat × Nat)), Completes (.tgcTestEnd h errs first)
      (fun d => (d.mem.chan h.val).running = true ∧ (d.mem.chan h.val).passes ≠ 0) (fun d => d.updMem fun m =>
        ((if (d.mem.chan h.val).op = 1 then m else m.fill h.val (d.mem.chan h.val).full (d.mem.chan h.val).pattern
            (d.mem.chan h.val).seed (testAtoms (d.mem.chan h.val).full))).updChan h.val fun x =>
        { x with
            running := false, errors := min errs (2 ^ 32 - 1),
            atoms := min (if (d.mem.chan h.val).op = 2 then 0 else (d.mem.chan h.val).passes * testAtoms
                (d.mem.chan h.val).full) (2 ^ 64 - 1), tstate := if errs = 0 then 2 else 3,
            errPseudo := (first.map fun f => f.1).getD false, errAtom := (first.map fun f => f.2.1 % 2 ^ 26).getD 0,
            dqMask := (first.map fun f => f.2.2 % 2 ^ 32).getD 0 })) ∧
  (∀ (a : Agent), Completes (.maintSet a) (fun d => d.expert a = true ∧ d.jobs = [])
      (fun d => { d with mem := { d.mem with maint := true, mstate := if d.mem.mstate = 3 then 3 else 2 } })) ∧
  (∀ (a : Agent), Completes (.maintSet a) (fun d => d.expert a = true ∧ d.jobs ≠ [])
      (fun d => { d with mem := { d.mem with denied := true } })) ∧
  (∀ (a : Agent), Completes (.maintClear a) (fun d => d.expert a = true) (fun d =>
        { d with mem := { d.mem with maint := false, mstate := if d.mem.mstate = 2 then 3 else d.mem.mstate } })) ∧
  (Completes (.maintWipeDone) (fun d => d.mem.mstate = 3) (fun d => { d with
            mem := { d.mem.wipe with mstate := if d.mem.maint then 2 else 0 } }))

/-- Every command of the write-combining buffers and of the partition regulators completes (R262, R263, R267 to R270).
Each clause names a command and the condition on the device that it finds; where the condition holds, exec answers a
next state, with the device that the clause gives once the effects that follow every command are in. -/
def Obligations.WriteBufferAndRegulatorCommandsComplete : Prop :=
  (∀ (p : PartId) (job : Option Nat) (addr : BitVec 52) (data : List Byte), Completes
      (.wcbPartialWrite p job addr data) (fun _ => isHbm addr.toNat = true ∧ 0 < data.length ∧ addr.toNat % 256 +
        data.length ≤ 256) (fun d => (d.updMem fun m => m.updPart p.val fun q => q.charge
          (atomBytes addr.toNat data.length)).wcbWrite p.val job addr.toNat data)) ∧
  (∀ (p : PartId) (job : Option Nat) (addr : BitVec 52) (data : List Byte), Completes
      (.wcbPartialWrite p job addr data) (fun d => isHbm addr.toNat = true ∧ 0 < data.length ∧ addr.toNat % 256 +
        data.length ≤ 256 ∧ data.length < 256 ∧ (d.mem.wcbOf (hbmDie addr.toNat)).entries.find?
        (fun (e : WcbEntry) => decide (e.granule = addr.toNat / 256 * 256)) = none ∧
        (d.mem.wcbOf (hbmDie addr.toNat)).entries.length < 1024) (fun d =>
        (d.updMem fun m => m.updPart p.val fun q => q.charge (atomBytes addr.toNat data.length)).updMem fun m =>
        m.updWcb (hbmDie addr.toNat) fun w => { w with
            entries := w.entries ++ [⟨addr.toNat / 256 * 256, wcbMerge [] (addr.toNat % 256) data, p.val, job, d.aon
                  (hbmDie addr.toNat)⟩], hwm := max w.hwm (w.entries.length + 1) })) ∧
  (∀ (p : PartId) (job : Option Nat) (addr : BitVec 52) (data : List Byte) (e : WcbEntry), Completes
      (.wcbPartialWrite p job addr data) (fun d => isHbm addr.toNat = true ∧ 0 < data.length ∧ addr.toNat % 256 +
        data.length ≤ 256 ∧ (d.mem.wcbOf (hbmDie addr.toNat)).entries.find?
        (fun (e : WcbEntry) => decide (e.granule = addr.toNat / 256 * 256)) = some e ∧
        (wcbMerge e.data (addr.toNat % 256) data).length ≠ 256) (fun d =>
        (d.updMem fun m => m.updPart p.val fun q => q.charge (atomBytes addr.toNat data.length)).updMem fun m =>
        m.updWcb (hbmDie addr.toNat) fun w => { w with
            entries := w.entries.map fun (x : WcbEntry) => if x.granule = addr.toNat / 256 * 256 then
              { x with data := wcbMerge x.data (addr.toNat % 256) data, job := job, part := p.val } else x,
            merges := satAdd 64 w.merges 1 })) ∧
  (∀ (die : DieId) (e : WcbEntry) (t : List WcbEntry), Completes (.wcbAgeFlush die)
      (fun d => (d.mem.wcbOf die.val).entries = e :: t ∧ e.since + 50 ≤ d.aon die.val) (fun d =>
        (d.flushEntry die.val e).updMem fun m => m.updWcb die.val fun w => { w with age := satAdd 64 w.age 1 })) ∧
  (∀ (die : DieId) (a : Agent), Completes (.wcbFlush die a) (fun d => d.expert a = true)
      (fun d => ((d.mem.wcbOf die.val).entries).foldl (fun d e => d.flushOther die.val e) d)) ∧
  (∀ (p : PartId), Completes (.regulatorTick p) (fun d => (d.mem.part p.val).newRate = none)
      (fun d => d.updMem fun m => m.updPart p.val fun q => { q with
            tokens := if q.rate = 0 then q.tokens else min (q.tokens + (q.rateOf * 40 : Nat)) (q.cap : Int),
            throttled := !q.waiting.isEmpty })) ∧
  (∀ (p : PartId) (r b : Nat) (mo : Bool), Completes (.regulatorTick p)
      (fun d => (d.mem.part p.val).newRate = some (r, b, mo)) (fun d => d.updMem fun m => m.updPart p.val fun q =>
        (
          let q : Part := { q with rate := r, burst := b, mode := mo, newRate := none };
          { q with
                tokens := if r = 0 then min q.tokens (q.cap : Int) else min
                  (min q.tokens (q.cap : Int) + (q.rateOf * 40 : Nat)) (q.cap : Int), throttled := !q.waiting.isEmpty }))) ∧
  (∀ (p : PartId) (bytes : Nat) (w : Waiter) (t : List (Nat × Waiter)), Completes (.regulatedIssue p)
      (fun d => (d.mem.part p.val).waiting = (bytes, w) :: t ∧ d.mem.mayIssue p.val = true)
      (fun d => (
          let e := (d.updMem fun m => m.updPart p.val fun q => ({ q with waiting := t }).charge bytes).letGo w;
          e.serveHost e.mem.hostQ.length))) ∧
  (∀ (p : PartId) (bytes g e x : Nat) (t : List (Nat × Waiter)), Completes (.regulatedIssue p)
      (fun d => (d.mem.part p.val).waiting = (bytes, .xfer g e x) :: t ∧ d.mem.mayIssue p.val = true ∧ d.mem.holds =
        [.xfer g e x] ∧ d.mem.hostQ = []) (fun d => ((d.updMem fun m => m.updPart p.val fun q =>
            ({ q with waiting := t }).charge bytes).updMem fun m => { m with holds := [] }).updCore g fun c =>
        c.updXfer e x fun t => { t with requested := t.requested + t.pend, pend := 0 })) ∧
  (∀ (p : PartId) (v : BitVec 64) (a : Agent), Completes (.mregRateWrite p v a) (fun d => d.expert a = true)
      (fun d => d.updMem fun m => m.updPart p.val fun q => { q with
            newRate := some (fld v.toNat 0 13, fld v.toNat 32 11, bit v.toNat 16) }))

/-- Every command of the mesh links and of the die-to-die bridge completes (R304, R305, R309). Each clause names a
command and the condition on the device that it finds; where the condition holds, exec answers a next state, with the
device that the clause gives once the effects that follow every command are in. -/
def Obligations.FabricCommandsComplete : Prop :=
  (∀ (die : DieId) (i : Fin 39) (ok : Bool), Completes (.flitCrcReplay die i ok) (fun _ => i.val < 38 ∧ ok = true)
      (fun d => d.updMem fun m => m.updFab die.val fun f => { f with
            links := Tab.set f.links i.val { Tab.get NocLink.reset (d.mem.fab die.val).links i.val with
                  replays := satAdd 32 (Tab.get NocLink.reset (d.mem.fab die.val).links i.val).replays 1, run := 0 } })) ∧
  (∀ (die : DieId) (i : Fin 39) (ok : Bool), Completes (.flitCrcReplay die i ok) (fun _ => i = 38 ∧ ok = true)
      (fun d => d.updMem fun m => m.updFab die.val fun f =>
        { f with d2dReplays := satAdd 32 f.d2dReplays 1, d2dRun := 0 })) ∧
  (∀ (die : DieId) (i : Fin 39) (ok : Bool), Completes (.flitCrcReplay die i ok)
      (fun d => i.val < 38 ∧ ok = false ∧ (Tab.get NocLink.reset (d.mem.fab die.val).links i.val).run < 15)
      (fun d => d.updMem fun m => m.updFab die.val fun f => { f with
            links := Tab.set f.links i.val { (Tab.get NocLink.reset (d.mem.fab die.val).links i.val) with
                  replays := satAdd 32 (Tab.get NocLink.reset (d.mem.fab die.val).links i.val).replays 1,
                  run := (Tab.get NocLink.reset (d.mem.fab die.val).links i.val).run + 1 } })) ∧
  (∀ (die : DieId) (i : Fin 39) (ok : Bool), Completes (.flitCrcReplay die i ok) (fun d => i.val < 38 ∧ ok = false ∧
        (Tab.get NocLink.reset (d.mem.fab die.val).links i.val).run = 15 ∧
        (Tab.get NocLink.reset (d.mem.fab die.val).links i.val).spare = false) (fun d => d.updMem fun m => m.updFab
        die.val fun f => { f with
            links := Tab.set f.links i.val { (Tab.get NocLink.reset (d.mem.fab die.val).links i.val) with
                  replays := satAdd 32 (Tab.get NocLink.reset (d.mem.fab die.val).links i.val).replays 1, run := 0,
                  bad := true, state := 1 } })) ∧
  (∀ (die : DieId) (i : Fin 39) (ok : Bool), Completes (.flitCrcReplay die i ok) (fun d => i.val < 38 ∧ ok = false ∧
        (Tab.get NocLink.reset (d.mem.fab die.val).links i.val).run = 15 ∧
        (Tab.get NocLink.reset (d.mem.fab die.val).links i.val).spare = true) (fun d => (d.updMem fun m => m.updFab
          die.val fun f => { f with
              links := Tab.set f.links i.val { (Tab.get NocLink.reset (d.mem.fab die.val).links i.val) with
                    replays := satAdd 32 (Tab.get NocLink.reset (d.mem.fab die.val).links i.val).replays 1, run := 0,
                    state := 2 } }).laneFault die.val i.val)) ∧
  (∀ (die : DieId) (i : Fin 39) (ok : Bool), Completes (.flitCrcReplay die i ok)
      (fun d => i = 38 ∧ ok = false ∧ (d.mem.fab die.val).d2dRun = 15 ∧ (d.mem.fab die.val).d2dSpare = false)
      (fun d => (d.updMem fun m => m.updFab die.val fun f =>
          { f with d2dReplays := satAdd 32 f.d2dReplays 1, d2dRun := 0 }).updMem fun m => m.bothEnds fun f =>
        { f with d2dBad := true, d2dState := 2 })) ∧
  (∀ (die : DieId) (i : Fin 39) (ok : Bool), Completes (.flitCrcReplay die i ok)
      (fun d => i = 38 ∧ ok = false ∧ (d.mem.fab die.val).d2dRun = 15 ∧ (d.mem.fab die.val).d2dSpare = true)
      (fun d => ((d.updMem fun m => m.updFab die.val fun f =>
            { f with d2dReplays := satAdd 32 f.d2dReplays 1, d2dRun := 0 }).updMem fun m => m.bothEnds fun f =>
          { f with d2dGroups := f.d2dGroups - 1, d2dState := 3 }).laneFault die.val 38)) ∧
  (∀ (die : DieId) (i : Fin 39), Completes (.laneSpareReplace die i) (fun d => i.val < 38 ∧
        (Tab.get NocLink.reset (d.mem.fab die.val).links i.val).bad = true) (fun d => (d.updMem fun m => m.updFab
          die.val fun f => { f with
              links := Tab.set f.links i.val { Tab.get NocLink.reset (d.mem.fab die.val).links i.val with
                    bad := false, spare := true, state := 0, run := 0 } }).laneFault die.val i.val)) ∧
  (∀ (die : DieId) (i : Fin 39), Completes (.laneSpareReplace die i)
      (fun d => i.val = 38 ∧ (d.mem.fab die.val).d2dBad = true) (fun d => (d.updMem fun m => m.bothEnds fun f =>
          { f with d2dBad := false, d2dRun := 0, d2dSpare := true, d2dState := 1 }).laneFault die.val 38)) ∧
  (∀ (a : Agent), Completes (.d2dRetrain a) (fun d => d.expert a = true) (fun d => d.updMem fun m => m.bothEnds fun f
        => { f with d2dBad := false, d2dRun := 0, d2dSpare := false, d2dGroups := 16, d2dState := 1 }))

/-- Every command of failed cores, self-tests, pairing, commits and digests completes (R453, R454, R458, R460, R463,
R464, R466, R467). Each clause names a command and the condition on the device that it finds; where the condition
holds, exec answers a next state, with the device that the clause gives once the effects that follow every command are
in. -/
def Obligations.ResilienceCommandsComplete : Prop :=
  (∀ (i : ClusterId) (p : Fin 9) (ev : Nat) (k : Nat), Completes (.coreFail i p ev) (fun d => d.physFailed i.val p.val
        = false ∧ (d.markFailed i.val p.val true).logicalOf i.val p.val = some k ∧
        ((d.markFailed i.val p.val true).core (8 * i.val + k)).job = none)
      (fun d => (d.markFailed i.val p.val true).updPdd fun x => { x with waiting := x.waiting ++ [8 * i.val + k] })) ∧
  (∀ (i : ClusterId) (p : Fin 9) (ev : Nat), Completes (.coreFail i p ev)
      (fun d => d.physFailed i.val p.val = false ∧ (d.markFailed i.val p.val true).logicalOf i.val p.val = none)
      (fun d => d.markFailed i.val p.val true)) ∧
  (∀ (i : ClusterId) (g p : Nat), Completes (.spareSubstitution i) (fun d => d.pdd.waiting.find?
        (fun g => decide (g / 8 = i.val) && (d.core g).job.isNone) = some g ∧
        (d.updPdd fun x => { x with waiting := x.waiting.filter fun y => y ≠ g }).spareOf i.val = some p)
      (fun d => (
          let e := d.updPdd fun x => { x with waiting := x.waiting.filter fun y => y ≠ g };
          let w := e.setCore g (({ Core.reset with segReq := (e.core g).segState, segState := (e.core g).segState } :
                Core).wipe);
          w.updPdd fun x => { x with
                map := Tab.set x.map i.val (withNibble (w.coreMap i.val) (g % 8) p),
                subst := Tab.set x.subst (i.val / 8) (satAdd 64 (Tab.get 0 x.subst (i.val / 8)) 1) }))) ∧
  (∀ (die : DieId) (v : BitVec 64) (a : Agent), Completes (.pddSelftestGo die v a) (fun d => d.expert a = true ∧ bit
        v.toNat 8 = true ∧ (d.selfTest die.val).state = 0 ∧ fld v.toNat 0 4 ≤ 8 ∧ d.physFailed
        (8 * die.val + fld v.toNat 4 3) (fld v.toNat 0 4) = false) (fun d => (
          (d.updTest die.val fun t => { t with retest := bit v.toNat 9 }).updTest die.val fun t =>
          { t with cluster := fld v.toNat 4 3, phys := fld v.toNat 0 4 }).updTest die.val fun t =>
        { t with state := 1, result := 0, on := 9 * fld v.toNat 4 3 + fld v.toNat 0 4, again := bit v.toNat 9 })) ∧
  (∀ (die : DieId), Completes (.selftestStart die) (fun d => (d.selfTest die.val).state = 1 ∧ ∀ g, d.testedCore
        die.val = some g → (d.core g).job = none) (fun d => d.updTest die.val fun t => { t with state := 2 })) ∧
  (∀ (die : DieId) (pass : Bool), Completes (.selftestEnd die pass) (fun d => pass = true ∧ (d.selfTest die.val).state
        = 2 ∧ (d.selfTest die.val).again = false) (fun d => (match d.testedCore die.val with
          | some g => d.updCore g Core.wipe
          | none => d).updTest die.val fun t => { t with state := 0, result := 1 })) ∧
  (∀ (die : DieId) (pass : Bool), Completes (.selftestEnd die pass)
      (fun d => pass = false ∧ (d.selfTest die.val).state = 2) (fun d => (
          (match d.testedCore die.val with | some g => d.updCore g Core.wipe | none => d).updTest die.val fun t =>
          { t with state := 0, result := 2 }).failCore (8 * die.val + (d.selfTest die.val).on / 9)
        ((d.selfTest die.val).on % 9) 4)) ∧
  (∀ (l : LinkId) (feed : BitVec 8) (answer : Option Bool), Completes (.pairingMessage l feed answer)
      (fun d => answer = none ∧ (d.lane.link l.val).state = 6 ∧ (d.lane.link l.val).farId = d.pdd.holder ∧ d.pdd.pair
        = 1 ∧ feed.toNat = d.pdd.feed ∧ d.pdd.override' = false) (fun d => (
          ({ d with pdd := { d.pdd with holderFeed := feed.toNat, pair := 2, feedWarn := false } } : Dev).fnFault 0
          (plainFault 0x0804 0 (location 0 0 0 0 0) (d.pdd.holder + 65536 * feed.toNat))).sendCtl l.val
        (.pairingAnswer false))) ∧
  (∀ (l : LinkId) (feed : BitVec 8) (answer : Option Bool), Completes (.pairingMessage l feed answer)
      (fun d => answer = none ∧ (d.lane.link l.val).state = 6 ∧ (d.lane.link l.val).farId = d.pdd.holder ∧ d.pdd.pair
        = 1 ∧ (feed.toNat ≠ d.pdd.feed ∨ d.pdd.override' = true)) (fun d => ({ d with
              pdd := { d.pdd with holderFeed := feed.toNat, pair := 3, feedWarn := decide (feed.toNat = d.pdd.feed) } }
          : Dev).sendCtl l.val (.pairingAnswer true))) ∧
  (∀ (l : LinkId) (feed : BitVec 8) (answer : Option Bool) (ok : Bool) (i : Nat), Completes
      (.pairingMessage l feed answer) (fun d => answer = some ok ∧ (d.lane.link l.val).state = 6 ∧ d.slotOf
        (d.lane.link l.val).farId = some i) (fun d => d.updSlot i fun x =>
        { x with paired := ok, lostAon := none, state := if ok && decide (x.state = 5) then 6 else x.state })) ∧
  (∀ (a : Agent) (rcd : List Byte) (l : Nat) (t : List Nat), Completes (.pddCommitPush a rcd)
      (fun d => d.lane.upLinks d.pdd.holder = l :: t) (fun d => ({ d with
              pdd := { d.pdd with commits := d.pdd.commits ++ [d.pddReq a rcd] } } : Dev).sendCtl l
        (.commit (bytesAt rcd 0 64)))) ∧
  (∀ (l : LinkId) (rcd : List Byte), Completes (.commitReceive l rcd) (fun d => (d.lane.link l.val).state = 6 ∧
        d.slotOf (d.lane.link l.val).farId = none) (fun d => (d.updPdd fun x =>
          { x with commitFails := satAdd 64 x.commitFails 1 }).sendCtl l.val (.commitAnswer 0x0806 1 false))) ∧
  (∀ (l : LinkId) (rcd : List Byte) (i : Nat), Completes (.commitReceive l rcd) (fun d => (d.lane.link l.val).state =
        6 ∧ d.slotOf (d.lane.link l.val).farId = some i ∧ (d.mslot i).state ≠ 5 ∧ (d.mslot i).state ≠ 6 ∧
        (d.mslot i).paired = true ∧ (d.mslot i).curStep = none ∧ d.tapsOf i = []) (fun d =>
        (
          let e := ((d.updSlot i fun y => y.rotate (numAt (bytesAt rcd 0 64) 0 8) (numAt (bytesAt rcd 0 64) 8 32)).updPdd
              fun y => { y with commitCnt := satAdd 64 y.commitCnt 1 }).resetTaps i false;
          e.sendCtl l.val (.commitAnswer 0 0 (decide ((e.mslot i).state = 4)))))) ∧
  (∀ (l : LinkId) (code : BitVec 16) (detail : BitVec 64) (m : Bool) (q : PddReq) (t : List PddReq), Completes
      (.commitAnswer l code detail m) (fun d => (d.lane.link l.val).farId = d.pdd.holder ∧ (d.lane.link l.val).state =
        6 ∧ d.pdd.commits = q :: t ∧ code = 0) (fun d => ((d.updPdd fun x => { x with commits := t }).reqDone q
          (numAt q.rcd 0x28 8) 0).updPdd fun x => { x with
            lastStep := numAt q.rcd 0 6,
            pair := if x.pair = 3 ∨ x.pair = 4 ∨ x.pair = 6 then (if m then 4 else 3) else x.pair })) ∧
  (∀ (l : LinkId) (code : BitVec 16) (detail : BitVec 64) (m : Bool) (q : PddReq) (t : List PddReq), Completes
      (.commitAnswer l code detail m) (fun d => (d.lane.link l.val).farId = d.pdd.holder ∧ (d.lane.link l.val).state =
        6 ∧ d.pdd.commits = q :: t ∧ code.toNat ≠ 0) (fun d => ((d.updPdd fun x => { x with commits := t }).reqDone q
          (numAt q.rcd 0x28 8) code.toNat).reqFault q code.toNat detail.toNat)) ∧
  (∀ (a : Agent) (rcd : List Byte), Completes (.pddDigestPush a rcd) (fun _ => True)
      (fun d => { d with pdd := { d.pdd with digests := d.pdd.digests ++ [d.pddReq a rcd] } })) ∧
  (∀ (q : PddReq) (t : List PddReq), Completes (.digestDone) (fun d => d.pdd.digests = q :: t ∧ d.digestWaits q =
        false ∧ numAt q.rcd 8 8 ≠ 0 ∧ (d.updPdd fun x => { x with digests := t }).mem.partFor
        ((d.updPdd fun x => { x with digests := t }).reqParts q) (numAt q.rcd 0 8) (16 * min 256 (numAt q.rcd 8 8)) =
        none) (fun d => ((d.updPdd fun x => { x with digests := t }).reqDone q (numAt q.rcd 0x10 8) 0x0502).reqFault q
        0x0502 (numAt q.rcd 0 8))) ∧
  (∀ (q : PddReq) (t : List PddReq) (e e' : Dev) (b bytes : List Byte) (p : Nat), Completes (.digestDone)
      (fun d => d.pdd.digests = q :: t ∧ d.digestWaits q = false ∧ numAt q.rcd 8 8 ≠ 0 ∧ (∃ p,
          (d.updPdd fun x => { x with digests := t }).mem.partFor
          ((d.updPdd fun x => { x with digests := t }).reqParts q) (numAt q.rcd 0 8) (16 * min 256 (numAt q.rcd 8 8))
          = some p) ∧ (d.updPdd fun x => { x with digests := t }).hbmRead (numAt q.rcd 0 8)
        (16 * min 256 (numAt q.rcd 8 8)) = (e, .ok b) ∧ e.digestRanges q
        ((List.range (min 256 (numAt q.rcd 8 8))).map fun i => (numAt b (16 * i) 8, numAt b (16 * i + 8) 8)) =
        (e', .ok bytes) ∧ e'.mem.partFor (e'.reqParts q) (numAt q.rcd 0x10 8) 40 = some p)
      (fun _ => (e'.hbmWrite p none (numAt q.rcd 0x10 8 + 8) (sha256 bytes)).reqDone q (numAt q.rcd 0x10 8) 0)) ∧
  (∀ (w : Nat) (t : Nat), Completes (.lostWaitExpiry w) (fun d => w = 4 ∧ d.pdd.lostAon = some t ∧ t + 2500 *
        (if d.pdd.lostWait = 0 then 10 else d.pdd.lostWait) ≤ d.aon0 ∧ d.pdd.pair ≠ 5) (fun d =>
        ({ d with pdd := { d.pdd with pair := 5, feedWarn := false, lostAon := none } } : Dev).fnFault 0
        (plainFault 0x0801 0 (location 0 0 0 0 0) d.pdd.holder)))

/-- Every command of the peer table completes (R325 to R327, R349). Each clause names a command and the condition on
the device that it finds; where the condition holds, exec answers a next state, with the device that the clause gives
once the effects that follow every command are in. -/
def Obligations.PeerCommandsComplete : Prop :=
  (∀ (id : BitVec 16), Completes (.peerAdd id) (fun _ => 0x3FFF < id.toNat)
      (fun d => { d with lane := { d.lane with peerCmdId := id.toNat, peerIndex := 0, peerResult := 5 } })) ∧
  (∀ (id : BitVec 16) (i : Nat) (p : Peer), Completes (.peerAdd id)
      (fun d => id.toNat ≤ 0x3FFF ∧ d.lane.peerOf id.toNat = some (i, p))
      (fun d => { d with lane := { d.lane with peerCmdId := id.toNat, peerIndex := i, peerResult := 2 } })) ∧
  (∀ (id : BitVec 16) (i : Nat), Completes (.peerAdd id) (fun d => id.toNat ≤ 0x3FFF ∧ d.lane.peerOf id.toNat = none ∧
        i < 4096 ∧ (∀ p ∈ d.lane.peers, p.1 = i → p.2.state = 0) ∧ ∀ k < i, ∃ p ∈ d.lane.peers, p.1 = k ∧ p.2.state ≠
        0) (fun d => (({ d with
                lane := { d.lane with
                      peerCmdId := id.toNat,
                      peers := Tab.set d.lane.peers i { id := id.toNat, state := 1, owners := 0, since := d.aon0 },
                      peerIndex := i, peerResult := 0 } } : Dev).msix 0 20).toPeer id.toNat .probe)) ∧
  (∀ (id : BitVec 16) (i : Nat) (p : Peer), Completes (.peerRemove id) (fun d => d.lane.peerOf id.toNat = some (i, p))
      (fun d => ({ d with lane := { d.lane with peerCmdId := id.toNat, peerIndex := i, peerResult := 0 } } : Dev).peerState
        id.toNat 4)) ∧
  (∀ (id : BitVec 16), Completes (.peerRemove id) (fun d => id.toNat ≤ 0x3FFF ∧ d.lane.peerOf id.toNat = none)
      (fun d => { d with lane := { d.lane with peerCmdId := id.toNat, peerIndex := 0, peerResult := 4 } })) ∧
  (∀ (id : BitVec 16) (ow : BitVec 64) (i : Nat) (p : Peer), Completes (.peerSetOwners id ow)
      (fun d => d.lane.peerOf id.toNat = some (i, p)) (fun d => ((d.updLane fun s => { s with
                peerCmdId := id.toNat, peerCmdData := ow.toNat,
                peers := Tab.set s.peers i { p with owners := ow.toNat } }).msix 0 20).updLane fun s =>
        { s with peerIndex := i, peerResult := 0 })) ∧
  (∀ (id : BitVec 16) (i : Nat) (p : Peer), Completes (.peerDrainDone id) (fun d => d.lane.peerOf id.toNat = some
        (i, p) ∧ p.state = 4 ∧ d.sendingTo id.toNat = false ∧ d.lane.upLinks id.toNat = [])
      (fun d => ({ d with lane := { d.lane with peers := Tab.del d.lane.peers i } } : Dev).msix 0 20)) ∧
  (∀ (id : BitVec 16) (i : Nat) (p : Peer) (l : Nat) (t : List Nat), Completes (.peerDrainDone id)
      (fun d => d.lane.peerOf id.toNat = some (i, p) ∧ p.state = 4 ∧ d.sendingTo id.toNat = false ∧ d.lane.upLinks
        id.toNat = l :: t) (fun d => (({ d with lane := { d.lane with peers := Tab.del d.lane.peers i } } : Dev).msix
          0 20).sendCtl l .probeNak)) ∧
  (∀ (l : LinkId) (i : Nat) (p : Peer), Completes (.probe l) (fun d => d.lane.peerOf (d.lane.link l.val).farId = some
        (i, p) ∧ 1 ≤ p.state ∧ p.state ≤ 3) (fun d => d.sendCtl l.val .probeAck)) ∧
  (∀ (l : LinkId), Completes (.probe l) (fun d => d.lane.peerOf (d.lane.link l.val).farId = none)
      (fun d => d.sendCtl l.val .probeNak)) ∧
  (∀ (l : LinkId) (i : Nat) (p : Peer), Completes (.probeAck l) (fun d => (d.lane.link l.val).state = 6 ∧
        d.lane.peerOf (d.lane.link l.val).farId = some (i, p) ∧ (p.state = 1 ∨ p.state = 5))
      (fun d => (d.peerState (d.lane.link l.val).farId 2).resume (d.lane.link l.val).farId)) ∧
  (∀ (l : LinkId) (i : Nat) (p : Peer), Completes (.probeNak l) (fun d => d.lane.peerOf (d.lane.link l.val).farId =
        some (i, p) ∧ p.state ≠ 4) (fun d => d.peerState (d.lane.link l.val).farId 5)) ∧
  (∀ (id : BitVec 16) (i : Nat) (p : Peer), Completes (.probeRetry id) (fun d => d.lane.peerOf id.toNat = some (i, p)
        ∧ p.state = 5 ∧ p.since + 25000 ≤ d.aon0) (fun d => ({ d with
              lane := { d.lane with peers := Tab.set d.lane.peers i { p with since := d.aon0 } } } : Dev).toPeer
        id.toNat .probe))

/-- Every command of the streams over the links completes (R328, R330 to R335, R338). Each clause names a command and
the condition on the device that it finds; where the condition holds, exec answers a next state, with the device that
the clause gives once the effects that follow every command are in. -/
def Obligations.LinkStreamCommandsComplete : Prop :=
  (∀ (g : CoreId) (e : EngId), Completes (.lsend g e) (fun d => Tab.get false d.pwr.relock (g.val / 8) = false ∧
        ((d.core g.val).nextInstr e.val 10) = none ∧
        (((d.core g.val).eng e.val).xfer ((d.core g.val).eng e.val).nextId) = none) (fun d => d)) ∧
  (∀ (g : CoreId) (e : EngId) (t : Transfer), Completes (.lsend g e) (fun d => Tab.get false d.pwr.relock (g.val / 8)
        = false ∧ (((d.issueTransfer g.val e.val 10 fun d t => d.lsendFault g.val e.val t).core g.val).eng e.val).xfer
        ((d.core g.val).eng e.val).nextId = some t) (fun d => ((d.destsOf g.val t.peer).filter Dest.dropped).foldl
        (fun d x => d.dropRecord g.val x.peer) ((d.issueTransfer g.val e.val 10 fun d t => d.lsendFault g.val e.val t).updCore
          g.val fun x => x.updXfer e.val ((d.core g.val).eng e.val).nextId fun y => { y with
              dests := d.destsOf g.val t.peer,
              requested := if (d.destsOf g.val t.peer).all Dest.dropped then y.len else 0 }))) ∧
  (∀ (g : CoreId) (e : EngId) (n : Nat) (t : Transfer), Completes (.transferRequest g e n)
      (fun d => Tab.get false d.pwr.relock (g.val / 8) = false ∧ ((d.core g.val).eng e.val).xfer n = some t ∧ t.opc ≠
        10) (fun d => d.request g.val e.val n)) ∧
  (∀ (g : CoreId) (e : EngId) (n : Nat) (t : Transfer), Completes (.transferRequest g e n)
      (fun d => Tab.get false d.pwr.relock (g.val / 8) = false ∧ ((d.core g.val).eng e.val).xfer n = some t ∧ t.opc =
        10 ∧ ((d.core g.val).eng e.val).draining = false) (fun d => d.lrequest g.val e.val t)) ∧
  (∀ (g : CoreId) (r : RingId) (up : List Upset) (q : Ring) (e : Nat) (t : Transfer), Completes
      (.outboundRowDrain g r up) (fun d => Tab.get false d.pwr.relock (g.val / 8) = false ∧
        ((d.updCore g.val fun x => (x.strike up).release).core g.val).ring? r.val = some q ∧
        ((d.updCore g.val fun x => (x.strike up).release).core g.val).ringXfer r.val = some (e, t) ∧ q.typ = 1 ∧
        q.state q.drain = .ready ∧ t.drained < t.requested ∧ t.opc ≠ 10)
      (fun d => (d.updCore g.val fun x => (x.strike up).release).drainRow g.val r.val q e t)) ∧
  (∀ (l : LinkId) (rm : RxMsg) (why : Nat), Completes (.streamMessageReceive l) (fun d => d.lane.arrived l.val = some
        rm ∧ (rm.msg.kind = 1 ∨ rm.msg.kind = 3) ∧ d.pwr.state = 0 ∧ ((d.handled l.val rm).updCore
          (fld rm.msg.target 4 7) Core.release).refusal l.val (fld rm.msg.target 4 7) (rm.msg.target % 16) rm.msg =
        some why) (fun d => (((((d.handled l.val rm).updCore (fld rm.msg.target 4 7) Core.release).updLink l.val fun k
              => { k with refused := satAdd 64 k.refused 1 }).sendCtl l.val
            (.refuse (rm.msg.origin % 128) rm.msg.target rm.msg.mseq why)).pump l.val))) ∧
  (∀ (l : LinkId) (rm : RxMsg) (q : Ring), Completes (.streamMessageReceive l) (fun d => d.lane.arrived l.val = some
        rm ∧ rm.msg.kind = 1 ∧ d.pwr.state = 0 ∧ ((d.handled l.val rm).updCore (fld rm.msg.target 4 7) Core.release).refusal
        l.val (fld rm.msg.target 4 7) (rm.msg.target % 16) rm.msg = none ∧
        (((d.handled l.val rm).updCore (fld rm.msg.target 4 7) Core.release).core (fld rm.msg.target 4 7)).ring?
        (rm.msg.target % 16) = some q ∧ (rm.msg.mseq + 65536 - (q.stream
            (((d.handled l.val rm).updCore (fld rm.msg.target 4 7) Core.release).lane.link l.val).farId rm.msg).expected
          % 65536) % 65536 = 0 ∧ cdiv rm.msg.data.length (formBytes rm.msg.form 64) ≤ q.rows ∧ ∀ i < cdiv
        rm.msg.data.length (formBytes rm.msg.form 64), q.state ((q.land + i) % max 1 q.rows) = .free)
      (fun d => (
          let g := fld rm.msg.target 4 7;
          let r := rm.msg.target % 16;
          let e := (d.handled l.val rm).updCore g Core.release;
          let s := q.stream (e.lane.link l.val).farId rm.msg;
          let e := e.updCore g fun x => (x.landRows r rm.msg.form rm.msg.data
              (cdiv rm.msg.data.length (formBytes rm.msg.form 64))).updRing r fun q => q.setStream
            { s with expected := s.expected + 1, caught := s.caught };
          let e := e.updLink l.val fun k => { k with rxBytes := satAdd 64 k.rxBytes rm.msg.data.length };
          let e := e.tapMessage (e.lane.link l.val).farId rm.msg;
          let e := e.updLane fun s => { s with
                macks := s.macks ++ [(g, r, l.val, rm.msg.origin % 128, rm.msg.target, rm.msg.mseq)] };
          e.pump l.val))) ∧
  (∀ (g : CoreId) (r : RingId) (k : Nat × Nat × Nat × Nat × Nat × Nat), Completes (.mackSend g r)
      (fun d => d.lane.macks.find? (fun k => decide (k.1 = g.val) && decide (k.2.1 = r.val)) = some k)
      (fun d => ({ d with lane := { d.lane with macks := d.lane.macks.erase k } } : Dev).sendCtl k.2.2.1
        (.mack k.2.2.2.1 k.2.2.2.2.1 k.2.2.2.2.2))) ∧
  (∀ (l : LinkId) (kind : Nat) (core : CoreId) (queue : BitVec 12) (mseq : BitVec 16) (o : TxMsg), Completes
      (.mack l kind core queue mseq) (fun d => kind ≠ 2 ∧ d.lane.outMsg core.val (d.lane.link l.val).farId queue.toNat
        mseq.toNat = some o) (fun d => (d.acked core.val (d.lane.link l.val).farId queue.toNat o).pump l.val)) ∧
  (∀ (l : LinkId) (kind : Nat) (core : CoreId) (queue : BitVec 12) (mseq : BitVec 16) (x : WinXfer), Completes
      (.mack l kind core queue mseq) (fun d => kind = 2 ∧ d.lane.xfer = some x ∧ numAt x.record 0x14 2 =
        (d.lane.link l.val).farId ∧ (x.ack mseq.toNat).acked < (x.ack mseq.toNat).len)
      (fun d => (({ d with lane := { d.lane with xfer := some (x.ack mseq.toNat) } } : Dev).winFill 512).pump l.val)) ∧
  (∀ (l : LinkId) (core : CoreId) (queue : BitVec 12) (mseq : BitVec 16) (why : BitVec 4) (o : TxMsg), Completes
      (.refuse l core queue mseq why) (fun d => d.lane.outMsg core.val (d.lane.link l.val).farId queue.toNat
        mseq.toNat = some o) (fun d => (d.lsendFail core.val o.eng o.xfer (d.lane.link l.val).farId why.toNat
          mseq.toNat 0x0607).pump l.val)) ∧
  (∀ (l : LinkId) (core : CoreId) (queue : BitVec 12) (mseq : BitVec 16), Completes (.rnr l core queue mseq)
      (fun _ => True) (fun d => { d with
            lane := d.lane.updStream core.val (d.lane.link l.val).farId queue.toNat fun t =>
              { t with
                  out := t.out.map fun o => if o.msg.mseq = mseq.toNat then
                    { o with rnr := some (d.aon (dieOfCore core.val)) } else o } })) ∧
  (∀ (g : CoreId) (peer : BitVec 16) (queue : BitVec 12) (t : TxStream), Completes (.rnrResend g peer queue)
      (fun d => d.lane.streams.find? (fun t => t.is g.val peer.toNat queue.toNat) = some t ∧ fromFirst
        (fun o => o.rnr.any fun a => decide (a + 50 ≤ d.aon (dieOfCore g.val))) t.out ≠ [])
      (fun d => (
          let ms := (fromFirst (fun o => o.rnr.any fun a => decide (a + 50 ≤ d.aon (dieOfCore g.val))) t.out).map
            TxMsg.msg;
          (d.updLane fun s => { s with links := s.links.map fun k => (k.1, k.2.withdraw fun m => ms.contains m) }).giveStream
            g.val peer.toNat queue.toNat fun o => ms.contains o.msg))) ∧
  (∀ (g : CoreId) (peer : BitVec 16) (queue : BitVec 12) (t : TxStream) (o : TxMsg), Completes
      (.linkSendTimeout g peer queue) (fun d => d.lane.streams.find? (fun t => t.is g.val peer.toNat queue.toNat) =
        some t ∧ t.out.find? (fun o => o.sent.any fun a => decide (a + 25000 *
            (if d.lane.sendLimit = 0 then 5 else d.lane.sendLimit) ≤ d.aon (dieOfCore g.val))) = some o)
      (fun d => d.lsendFail g.val o.eng o.xfer peer.toNat 0 o.msg.mseq 0x0608)) ∧
  (∀ (g : CoreId) (e : EngId) (t : Transfer) (x : Dest), Completes (.peerWaitTimeout g e)
      (fun d => ((d.core g.val).eng e.val).xfers.find? (fun t => decide (t.opc = 10) && t.dests.any fun y =>
          ((y.waiting.any fun a => decide (a + 2500 * (if d.lane.peerWait = 0 then 10 else d.lane.peerWait) ≤ d.aon
                (dieOfCore g.val))) && decide (y.acked < t.len))) = some t ∧ t.dests.find?
        (fun y => ((y.waiting.any fun a => decide (a + 2500 * (if d.lane.peerWait = 0 then 10 else d.lane.peerWait) ≤
                d.aon (dieOfCore g.val))) && decide (y.acked < t.len))) = some x)
      (fun d => d.lsendFail g.val e.val t.id x.peer 4 0 0x0602)) ∧
  (∀ (g : CoreId) (e : EngId) (n : Nat) (i : Fin 16) (t : Transfer) (x : Dest) (a : Nat), Completes
      (.linkGroupMemberDrop g e n i) (fun d => ((d.core g.val).eng e.val).xfer n = some t ∧ t.dests[i.val]? = some x ∧
        x.stall = some a ∧ a + 25 * (if (d.lane.grp (t.peer - 0xFF00)).stall = 0 then 20 else
          (d.lane.grp (t.peer - 0xFF00)).stall) ≤ d.aon (dieOfCore g.val) ∧ x.dropped = false ∧ t.opc = 10)
      (fun d => (
          let e1 := d.updCore g.val fun k => k.updXfer e.val n fun t => (
              let t := t.updDest x.peer fun x => { x with dropped := true, stall := none };
              if t.dests.all Dest.dropped then { t with requested := t.len } else t);
          let mine := fun o : TxMsg => decide (o.eng = e.val) && decide (o.xfer = n);
          let old := match e1.lane.streams.find? fun s => s.is g.val x.peer t.queue with
            | some s => (s.out.filter mine).map TxMsg.msg
            | none => [];
          let e2 := e1.updLane fun s => ({ s with
                  links := s.links.map fun k => (k.1, k.2.withdraw fun m => old.contains m) } : Starlane).updStream
            g.val x.peer t.queue fun s => { s with
                out := s.out.map fun o => if mine o then { o with
                      msg := { o.msg with kind := 3 }, link := none, begun := false } else o };
          (e2.dropRecord g.val x.peer).giveStream g.val x.peer t.queue mine)))

/-- Every command of the remote windows and window transfers completes (R340 to R343). Each clause names a command and
the condition on the device that it finds; where the condition holds, exec answers a next state, with the device that
the clause gives once the effects that follow every command are in. -/
def Obligations.WindowCommandsComplete : Prop :=
  (∀ (w : WinId), Completes (.winOpen w) (fun d => d.winErr w.val = 0) (fun d =>
        (d.updWin w.val fun x => { x with state := 1, openErr := 0, accepted := 0 }).rebuild w.val)) ∧
  (∀ (w : WinId) (e : Nat), Completes (.winOpen w) (fun d => d.winErr w.val = e ∧ e ≠ 0)
      (fun d => d.updWin w.val fun x => { x with openErr := e })) ∧
  (∀ (w : WinId), Completes (.winClose w) (fun d => (d.lane.win w.val).state = 1)
      (fun d => d.updWin w.val fun x => { x with state := 2 })) ∧
  (∀ (w : WinId), Completes (.winClose w) (fun d => (d.lane.win w.val).state = 2)
      (fun d => d.updWin w.val fun x => { x with openErr := 3 })) ∧
  (∀ (w : WinId), Completes (.winClosed w) (fun d => (d.lane.win w.val).state = 2 ∧ (d.lane.win w.val).writes = [])
      (fun d => (d.updWin w.val fun x => { x with state := 0 }).msix 0 21)) ∧
  (∀ (l : LinkId) (rm : RxMsg), Completes (.windowWriteReceive l) (fun d => d.lane.arrived l.val = some rm ∧
        rm.msg.kind = 2 ∧ d.pwr.state = 0 ∧ (d.lane.win (rm.msg.target % 16)).state ≠ 1) (fun d =>
        (((d.handled l.val rm).updWin (rm.msg.target % 16) fun x => { x with refused := satAdd 64 x.refused 1 }).sendCtl
          l.val (.windowClosed (rm.msg.target % 16) rm.msg.mseq)).pump l.val)) ∧
  (∀ (l : LinkId) (rm : RxMsg), Completes (.windowWriteReceive l) (fun d => d.lane.arrived l.val = some rm ∧
        rm.msg.kind = 2 ∧ d.pwr.state = 0 ∧ (d.lane.win (rm.msg.target % 16)).state = 1 ∧ (d.lane.link l.val).farId =
        (d.lane.win (rm.msg.target % 16)).peer ∧ rm.msg.origin % 64 = 0 ∧ rm.msg.data.length % 64 = 0 ∧ rm.msg.origin
        + rm.msg.data.length ≤ (d.lane.win (rm.msg.target % 16)).size * 4096) (fun d => ((d.taken l.val).updWin
          (rm.msg.target % 16) fun x => { x with
              accepted := satAdd 32 x.accepted 1,
              writes := x.writes ++ [⟨l.val, rm.msg.mseq, x.base + rm.msg.origin, rm.msg.data, rm.flits⟩] }).pump
        l.val)) ∧
  (∀ (w : WinId) (y : WinWrite) (t : List WinWrite), Completes (.windowWriteComplete w)
      (fun d => (d.lane.win w.val).writes = y :: t ∧ d.mem.resetting y.addr y.data.length = false)
      (fun d => (
          let x := d.lane.win w.val;
          let e := d.hbmWrite x.part none y.addr y.data;
          let e := e.updMem fun m => m.updPart x.part fun q => q.charge (atomBytes y.addr y.data.length);
          let e := (e.updWin w.val fun x => { x with writes := t }).updLink y.link fun k =>
            { k with rxBytes := satAdd 64 k.rxBytes y.data.length };
          ((e.returnCredit y.link y.flits).sendCtl y.link (.windowAck w.val y.mseq)).pump y.link))) ∧
  (∀ (a : Agent) (rcd : List Byte), Completes (.winXferPush a rcd) (fun _ => True) (fun d =>
        { d with lane := { d.lane with xfers := d.lane.xfers ++ [((d.agentFn a).getD 64, bytesAt rcd 0 32)] } })) ∧
  (∀ (f : Nat) (r : List Byte) (t : List (Nat × List Byte)), Completes (.winXferStart) (fun d => d.lane.xfer = none ∧
        d.lane.xfers = (f, r) :: t ∧ d.mem.partFor (d.xferParts f) ({
              record := r, fn := f, sent := 0, acked := 0, out := [], link := none } : WinXfer).src
        ({ record := r, fn := f, sent := 0, acked := 0, out := [], link := none } : WinXfer).len = none)
      (fun d => (
          let x : WinXfer := { record := r, fn := f, sent := 0, acked := 0, out := [], link := none };
          (((d.updLane fun s => { s with xfers := t, xfer := some x }).endXfer x 0x0502 0).fnFault (f % 64)
              (plainFault 0x0502 1 (location 0 0 0 0 0) (x.src % 2 ^ 52)))))) ∧
  (∀ (f : Nat) (r : List Byte) (t : List (Nat × List Byte)) (l : Nat), Completes (.winXferStart)
      (fun d => d.lane.xfer = none ∧ d.lane.xfers = (f, r) :: t ∧ d.mem.partFor (d.xferParts f)
        ({ record := r, fn := f, sent := 0, acked := 0, out := [], link := none } : WinXfer).src
        ({ record := r, fn := f, sent := 0, acked := 0, out := [], link := none } : WinXfer).len ≠ none ∧
        ((d.lane.peerOf (numAt r 0x14 2)).any fun p => p.2.state == 1 || p.2.state == 2 || p.2.state == 3) = true ∧
        ((d.updLane fun s => { s with
                xfers := t, xfer := some { record := r, fn := f, sent := 0, acked := 0, out := [], link := none } }).giveWindow.lane.xfer.bind
          WinXfer.link) = some l) (fun d => (d.updLane fun s => { s with
              xfers := t, xfer := some { record := r, fn := f, sent := 0, acked := 0, out := [], link := none } }).giveWindow.winFill
        512)) ∧
  (∀ (l : LinkId) (mseq : BitVec 16) (x : WinXfer), Completes (.windowClosed l mseq) (fun d => d.lane.xfer = some x ∧
        x.fn ≠ 64 ∧ numAt x.record 0x14 2 = (d.lane.link l.val).farId ∧ (∃ m ∈ x.out, m.mseq = mseq.toNat))
      (fun d => (d.endXfer x 0x0601 (mseq.toNat * 32)).pump l.val)) ∧
  (∀ (l : LinkId) (mseq : BitVec 16) (x : WinXfer), Completes (.windowRefused l mseq) (fun d => d.lane.xfer = some x ∧
        x.fn ≠ 64 ∧ numAt x.record 0x14 2 = (d.lane.link l.val).farId ∧ (∃ m ∈ x.out, m.mseq = mseq.toNat))
      (fun d => (d.endXfer x 0x0609 (mseq.toNat * 32)).pump l.val))

/-- Every command of the share slots and of partial decryption completes (R361 to R365). Each clause names a command
and the condition on the device that it finds; where the condition holds, exec answers a next state, with the device
that the clause gives once the effects that follow every command are in. -/
def Obligations.ShareCommandsComplete : Prop :=
  (∀ (f : FnId) (s : ShareId) (v : BitVec 64), Completes (.slotLoad f s v)
      (fun d => (d.share s.val).state = 0 ∧ bit v.toNat 0 = true) (fun d => (
          let e := d.updFn f.val fun y => { y with slotLen := Tab.set y.slotLen s.val (fld v.toNat 32 21) };
          e.updShare s.val fun x => { x with
                state := 1, owner := f.val, err := 0, addr := Tab.get 0 (e.fn f.val).slotAddr s.val,
                len := fld v.toNat 32 21 }))) ∧
  (∀ (f : FnId) (s : ShareId) (v : BitVec 64), Completes (.slotLoad f s v)
      (fun d => (d.share s.val).state ≠ 0 ∧ (d.share s.val).owner ≠ f.val) (fun d => d)) ∧
  (∀ (f : FnId) (s : ShareId) (v : BitVec 64), Completes (.slotLoad f s v) (fun d => (d.share s.val).state = 2 ∧
        (d.share s.val).owner = f.val ∧ bit v.toNat 0 = true ∧ bit v.toNat 1 = false) (fun d =>
        ((d.updFn f.val fun y => { y with slotLen := Tab.set y.slotLen s.val (fld v.toNat 32 21) }).updShare s.val fun
          x => { x with err := 1 }).fnFault f.val (plainFault 0x0704 1 secLoc (s.val + 256)))) ∧
  (∀ (s : ShareId), Completes (.slotLoadDone s) (fun d => (d.share s.val).state = 1 ∧ ((d.share s.val).addr % 64 ≠ 0 ∨
          d.mem.partFor (d.grantParts (d.share s.val).owner) (d.share s.val).addr (max 1 (d.share s.val).len) = none))
      (fun d => d.loadRefused s.val 2)) ∧
  (∀ (s : ShareId) (e : Dev) (b : List Byte), Completes (.slotLoadDone s) (fun d => (d.share s.val).state = 1 ∧
        (d.share s.val).addr % 64 = 0 ∧ d.mem.partFor (d.grantParts (d.share s.val).owner) (d.share s.val).addr
        (max 1 (d.share s.val).len) ≠ none ∧ d.mem.resetting (d.share s.val).addr (d.share s.val).len = false ∧
        d.hbmRead (d.share s.val).addr (d.share s.val).len = (e, .ok b)) (fun _ => if (e.blobCheck s.val b).1 = 0 then
        ({ e with freeCtr := e.freeCtr + 1 } : Dev).updShare s.val fun x => { x with
            state := 2, err := 0, budget := numAt b 0x1C 4, party := numAt b 7 1, scheme := numAt b 6 1,
            form := numAt b 5 1, threshold := numAt b 8 1, parties := numAt b 9 1, logN := numAt b 0xA 1,
            limbs := numAt b 0xB 1, floodMin := numAt b 0xC 1, keyset := numAt b 0x10 8, pset := numAt b 0x18 2,
            nonce := Config.entropy e.freeCtr % 2 ^ 128, data := (e.blobCheck s.val b).2 } else e.loadRefused s.val
        (e.blobCheck s.val b).1)) ∧
  (∀ (f : FnId) (s : ShareId), Completes (.slotRelease f s) (fun d =>
        ((d.share s.val).state = 1 ∨ (d.share s.val).state = 2) ∧ (d.share s.val).owner = f.val)
      (fun d => d.wipeSlot s.val)) ∧
  (∀ (s : ShareId), Completes (.slotWipeDone s) (fun d => (d.share s.val).state = 3) (fun d =>
        ({ d with freeCtr := d.freeCtr + 1 } : Dev).updShare s.val fun _ => { Share.reset with
            owner := (d.share s.val).owner, err := (d.share s.val).err, nonce := Config.entropy d.freeCtr % 2 ^ 128 })) ∧
  (∀ (a : Agent) (rcd : List Byte) (f : FnId), Completes (.pdecPush a rcd) (fun _ => a = .fn f)
      (fun d => d.updMpc fun m => m.push { fn := f.val, job := none, rcd := bytesAt rcd 0 64 })) ∧
  (∀ (q : PdecReq) (rest : List PdecReq), Completes (.pdecRequestStart)
      (fun d => d.sec.mpc.run = none ∧ d.sec.mpc.queue = q :: rest ∧ d.pdecWaits q = false)
      (fun d => match (d.updMpc fun m => { m with queue := rest ++ m.held.take 1, held := m.held.drop 1 }).pdecCheck q
        with
        | (e, .ok r) => (e.updShare r.slot fun x => { x with budget := x.budget - 1 }).updMpc fun m =>
        { m with run := some r }
        | (e, .error (code, detail)) => e.pdecFail q code detail 0)) ∧
  (∀ (r : PdecRun) (e : Dev) (k : Nat), Completes (.pdecDone) (fun d => d.sec.mpc.run = some r ∧
        (r.limbs.any fun a => d.mem.resetting a (2 ^ (d.share r.slot).logN * 9 / 2)) = false ∧
        (({ d with freeCtr := d.freeCtr + 2 ^ (d.share r.slot).logN } : Dev).updMpc fun m => { m with run := none }).pdecLimbs
        r (d.share r.slot) (floodNoise d.freeCtr (numAt r.req.rcd 1 1)) 0 (r.limbs.zip r.primes) = (e, k, none))
      (fun _ => (
          let at1 := numAt r.req.rcd 0x18 8;
          let p := (e.mem.partFor (e.grantParts r.req.fn) at1 64).getD 0;
          let w := e.hbmWrite p none at1 (shareDescriptor r.desc (Config.shareLimbList e.freeCtr % 2 ^ 64));
          let w := ({ w with freeCtr := w.freeCtr + 1 } : Dev).updMpc fun m => { m with cnt := satAdd 64 m.cnt 1 };
          (((w.pdecDone r.req 0 k).msix r.req.fn 17)).budgetWipe r.slot)))

/-- Every command of the configuration record, of the updater, of the card and of the images under trial completes
(R526, R529, R531, R535, R536, R538, R539, R541). Each clause names a command and the condition on the device that it
finds; where the condition holds, exec answers a next state, with the device that the clause gives once the effects
that follow every command are in. -/
def Obligations.UpdateCommandsComplete : Prop :=
  (∀ (a : Agent) (v : BitVec 64) (persist norOk : Bool), Completes (.cfgCmdPowerLimit a v persist norOk)
      (fun d => d.expert a = true ∧ keyRange 1 v.toNat = true ∧ persist = true ∧ norOk = true ∧ d.upd.state = 0 ∧
        (d.nor.marks 0x20).trial = false) (fun d => (
          let e : Dev := { ({ d with
                    cfg := { d.cfg with key := 1, persist := true, value := v.toNat, result := 0, dirty := true } } :
                Dev) with
                pwr := d.pwr.setLimit v.toNat };
          let r := sealRecord (recordWith d.cfg.record (1) v.toNat);
          let dest := 1 - d.cfg.slot;
          let k := d.nor.marks 0x20;
          let z := SlotInfo.record (recVersion r);
          { e with
                nor := (d.nor.setCfgSlot dest r).setMarks 0x20 {
                    (if dest = 0 then { k with slotA := z } else { k with slotB := z }) with
                      active := dest, trial := false, tried := false },
                cfg := { e.cfg with record := r, slot := dest } }))) ∧
  (∀ (a : Agent) (v : BitVec 64) (persist norOk : Bool), Completes (.cfgCmdPowerLimit a v persist norOk)
      (fun d => d.expert a = true ∧ keyRange 1 v.toNat = true ∧ persist = false) (fun d =>
        { ({ d with cfg := { d.cfg with key := 1, persist := false, value := v.toNat, result := 0, dirty := true } } :
            Dev) with
            pwr := d.pwr.setLimit v.toNat })) ∧
  (∀ (a : Agent) (v : BitVec 64) (persist norOk : Bool), Completes (.cfgCmdIdleUs a v persist norOk)
      (fun d => d.expert a = true ∧ keyRange 2 v.toNat = true ∧ persist = true ∧ norOk = true ∧ d.upd.state = 0 ∧
        (d.nor.marks 0x20).trial = false) (fun d => (
          let e : Dev := { ({ d with
                    cfg := { d.cfg with key := 2, persist := true, value := v.toNat, result := 0, dirty := true } } :
                Dev) with
                pwr := { d.pwr with idleUs := v.toNat } };
          let r := sealRecord (recordWith d.cfg.record (2) v.toNat);
          let dest := 1 - d.cfg.slot;
          let k := d.nor.marks 0x20;
          let z := SlotInfo.record (recVersion r);
          { e with
                nor := (d.nor.setCfgSlot dest r).setMarks 0x20 {
                    (if dest = 0 then { k with slotA := z } else { k with slotB := z }) with
                      active := dest, trial := false, tried := false },
                cfg := { e.cfg with record := r, slot := dest } }))) ∧
  (∀ (a : Agent) (v : BitVec 64) (persist norOk : Bool), Completes (.cfgCmdIdleUs a v persist norOk)
      (fun d => d.expert a = true ∧ keyRange 2 v.toNat = true ∧ persist = false) (fun d =>
        { ({ d with cfg := { d.cfg with key := 2, persist := false, value := v.toNat, result := 0, dirty := true } } :
            Dev) with
            pwr := { d.pwr with idleUs := v.toNat } })) ∧
  (∀ (a : Agent) (v : BitVec 64) (persist norOk : Bool), Completes (.cfgCmdDuskEn a v persist norOk)
      (fun d => d.expert a = true ∧ keyRange 3 v.toNat = true ∧ persist = true ∧ norOk = true ∧ d.upd.state = 0 ∧
        (d.nor.marks 0x20).trial = false) (fun d => (
          let e : Dev := { ({ d with
                    cfg := { d.cfg with key := 3, persist := true, value := v.toNat, result := 0, dirty := true } } :
                Dev) with
                pwr := { d.pwr with duskEn := decide (v.toNat = 1) } };
          let r := sealRecord (recordWith d.cfg.record (3) v.toNat);
          let dest := 1 - d.cfg.slot;
          let k := d.nor.marks 0x20;
          let z := SlotInfo.record (recVersion r);
          { e with
                nor := (d.nor.setCfgSlot dest r).setMarks 0x20 {
                    (if dest = 0 then { k with slotA := z } else { k with slotB := z }) with
                      active := dest, trial := false, tried := false },
                cfg := { e.cfg with record := r, slot := dest } }))) ∧
  (∀ (a : Agent) (v : BitVec 64) (persist norOk : Bool), Completes (.cfgCmdDuskEn a v persist norOk)
      (fun d => d.expert a = true ∧ keyRange 3 v.toNat = true ∧ persist = false) (fun d =>
        { ({ d with cfg := { d.cfg with key := 3, persist := false, value := v.toNat, result := 0, dirty := true } } :
            Dev) with
            pwr := { d.pwr with duskEn := decide (v.toNat = 1) } })) ∧
  (∀ (a : Agent) (v : BitVec 64) (persist norOk : Bool), Completes (.cfgCmdClusterFreq a v persist norOk)
      (fun d => d.expert a = true ∧ keyRange 4 v.toNat = true ∧ persist = true ∧ norOk = true ∧ d.upd.state = 0 ∧
        (d.nor.marks 0x20).trial = false) (fun d => (
          let e : Dev := ({ ({ d with
                      cfg := { d.cfg with key := 4, persist := true, value := v.toNat, result := 0, dirty := true } }
                  : Dev) with
                  pwr := { d.pwr with freqCfg := v.toNat, freqReq := (List.range 16).map fun c => (c, v.toNat) } } :
              Dev).retune;
          let r := sealRecord (recordWith d.cfg.record (4) v.toNat);
          let dest := 1 - d.cfg.slot;
          let k := d.nor.marks 0x20;
          let z := SlotInfo.record (recVersion r);
          { e with
                nor := (d.nor.setCfgSlot dest r).setMarks 0x20 {
                    (if dest = 0 then { k with slotA := z } else { k with slotB := z }) with
                      active := dest, trial := false, tried := false },
                cfg := { e.cfg with record := r, slot := dest } }))) ∧
  (∀ (a : Agent) (v : BitVec 64) (persist norOk : Bool), Completes (.cfgCmdClusterFreq a v persist norOk)
      (fun d => d.expert a = true ∧ keyRange 4 v.toNat = true ∧ persist = false) (fun d =>
        ({ ({ d with cfg := { d.cfg with key := 4, persist := false, value := v.toNat, result := 0, dirty := true } }
              : Dev) with
              pwr := { d.pwr with freqCfg := v.toNat, freqReq := (List.range 16).map fun c => (c, v.toNat) } } : Dev).retune)) ∧
  (∀ (a : Agent) (v : BitVec 64) (persist norOk : Bool), Completes (.cfgCmdSendLimit a v persist norOk)
      (fun d => d.expert a = true ∧ keyRange 5 v.toNat = true ∧ persist = true ∧ norOk = true ∧ d.upd.state = 0 ∧
        (d.nor.marks 0x20).trial = false) (fun d => (
          let e : Dev := { ({ d with
                    cfg := { d.cfg with key := 5, persist := true, value := v.toNat, result := 0, dirty := true } } :
                Dev) with
                lane := { d.lane with sendLimit := v.toNat } };
          let r := sealRecord (recordWith d.cfg.record (5) v.toNat);
          let dest := 1 - d.cfg.slot;
          let k := d.nor.marks 0x20;
          let z := SlotInfo.record (recVersion r);
          { e with
                nor := (d.nor.setCfgSlot dest r).setMarks 0x20 {
                    (if dest = 0 then { k with slotA := z } else { k with slotB := z }) with
                      active := dest, trial := false, tried := false },
                cfg := { e.cfg with record := r, slot := dest } }))) ∧
  (∀ (a : Agent) (v : BitVec 64) (persist norOk : Bool), Completes (.cfgCmdSendLimit a v persist norOk)
      (fun d => d.expert a = true ∧ keyRange 5 v.toNat = true ∧ persist = false) (fun d =>
        { ({ d with cfg := { d.cfg with key := 5, persist := false, value := v.toNat, result := 0, dirty := true } } :
            Dev) with
            lane := { d.lane with sendLimit := v.toNat } })) ∧
  (∀ (a : Agent) (v : BitVec 64) (persist norOk : Bool), Completes (.cfgCmdPeerWait a v persist norOk)
      (fun d => d.expert a = true ∧ keyRange 6 v.toNat = true ∧ persist = true ∧ norOk = true ∧ d.upd.state = 0 ∧
        (d.nor.marks 0x20).trial = false) (fun d => (
          let e : Dev := { ({ d with
                    cfg := { d.cfg with key := 6, persist := true, value := v.toNat, result := 0, dirty := true } } :
                Dev) with
                lane := { d.lane with peerWait := v.toNat } };
          let r := sealRecord (recordWith d.cfg.record (6) v.toNat);
          let dest := 1 - d.cfg.slot;
          let k := d.nor.marks 0x20;
          let z := SlotInfo.record (recVersion r);
          { e with
                nor := (d.nor.setCfgSlot dest r).setMarks 0x20 {
                    (if dest = 0 then { k with slotA := z } else { k with slotB := z }) with
                      active := dest, trial := false, tried := false },
                cfg := { e.cfg with record := r, slot := dest } }))) ∧
  (∀ (a : Agent) (v : BitVec 64) (persist norOk : Bool), Completes (.cfgCmdPeerWait a v persist norOk)
      (fun d => d.expert a = true ∧ keyRange 6 v.toNat = true ∧ persist = false) (fun d =>
        { ({ d with cfg := { d.cfg with key := 6, persist := false, value := v.toNat, result := 0, dirty := true } } :
            Dev) with
            lane := { d.lane with peerWait := v.toNat } })) ∧
  (∀ (a : Agent) (v : BitVec 64) (persist norOk : Bool), Completes (.cfgCmdRetry a v persist norOk)
      (fun d => d.expert a = true ∧ keyRange 7 v.toNat = true ∧ persist = true ∧ norOk = true ∧ d.upd.state = 0 ∧
        (d.nor.marks 0x20).trial = false) (fun d => (
          let e : Dev := { ({ d with
                    cfg := { d.cfg with key := 7, persist := true, value := v.toNat, result := 0, dirty := true } } :
                Dev) with
                lane := { d.lane with retry := v.toNat } };
          let r := sealRecord (recordWith d.cfg.record (7) v.toNat);
          let dest := 1 - d.cfg.slot;
          let k := d.nor.marks 0x20;
          let z := SlotInfo.record (recVersion r);
          { e with
                nor := (d.nor.setCfgSlot dest r).setMarks 0x20 {
                    (if dest = 0 then { k with slotA := z } else { k with slotB := z }) with
                      active := dest, trial := false, tried := false },
                cfg := { e.cfg with record := r, slot := dest } }))) ∧
  (∀ (a : Agent) (v : BitVec 64) (persist norOk : Bool), Completes (.cfgCmdRetry a v persist norOk)
      (fun d => d.expert a = true ∧ keyRange 7 v.toNat = true ∧ persist = false) (fun d =>
        { ({ d with cfg := { d.cfg with key := 7, persist := false, value := v.toNat, result := 0, dirty := true } } :
            Dev) with
            lane := { d.lane with retry := v.toNat } })) ∧
  (∀ (a : Agent) (v : BitVec 64) (persist norOk : Bool), Completes (.cfgCmdLostWait a v persist norOk)
      (fun d => d.expert a = true ∧ keyRange 8 v.toNat = true ∧ persist = true ∧ norOk = true ∧ d.upd.state = 0 ∧
        (d.nor.marks 0x20).trial = false) (fun d => (
          let e : Dev := { ({ d with
                    cfg := { d.cfg with key := 8, persist := true, value := v.toNat, result := 0, dirty := true } } :
                Dev) with
                pdd := { d.pdd with lostWait := v.toNat } };
          let r := sealRecord (recordWith d.cfg.record (8) v.toNat);
          let dest := 1 - d.cfg.slot;
          let k := d.nor.marks 0x20;
          let z := SlotInfo.record (recVersion r);
          { e with
                nor := (d.nor.setCfgSlot dest r).setMarks 0x20 {
                    (if dest = 0 then { k with slotA := z } else { k with slotB := z }) with
                      active := dest, trial := false, tried := false },
                cfg := { e.cfg with record := r, slot := dest } }))) ∧
  (∀ (a : Agent) (v : BitVec 64) (persist norOk : Bool), Completes (.cfgCmdLostWait a v persist norOk)
      (fun d => d.expert a = true ∧ keyRange 8 v.toNat = true ∧ persist = false) (fun d =>
        { ({ d with cfg := { d.cfg with key := 8, persist := false, value := v.toNat, result := 0, dirty := true } } :
            Dev) with
            pdd := { d.pdd with lostWait := v.toNat } })) ∧
  (∀ (a : Agent) (v : BitVec 64) (persist norOk : Bool), Completes (.cfgCmdFeedOverride a v persist norOk)
      (fun d => d.expert a = true ∧ keyRange 9 v.toNat = true ∧ persist = true ∧ norOk = true ∧ d.upd.state = 0 ∧
        (d.nor.marks 0x20).trial = false) (fun d => (
          let e : Dev := { ({ d with
                    cfg := { d.cfg with key := 9, persist := true, value := v.toNat, result := 0, dirty := true } } :
                Dev) with
                pdd := { d.pdd with override' := decide (v.toNat = 1) } };
          let r := sealRecord (recordWith d.cfg.record (9) v.toNat);
          let dest := 1 - d.cfg.slot;
          let k := d.nor.marks 0x20;
          let z := SlotInfo.record (recVersion r);
          { e with
                nor := (d.nor.setCfgSlot dest r).setMarks 0x20 {
                    (if dest = 0 then { k with slotA := z } else { k with slotB := z }) with
                      active := dest, trial := false, tried := false },
                cfg := { e.cfg with record := r, slot := dest } }))) ∧
  (∀ (a : Agent) (v : BitVec 64) (persist norOk : Bool), Completes (.cfgCmdFeedOverride a v persist norOk)
      (fun d => d.expert a = true ∧ keyRange 9 v.toNat = true ∧ persist = false) (fun d =>
        { ({ d with cfg := { d.cfg with key := 9, persist := false, value := v.toNat, result := 0, dirty := true } } :
            Dev) with
            pdd := { d.pdd with override' := decide (v.toNat = 1) } })) ∧
  (∀ (a : Agent) (p : PartId) (v : BitVec 64) (persist norOk : Bool), Completes (.cfgCmdRegulator a p v persist norOk)
      (fun d => d.expert a = true ∧ keyRange (0x40 + p.val) v.toNat = true ∧ persist = true ∧ norOk = true ∧
        d.upd.state = 0 ∧ (d.nor.marks 0x20).trial = false) (fun d => (
          let e : Dev := ({ d with
                  cfg := { d.cfg with
                        key := 0x40 + p.val, persist := true, value := v.toNat, result := 0, dirty := true } } : Dev).updMem
            fun m => m.updPart p.val fun q => { q with
                newRate := some (fld v.toNat 0 13, fld v.toNat 32 11, bit v.toNat 16) };
          let r := sealRecord (recordWith d.cfg.record (0x40 + p.val) v.toNat);
          let dest := 1 - d.cfg.slot;
          let k := d.nor.marks 0x20;
          let z := SlotInfo.record (recVersion r);
          { e with
                nor := (d.nor.setCfgSlot dest r).setMarks 0x20 {
                    (if dest = 0 then { k with slotA := z } else { k with slotB := z }) with
                      active := dest, trial := false, tried := false },
                cfg := { e.cfg with record := r, slot := dest } }))) ∧
  (∀ (a : Agent) (p : PartId) (v : BitVec 64) (persist norOk : Bool), Completes (.cfgCmdRegulator a p v persist norOk)
      (fun d => d.expert a = true ∧ keyRange (0x40 + p.val) v.toNat = true ∧ persist = false)
      (fun d => ({ d with
              cfg := { d.cfg with
                    key := 0x40 + p.val, persist := false, value := v.toNat, result := 0, dirty := true } } : Dev).updMem
        fun m => m.updPart p.val fun q => { q with
            newRate := some (fld v.toNat 0 13, fld v.toNat 32 11, bit v.toNat 16) })) ∧
  (∀ (a : Agent), Completes (.updApply a) (fun d => d.expert a = true ∧ d.upd.state = 0)
      (fun d => d.loadPackage false)) ∧
  (∀ (a : Agent), Completes (.updApply a) (fun d => d.expert a = true ∧ d.upd.state ≠ 0)
      (fun d => { d with upd := { d.upd with result := 2 } })) ∧
  (∀ (a : Agent), Completes (.updResetNow a) (fun d => d.expert a = true ∧ d.upd.resetNeeded = true)
      (fun d => d.requestReset 0x0A)) ∧
  (∀ (st : List PkgEntry), Completes (.updateStepConfirm) (fun d => d.upd.state = 4 ∧ d.upd.plan = [st] ∧
        (st.all fun e => d.upd.allConfirmed e.comp) = true) (fun d => (
          let e := (st.foldl (fun (x : Dev) (e : PkgEntry) => x.noteSvn e.comp)
              { d with nor := st.foldl (fun (n : Nor) (e : PkgEntry) => n.confirmComp e.comp) d.nor }).msix 0 23;
          { e with
                nor := { e.nor with pkgId := e.upd.pkgId, pkgDigest := e.upd.pkgDigest },
                upd := { e.upd with state := 0, result := 1, plan := [], confirmed := [] } }))) ∧
  (∀ (st next : List PkgEntry) (t : List (List PkgEntry)), Completes (.updateStepConfirm)
      (fun d => d.upd.state = 4 ∧ d.upd.plan = st :: next :: t ∧ (st.all fun e => d.upd.allConfirmed e.comp) = true)
      (fun d => (
          let e := (st.foldl (fun (x : Dev) (e : PkgEntry) => x.noteSvn e.comp)
              { d with nor := st.foldl (fun (n : Nor) (e : PkgEntry) => n.confirmComp e.comp) d.nor }).msix 0 23;
          { e with
                upd := { e.upd with
                      state := 3, plan := next :: t, step := e.upd.step + 1, written := [], confirmed := [],
                      component := (next.map PkgEntry.comp).headD 0 } }))) ∧
  (∀ (st : List PkgEntry) (t : List (List PkgEntry)), Completes (.updateWindowMiss)
      (fun d => d.upd.state = 4 ∧ d.upd.plan = st :: t) (fun d => (st.foldl (fun x e => (
              ({ x with nor := x.nor.setMarks e.comp (x.nor.marks e.comp).fallback }).measure e.comp
              (x.nor.marks e.comp).fallback.active).updFault 0x0903 (healthFault e.comp (x.nor.marks e.comp)).detail)
          d).endUpdate 8 none)) ∧
  (Completes (.updateDeviceReset) (fun d => d.upd.resetNeeded = true ∧ d.jobs = []) (fun d => d.requestReset 0x0A)) ∧
  (∀ (p : Option Package), Completes (.cardInsert p)
      (fun d => d.hw.card = none ∧ d.rst.lodestar = true ∧ d.upd.state = 0)
      (fun d => ({ d with hw := { d.hw with card := some p } } : Dev).loadPackage true)) ∧
  (∀ (p : Option Package), Completes (.cardInsert p) (fun d => d.hw.card = none ∧
        (d.rst.lodestar = false ∨ d.upd.state ≠ 0)) (fun d => { d with hw := { d.hw with card := some p } })) ∧
  (Completes (.cardRemove) (fun d => d.upd.state ≠ 1 ∧ d.upd.state ≠ 2 ∧ d.upd.state ≠ 3)
      (fun d => { d with hw := { d.hw with card := none } })) ∧
  (∀ (st : List PkgEntry) (t : List (List PkgEntry)), Completes (.cardRemove)
      (fun d => d.upd.state = 3 ∧ d.upd.plan = st :: t) (fun d => (
          ({ d with hw := { d.hw with card := none } } : Dev).updFault 0x090F 0).endUpdate 6
        (st.drop d.upd.written.length).head?)) ∧
  (∀ (res : Nat) (st rest : List PkgEntry) (t : List (List PkgEntry)) (e : PkgEntry), Completes
      (.updateImageWritten res) (fun d => d.upd.state = 3 ∧ d.upd.plan = st :: t ∧ st.drop d.upd.written.length = e ::
        rest ∧ res ≠ 0) (fun d => (d.updFault 0x090F (if res = 1 then 0 else 1)).endUpdate 6 (some e))) ∧
  (∀ (res : Nat) (st : List PkgEntry) (e n : PkgEntry) (rest : List PkgEntry) (t : List (List PkgEntry)), Completes
      (.updateImageWritten res) (fun d => d.upd.state = 3 ∧ d.upd.plan = st :: t ∧ st.drop d.upd.written.length = e ::
        n :: rest ∧ res = 0 ∧ d.fuses.imageFail e.comp e.image.signer e.image.svn e.image.authFail = 0)
      (fun d => { d with
            nor := d.nor.writeImage e, upd := { d.upd with written := d.upd.written ++ [e], component := n.comp } })) ∧
  (∀ (res : Nat) (st : List PkgEntry) (e : PkgEntry) (t : List (List PkgEntry)), Completes (.updateImageWritten res)
      (fun d => d.upd.state = 3 ∧ d.upd.plan = st :: t ∧ st.drop d.upd.written.length = [e] ∧ res = 0 ∧
        d.fuses.imageFail e.comp e.image.signer e.image.svn e.image.authFail = 0 ∧ d.upd.offline = false ∧
        (st.all fun e => decide (4 ≤ e.comp ∧ e.comp ≤ 8)) = false) (fun d => ({ d with
              nor := (d.upd.written ++ [e]).foldl (Nor.markTrial false) (d.nor.writeImage e),
              upd := { d.upd with state := 5, written := [], resetNeeded := true } } : Dev).msix 0 23))

/-- Every command of the boot, of kernel loading, of attestation and of the reservation log completes (R423, R427 to
R429, R431, R433, R434, R436, R443). Each clause names a command and the condition on the device that it finds; where
the condition holds, exec answers a next state, with the device that the clause gives once the effects that follow
every command are in. -/
def Obligations.SecurityCommandsComplete : Prop :=
  (∀ (g : CoreId) (v : BitVec 64) (a : Agent) (w : Nat), Completes (.kloadGo g v a) (fun d => w = withBit v.toNat 0
        true ∧ bit w 3 = false ∧ bit w 0 = true ∧ fld w 1 1 ≠ (d.core g.val).active ∧ (d.core g.val).load = none ∧
        (d.core g.val).forceWait = none ∧ 0 < fld w 32 12 ∧ fld w 32 12 ≤ 2048 ∧
        (d.mem.partFor (d.agentParts a) (d.core g.val).kloadAddr (64 * fld w 32 12)).isNone = false)
      (fun d => (d.updCore g.val fun c => { c with kloadLen := fld w 32 12, kloadBank := fld w 1 1 }).updCore g.val
        fun c => c.beginLoad ({
              bank := fld w 1 1, addr := (d.core g.val).kloadAddr, bytes := 64 * fld w 32 12, force := false,
              fn := (d.agentFn a).getD 0, registry := d.sec.registry } : KLoad))) ∧
  (∀ (g : CoreId) (v : BitVec 64) (a : Agent) (w : Nat), Completes (.kloadGo g v a) (fun d => w = withBit v.toNat 0
        true ∧ bit w 3 = false ∧ bit w 0 = true ∧ fld w 1 1 = (d.core g.val).active ∧ (d.core g.val).load = none ∧
        (d.core g.val).forceWait = none) (fun d => ((d.updCore g.val fun c =>
            { c with kloadLen := fld w 32 12, kloadBank := fld w 1 1 }).updCore g.val fun c => { c with loadErr := 1 }).fnFault
        ((d.agentFn a).getD 0) (plainFault 0x0402 0 (coreLoc g.val) 0))) ∧
  (∀ (g : CoreId) (v : BitVec 64) (a : Agent) (w : Nat), Completes (.kloadForce g v a) (fun d => w = withBit
        (withBit v.toNat 0 true) 3 true ∧ bit w 3 = true ∧ bit w 0 = true ∧ d.expert a = true ∧ fld w 1 1 =
        (d.core g.val).active ∧ (d.core g.val).seq.running = none ∧ (d.core g.val).load = none ∧
        (d.core g.val).forceWait = none ∧ 0 < fld w 32 12 ∧ fld w 32 12 ≤ 2048 ∧
        (d.mem.partFor (d.agentParts a) (d.core g.val).kloadAddr (64 * fld w 32 12)).isNone = false)
      (fun d => (d.updCore g.val fun c => { c with kloadLen := fld w 32 12, kloadBank := fld w 1 1 }).updCore g.val
        fun c => c.beginLoad ({
              bank := fld w 1 1, addr := (d.core g.val).kloadAddr, bytes := 64 * fld w 32 12, force := true,
              fn := (d.agentFn a).getD 0, registry := d.sec.registry } : KLoad))) ∧
  (∀ (g : CoreId) (v : BitVec 64) (a : Agent) (w : Nat), Completes (.kloadForce g v a) (fun d => w = withBit
        (withBit v.toNat 0 true) 3 true ∧ bit w 3 = true ∧ bit w 0 = true ∧ d.expert a = true ∧ fld w 1 1 =
        (d.core g.val).active ∧ (d.core g.val).seq.running ≠ none ∧ (d.core g.val).load = none ∧
        (d.core g.val).forceWait = none ∧ 0 < fld w 32 12 ∧ fld w 32 12 ≤ 2048 ∧
        (d.mem.partFor (d.agentParts a) (d.core g.val).kloadAddr (64 * fld w 32 12)).isNone = false)
      (fun d => (d.updCore g.val fun c => { c with kloadLen := fld w 32 12, kloadBank := fld w 1 1 }).updCore g.val
        fun c => { c with
            forceWait := some ({
                    bank := fld w 1 1, addr := (d.core g.val).kloadAddr, bytes := 64 * fld w 32 12, force := true,
                    fn := (d.agentFn a).getD 0, registry := d.sec.registry } : KLoad) })) ∧
  (∀ (g : CoreId) (l : KLoad) (e : Dev) (b : List Byte) (r : RegEntry), Completes (.kloadDone g)
      (fun d => (d.core g.val).load = some l ∧ d.mem.resetting l.addr l.bytes = false ∧ (
          (d.updMem fun m => m.updPart ((d.mem.partAt l.addr).getD 0) fun q => q.charge l.bytes).hbmRead l.addr
          l.bytes) = (e, .ok b) ∧ l.registry.find? (fun x => decide (x.kid = Config.packageKid b % 65536)) = some r ∧
        r.bytes.length ≤ l.bytes ∧ beNat (sha256 (b.take r.bytes.length)) = r.digest) (fun _ => e.updCore g.val fun c
        => { c with
            load := none,
            banks := Tab.set c.banks l.bank {
                  state := 2, kid := Config.packageKid b % 65536,
                  code := (List.range (cdiv r.bytes.length 64)).map fun i => numAt (b.take r.bytes.length) (64 * i) 64 } })) ∧
  (∀ (g : CoreId) (l : KLoad) (e : Dev) (b : List Byte), Completes (.kloadDone g) (fun d => (d.core g.val).load = some
        l ∧ d.mem.resetting l.addr l.bytes = false ∧ ((d.updMem fun m => m.updPart ((d.mem.partAt l.addr).getD 0) fun
            q => q.charge l.bytes).hbmRead l.addr l.bytes) = (e, .ok b) ∧ l.registry.find?
        (fun x => decide (x.kid = Config.packageKid b % 65536)) = none) (fun _ => e.updCore g.val fun c =>
        { c with load := none, loadErr := 3, banks := Tab.set c.banks l.bank { state := 0, kid := 0, code := [] } })) ∧
  (Completes (.getVersion) (fun d => 3 ≤ d.sec.stage ∧ d.rst.pcie = 1) (fun d => Dev.msix
        ((d.updSec fun x => { x with spdm := 1 }).emit (.response 0x04 (leBytes 2 0x1200))) 0 18)) ∧
  (Completes (.getCapabilities) (fun d => 3 ≤ d.sec.stage ∧ d.rst.pcie = 1 ∧ 1 ≤ d.sec.spdm)
      (fun d => Dev.msix ((d.updSec fun x => { x with spdm := max 2 x.spdm }).emit
          (.response 0x61 (leBytes 4 (2 ^ 2 + 2 * 2 ^ 3 + 2 ^ 6 + 2 ^ 7 + 2 ^ 9 + 2 ^ 17 + 2 ^ 18)))) 0 18)) ∧
  (∀ (ok : Bool), Completes (.negotiateAlgorithms ok) (fun d => 3 ≤ d.sec.stage ∧ d.rst.pcie = 1 ∧ 2 ≤ d.sec.spdm ∧ ok
        = true) (fun d => Dev.msix ((d.updSec fun x => { x with spdm := 3 }).emit
          (.response 0x63 ((List.range 36).map fun i => Config.spdmByte 0x63 i))) 0 18)) ∧
  (∀ (slot hash : Nat), Completes (.keyExchange slot hash) (fun d => 3 ≤ d.sec.stage ∧ d.rst.pcie = 1 ∧ d.rst.lodestar
        = false ∧ 3 ≤ d.sec.spdm ∧ d.sec.spdmKey.isNone = false ∧ slot = 0xFF ∧ d.sec.sessions.length < 4)
      (fun d => Dev.msix ((
            let p := (drawPair d.draw.1).2;
            let q := d.draw.2.spdmSign hash;
            (q.1.updSec fun x => { x with
                    sessions := x.sessions ++ [{ sid := d.sec.nextSid, established := false }],
                    nextSid := d.sec.nextSid % 65535 + 1 }).emit (.response 0x64
                (leBytes 2 d.sec.nextSid ++ beBytes 48 p.1 ++ beBytes 48 p.2 ++ q.2)))) 0 18)) ∧
  (∀ (sid : Nat) (ok : Bool), Completes (.finish sid ok) (fun d => 3 ≤ d.sec.stage ∧ d.rst.pcie = 1 ∧
        (d.sec.sessions.any fun s => decide (s.sid = sid) && !s.established) = true ∧ ok = true)
      (fun d => Dev.msix ((d.updSec fun x => { x with
                sessions := x.sessions.map fun s => if s.sid = sid then { s with established := true } else s }).emit
          (.response 0x65 [])) 0 18)) ∧
  (∀ (sid hash : Nat), Completes (.getMeasurements sid hash)
      (fun d => 3 ≤ d.sec.stage ∧ d.rst.pcie = 1 ∧ d.sec.session sid = true)
      (fun d => Dev.msix ((let q := d.spdmSign hash; q.1.emit (.response 0x60 (q.1.measBytes ++ q.2)))) 0 18)) ∧
  (∀ (nonce : List Byte), Completes (.getReport nonce) (fun d => 3 ≤ d.sec.stage ∧ d.rst.pcie = 1 ∧ d.exhausted =
        false ∧ (d.sec.reports.filter fun t => decide (d.aon0 < t + 25_000_000)).length < 100 ∧ d.sec.logErr = false ∧
        d.sec.nextIndex < 1024 * d.nor.logBlocks) (fun d => Dev.msix ((d.updSec fun x => { x with
                nextIndex := d.sec.nextIndex + 1,
                reports := d.sec.reports.filter (fun t => decide (d.aon0 < t + 25_000_000)) ++ [d.aon0] }).emit
          (.response 0x01 (d.reportBody nonce ++ (List.range 3604).map fun i => Config.idSignature d.fuses.uds
              d.sec.nextIndex (d.reportBody nonce) i))) 0 18)) ∧
  (∀ (off len : Nat), Completes (.getDeviceCert off len) (fun d => 3 ≤ d.sec.stage ∧ d.rst.pcie = 1)
      (fun d => Dev.msix (d.emit (.response 0x02 ((List.range (min len (Config.certLength - off))).map fun i =>
              Config.certByte (off + i)))) 0 18)) ∧
  (∀ (given : List (Nat × Nat)) (loader fw : Option Image) (e : Dev) (s : Nat), Completes (.bootStage given loader fw)
      (fun d => d.rst.hold = false ∧ d.rst.romHalt = false ∧ d.rst.strapDone = true ∧ d.sec.stage = 1 ∧
        (d.updSec fun x => { x with
              meas := Tab.set x.meas 1 {
                    comp := 0, svn := 0, slot := 0, version := 0, digest := Config.romDigest % 2 ^ 384 } }).bootComp
        given 1 = (e, some s)) (fun _ => e.updSec fun x => { x with stage := 2 })) ∧
  (∀ (given : List (Nat × Nat)) (loader fw : Option Image) (e : Dev) (s : Nat), Completes (.bootStage given loader fw)
      (fun d => d.rst.hold = false ∧ d.rst.romHalt = false ∧ d.rst.strapDone = true ∧ d.sec.stage = 2 ∧
        d.rst.steps.contains 3 = true ∧ d.bootComp given 2 = (e, some s)) (fun _ =>
        ({ e with nor := { e.nor with startCount := (e.nor.startCount + 1) % 2 ^ 32 } } : Dev).updSec fun x =>
        { x with
            stage := 3,
            keySlot := e.fuses.keySlot (if s = 0 then (e.nor.marks 2).slotA else (e.nor.marks 2).slotB).signer })) ∧
  (∀ (given : List (Nat × Nat)) (loader fw : Option Image), Completes (.bootStage given loader fw)
      (fun d => d.rst.hold = false ∧ d.rst.romHalt = false ∧ d.rst.strapDone = true ∧ d.sec.stage = 3 ∧
        d.rst.steps.contains 4 = true ∧ d.rst.lodestar = false) (fun d => (
          let e := ([3, 6, 7, 8, 4, 5].foldl (fun (x : Dev) c => (x.bootComp given c).1) d).drawKeys.burnSvn given;
          let e := if 2 ^ 40 ≤ e.sec.nextIndex then { e with bootLog := e.bootLog ++ [plainFault 0x0702 0 secLoc 0] }
            else e;
          e.updSec fun x => { x with stage := 4 }))) ∧
  (∀ (v : BitVec 64) (a : Agent) (r : RegEntry), Completes (.secKcopyGo v a) (fun d => bit v.toNat 0 = true ∧
        d.sec.kcopy = none ∧ d.sec.registry.find? (fun e => decide (e.kid = fld v.toNat 32 16)) = some r ∧
        (d.mem.partFor (d.agentParts a) d.sec.kcopyDst (max 1 r.bytes.length)).isNone = false)
      (fun d => (d.updSec fun x => { x with kcopyKid := fld v.toNat 32 16 }).updSec fun x =>
        { x with kcopy := some { kid := fld v.toNat 32 16, dst := d.sec.kcopyDst, parts := d.agentParts a } })) ∧
  (∀ (v : BitVec 64) (a : Agent), Completes (.secKcopyGo v a) (fun d => bit v.toNat 0 = true ∧ d.sec.kcopy = none ∧
        d.sec.registry.find? (fun e => decide (e.kid = fld v.toNat 32 16)) = none)
      (fun d => (d.updSec fun x => { x with kcopyKid := fld v.toNat 32 16 }).updSec fun x => { x with kcopyRes := 1 })) ∧
  (∀ (k : KCopy) (r : RegEntry) (p : Nat), Completes (.kcopyDone) (fun d => d.sec.kcopy = some k ∧
        d.sec.registry.find? (fun e => decide (e.kid = k.kid)) = some r ∧ d.mem.partFor k.parts k.dst
        (max 1 r.bytes.length) = some p) (fun d => (d.hbmWrite p none k.dst r.bytes).updSec fun x =>
        { x with kcopy := none, kcopyLen := r.bytes.length, kcopyRes := 0 })) ∧
  (∀ (ok : Bool), Completes (.reservationLogWrite ok) (fun d => 3 ≤ d.sec.stage ∧ 1024 * d.nor.logBlocks -
        d.sec.nextIndex ≤ 256 ∧ d.nor.logBlocks < 2 ^ 30 ∧ ok = true) (fun d =>
        ({ d with nor := { d.nor with logBlocks := d.nor.logBlocks + 1 } } : Dev).updSec fun x =>
        { x with logFails := 0, logErr := false })) ∧
  (∀ (ok : Bool), Completes (.reservationLogWrite ok) (fun d => 3 ≤ d.sec.stage ∧ 1024 * d.nor.logBlocks -
        d.sec.nextIndex ≤ 256 ∧ d.nor.logBlocks < 2 ^ 30 ∧ ok = false) (fun d => d.updSec fun x =>
        { x with logFails := x.logFails + 1, logErr := x.logErr || decide (3 ≤ x.logFails + 1) })) ∧
  (∀ (bits : BitVec 5), Completes (.securityViolation bits) (fun _ => bits.toNat ≠ 0)
      (fun d => ({ d with viol := d.viol ||| bits.toNat } : Dev).requestReset 3))

/-- Every command of the public-key engine completes (R437 to R442). Each clause names a command and the condition on
the device that it finds; where the condition holds, exec answers a next state, with the device that the clause gives
once the effects that follow every command are in. -/
def Obligations.PublicKeyCommandsComplete : Prop :=
  (∀ (rcd : List Byte), Completes (.bneReqPush rcd) (fun d => d.sec.bne.queue.length < 16)
      (fun d => d.updBne fun b => { b with queue := b.queue ++ [bytesAt rcd 0 64] })) ∧
  (∀ (rcd : List Byte), Completes (.bneReqPush rcd) (fun d => 16 ≤ d.sec.bne.queue.length)
      (fun d => d.updBne fun b => { b with overflow := true })) ∧
  (∀ (r : List Byte) (rest : List (List Byte)), Completes (.bneRequestStart) (fun d => d.sec.bne.queue = r :: rest ∧
        d.sec.bne.state = 0 ∧ bnFormFail r = none ∧ [(numAt r 0x08 8,
            ((bnBlocks (numAt r 0 1) (numAt r 2 2)).getD (0, 0)).1), (numAt r 0x10 8,
            ((bnBlocks (numAt r 0 1) (numAt r 2 2)).getD (0, 0)).2), (numAt r 0x18 8, 8)].find?
        (fun p => !(d.updBne fun b => { b with queue := rest }).bnAddrOk p.1 p.2) = none)
      (fun d => (d.updBne fun b => { b with queue := rest }).updBne fun b =>
        { b with state := 1, run := some { rcd := r, operands := [], discard := false } })) ∧
  (∀ (r : List Byte) (rest : List (List Byte)) (off : Nat), Completes (.bneRequestStart)
      (fun d => d.sec.bne.queue = r :: rest ∧ d.sec.bne.state = 0 ∧ bnFormFail r = some off)
      (fun d => (((d.updBne fun b => { b with queue := rest }).bnDone r 0x0708).bnFault 0x0708 off).updBne fun b =>
        { b with reqCnt := satAdd 64 b.reqCnt 1 })) ∧
  (∀ (host : List Byte) (bad : Option Nat) (r : BnReq), Completes (.bneFetchDone host bad)
      (fun d => d.sec.bne.run = some r ∧ d.sec.bne.state = 1 ∧ bit (numAt r.rcd 0x08 8) 63 = true ∧ bad = none)
      (fun d => d.updBne fun b => { b with
            state := 2,
            run := some { r with
                  operands := bytesAt host 0 ((bnBlocks (numAt r.rcd 0 1) (numAt r.rcd 2 2)).getD (0, 0)).1 } })) ∧
  (∀ (host : List Byte) (bad : Option Nat) (r : BnReq) (e : Dev) (b : List Byte), Completes (.bneFetchDone host bad)
      (fun d => d.sec.bne.run = some r ∧ d.sec.bne.state = 1 ∧ bit (numAt r.rcd 0x08 8) 63 = false ∧ d.mem.resetting
        (numAt r.rcd 0x08 8) ((bnBlocks (numAt r.rcd 0 1) (numAt r.rcd 2 2)).getD (0, 0)).1 = false ∧ d.hbmRead
        (numAt r.rcd 0x08 8) ((bnBlocks (numAt r.rcd 0 1) (numAt r.rcd 2 2)).getD (0, 0)).1 = (e, .ok b))
      (fun _ => e.updBne fun x => { x with state := 2, run := some { r with operands := b } })) ∧
  (∀ (mismatch : Bool) (r : BnReq) (o : List Byte), Completes (.bneComputeDone mismatch) (fun d => d.sec.bne.run =
        some r ∧ d.sec.bne.state = 2 ∧ mismatch = false ∧ r.discard = false ∧ bnResult (numAt r.rcd 0 1)
        (numAt r.rcd 2 2) r.operands d.draw.1 = some o) (fun d => (
          (d.draw.2.updBne fun b => { b with state := 4 }).bnWrite (numAt r.rcd 0x10 8) o).bnDone r.rcd 0)) ∧
  (Completes (.bneWipeDone) (fun d => d.sec.bne.state = 4) (fun d => d.updBne fun b =>
        { b with state := 0, run := none, reqCnt := satAdd 64 b.reqCnt 1 }))

/-- Every command of the local stores completes: correction, scrub, narrow views, wipes and the exchange between
stores (R203, R206 to R209, R215 to R217, R225, R226). Each clause names a command and the condition on the device
that it finds; where the condition holds, exec answers a next state, with the device that the clause gives once the
effects that follow every command are in. -/
def Obligations.LocalStoreCommandsComplete : Prop :=
  (∀ (g : CoreId) (row : Nat) (t : List Nat), Completes (.lsCorrectionRewrite g)
      (fun d => (d.core g.val).rewrite = row :: t) (fun d => d.updCore g.val fun x => { x with
            rewrite := t, upset := x.upset.filter (fun p => !(decide (p.1 / 4 = row) && !p.2)),
            scrubCnt := satAdd 64 x.scrubCnt 1 })) ∧
  (∀ (g : CoreId) (up : List Upset), Completes (.lsScrubStep g up) (fun d => (d.core g.val).segState = 0)
      (fun d => d.updCore g.val fun x => x.strike up)) ∧
  (∀ (g : CoreId) (up : List Upset) (row : Nat), Completes (.lsScrubStep g up)
      (fun d => ((d.core g.val).strike up).scrubNext (((d.core g.val).strike up).scrubRow % 65536) = some row)
      (fun d => d.updCore g.val fun c => (
          let c := c.strike up;
          { (c.correct ((List.range 4).map fun k => 4 * row + k)).foundUe ((List.range 4).map fun k => 4 * row + k)
              with
                scrubRow := (row + 1) % 65536,
                ueScrub := c.ueScrub || ((List.range 4).map fun k => 4 * row + k).any fun cw => c.upsetOf cw == some
                  true }))) ∧
  (∀ (g : CoreId) (w : BitVec 22) (a : Agent) (up : List Upset), Completes (.narrowRead g w a up)
      (fun d => (d.updCore g.val fun c => c.strike up).narrowFault g.val w.toNat a = none ∧
        (((d.core g.val).strike up).sideRead [w.toNat]).2 = none) (fun d => ((
            (d.updCore g.val fun c => c.strike up).setCore g.val (((d.core g.val).strike up).sideRead [w.toNat]).1).updMem
          fun m => m.bridge (dieOfCore g.val) (dieOfAgent a) 8).emit (.data
          (leBytes 8 ((((d.core g.val).strike up).sideRead [w.toNat]).1.word w.toNat).toNat)))) ∧
  (∀ (g : CoreId) (w : BitVec 22) (a : Agent) (up : List Upset) (code : Nat), Completes (.narrowRead g w a up)
      (fun d => (d.updCore g.val fun c => c.strike up).narrowFault g.val w.toNat a = some code)
      (fun d => ((d.updCore g.val fun c => c.strike up).narrowRefuse g.val w.toNat a code).emit (.data (leBytes 8 0)))) ∧
  (∀ (g : CoreId) (w : BitVec 22) (v : BitVec 64) (mask : BitVec 8) (a : Agent) (up : List Upset) (x : Core),
      Completes (.narrowWrite g w v mask a up) (fun d => (d.updCore g.val fun c => c.strike up).narrowFault g.val
        w.toNat a = none ∧ ((d.core g.val).strike up).sideWrite [(w.toNat, BitVec.ofNat 36
            (mergeSlot (((d.core g.val).strike up).word w.toNat).toNat v.toNat mask.toNat))] = (x, none))
      (fun d => ((d.updCore g.val fun c => c.strike up).setCore g.val x).updMem fun m => m.bridge (dieOfAgent a)
        (dieOfCore g.val) (bitsOf 8 mask.toNat).length)) ∧
  (∀ (g : CoreId) (w : BitVec 22) (v : BitVec 64) (mask : BitVec 8) (a : Agent) (up : List Upset) (code : Nat),
      Completes (.narrowWrite g w v mask a up) (fun d => (d.updCore g.val fun c => c.strike up).narrowFault g.val
        w.toNat a = some code) (fun d => (d.updCore g.val fun c => c.strike up).narrowRefuse g.val w.toNat a code)) ∧
  (∀ (g : CoreId), Completes (.lsWipeDone g) (fun _ => True) (fun d => d.updCore g.val fun c =>
        { c with wiping := false, segBusy := 0 })) ∧
  (∀ (g : CoreId) (x : Nat × Nat), Completes (.exchangeLand g) (fun d => nextPort
        (Tab.get 8 (d.mem.xchOf (g.val / 8)).served (d.port g.val)) (d.contenders g.val) = some x ∧
        ((((d.core x.1).egress.takeWhile fun y => decide (y.1 = g.val % 8)).take 56).find? fun y => !d.accepts x.1
          g.val y.2.1) = none) (fun d => (
          let b := ((d.core x.1).egress.takeWhile fun y => decide (y.1 = g.val % 8)).take 56;
          let ok := b.filter fun y => d.accepts x.1 g.val y.2.1;
          let e := d.updMem fun m => m.updXch (g.val / 8) fun s => { s with
                served := Tab.set s.served (d.port g.val) x.2, sendWords := satAdd 64 s.sendWords ok.length,
                contend := if 2 ≤ (d.contenders g.val).length then satAdd 64 s.contend 1 else s.contend };
          let e := e.updCore x.1 fun c => { c with egress := c.egress.drop b.length };
          let r := (e.core g.val).sideWrite (ok.map fun y => (y.2.1, y.2.2));
          let e := e.setCore g.val r.1;
          match r.2 with
            | some detail => e.coreFault g.val (plainFault 0x0501 0 (coreLoc g.val) detail)
            | none => e)))

/-- Every command of the key-stream groups completes: opening, headers, tags, chunks, rows, dropped members, catch-up
and the end (R105, R110 to R117, R121, R122, R128, R129). Each clause names a command and the condition on the device
that it finds; where the condition holds, exec answers a next state, with the device that the clause gives once the
effects that follow every command are in. -/
def Obligations.KeyStreamCommandsComplete : Prop :=
  (∀ (die : DieId) (n : GroupId) (a : Agent) (v : BitVec 64) (w : Nat), Completes (.kstGrpOpen die n a v)
      (fun d => w = withBit v.toNat 0 true ∧ bit w 1 = false ∧ d.expert a = true ∧ (d.group die.val n.val).busy =
        false) (fun d => (d.updGroup die.val n.val fun x => { x with stall := fld w 32 8 }).openGroup die.val n.val
        ((d.agentFn a).getD 0) (d.group die.val n.val).addr (fld w 24 8) (fld w 8 8)
        (match a with | .app k => (d.app k.val).job | _ => none))) ∧
  (∀ (die : DieId) (n : GroupId) (a : Agent) (v : BitVec 64) (w : Nat), Completes (.kstGrpClose die n a v)
      (fun d => w = withBit v.toNat 1 true ∧ bit w 0 = false ∧ d.expert a = true) (fun d =>
        (d.closeGroup die.val n.val).updGroup die.val n.val fun x => { x with
            stall := fld w 32 8, level := fld w 24 8, members := fld w 8 8 })) ∧
  (∀ (die : DieId) (n : GroupId) (a : Agent) (v : BitVec 64) (w f : Nat), Completes (.kstGrpClose die n a v)
      (fun d => w = withBit v.toNat 1 true ∧ bit w 0 = false ∧ d.expert a = false ∧ d.agentFn a = some f)
      (fun d => ((d.closeGroup die.val n.val).updFn f fun x => { x with denied := true }).updGroup die.val n.val fun x
        => { x with level := fld w 24 8, members := fld w 8 8 })) ∧
  (∀ (die : DieId) (n : GroupId) (e : Dev), Completes (.groupHeaderRead die n) (fun d => (d.group die.val n.val).state
        = 2 ∧ (d.group die.val n.val).header = none ∧ d.keyRead (.group die.val n.val) true
        (d.group die.val n.val).addr (d.group die.val n.val).addr 256 = (e, some none)) (fun d =>
        (e.updGroup die.val n.val fun x => { x with header := some (e.mem.bytes (d.group die.val n.val).addr 256) }).updMem
        fun m => m.multicast die.val 256)) ∧
  (∀ (die : DieId) (n : GroupId) (e : Dev) (f : Nat × Nat), Completes (.groupHeaderRead die n)
      (fun d => (d.group die.val n.val).state = 2 ∧ (d.group die.val n.val).header = none ∧ d.keyRead
        (.group die.val n.val) true (d.group die.val n.val).addr (d.group die.val n.val).addr 256 = (e, some (some f)))
      (fun _ => e.failGroup die.val n.val fun b => (f.1, streamAddr b.eng f.2))) ∧
  (∀ (die : DieId) (n : GroupId) (k : Fin 64) (hb : List Byte), Completes (.keyHeaderArrives die n k)
      (fun d => (d.group die.val n.val).header = some hb) (fun d => ((d.core (64 * die.val + k.val)).binds.filter fun
          b => decide (b.group = n.val) && b.header.isNone && b.catchup.isNone && !b.ended && b.bad.isNone).foldl
        (fun x b => x.landHeader (64 * die.val + k.val) b hb) d)) ∧
  (∀ (g : CoreId) (slot : Fin 4) (b : Binding) (o : OpSlot) (y : List Byte), Completes (.expectedTagReady g slot)
      (fun d => ((d.core g.val).binds.filter fun b => decide (b.slot = slot.val) && b.attached && b.header.isSome &&
          b.expected.isNone) = [b] ∧ (d.core g.val).opOn b = some o ∧ b.header = some y ∧ (keyHdr y).sizeWrong
        (d.psetOf g.val o.psetId) (b.elementOf (some o)) = none ∧ keyTag o.keysetId o.psetId
        (expectedKind o b (keyHdr y).logN).1 (keyHdr y).lo (keyHdr y).hi (expectedKind o b (keyHdr y).logN).2 =
        (keyHdr y).tag ∧ (keyHdr y).lo ≤ o.level ∧ o.level ≤ (keyHdr y).hi ∧ o.level = b.level ∧ (keyHdr y).seedWrong
        = none) (fun d => d.updCore g.val fun c => c.updBinds (fun x => decide (x.sreg = b.sreg)) fun x =>
        { x with expected := some (keyHdr y).tag })) ∧
  (∀ (die : DieId) (n : GroupId) (hb : List Byte) (i : Nat) (e : Dev), Completes (.keyChunkArrives die n)
      (fun d => (d.group die.val n.val).header = some hb ∧ (d.group die.val n.val).state = 2 ∧ d.headersLanded die.val
        n.val = true ∧ (d.group die.val n.val).next < (keyHdr hb).rows (d.group die.val n.val).level ∧
        (keyHdr hb).dueChunk (d.group die.val n.val).level (d.group die.val n.val).next
        (d.group die.val n.val).chunkNo = some i ∧ d.keyRead (.group die.val n.val)
        (decide ((keyHdr hb).chunkBytes i < 512)) (d.group die.val n.val).addr
        (chunkAddr (d.group die.val n.val).addr i) ((keyHdr hb).chunkBytes i) = (e, some none) ∧ (keyHdr hb).headWrong
        i (e.mem.bytes (chunkAddr (d.group die.val n.val).addr i) 64) = none ∧ (keyHdr hb).allPassed
        (d.group die.val n.val).level (i + 1) = false) (fun _ => (e.updMem fun m => m.multicast die.val 64).updGroup
        die.val n.val fun x => { x with chunkNo := i + 1, chunks := satAdd 32 x.chunks 1 })) ∧
  (∀ (die : DieId) (n : GroupId) (hb : List Byte) (i : Nat) (e : Dev), Completes (.keyChunkArrives die n)
      (fun d => (d.group die.val n.val).header = some hb ∧ (d.group die.val n.val).state = 2 ∧ d.headersLanded die.val
        n.val = true ∧ (d.group die.val n.val).next < (keyHdr hb).rows (d.group die.val n.val).level ∧
        (keyHdr hb).dueChunk (d.group die.val n.val).level (d.group die.val n.val).next
        (d.group die.val n.val).chunkNo = some i ∧ d.keyRead (.group die.val n.val)
        (decide ((keyHdr hb).chunkBytes i < 512)) (d.group die.val n.val).addr
        (chunkAddr (d.group die.val n.val).addr i) ((keyHdr hb).chunkBytes i) = (e, some none) ∧ (keyHdr hb).headWrong
        i (e.mem.bytes (chunkAddr (d.group die.val n.val).addr i) 64) = none ∧ (keyHdr hb).allPassed
        (d.group die.val n.val).level (i + 1) = true) (fun d => ((e.updMem fun m => m.multicast die.val 64).updGroup
          die.val n.val fun x => { x with chunkNo := i + 1, chunks := satAdd 32 x.chunks 1 }).forAll (List.range 64)
        fun d k => d.updCore (64 * die.val + k) fun c => c.updBinds
        (fun b => decide (b.group = n.val) && b.catchup.isNone && !b.ended) fun b => { b with tagsOk := true })) ∧
  (∀ (die : DieId) (n : GroupId) (hb : List Byte) (i : Nat) (e : Dev) (detail : Nat), Completes
      (.keyChunkArrives die n) (fun d => (d.group die.val n.val).header = some hb ∧ (d.group die.val n.val).state = 2
        ∧ d.headersLanded die.val n.val = true ∧ (d.group die.val n.val).next < (keyHdr hb).rows
        (d.group die.val n.val).level ∧ (keyHdr hb).dueChunk (d.group die.val n.val).level
        (d.group die.val n.val).next (d.group die.val n.val).chunkNo = some i ∧ d.keyRead (.group die.val n.val)
        (decide ((keyHdr hb).chunkBytes i < 512)) (d.group die.val n.val).addr
        (chunkAddr (d.group die.val n.val).addr i) ((keyHdr hb).chunkBytes i) = (e, some none) ∧ (keyHdr hb).headWrong
        i (e.mem.bytes (chunkAddr (d.group die.val n.val).addr i) 64) = some detail)
      (fun _ => (e.updMem fun m => m.multicast die.val 64).failGroup die.val n.val fun _ => (0x0202, detail))) ∧
  (∀ (die : DieId) (n : GroupId) (hb bytes : List Byte) (at' : Nat × Nat), Completes (.multicastRowSend die n)
      (fun d => (d.group die.val n.val).header = some hb ∧ (d.group die.val n.val).state = 2 ∧ d.headersLanded die.val
        n.val = true ∧ (d.group die.val n.val).next < (keyHdr hb).rows (d.group die.val n.val).level ∧
        (keyHdr hb).dueChunk (d.group die.val n.val).level (d.group die.val n.val).next
        (d.group die.val n.val).chunkNo = none ∧ (bitsOf 8 (d.group die.val n.val).active).all
        (fun m => d.credit die.val n.val m) = true ∧ at' = (keyHdr hb).span (d.group die.val n.val).level
        (d.group die.val n.val).addr (d.group die.val n.val).next ∧ bytes = (keyHdr hb).join
        (d.group die.val n.val).level (d.group die.val n.val).next (d.mem.bytes at'.1 at'.2))
      (fun d => (
          let x := d.forAll (bitsOf 8 (d.group die.val n.val).active) fun y m => match (y.core
              (64 * die.val + 8 * m + (keyHdr hb).coreOf (d.group die.val n.val).level (d.group die.val n.val).next)).taker
            n.val with
            | some b => (y.landKey (64 * die.val + 8 * m + (keyHdr hb).coreOf (d.group die.val n.val).level
                (d.group die.val n.val).next) b bytes).updCore (64 * die.val + 8 * m + (keyHdr hb).coreOf
              (d.group die.val n.val).level (d.group die.val n.val).next) fun c =>
            { c with keyRows := satAdd 32 c.keyRows 1 }
            | none => y;
          let x := x.forAll (List.range 64) fun y k => y.updCore (64 * die.val + k) fun c => c.updBinds
            (fun b => decide (b.group = n.val) && b.catchup.isNone && !b.ended) fun b =>
            { b with pos := (d.group die.val n.val).next + 1 };
          (x.updGroup die.val n.val fun y => { y with next := y.next + 1, stalled := [] }).updMem fun m => m.multicast
            die.val 288))) ∧
  (∀ (die : DieId) (n : GroupId) (m : Fin 8) (a : Nat × Nat), Completes (.memberDrop die n m)
      (fun d => (d.group die.val n.val).memberNow m.val = true ∧ (d.group die.val n.val).stalled.find?
        (fun p => decide (p.1 = m.val)) = some a ∧ a.2 + (d.group die.val n.val).stallCounts ≤ d.aon die.val)
      (fun d => (
          let e := d.forAll (List.range 8) fun x k => (x.updCore (64 * die.val + 8 * m.val + k) fun c =>
              { c with drops := satAdd 8 c.drops 1 }).coreFault (64 * die.val + 8 * m.val + k)
            (plainFault 0x0603 0 (coreLoc (64 * die.val + 8 * m.val + k)) (n.val + 256 * die.val + 65536 *
                (match (x.core (64 * die.val + 8 * m.val + k)).binds.find? fun b => decide (b.group = n.val) &&
                  b.catchup.isNone && !b.ended with
                  | some b => b.chunk.getD 0xFFFF_FFFF
                  | none => 0xFFFF_FFFF)));
          (e.updGroup die.val n.val fun x => { x with dropped := withBit x.dropped m.val true }).leaveMember die.val
            n.val m.val))) ∧
  (∀ (die : DieId) (n : GroupId) (k : Fin 64) (b : Binding) (e : Dev), Completes (.catchupRead die n k)
      (fun d => (d.core (64 * die.val + k.val)).binds.find? (fun b => decide (b.group = n.val) && b.catchup.isSome &&
          b.bad.isNone && !b.ended) = some b ∧ Tab.get false d.pwr.relock ((64 * die.val + k.val) / 8) = false ∧
        b.header = none ∧ d.keyRead (.catchup (64 * die.val + k.val) b.sreg) true b.addr b.addr 256 = (e, some none))
      (fun _ => e.landHeader (64 * die.val + k.val) b (e.mem.bytes b.addr 256))) ∧
  (∀ (die : DieId) (n : GroupId) (k : Fin 64) (b : Binding) (hb : List Byte) (i : Nat) (e : Dev), Completes
      (.catchupRead die n k) (fun d => (d.core (64 * die.val + k.val)).binds.find?
        (fun b => decide (b.group = n.val) && b.catchup.isSome && b.bad.isNone && !b.ended) = some b ∧ Tab.get false
        d.pwr.relock ((64 * die.val + k.val) / 8) = false ∧ b.header = some hb ∧ b.recheck.or
        (((keyHdr hb).nextRow b.level (k.val % 8) b.pos (2 * (keyHdr hb).digits * (keyHdr hb).digitLimbs b.level + 2)).bind
          fun row => (keyHdr hb).dueChunk b.level row (b.catchup.getD 0)) = some i ∧ d.keyRead
        (.catchup (64 * die.val + k.val) b.sreg) false b.addr (chunkAddr b.addr i) 64 = (e, some none) ∧
        (keyHdr hb).headWrong i (e.mem.bytes (chunkAddr b.addr i) 64) = none) (fun _ => e.updCore
        (64 * die.val + k.val) fun c => c.updBinds (fun x => decide (x.sreg = b.sreg)) fun x =>
        { x with catchup := some (i + 1), recheck := none, tagsOk := (keyHdr hb).allPassed b.level (i + 1) })) ∧
  (∀ (die : DieId) (n : GroupId) (k : Fin 64) (b : Binding) (hb : List Byte), Completes (.catchupRead die n k)
      (fun d => (d.core (64 * die.val + k.val)).binds.find? (fun b => decide (b.group = n.val) && b.catchup.isSome &&
          b.bad.isNone && !b.ended) = some b ∧ Tab.get false d.pwr.relock ((64 * die.val + k.val) / 8) = false ∧
        b.header = some hb ∧ b.recheck.or (((keyHdr hb).nextRow b.level (k.val % 8) b.pos
            (2 * (keyHdr hb).digits * (keyHdr hb).digitLimbs b.level + 2)).bind fun row => (keyHdr hb).dueChunk
          b.level row (b.catchup.getD 0)) = none ∧ (keyHdr hb).nextRow b.level (k.val % 8) b.pos
        (2 * (keyHdr hb).digits * (keyHdr hb).digitLimbs b.level + 2) = none) (fun d => (d.updCore
          (64 * die.val + k.val) fun c => c.updBinds (fun x => decide (x.sreg = b.sreg)) fun x =>
          { x with ended := true, tagsOk := true }).groupSettle die.val n.val)) ∧
  (∀ (die : DieId) (n : GroupId) (k : Fin 64) (b : Binding) (hb : List Byte) (row : Nat) (e : Dev), Completes
      (.catchupRead die n k) (fun d => (d.core (64 * die.val + k.val)).binds.find?
        (fun b => decide (b.group = n.val) && b.catchup.isSome && b.bad.isNone && !b.ended) = some b ∧ Tab.get false
        d.pwr.relock ((64 * die.val + k.val) / 8) = false ∧ b.header = some hb ∧ b.recheck.or
        (((keyHdr hb).nextRow b.level (k.val % 8) b.pos (2 * (keyHdr hb).digits * (keyHdr hb).digitLimbs b.level + 2)).bind
          fun row => (keyHdr hb).dueChunk b.level row (b.catchup.getD 0)) = none ∧ (keyHdr hb).nextRow b.level
        (k.val % 8) b.pos (2 * (keyHdr hb).digits * (keyHdr hb).digitLimbs b.level + 2) = some row ∧ d.keyRead
        (.catchup (64 * die.val + k.val) b.sreg) false b.addr ((keyHdr hb).span b.level b.addr row).1
        ((keyHdr hb).span b.level b.addr row).2 = (e, some none) ∧ (keyHdr hb).nextRow b.level (k.val % 8) (row + 1)
        (2 * (keyHdr hb).digits * (keyHdr hb).digitLimbs b.level + 2) ≠ none ∧ b.seen ≤ row ∧
        (d.core (64 * die.val + k.val)).canTake b = true) (fun _ => ((e.landKey (64 * die.val + k.val) b
            ((keyHdr hb).join b.level row (e.mem.bytes ((keyHdr hb).span b.level b.addr row).1
                ((keyHdr hb).span b.level b.addr row).2))).updCore (64 * die.val + k.val) fun c =>
          { c with catchupRows := satAdd 24 c.catchupRows 1 }).updCore (64 * die.val + k.val) fun c =>
        (c.updBinds (fun x => decide (x.sreg = b.sreg)) fun x => { x with pos := row + 1 }))) ∧
  (∀ (die : DieId) (n : GroupId) (k : Fin 64) (b : Binding) (hb : List Byte) (row : Nat) (e : Dev), Completes
      (.catchupRead die n k) (fun d => (d.core (64 * die.val + k.val)).binds.find?
        (fun b => decide (b.group = n.val) && b.catchup.isSome && b.bad.isNone && !b.ended) = some b ∧ Tab.get false
        d.pwr.relock ((64 * die.val + k.val) / 8) = false ∧ b.header = some hb ∧ b.recheck.or
        (((keyHdr hb).nextRow b.level (k.val % 8) b.pos (2 * (keyHdr hb).digits * (keyHdr hb).digitLimbs b.level + 2)).bind
          fun row => (keyHdr hb).dueChunk b.level row (b.catchup.getD 0)) = none ∧ (keyHdr hb).nextRow b.level
        (k.val % 8) b.pos (2 * (keyHdr hb).digits * (keyHdr hb).digitLimbs b.level + 2) = some row ∧ d.keyRead
        (.catchup (64 * die.val + k.val) b.sreg) false b.addr ((keyHdr hb).span b.level b.addr row).1
        ((keyHdr hb).span b.level b.addr row).2 = (e, some none) ∧ (keyHdr hb).nextRow b.level (k.val % 8) (row + 1)
        (2 * (keyHdr hb).digits * (keyHdr hb).digitLimbs b.level + 2) ≠ none ∧ row < b.seen)
      (fun _ => (e.updCore (64 * die.val + k.val) fun c => { c with strRd := satAdd 64 c.strRd 288 }).updCore
        (64 * die.val + k.val) fun c => (c.updBinds (fun x => decide (x.sreg = b.sreg)) fun x =>
          { x with pos := row + 1 }))) ∧
  (∀ (die : DieId) (n : GroupId) (hb : List Byte), Completes (.groupStreamEnd die n) (fun d =>
        (d.group die.val n.val).header = some hb ∧ (d.group die.val n.val).state = 2 ∧ (keyHdr hb).rows
        (d.group die.val n.val).level ≤ (d.group die.val n.val).next) (fun d => ((d.forAll (List.range 64) fun d k =>
            d.updCore (64 * die.val + k) fun c => c.updBinds (fun b => decide (b.group = n.val) && b.catchup.isNone)
            fun b => { b with ended := true }).updGroup die.val n.val fun x => { x with state := 3, active := 0 }).groupSettle
        die.val n.val))

/-- Every stream record completes: RUN, POST, KBIND, LEAVE, UNPOST and RELEASE, and the signal that reaches a core
(R154, R232, R233, R236, R246, R247). Each clause names a command and the condition on the device that it finds; where
the condition holds, exec answers a next state, with the device that the clause gives once the effects that follow
every command are in. -/
def Obligations.StreamRecordCommandsComplete : Prop :=
  (∀ (g : CoreId) (who : Nat) (s : Nat × Nat), Completes (.tokenSignalArrives g who)
      (fun d => (d.core g.val).sigq.find? (fun s => decide (s.2 = who)) = some s)
      (fun d => d.updCore g.val fun c => { c.see s.1 with sigq := c.sigq.erase s })) ∧
  (∀ (g : CoreId) (e : EngId) (q : StrCmd), Completes (.run g e) (fun d => Tab.get false d.pwr.relock (g.val / 8) =
        false ∧ (d.core g.val).nextRecord e.val 1 = some q) (fun d => d.updCore g.val fun c =>
        (c.popRecord e.val).updEng e.val fun x => { x with
            progs := x.progs + 1,
            prog := some {
                  instrs := (List.range ((fld (q.words.getD 0 0) 8 9 - 2) / 2)).map (recInstr q.words), pc := 0,
                  a := List.replicate 8 0, l := List.replicate 4 0, loops := [], addr := q.addr, block := q.block,
                  serial := x.progs + 1 } })) ∧
  (∀ (g : CoreId) (e : EngId) (q : StrCmd), Completes (.post g e) (fun d => Tab.get false d.pwr.relock (g.val / 8) =
        false ∧ (d.core g.val).nextRecord e.val 2 = some q ∧ (d.core g.val).postBad (fld (q.words.getD 1 0) 0 16)
        (fld (q.words.getD 2 0) 0 17) (fld (q.words.getD 3 0) 0 4) = false) (fun d => d.updCore g.val fun c =>
        { c.popRecord e.val with
            rings := Tab.set c.rings (fld (q.words.getD 3 0) 0 4) {
                  eng := e.val, typ := fld (q.words.getD 3 0) 4 2, rel := bit (q.words.getD 3 0) 6,
                  base := fld (q.words.getD 1 0) 0 16, rows := fld (q.words.getD 2 0) 0 17, land := 0, drain := 0,
                  row := [], releasing := [], rx := [], fail := none, keep := 0 } })) ∧
  (∀ (g : CoreId) (e : EngId) (q : StrCmd) (y : Ring), Completes (.kbind g e) (fun d => Tab.get false d.pwr.relock
        (g.val / 8) = false ∧ (d.core g.val).nextRecord e.val 3 = some q ∧ d.mem.partFor
        (match d.coreJob g.val with | some j => j.partMask | none => 0)
        (d.group (g.val / 64) (fld (q.words.getD 1 0) 0 5)).addr 4096 ≠ none ∧ bit
        (d.group (g.val / 64) (fld (q.words.getD 1 0) 0 5)).members (g.val / 8 % 8) = true ∧
        ((d.group (g.val / 64) (fld (q.words.getD 1 0) 0 5)).state = 1 ∨
          (d.group (g.val / 64) (fld (q.words.getD 1 0) 0 5)).state = 2) ∧ (d.core g.val).ring?
        (fld (q.words.getD 1 0) 10 4) = some y ∧ y.typ = 0 ∧ y.eng = e.val ∧ y.rel = false ∧
        ((d.core g.val).binds.any fun b => decide (b.sreg = fld (q.words.getD 1 0) 7 3) ||
          (decide (b.slot = fld (q.words.getD 1 0) 5 2) && decide (b.element = fld (q.words.getD 1 0) 14 4))) = false
        ∧ ((d.core g.val).ops.find? (fun p => decide (p.1 = fld (q.words.getD 1 0) 5 2))).all
        (fun p => consumes p.2.opcode (p.2.elements - 1) (fld (q.words.getD 1 0) 14 4)) = true)
      (fun d => (d.updCore g.val fun c => { c.popRecord e.val with
              binds := c.binds ++ [{
                      group := fld (q.words.getD 1 0) 0 5, slot := fld (q.words.getD 1 0) 5 2,
                      sreg := fld (q.words.getD 1 0) 7 3, ring := fld (q.words.getD 1 0) 10 4,
                      element := fld (q.words.getD 1 0) 14 4,
                      aux := if bit (q.words.getD 1 0) 18 then some (q.words.getD 2 0) else none, eng := e.val,
                      attached := ((d.core g.val).ops.find? fun p => decide (p.1 = fld (q.words.getD 1 0) 5 2)).isSome,
                      header := none, expected := none, bad := none, pos := 0,
                      catchup := if (d.group (g.val / 64) (fld (q.words.getD 1 0) 0 5)).state = 1 ∧
                        (d.group (g.val / 64) (fld (q.words.getD 1 0) 0 5)).memberNow (g.val / 8 % 8) then none else
                        some 0, recheck := none, seen := 0,
                      addr := (d.group (g.val / 64) (fld (q.words.getD 1 0) 0 5)).addr,
                      level := (d.group (g.val / 64) (fld (q.words.getD 1 0) 0 5)).level, tagsOk := false,
                      ended := false }], seeds := Tab.set c.seeds (fld (q.words.getD 1 0) 7 3) SeedReg.waiting }).subscribe
        (g.val / 64) (fld (q.words.getD 1 0) 0 5) (g.val / 8 % 8))) ∧
  (∀ (g : CoreId) (e : EngId) (q : StrCmd), Completes (.leave g e) (fun d => Tab.get false d.pwr.relock (g.val / 8) =
        false ∧ (d.core g.val).nextRecord e.val 4 = some q) (fun d => (
          let x := d.updCore g.val fun c => c.popRecord e.val;
          if (d.group (g.val / 64) (fld (q.words.getD 1 0) 0 5)).memberNow (g.val / 8 % 8) then x.leaveMember
            (g.val / 64) (fld (q.words.getD 1 0) 0 5) (g.val / 8 % 8) else x))) ∧
  (∀ (g : CoreId) (e : EngId) (q : StrCmd) (y : Ring), Completes (.unpost g e) (fun d => Tab.get false d.pwr.relock
        (g.val / 8) = false ∧ (d.core g.val).nextRecord e.val 5 = some q ∧ (d.core g.val).ring?
        (fld (q.words.getD 1 0) 0 4) = some y ∧ y.eng = e.val) (fun d => d.updCore g.val fun c => c.updEng e.val fun x
        => { x with unpost := some (fld (q.words.getD 1 0) 0 4) })) ∧
  (∀ (g : CoreId) (e : EngId) (r : Nat), Completes (.unpostComplete g e) (fun d => Tab.get false d.pwr.relock
        (g.val / 8) = false ∧ ((d.core g.val).eng e.val).unpost = some r ∧
        (((d.core g.val).eng e.val).xfers.any fun t => t.ring == some r) = false ∧ ((d.core g.val).ring? r).all
        (fun q => !(decide (q.typ = 2) && d.incoming g.val q)) = true) (fun d => d.updCore g.val fun c =>
        ((c.popRecord e.val).updEng e.val fun x => { x with unpost := none }).unpostRing r)) ∧
  (∀ (g : CoreId) (e : EngId) (q : StrCmd) (y : Ring), Completes (.release g e) (fun d => Tab.get false d.pwr.relock
        (g.val / 8) = false ∧ (d.core g.val).nextRecord e.val 6 = some q ∧ (d.core g.val).ring?
        (fld (q.words.getD 1 0) 0 4) = some y ∧ y.eng = e.val ∧ (y.typ = 0 ∨ y.typ = 3)) (fun d => d.updCore g.val fun
        c => (c.popRecord e.val).updRing (fld (q.words.getD 1 0) 0 4) fun z => z.releaseRows
        (min (fld (q.words.getD 2 0) 0 17) z.rows)))

/-- Every instruction of a stream program completes, and with it the ends of its waits and the rows that land in a
ring (R237 to R241, R249, R259, R262). Each clause names a command and the condition on the device that it finds;
where the condition holds, exec answers a next state, with the device that the clause gives once the effects that
follow every command are in. -/
def Obligations.StreamInstructionsComplete : Prop :=
  (∀ (g : CoreId) (e : EngId) (p : Prog) (i : Nat), Completes (.strEnd g e)
      (fun d => Tab.get false d.pwr.relock (g.val / 8) = false ∧ (d.core g.val).nextInstr e.val 0 = some (p, i))
      (fun d => d.updCore g.val fun c => c.updEng e.val fun x => { x with prog := none })) ∧
  (∀ (g : CoreId) (e : EngId) (p : Prog) (i : Nat), Completes (.seta g e)
      (fun d => Tab.get false d.pwr.relock (g.val / 8) = false ∧ (d.core g.val).nextInstr e.val 1 = some (p, i))
      (fun d => d.updCore g.val fun c => c.stepProg e.val { p with a := p.a.set (fld i 6 3) (fld i 12 52) })) ∧
  (∀ (g : CoreId) (e : EngId) (p : Prog) (i : Nat), Completes (.adda g e)
      (fun d => Tab.get false d.pwr.relock (g.val / 8) = false ∧ (d.core g.val).nextInstr e.val 2 = some (p, i))
      (fun d => d.updCore g.val fun c => c.stepProg e.val { p with
            a := p.a.set (fld i 6 3) ((((p.a.getD (fld i 6 3) 0 : Nat) : Int) + sext (fld i 32 32) 32) %
                (2 ^ 52 : Int)).toNat })) ∧
  (∀ (g : CoreId) (e : EngId) (p : Prog) (i : Nat), Completes (.setl g e)
      (fun d => Tab.get false d.pwr.relock (g.val / 8) = false ∧ (d.core g.val).nextInstr e.val 3 = some (p, i))
      (fun d => d.updCore g.val fun c => c.stepProg e.val { p with l := p.l.set (fld i 6 2) (fld i 10 22) })) ∧
  (∀ (g : CoreId) (e : EngId) (p : Prog) (i : Nat), Completes (.addl g e)
      (fun d => Tab.get false d.pwr.relock (g.val / 8) = false ∧ (d.core g.val).nextInstr e.val 4 = some (p, i))
      (fun d => d.updCore g.val fun c => c.stepProg e.val { p with
            l := p.l.set (fld i 6 2) ((((p.l.getD (fld i 6 2) 0 : Nat) : Int) + sext (fld i 32 32) 32) %
                (2 ^ 22 : Int)).toNat })) ∧
  (∀ (g : CoreId) (e : EngId) (p : Prog) (i : Nat), Completes (.strLoop g e)
      (fun d => Tab.get false d.pwr.relock (g.val / 8) = false ∧ (d.core g.val).nextInstr e.val 5 = some (p, i))
      (fun d => d.updCore g.val fun c => c.updEng e.val fun x => { x with
            prog := some { p with pc := p.pc + 1, loops := (p.pc + 1, fld i 6 5 + 1, fld i 16 16 + 1, 0) :: p.loops } })) ∧
  (∀ (g : CoreId) (e : EngId) (p : Prog) (i : Nat), Completes (.rd g e) (fun d => Tab.get false d.pwr.relock
        (g.val / 8) = false ∧ (d.core g.val).nextInstr e.val 6 = some (p, i) ∧ d.xferFault g.val e.val p
        (transferOf p i ((d.core g.val).eng e.val).nextId) = none) (fun d => d.updCore g.val fun c =>
        (
          let t := transferOf p i ((d.core g.val).eng e.val).nextId;
          ((if t.len * t.bytes < 512 then { c with strSmall := satAdd 64 c.strSmall 1 } else c).updEng e.val fun x =>
              { x with nextId := x.nextId + 1, xfers := x.xfers ++ [t] }).stepProg e.val (p.advance i t)))) ∧
  (∀ (g : CoreId) (e : EngId) (p : Prog) (i : Nat), Completes (.wr g e) (fun d => Tab.get false d.pwr.relock
        (g.val / 8) = false ∧ (d.core g.val).nextInstr e.val 7 = some (p, i) ∧ d.xferFault g.val e.val p
        (transferOf p i ((d.core g.val).eng e.val).nextId) = none) (fun d => d.updCore g.val fun c =>
        (
          let t := transferOf p i ((d.core g.val).eng e.val).nextId;
          ((if t.len * t.bytes < 512 then { c with strSmall := satAdd 64 c.strSmall 1 } else c).updEng e.val fun x =>
              { x with nextId := x.nextId + 1, xfers := x.xfers ++ [t] }).stepProg e.val (p.advance i t)))) ∧
  (∀ (g : CoreId) (e : EngId) (p : Prog) (i : Nat), Completes (.rrd g e) (fun d => Tab.get false d.pwr.relock
        (g.val / 8) = false ∧ (d.core g.val).nextInstr e.val 8 = some (p, i) ∧ d.xferFault g.val e.val p
        (transferOf p i ((d.core g.val).eng e.val).nextId) = none) (fun d => d.updCore g.val fun c =>
        (
          let t := transferOf p i ((d.core g.val).eng e.val).nextId;
          ((if t.len * t.bytes < 512 then { c with strSmall := satAdd 64 c.strSmall 1 } else c).updEng e.val fun x =>
              { x with nextId := x.nextId + 1, xfers := x.xfers ++ [t] }).stepProg e.val (p.advance i t)))) ∧
  (∀ (g : CoreId) (e : EngId) (p : Prog) (i : Nat), Completes (.rwr g e) (fun d => Tab.get false d.pwr.relock
        (g.val / 8) = false ∧ (d.core g.val).nextInstr e.val 9 = some (p, i) ∧ d.xferFault g.val e.val p
        (transferOf p i ((d.core g.val).eng e.val).nextId) = none) (fun d => d.updCore g.val fun c =>
        (
          let t := transferOf p i ((d.core g.val).eng e.val).nextId;
          ((if t.len * t.bytes < 512 then { c with strSmall := satAdd 64 c.strSmall 1 } else c).updEng e.val fun x =>
              { x with nextId := x.nextId + 1, xfers := x.xfers ++ [t] }).stepProg e.val (p.advance i t)))) ∧
  (∀ (g : CoreId) (e : EngId) (p : Prog) (i : Nat), Completes (.waitt g e) (fun d => Tab.get false d.pwr.relock
        (g.val / 8) = false ∧ (d.core g.val).nextInstr e.val 11 = some (p, i) ∧ fld i 32 32 + fld i 18 14 *
        (match p.loops with | (_, _, _, r) :: _ => r | [] => 0) ≤ (d.core g.val).token (fld i 6 12))
      (fun d => d.updCore g.val fun c => c.stepProg e.val p)) ∧
  (∀ (g : CoreId) (e : EngId) (p : Prog) (i : Nat), Completes (.waitt g e) (fun d => Tab.get false d.pwr.relock
        (g.val / 8) = false ∧ (d.core g.val).nextInstr e.val 11 = some (p, i) ∧ (d.core g.val).token (fld i 6 12) <
        fld i 32 32 + fld i 18 14 * (match p.loops with | (_, _, _, r) :: _ => r | [] => 0))
      (fun d => d.updCore g.val fun c => c.updEng e.val fun x => { x with
            waitTok := some (fld i 6 12, fld i 32 32 + fld i 18 14 *
                (match p.loops with | (_, _, _, r) :: _ => r | [] => 0)) })) ∧
  (∀ (g : CoreId) (e : EngId) (p : Prog) (t : Nat × Nat), Completes (.waittSatisfied g e)
      (fun d => Tab.get false d.pwr.relock (g.val / 8) = false ∧ ((d.core g.val).eng e.val).waitTok = some t ∧
        ((d.core g.val).eng e.val).prog = some p ∧ ((d.core g.val).eng e.val).draining = false ∧ t.2 ≤
        (d.core g.val).token t.1) (fun d => d.updCore g.val fun c =>
        (c.updEng e.val fun x => { x with waitTok := none }).stepProg e.val p)) ∧
  (∀ (g : CoreId) (e : EngId) (p : Prog) (i : Nat), Completes (.sig g e)
      (fun d => Tab.get false d.pwr.relock (g.val / 8) = false ∧ (d.core g.val).nextInstr e.val 12 = some (p, i))
      (fun d => d.updCore g.val fun c => (c.updEng e.val fun x =>
          { x with sigs := x.sigs ++ [(fld i 6 12, x.nextId, p.serial)] }).stepProg e.val p)) ∧
  (∀ (g : CoreId) (e : EngId) (s : Nat × Nat × Nat) (id : Nat), Completes (.sigSignalled g e)
      (fun d => Tab.get false d.pwr.relock (g.val / 8) = false ∧ ((d.core g.val).eng e.val).sigs.find?
        (fun s => ((d.core g.val).eng e.val).doneBefore s.2.1) = some s ∧ (d.core g.val).job = some id)
      (fun d => (d.updCore g.val fun c => c.updEng e.val fun x => { x with sigs := x.sigs.erase s }).signal id s.1
        g.val)) ∧
  (∀ (g : CoreId) (e : EngId) (p : Prog) (i : Nat), Completes (.fence g e) (fun d => Tab.get false d.pwr.relock
        (g.val / 8) = false ∧ (d.core g.val).nextInstr e.val 13 = some (p, i) ∧ ((d.core g.val).eng e.val).xfers = [])
      (fun d => d.updCore g.val fun c => c.stepProg e.val p)) ∧
  (∀ (g : CoreId) (e : EngId) (p : Prog) (i : Nat), Completes (.fence g e) (fun d => Tab.get false d.pwr.relock
        (g.val / 8) = false ∧ (d.core g.val).nextInstr e.val 13 = some (p, i) ∧ ((d.core g.val).eng e.val).xfers ≠ [])
      (fun d => d.updCore g.val fun c => c.updEng e.val fun x =>
        { x with fence := some ((d.core g.val).eng e.val).nextId })) ∧
  (∀ (g : CoreId) (e : EngId) (p : Prog) (n : Nat), Completes (.fenceComplete g e) (fun d => Tab.get false
        d.pwr.relock (g.val / 8) = false ∧ ((d.core g.val).eng e.val).fence = some n ∧ ((d.core g.val).eng e.val).prog
        = some p ∧ ((d.core g.val).eng e.val).draining = false ∧ ((d.core g.val).eng e.val).doneBefore n = true)
      (fun d => d.updCore g.val fun c => (c.updEng e.val fun x => { x with fence := none }).stepProg e.val p)) ∧
  (∀ (g : CoreId) (r : RingId) (up : List Upset) (q : Ring) (e : Nat) (t : Transfer) (ws : List Word), Completes
      (.ringRowLands g r up) (fun d => Tab.get false d.pwr.relock (g.val / 8) = false ∧
        ((d.updCore g.val fun c => (c.strike up).release).core g.val).ring? r.val = some q ∧
        ((d.updCore g.val fun c => (c.strike up).release).core g.val).ringXfer r.val = some (e, t) ∧ q.typ = 0 ∧
        q.state q.land = .free ∧ t.done < t.requested ∧ (d.updCore g.val fun c => (c.strike up).release).rowWaits t =
        false ∧ ((d.updCore g.val fun c => (c.strike up).release).fetchRow g.val e t 0).2 = some ws)
      (fun d => (((d.updCore g.val fun c => (c.strike up).release).fetchRow g.val e t 0).1.putRow g.val t
          (64 * (q.base + q.land)) ws).updCore g.val fun c => (c.moved e t.id 1).updRing r.val fun z => z.landed
        .landed))

/-- Every sequencer command of a bundle completes: OP.OPEN, OP.CLOSE, LOOP, SHAPE.SET, PX.SET and STR.ISSUE, with the
stop that a cluster operation brings (R52, R63, R78 to R83, R147 to R149, R183 to R185, R195, R230). Each clause names
a command and the condition on the device that it finds; where the condition holds, exec answers a next state, with
the device that the clause gives once the effects that follow every command are in. -/
def Obligations.SequencerCommandsComplete : Prop :=
  (∀ (g : CoreId) (e : Dev) (j : Job) (o : OpSlot), Completes (.opOpen g) (fun d => d.slotReady g.val 0 1 = (e, true)
        ∧ e.coreJob g.val = some j ∧ e.bootOpening g.val j = none ∧ e.openOp g.val j
        (openArgs (sclSlot (e.cxNow g.val).bundle)) none (e.cxNow g.val).cycle ((e.core g.val).seq.order + 15) = .ok o)
      (fun _ => (e.updCore g.val fun c => ({ c with
                ops := Tab.set c.ops (openArgs (sclSlot (e.cxNow g.val).bundle)).slot o }).updBinds
          (fun b => decide (b.slot = (openArgs (sclSlot (e.cxNow g.val).bundle)).slot)) fun b =>
          { b with attached := true }).updCore g.val fun c => c.sideShown.issued 0)) ∧
  (∀ (g : CoreId) (e : Dev) (j : Job) (boot : Option (Bool × Nat)) (f : Nat × Nat), Completes (.opOpen g)
      (fun d => d.slotReady g.val 0 1 = (e, true) ∧ e.coreJob g.val = some j ∧ e.bootOpening g.val j = boot ∧ e.openOp
        g.val j (openArgs (sclSlot (e.cxNow g.val).bundle)) boot (e.cxNow g.val).cycle ((e.core g.val).seq.order + 15)
        = .error f) (fun _ => ((((e.core g.val).binds.filter fun b => decide
              (b.slot = (openArgs (sclSlot (e.cxNow g.val).bundle)).slot) && !b.attached).foldl
            (fun x b => x.endBinding g.val b) e).updCore g.val fun c =>
          { c with seq := { c.seq with openFault := some ((e.cxNow g.val).cycle + 8, f.1, f.2) } }).updCore g.val fun
        c => c.sideShown.issued 0)) ∧
  (∀ (g : CoreId) (e : Dev) (p : Nat × OpSlot), Completes (.opClose g) (fun d => d.slotReady g.val 0 2 = (e, true) ∧
        (e.core g.val).ops.find? (fun p => decide (p.1 = fld (sclSlot (e.cxNow g.val).bundle) 4 2)) = some p ∧
        (e.core g.val).bootDone p.2 = none) (fun _ => ((((e.cxNow g.val).core.binds.filter fun b => decide
              (b.slot = fld (sclSlot (e.cxNow g.val).bundle) 4 2) && b.attached).foldl
            (fun x b => x.endBinding g.val b) (e.updCore g.val fun c => { c.launch 0
                (.close (fld (sclSlot (e.cxNow g.val).bundle) 4 2) p.2.descrs) (e.cxNow g.val).aliased [] with
                  ops := Tab.del c.ops (fld (sclSlot (e.cxNow g.val).bundle) 4 2),
                  closed := c.closed ++ [{ p.2 with closing := (e.core g.val).seq.order + 15 }] }))).updCore g.val fun
        c => c.sideShown.issued 0)) ∧
  (∀ (g : CoreId) (e : Dev) (p : Nat × OpSlot) (b : Boot), Completes (.opClose g) (fun d => d.slotReady g.val 0 2 =
        (e, true) ∧ (e.core g.val).ops.find? (fun p => decide (p.1 = fld (sclSlot (e.cxNow g.val).bundle) 4 2)) = some
        p ∧ (e.core g.val).bootDone p.2 = some b) (fun _ => ((((e.cxNow g.val).core.binds.filter fun b => decide
              (b.slot = fld (sclSlot (e.cxNow g.val).bundle) 4 2) && b.attached).foldl
            (fun x b => x.endBinding g.val b) (e.updCore g.val fun c => { c.launch 0 (.close
                  (fld (sclSlot (e.cxNow g.val).bundle) 4 2) { p.2 with results := p.2.results.map b.descr }.descrs)
                (e.cxNow g.val).aliased [] with
                  ops := Tab.del c.ops (fld (sclSlot (e.cxNow g.val).bundle) 4 2),
                  closed := c.closed ++ [{ p.2 with
                          results := p.2.results.map b.descr, closing := (e.core g.val).seq.order + 15 }],
                  boot := none }))).updCore g.val fun c => c.sideShown.issued 0)) ∧
  (∀ (g : CoreId), Completes (.clusterOperationStop g) (fun d => (d.core g.val).seq.stopNext = 1 ∧
        (d.core g.val).pendingSlot = none ∧ (d.core g.val).seq.next ≠ none)
      (fun d => d.advance g.val (d.core g.val).seq.due ((d.core g.val).seq.due - (d.core g.val).seq.cycle))) ∧
  (∀ (g : CoreId), Completes (.clusterOperationStop g) (fun d => (d.core g.val).seq.stopNext = 2 ∧
        (d.core g.val).seq.freeze.isSome = true ∧ (d.core g.val).seq.running.isSome = true)
      (fun d => d.cutBlock g.val (.of .point 0 0 (2 ^ 40)))) ∧
  (∀ (g : CoreId) (e : Dev), Completes (.loop g) (fun d => d.slotReady g.val 0 3 = (e, true))
      (fun _ => e.updCore g.val fun c => c.sideShown.issued 0)) ∧
  (∀ (g : CoreId) (e : Dev), Completes (.shapeSet g) (fun d => d.slotReady g.val 0 4 = (e, true))
      (fun _ => (e.updCore g.val fun c => { c with
              newShapes := Tab.set c.newShapes (fld (sclSlot (e.cxNow g.val).bundle) 4 6)
                (shapeOf (sclSlot (e.cxNow g.val).bundle)) }).updCore g.val fun c => c.sideShown.issued 0)) ∧
  (∀ (g : CoreId) (e : Dev), Completes (.pxSet g) (fun d => d.slotReady g.val 0 5 = (e, true))
      (fun _ => (e.updCore g.val fun c => { c with
              newPx := Tab.set c.newPx (fld (sclSlot (e.cxNow g.val).bundle) 4 2)
                (fld (sclSlot (e.cxNow g.val).bundle) 6 40) }).updCore g.val fun c => c.sideShown.issued 0)) ∧
  (∀ (g : CoreId) (e : Dev), Completes (.strIssue g) (fun d => d.slotReady g.val 9 1 = (e, true))
      (fun _ => (e.issueRecord g.val (fld (strSlot (e.cxNow g.val).bundle) 2 2)
          (fld (strSlot (e.cxNow g.val).bundle) 4 22)).updCore g.val fun c => c.sideShown.issued 9))

/-- Every command of the transform, basis-conversion, permutation and key-expansion engines completes: the engine
starts the command that the bundle spells (R54 to R58, R61, R64 to R68, R186, R187, R193, R194). Each clause names a
command and the condition on the device that it finds; where the condition holds, exec answers a next state, with the
device that the clause gives once the effects that follow every command are in. -/
def Obligations.EngineCommandsComplete : Prop :=
  (∀ (g : CoreId) (e : Dev), Completes (.nttInv g) (fun d => d.slotReady g.val 1 2 = (e, true))
      (fun _ => (e.launch g.val 1 (e.cxNow g.val) (nttCmd (e.cxNow g.val))).updCore g.val fun c => c.sideShown.issued
        1)) ∧
  (∀ (g : CoreId) (e : Dev), Completes (.nttFwdq g) (fun d => d.slotReady g.val 1 3 = (e, true))
      (fun _ => (e.launch g.val 1 (e.cxNow g.val) (nttCmd (e.cxNow g.val))).updCore g.val fun c => c.sideShown.issued
        1)) ∧
  (∀ (g : CoreId) (e : Dev), Completes (.nttInvq g) (fun d => d.slotReady g.val 1 4 = (e, true))
      (fun _ => (e.launch g.val 1 (e.cxNow g.val) (nttCmd (e.cxNow g.val))).updCore g.val fun c => c.sideShown.issued
        1)) ∧
  (∀ (g : CoreId) (e : Dev), Completes (.bcvLdm g) (fun d => d.slotReady g.val 2 1 = (e, true))
      (fun _ => (e.launch g.val 2 (e.cxNow g.val) (bcvCmd (e.cxNow g.val))).updCore g.val fun c => c.sideShown.issued
        2)) ∧
  (∀ (g : CoreId) (e : Dev), Completes (.bcvExt g) (fun d => d.slotReady g.val 2 2 = (e, true))
      (fun _ => (e.launch g.val 2 (e.cxNow g.val) (bcvCmd (e.cxNow g.val))).updCore g.val fun c => c.sideShown.issued
        2)) ∧
  (∀ (g : CoreId) (e : Dev), Completes (.bcvMatmul g) (fun d => d.slotReady g.val 2 3 = (e, true))
      (fun _ => (e.launch g.val 2 (e.cxNow g.val) (bcvCmd (e.cxNow g.val))).updCore g.val fun c => c.sideShown.issued
        2)) ∧
  (∀ (g : CoreId) (e : Dev), Completes (.prmAuto g) (fun d => d.slotReady g.val 7 1 = (e, true))
      (fun _ => (e.launch g.val 7 (e.cxNow g.val) (prmCmd (e.cxNow g.val))).updCore g.val fun c => c.sideShown.issued
        7)) ∧
  (∀ (g : CoreId) (e : Dev), Completes (.prmAutoip g) (fun d => d.slotReady g.val 7 2 = (e, true))
      (fun _ => (e.launch g.val 7 (e.cxNow g.val) (prmCmd (e.cxNow g.val))).updCore g.val fun c => c.sideShown.issued
        7)) ∧
  (∀ (g : CoreId) (e : Dev), Completes (.prmTrans g) (fun d => d.slotReady g.val 7 3 = (e, true))
      (fun _ => (e.launch g.val 7 (e.cxNow g.val) (prmCmd (e.cxNow g.val))).updCore g.val fun c => c.sideShown.issued
        7)) ∧
  (∀ (g : CoreId) (e : Dev), Completes (.prmTransip g) (fun d => d.slotReady g.val 7 4 = (e, true))
      (fun _ => (e.launch g.val 7 (e.cxNow g.val) (prmCmd (e.cxNow g.val))).updCore g.val fun c => c.sideShown.issued
        7)) ∧
  (∀ (g : CoreId) (e : Dev), Completes (.prmGather g) (fun d => d.slotReady g.val 7 5 = (e, true))
      (fun _ => (e.launch g.val 7 (e.cxNow g.val) (prmCmd (e.cxNow g.val))).updCore g.val fun c => c.sideShown.issued
        7)) ∧
  (∀ (g : CoreId) (e : Dev), Completes (.prmScatter g) (fun d => d.slotReady g.val 7 6 = (e, true))
      (fun _ => (e.launch g.val 7 (e.cxNow g.val) (prmCmd (e.cxNow g.val))).updCore g.val fun c => c.sideShown.issued
        7)) ∧
  (∀ (g : CoreId) (e : Dev), Completes (.prmSend g) (fun d => d.slotReady g.val 7 7 = (e, true))
      (fun _ => (e.launch g.val 7 (e.cxNow g.val) (prmCmd (e.cxNow g.val))).updCore g.val fun c => c.sideShown.issued
        7)) ∧
  (∀ (g : CoreId) (e : Dev), Completes (.kexGen g) (fun d => d.slotReady g.val 8 1 = (e, true))
      (fun _ => (e.launch g.val 8 (e.cxNow g.val) (kexCmd (e.cxNow g.val))).updCore g.val fun c => c.sideShown.issued
        8)) ∧
  (∀ (g : CoreId) (e : Dev), Completes (.kexGenq g) (fun d => d.slotReady g.val 8 2 = (e, true))
      (fun _ => (e.launch g.val 8 (e.cxNow g.val) (kexCmd (e.cxNow g.val))).updCore g.val fun c => c.sideShown.issued
        8)) ∧
  (∀ (g : CoreId) (up : List Upset) (e : Dev), Completes (.nttFwd g up)
      (fun d => (d.updCore g.val fun c => c.strike up).slotReady g.val 1 1 = (e, true)) (fun _ =>
        (e.launch g.val 1 (e.cxNow g.val) (nttCmd (e.cxNow g.val))).updCore g.val fun c => c.sideShown.issued 1)) ∧
  (∀ (g : CoreId) (w : Nat), Completes (.coordListFail g) (fun d => ((((d.core g.val).inflight.filterMap fun f =>
              f.op.listEnd.map fun n => f.issue + n).filter fun w => decide ((d.core g.val).seq.cycle < w)).min?) =
        some w ∧ (d.core g.val).pendingSlot = none ∧ ((d.core g.val).seq.next = none ∨ w ≤ (d.core g.val).seq.due) ∧
        ((d.advance g.val (w - 1) (w - (d.core g.val).seq.cycle)).core g.val).seq.cycle = w - 1 ∧
        (((d.advance g.val (w - 1) (w - (d.core g.val).seq.cycle)).core g.val).listStop w).isSome = true)
      (fun d => ((d.advance g.val (w - 1) (w - (d.core g.val).seq.cycle)).tick g.val).1))

/-- Every load, store, arithmetic command and tile pop of the element-wise unit completes: the value that the command
will write and the register or row that it names (R58 to R60, R62, R188 to R192). Each clause names a command and the
condition on the device that it finds; where the condition holds, exec answers a next state, with the device that the
clause gives once the effects that follow every command are in. -/
def Obligations.ElementwiseCommandsComplete : Prop :=
  (∀ (g : CoreId) (e : Dev), Completes (.add g) (fun d => d.slotReady g.val 5 1 = (e, true))
      (fun _ => (e.updCore g.val fun c => ({ c with eweArith := satAdd 64 c.eweArith 1 }.busyUntil 2
            (arithOcc 1 (c.fm [ewePidx (e.cxNow g.val)]))).launch 5 (.reg (fld (eweSlot (e.cxNow g.val).bundle) 4 5)
            (arithVal 1 (primeAt c.ptab (ewePidx (e.cxNow g.val))) (Tab.get (List.replicate 128 0) c.vregs
                (fld (eweSlot (e.cxNow g.val).bundle) 9 5)) (Tab.get (List.replicate 128 0) c.vregs
                (fld (eweSlot (e.cxNow g.val).bundle) 14 5)) (Tab.get (List.replicate 128 0) c.vregs
                (fld (eweSlot (e.cxNow g.val).bundle) 4 5)) (Tab.get (List.replicate 128 0) c.vregs
                (fld (eweSlot (e.cxNow g.val).bundle) 19 5)) (fld (eweSlot (e.cxNow g.val).bundle) 19 7))
            (arithLat 1 (c.fm [ewePidx (e.cxNow g.val)]))) (e.cxNow g.val).aliased []).updCore g.val fun c =>
        c.sideShown.issued 5)) ∧
  (∀ (g : CoreId) (e : Dev), Completes (.sub g) (fun d => d.slotReady g.val 5 2 = (e, true))
      (fun _ => (e.updCore g.val fun c => ({ c with eweArith := satAdd 64 c.eweArith 1 }.busyUntil 2
            (arithOcc 2 (c.fm [ewePidx (e.cxNow g.val)]))).launch 5 (.reg (fld (eweSlot (e.cxNow g.val).bundle) 4 5)
            (arithVal 2 (primeAt c.ptab (ewePidx (e.cxNow g.val))) (Tab.get (List.replicate 128 0) c.vregs
                (fld (eweSlot (e.cxNow g.val).bundle) 9 5)) (Tab.get (List.replicate 128 0) c.vregs
                (fld (eweSlot (e.cxNow g.val).bundle) 14 5)) (Tab.get (List.replicate 128 0) c.vregs
                (fld (eweSlot (e.cxNow g.val).bundle) 4 5)) (Tab.get (List.replicate 128 0) c.vregs
                (fld (eweSlot (e.cxNow g.val).bundle) 19 5)) (fld (eweSlot (e.cxNow g.val).bundle) 19 7))
            (arithLat 2 (c.fm [ewePidx (e.cxNow g.val)]))) (e.cxNow g.val).aliased []).updCore g.val fun c =>
        c.sideShown.issued 5)) ∧
  (∀ (g : CoreId) (e : Dev), Completes (.neg g) (fun d => d.slotReady g.val 5 3 = (e, true))
      (fun _ => (e.updCore g.val fun c => ({ c with eweArith := satAdd 64 c.eweArith 1 }.busyUntil 2
            (arithOcc 3 (c.fm [ewePidx (e.cxNow g.val)]))).launch 5 (.reg (fld (eweSlot (e.cxNow g.val).bundle) 4 5)
            (arithVal 3 (primeAt c.ptab (ewePidx (e.cxNow g.val))) (Tab.get (List.replicate 128 0) c.vregs
                (fld (eweSlot (e.cxNow g.val).bundle) 9 5)) (Tab.get (List.replicate 128 0) c.vregs
                (fld (eweSlot (e.cxNow g.val).bundle) 14 5)) (Tab.get (List.replicate 128 0) c.vregs
                (fld (eweSlot (e.cxNow g.val).bundle) 4 5)) (Tab.get (List.replicate 128 0) c.vregs
                (fld (eweSlot (e.cxNow g.val).bundle) 19 5)) (fld (eweSlot (e.cxNow g.val).bundle) 19 7))
            (arithLat 3 (c.fm [ewePidx (e.cxNow g.val)]))) (e.cxNow g.val).aliased []).updCore g.val fun c =>
        c.sideShown.issued 5)) ∧
  (∀ (g : CoreId) (e : Dev), Completes (.mul g) (fun d => d.slotReady g.val 5 4 = (e, true))
      (fun _ => (e.updCore g.val fun c => ({ c with eweArith := satAdd 64 c.eweArith 1 }.busyUntil 2
            (arithOcc 4 (c.fm [ewePidx (e.cxNow g.val)]))).launch 5 (.reg (fld (eweSlot (e.cxNow g.val).bundle) 4 5)
            (arithVal 4 (primeAt c.ptab (ewePidx (e.cxNow g.val))) (Tab.get (List.replicate 128 0) c.vregs
                (fld (eweSlot (e.cxNow g.val).bundle) 9 5)) (Tab.get (List.replicate 128 0) c.vregs
                (fld (eweSlot (e.cxNow g.val).bundle) 14 5)) (Tab.get (List.replicate 128 0) c.vregs
                (fld (eweSlot (e.cxNow g.val).bundle) 4 5)) (Tab.get (List.replicate 128 0) c.vregs
                (fld (eweSlot (e.cxNow g.val).bundle) 19 5)) (fld (eweSlot (e.cxNow g.val).bundle) 19 7))
            (arithLat 4 (c.fm [ewePidx (e.cxNow g.val)]))) (e.cxNow g.val).aliased []).updCore g.val fun c =>
        c.sideShown.issued 5)) ∧
  (∀ (g : CoreId) (e : Dev), Completes (.mac g) (fun d => d.slotReady g.val 5 5 = (e, true))
      (fun _ => (e.updCore g.val fun c => ({ c with eweArith := satAdd 64 c.eweArith 1 }.busyUntil 2
            (arithOcc 5 (c.fm [ewePidx (e.cxNow g.val)]))).launch 5 (.reg (fld (eweSlot (e.cxNow g.val).bundle) 4 5)
            (arithVal 5 (primeAt c.ptab (ewePidx (e.cxNow g.val))) (Tab.get (List.replicate 128 0) c.vregs
                (fld (eweSlot (e.cxNow g.val).bundle) 9 5)) (Tab.get (List.replicate 128 0) c.vregs
                (fld (eweSlot (e.cxNow g.val).bundle) 14 5)) (Tab.get (List.replicate 128 0) c.vregs
                (fld (eweSlot (e.cxNow g.val).bundle) 4 5)) (Tab.get (List.replicate 128 0) c.vregs
                (fld (eweSlot (e.cxNow g.val).bundle) 19 5)) (fld (eweSlot (e.cxNow g.val).bundle) 19 7))
            (arithLat 5 (c.fm [ewePidx (e.cxNow g.val)]))) (e.cxNow g.val).aliased []).updCore g.val fun c =>
        c.sideShown.issued 5)) ∧
  (∀ (g : CoreId) (e : Dev), Completes (.cmplt g) (fun d => d.slotReady g.val 5 6 = (e, true))
      (fun _ => (e.updCore g.val fun c => ({ c with eweArith := satAdd 64 c.eweArith 1 }.busyUntil 2 (arithOcc 6 (1))).launch
          5 (.reg (fld (eweSlot (e.cxNow g.val).bundle) 4 5) (arithVal 6 (primeAt c.ptab (ewePidx (e.cxNow g.val)))
              (Tab.get (List.replicate 128 0) c.vregs (fld (eweSlot (e.cxNow g.val).bundle) 9 5))
              (Tab.get (List.replicate 128 0) c.vregs (fld (eweSlot (e.cxNow g.val).bundle) 14 5))
              (Tab.get (List.replicate 128 0) c.vregs (fld (eweSlot (e.cxNow g.val).bundle) 4 5))
              (Tab.get (List.replicate 128 0) c.vregs (fld (eweSlot (e.cxNow g.val).bundle) 19 5))
              (fld (eweSlot (e.cxNow g.val).bundle) 19 7)) (arithLat 6 (1))) (e.cxNow g.val).aliased []).updCore g.val
        fun c => c.sideShown.issued 5)) ∧
  (∀ (g : CoreId) (e : Dev), Completes (.cmpeq g) (fun d => d.slotReady g.val 5 7 = (e, true))
      (fun _ => (e.updCore g.val fun c => ({ c with eweArith := satAdd 64 c.eweArith 1 }.busyUntil 2 (arithOcc 7 (1))).launch
          5 (.reg (fld (eweSlot (e.cxNow g.val).bundle) 4 5) (arithVal 7 (primeAt c.ptab (ewePidx (e.cxNow g.val)))
              (Tab.get (List.replicate 128 0) c.vregs (fld (eweSlot (e.cxNow g.val).bundle) 9 5))
              (Tab.get (List.replicate 128 0) c.vregs (fld (eweSlot (e.cxNow g.val).bundle) 14 5))
              (Tab.get (List.replicate 128 0) c.vregs (fld (eweSlot (e.cxNow g.val).bundle) 4 5))
              (Tab.get (List.replicate 128 0) c.vregs (fld (eweSlot (e.cxNow g.val).bundle) 19 5))
              (fld (eweSlot (e.cxNow g.val).bundle) 19 7)) (arithLat 7 (1))) (e.cxNow g.val).aliased []).updCore g.val
        fun c => c.sideShown.issued 5)) ∧
  (∀ (g : CoreId) (e : Dev), Completes (.sel g) (fun d => d.slotReady g.val 5 8 = (e, true))
      (fun _ => (e.updCore g.val fun c => ({ c with eweArith := satAdd 64 c.eweArith 1 }.busyUntil 2 (arithOcc 8 (1))).launch
          5 (.reg (fld (eweSlot (e.cxNow g.val).bundle) 4 5) (arithVal 8 (primeAt c.ptab (ewePidx (e.cxNow g.val)))
              (Tab.get (List.replicate 128 0) c.vregs (fld (eweSlot (e.cxNow g.val).bundle) 9 5))
              (Tab.get (List.replicate 128 0) c.vregs (fld (eweSlot (e.cxNow g.val).bundle) 14 5))
              (Tab.get (List.replicate 128 0) c.vregs (fld (eweSlot (e.cxNow g.val).bundle) 4 5))
              (Tab.get (List.replicate 128 0) c.vregs (fld (eweSlot (e.cxNow g.val).bundle) 19 5))
              (fld (eweSlot (e.cxNow g.val).bundle) 19 7)) (arithLat 8 (1))) (e.cxNow g.val).aliased []).updCore g.val
        fun c => c.sideShown.issued 5)) ∧
  (∀ (g : CoreId) (e : Dev), Completes (.shuf g) (fun d => d.slotReady g.val 5 9 = (e, true))
      (fun _ => (e.updCore g.val fun c => ({ c with eweArith := satAdd 64 c.eweArith 1 }.busyUntil 2 (arithOcc 9 (1))).launch
          5 (.reg (fld (eweSlot (e.cxNow g.val).bundle) 4 5) (arithVal 9 (primeAt c.ptab (ewePidx (e.cxNow g.val)))
              (Tab.get (List.replicate 128 0) c.vregs (fld (eweSlot (e.cxNow g.val).bundle) 9 5))
              (Tab.get (List.replicate 128 0) c.vregs (fld (eweSlot (e.cxNow g.val).bundle) 14 5))
              (Tab.get (List.replicate 128 0) c.vregs (fld (eweSlot (e.cxNow g.val).bundle) 4 5))
              (Tab.get (List.replicate 128 0) c.vregs (fld (eweSlot (e.cxNow g.val).bundle) 19 5))
              (fld (eweSlot (e.cxNow g.val).bundle) 19 7)) (arithLat 9 (1))) (e.cxNow g.val).aliased []).updCore g.val
        fun c => c.sideShown.issued 5)) ∧
  (∀ (g : CoreId) (e : Dev), Completes (.bcast g) (fun d => d.slotReady g.val 5 10 = (e, true))
      (fun _ => (e.updCore g.val fun c => ({ c with eweArith := satAdd 64 c.eweArith 1 }.busyUntil 2 (arithOcc 10 (1))).launch
          5 (.reg (fld (eweSlot (e.cxNow g.val).bundle) 4 5) (arithVal 10 (primeAt c.ptab (ewePidx (e.cxNow g.val)))
              (Tab.get (List.replicate 128 0) c.vregs (fld (eweSlot (e.cxNow g.val).bundle) 9 5))
              (Tab.get (List.replicate 128 0) c.vregs (fld (eweSlot (e.cxNow g.val).bundle) 14 5))
              (Tab.get (List.replicate 128 0) c.vregs (fld (eweSlot (e.cxNow g.val).bundle) 4 5))
              (Tab.get (List.replicate 128 0) c.vregs (fld (eweSlot (e.cxNow g.val).bundle) 19 5))
              (fld (eweSlot (e.cxNow g.val).bundle) 19 7)) (arithLat 10 (1))) (e.cxNow g.val).aliased []).updCore
        g.val fun c => c.sideShown.issued 5)) ∧
  (∀ (g : CoreId) (e : Dev), Completes (.add64 g) (fun d => d.slotReady g.val 5 11 = (e, true))
      (fun _ => (e.updCore g.val fun c => ({ c with eweArith := satAdd 64 c.eweArith 1 }.busyUntil 2 (arithOcc 11 (1))).launch
          5 (.reg (fld (eweSlot (e.cxNow g.val).bundle) 4 5) (arithVal 11 (primeAt c.ptab (ewePidx (e.cxNow g.val)))
              (Tab.get (List.replicate 128 0) c.vregs (fld (eweSlot (e.cxNow g.val).bundle) 9 5))
              (Tab.get (List.replicate 128 0) c.vregs (fld (eweSlot (e.cxNow g.val).bundle) 14 5))
              (Tab.get (List.replicate 128 0) c.vregs (fld (eweSlot (e.cxNow g.val).bundle) 4 5))
              (Tab.get (List.replicate 128 0) c.vregs (fld (eweSlot (e.cxNow g.val).bundle) 19 5))
              (fld (eweSlot (e.cxNow g.val).bundle) 19 7)) (arithLat 11 (1))) (e.cxNow g.val).aliased []).updCore
        g.val fun c => c.sideShown.issued 5)) ∧
  (∀ (g : CoreId) (e : Dev), Completes (.sub64 g) (fun d => d.slotReady g.val 5 12 = (e, true))
      (fun _ => (e.updCore g.val fun c => ({ c with eweArith := satAdd 64 c.eweArith 1 }.busyUntil 2 (arithOcc 12 (1))).launch
          5 (.reg (fld (eweSlot (e.cxNow g.val).bundle) 4 5) (arithVal 12 (primeAt c.ptab (ewePidx (e.cxNow g.val)))
              (Tab.get (List.replicate 128 0) c.vregs (fld (eweSlot (e.cxNow g.val).bundle) 9 5))
              (Tab.get (List.replicate 128 0) c.vregs (fld (eweSlot (e.cxNow g.val).bundle) 14 5))
              (Tab.get (List.replicate 128 0) c.vregs (fld (eweSlot (e.cxNow g.val).bundle) 4 5))
              (Tab.get (List.replicate 128 0) c.vregs (fld (eweSlot (e.cxNow g.val).bundle) 19 5))
              (fld (eweSlot (e.cxNow g.val).bundle) 19 7)) (arithLat 12 (1))) (e.cxNow g.val).aliased []).updCore
        g.val fun c => c.sideShown.issued 5)) ∧
  (∀ (g : CoreId) (e : Dev), Completes (.mul64 g) (fun d => d.slotReady g.val 5 13 = (e, true))
      (fun _ => (e.updCore g.val fun c => ({ c with eweArith := satAdd 64 c.eweArith 1 }.busyUntil 2 (arithOcc 13 (1))).launch
          5 (.reg (fld (eweSlot (e.cxNow g.val).bundle) 4 5) (arithVal 13 (primeAt c.ptab (ewePidx (e.cxNow g.val)))
              (Tab.get (List.replicate 128 0) c.vregs (fld (eweSlot (e.cxNow g.val).bundle) 9 5))
              (Tab.get (List.replicate 128 0) c.vregs (fld (eweSlot (e.cxNow g.val).bundle) 14 5))
              (Tab.get (List.replicate 128 0) c.vregs (fld (eweSlot (e.cxNow g.val).bundle) 4 5))
              (Tab.get (List.replicate 128 0) c.vregs (fld (eweSlot (e.cxNow g.val).bundle) 19 5))
              (fld (eweSlot (e.cxNow g.val).bundle) 19 7)) (arithLat 13 (1))) (e.cxNow g.val).aliased []).updCore
        g.val fun c => c.sideShown.issued 5)) ∧
  (∀ (g : CoreId) (e : Dev), Completes (.cmplt64 g) (fun d => d.slotReady g.val 5 14 = (e, true))
      (fun _ => (e.updCore g.val fun c => ({ c with eweArith := satAdd 64 c.eweArith 1 }.busyUntil 2 (arithOcc 14 (1))).launch
          5 (.reg (fld (eweSlot (e.cxNow g.val).bundle) 4 5) (arithVal 14 (primeAt c.ptab (ewePidx (e.cxNow g.val)))
              (Tab.get (List.replicate 128 0) c.vregs (fld (eweSlot (e.cxNow g.val).bundle) 9 5))
              (Tab.get (List.replicate 128 0) c.vregs (fld (eweSlot (e.cxNow g.val).bundle) 14 5))
              (Tab.get (List.replicate 128 0) c.vregs (fld (eweSlot (e.cxNow g.val).bundle) 4 5))
              (Tab.get (List.replicate 128 0) c.vregs (fld (eweSlot (e.cxNow g.val).bundle) 19 5))
              (fld (eweSlot (e.cxNow g.val).bundle) 19 7)) (arithLat 14 (1))) (e.cxNow g.val).aliased []).updCore
        g.val fun c => c.sideShown.issued 5)) ∧
  (∀ (g : CoreId) (e : Dev), Completes (.st g) (fun d => d.slotReady g.val 6 1 = (e, true))
      (fun _ => (e.updCore g.val fun c => c.launch 6 (.st (eweRow (e.cxNow g.val) 6)
            (Tab.get (List.replicate 128 0) c.vregs (fld (eweSlot (e.cxNow g.val).bundle) 80 5)))
          (e.cxNow g.val).aliased []).updCore g.val fun c => c.sideShown.issued 6)) ∧
  (∀ (g : CoreId) (up : List Upset) (e : Dev) (s : Nat), Completes (.ld g up) (fun d =>
        ((d.updCore g.val fun c => c.strike up).readSlot g.val) = s ∧ (d.updCore g.val fun c => c.strike up).slotReady
        g.val s 1 = (e, true)) (fun _ => (e.updCore g.val fun c => c.launch s
          (.ld (readReg (e.cxNow g.val) s) (eweRow (e.cxNow g.val) s)) (e.cxNow g.val).aliased
          ((List.range 128).map fun k => (k, c.word (64 * eweRow (e.cxNow g.val) s + k)))).updCore g.val fun c =>
        c.sideShown.issued s)) ∧
  (∀ (g : CoreId) (e : Dev) (s : Nat), Completes (.qpop g)
      (fun d => d.readSlot g.val = s ∧ d.slotReady g.val s 2 = (e, true)) (fun _ => (e.updCore g.val fun c =>
          (if c.quarter = 3 then { c with tiles := c.tiles.drop 1, quarter := 0 } else
            { c with quarter := c.quarter + 1 }).launch s (.reg (readReg (e.cxNow g.val) s)
            (((c.tiles.headD []).drop (128 * c.quarter)).take 128) 3) (e.cxNow g.val).aliased []).updCore g.val fun c
        => c.sideShown.issued s))

/-- Every command of the block queue, of dispatch, of block boundaries, of freezes and of work in flight completes
(R62, R150 to R154, R158 to R170, R172, R176, R181, R206). Each clause names a command and the condition on the device
that it finds; where the condition holds, exec answers a next state, with the device that the clause gives once the
effects that follow every command are in. -/
def Obligations.BlockCommandsComplete : Prop :=
  (∀ (g : CoreId) (e : Dev) (w : Nat), Completes (.engineWriteLands g) (fun d => d.skipEmpty g.val 65536 = e ∧
        (((e.core g.val).writeCycles.filter fun w => decide ((if (e.core g.val).seq.wrote then
                (e.core g.val).seq.cycle + 1 else (e.core g.val).seq.cycle) ≤ w)).min?) = some w ∧
        (e.core g.val).pendingSlot = none ∧ (e.core g.val).seq.freeze = none ∧
        ((e.core g.val).seq.next = none ∨ w < (e.core g.val).seq.due) ∧
        ((e.advance g.val w (w - (e.core g.val).seq.cycle)).core g.val).seq.cycle = w)
      (fun _ => (e.advance g.val w (w - (e.core g.val).seq.cycle)).updCore g.val Core.land)) ∧
  (∀ (g : CoreId) (e : Dev) (w : Nat), Completes (.tileDeposit g) (fun d => d.skipEmpty g.val 65536 = e ∧
        (((e.core g.val).tileCycles.filter fun w => decide ((if (e.core g.val).seq.wrote then (e.core g.val).seq.cycle
                + 1 else (e.core g.val).seq.cycle) ≤ w)).min?) = some w ∧ (e.core g.val).pendingSlot = none ∧
        (e.core g.val).seq.freeze = none ∧ ((e.core g.val).seq.next = none ∨ w < (e.core g.val).seq.due) ∧
        ((e.advance g.val w (w - (e.core g.val).seq.cycle)).core g.val).seq.cycle = w)
      (fun _ => (e.advance g.val w (w - (e.core g.val).seq.cycle)).updCore g.val Core.land)) ∧
  (∀ (g : CoreId) (n : Nat), Completes (.freezeEnd g n) (fun d => (d.core g.val).seq.freeze.isSome = true ∧
        (d.updCore g.val fun c => { c.release with
              lateFreezeCyc := satAdd 64 c.lateFreezeCyc n, seq := { c.seq with freeze := none } }).stillWaits g.val =
        false) (fun d => (d.updCore g.val fun c => { c.release with
              lateFreezeCyc := satAdd 64 c.lateFreezeCyc n, seq := { c.seq with freeze := none } }))) ∧
  (∀ (g : CoreId) (n : Nat) (f : Freeze) (j : Job), Completes (.streamTimeout g n) (fun d => (d.core g.val).seq.freeze
        = some f ∧ d.coreJob g.val = some j ∧ (d.core g.val).seq.freezeAon + 25 *
        (if j.streamLimit = 0 then 50 else j.streamLimit) ≤ d.aon (dieOfCore g.val)) (fun d =>
        (d.updCore g.val fun c => { c with
              lateFreezeCyc := satAdd 64 c.lateFreezeCyc n, seq := { c.seq with freeze := none } }).stopBlock g.val
        (.of .memory 0x0304 (f.source + put f.bundle 16 16 + put f.row 48 16) f.order))) ∧
  (∀ (g : CoreId), Completes (.auditFreeze g) (fun d => (d.core g.val).seq.audit = true ∧ 22 ≤
        (d.core g.val).seq.auditRun) (fun d => d.updCore g.val fun c =>
        { c with seq := { c.seq with auditRun := c.seq.auditRun - 22 } })) ∧
  (∀ (g : CoreId) (x : BlockEntry) (t : List BlockEntry) (p : BlockEntry × Nat), Completes (.blockDispatch g)
      (fun d => d.mayDispatch g.val = true ∧ (d.core g.val).bq = x :: t ∧
        (x.kernel = true → ((d.core g.val).kernelBank x.kid).isSome = true ∨ d.loading (d.core g.val) x.kid = true) ∧
        (d.core g.val).bq.zipIdx.find? (fun p => (d.core g.val).ready p.2 p.1) = some p ∧ d.argsWait g.val p.1 = false)
      (fun d => (d.updCore g.val fun c => c.dispatch ((d.aon (dieOfCore g) - (d.core g.val).endAon) * cyclesPerCount
            (Tab.get 0 d.pwr.freqCur (g / 8))) p.2 p.1).kernelOpens g.val p.1)) ∧
  (∀ (g : CoreId) (x : BlockEntry) (t : List BlockEntry), Completes (.blockDispatch g) (fun d => d.mayDispatch g.val =
        true ∧ (d.core g.val).bq = x :: t ∧ x.kernel = true ∧ (d.core g.val).kernelBank x.kid = none ∧ d.loading
        (d.core g.val) x.kid = false) (fun d => (d.updCore g.val fun c =>
          { c with partEnded := true, seq := { c.seq with faulted := true } }).coreFault g.val
        { plainFault 0x0405 1 (coreLoc g.val) x.kid with block := x.index })) ∧
  (∀ (g : CoreId) (e f : Dev) (b : BlockEntry), Completes (.blockBoundary g) (fun d => d.skipEmpty g.val 65536 = e ∧
        (e.core g.val).seq.running ≠ none ∧ (e.core g.val).seq.next = none ∧ (e.core g.val).pendingSlot = none ∧
        (e.core g.val).seq.freeze = none ∧ e.drain g.val ((
            ((e.core g.val).inflight.map fun f => f.issue + f.op.last).foldl max
            (match (e.core g.val).seq.openFault with | some f => f.1 | none => 0)) + 2 - (e.core g.val).seq.cycle) = f
        ∧ (f.core g.val).seq.running = some b ∧ (f.core g.val).inflight = [] ∧ (f.core g.val).seq.openFault = none ∧
        (f.core g.val).seq.freeze = none) (fun _ => f.boundary g.val b)) ∧
  (∀ (g : CoreId) (entry : List Byte), Completes (.seqBqPush g entry) (fun _ => True) (fun d =>
        (d.updCore g.val fun c => { c with
              bqWin := ((bytesAt entry 0 64).zipIdx.filter fun p => decide (0 + p.2 < 64)).foldl
                (fun t p => Tab.set t (0 + p.2) p.1) c.bqWin }).push g.val none)) ∧
  (∀ (g : CoreId) (x : BlockEntry) (t : List BlockEntry), Completes (.pushHeldAccept g)
      (fun d => (d.core g.val).bqHeld = x :: t ∧ (d.core g.val).queued < 256)
      (fun d => d.updCore g.val fun c => { c with bq := c.bq ++ [x], bqHeld := t })) ∧
  (∀ (g : CoreId) (image : BitVec 52) (x : BlockEntry) (m : Mem) (e : Dev) (b : List Byte), Completes
      (.imageFetchDone g image) (fun d => (d.core g.val).bq.find? (fun e => !e.kernel && !(d.core g.val).resident e) =
        some x ∧ x.image = image.toNat ∧ (((d.core g.val).icache.filter fun p => (
              (match (d.core g.val).seq.running with | some b => [b.image] | none => []) ++ (d.core g.val).bq.map
              BlockEntry.image).contains p.1).map fun q => q.2.length).sum + x.length ≤ 1024 ∧
        (d.core g.val).partEnded = false ∧ d.mem.pass (.image g.val) (some ((d.mem.partFor
              (match d.coreJob g.val with | some j => j.partMask | none => 0) image.toNat (64 * x.length)).getD 0))
        (decide (64 * x.length < 512)) image.toNat (64 * x.length) = (m, true) ∧ { d with mem := m }.hbmRead
        image.toNat (64 * x.length) = (e, .ok b)) (fun d => (e.updMem fun m => m.bridge (hbmDie image.toNat)
          (g.val / 64) (64 * x.length)).updCore g.val fun c => { c with
            icache := Tab.set ((d.core g.val).icache.filter fun p => ((match (d.core g.val).seq.running with
                    | some b => [b.image]
                    | none => []) ++ (d.core g.val).bq.map BlockEntry.image).contains p.1) image.toNat
              ((List.range x.length).map fun i => numAt b (64 * i) 64) }))
end

