-- ==== Sys2Proof/Laws/Dispatch.lean ====
section
/-! SUPPORT. What exec is at each command: the command's effect on the device, made a step. -/

set_option Elab.async false

namespace Sys2Proof.Machine

theorem exec_opOpen (g : CoreId) (s : State) : exec (.opOpen g) s = lift (fun d => fxOpOpen d g.val) s := rfl
theorem exec_opClose (g : CoreId) (s : State) : exec (.opClose g) s = lift (fun d => fxOpClose d g.val) s := rfl
theorem exec_clusterOperationStop (g : CoreId) (s : State) :
    exec (.clusterOperationStop g) s = lift (fun d => fxClusterOperationStop d g.val) s := rfl
theorem exec_loop (g : CoreId) (s : State) : exec (.loop g) s = lift (fun d => fxLoop d g.val) s := rfl
theorem exec_shapeSet (g : CoreId) (s : State) : exec (.shapeSet g) s = lift (fun d => fxShapeSet d g.val) s := rfl
theorem exec_pxSet (g : CoreId) (s : State) : exec (.pxSet g) s = lift (fun d => fxPxSet d g.val) s := rfl
theorem exec_nttFwd (g : CoreId) (up : List Upset) (s : State) :
    exec (.nttFwd g up) s = lift (fun d => fxNttFwd d g.val up) s := rfl
theorem exec_nttInv (g : CoreId) (s : State) : exec (.nttInv g) s = lift (fun d => fxNttInv d g.val) s := rfl
theorem exec_nttFwdq (g : CoreId) (s : State) : exec (.nttFwdq g) s = lift (fun d => fxNttFwdq d g.val) s := rfl
theorem exec_nttInvq (g : CoreId) (s : State) : exec (.nttInvq g) s = lift (fun d => fxNttInvq d g.val) s := rfl
theorem exec_bcvLdm (g : CoreId) (s : State) : exec (.bcvLdm g) s = lift (fun d => fxBcvLdm d g.val) s := rfl
theorem exec_bcvExt (g : CoreId) (s : State) : exec (.bcvExt g) s = lift (fun d => fxBcvExt d g.val) s := rfl
theorem exec_bcvMatmul (g : CoreId) (s : State) : exec (.bcvMatmul g) s = lift (fun d => fxBcvMatmul d g.val) s := rfl
theorem exec_ld (g : CoreId) (up : List Upset) (s : State) :
    exec (.ld g up) s = lift (fun d => fxLd d g.val up) s := rfl
theorem exec_qpop (g : CoreId) (s : State) : exec (.qpop g) s = lift (fun d => fxQpop d g.val) s := rfl
theorem exec_st (g : CoreId) (s : State) : exec (.st g) s = lift (fun d => fxSt d g.val) s := rfl
theorem exec_add (g : CoreId) (s : State) : exec (.add g) s = lift (fun d => fxAdd d g.val) s := rfl
theorem exec_sub (g : CoreId) (s : State) : exec (.sub g) s = lift (fun d => fxSub d g.val) s := rfl
theorem exec_neg (g : CoreId) (s : State) : exec (.neg g) s = lift (fun d => fxNeg d g.val) s := rfl
theorem exec_mul (g : CoreId) (s : State) : exec (.mul g) s = lift (fun d => fxMul d g.val) s := rfl
theorem exec_mac (g : CoreId) (s : State) : exec (.mac g) s = lift (fun d => fxMac d g.val) s := rfl
theorem exec_cmplt (g : CoreId) (s : State) : exec (.cmplt g) s = lift (fun d => fxCmplt d g.val) s := rfl
theorem exec_cmpeq (g : CoreId) (s : State) : exec (.cmpeq g) s = lift (fun d => fxCmpeq d g.val) s := rfl
theorem exec_sel (g : CoreId) (s : State) : exec (.sel g) s = lift (fun d => fxSel d g.val) s := rfl
theorem exec_shuf (g : CoreId) (s : State) : exec (.shuf g) s = lift (fun d => fxShuf d g.val) s := rfl
theorem exec_bcast (g : CoreId) (s : State) : exec (.bcast g) s = lift (fun d => fxBcast d g.val) s := rfl
theorem exec_add64 (g : CoreId) (s : State) : exec (.add64 g) s = lift (fun d => fxAdd64 d g.val) s := rfl
theorem exec_sub64 (g : CoreId) (s : State) : exec (.sub64 g) s = lift (fun d => fxSub64 d g.val) s := rfl
theorem exec_mul64 (g : CoreId) (s : State) : exec (.mul64 g) s = lift (fun d => fxMul64 d g.val) s := rfl
theorem exec_cmplt64 (g : CoreId) (s : State) : exec (.cmplt64 g) s = lift (fun d => fxCmplt64 d g.val) s := rfl
theorem exec_prmAuto (g : CoreId) (s : State) : exec (.prmAuto g) s = lift (fun d => fxPrmAuto d g.val) s := rfl
theorem exec_prmAutoip (g : CoreId) (s : State) : exec (.prmAutoip g) s = lift (fun d => fxPrmAutoip d g.val) s := rfl
theorem exec_prmTrans (g : CoreId) (s : State) : exec (.prmTrans g) s = lift (fun d => fxPrmTrans d g.val) s := rfl
theorem exec_prmTransip (g : CoreId) (s : State) :
    exec (.prmTransip g) s = lift (fun d => fxPrmTransip d g.val) s := rfl
theorem exec_prmGather (g : CoreId) (s : State) : exec (.prmGather g) s = lift (fun d => fxPrmGather d g.val) s := rfl
theorem exec_prmScatter (g : CoreId) (s : State) :
    exec (.prmScatter g) s = lift (fun d => fxPrmScatter d g.val) s := rfl
theorem exec_coordListFail (g : CoreId) (s : State) :
    exec (.coordListFail g) s = lift (fun d => fxCoordListFail d g.val) s := rfl
theorem exec_prmSend (g : CoreId) (s : State) : exec (.prmSend g) s = lift (fun d => fxPrmSend d g.val) s := rfl
theorem exec_kexGen (g : CoreId) (s : State) : exec (.kexGen g) s = lift (fun d => fxKexGen d g.val) s := rfl
theorem exec_kexGenq (g : CoreId) (s : State) : exec (.kexGenq g) s = lift (fun d => fxKexGenq d g.val) s := rfl
theorem exec_strIssue (g : CoreId) (s : State) : exec (.strIssue g) s = lift (fun d => fxStrIssue d g.val) s := rfl
theorem exec_engineWriteLands (g : CoreId) (s : State) :
    exec (.engineWriteLands g) s = lift (fun d => fxEngineWriteLands d g.val) s := rfl
theorem exec_tileDeposit (g : CoreId) (s : State) :
    exec (.tileDeposit g) s = lift (fun d => fxTileDeposit d g.val) s := rfl
theorem exec_freezeEnd (g : CoreId) (n : Nat) (s : State) :
    exec (.freezeEnd g n) s = lift (fun d => fxFreezeEnd d g.val n) s := rfl
theorem exec_streamTimeout (g : CoreId) (n : Nat) (s : State) :
    exec (.streamTimeout g n) s = lift (fun d => fxStreamTimeout d g.val n) s := rfl
theorem exec_auditFreeze (g : CoreId) (s : State) :
    exec (.auditFreeze g) s = lift (fun d => fxAuditFreeze d g.val) s := rfl
theorem exec_blockDispatch (g : CoreId) (s : State) :
    exec (.blockDispatch g) s = lift (fun d => fxBlockDispatch d g.val) s := rfl
theorem exec_blockBoundary (g : CoreId) (s : State) :
    exec (.blockBoundary g) s = lift (fun d => fxBlockBoundary d g.val) s := rfl
theorem exec_seqBqPush (g : CoreId) (entry : List Byte) (s : State) :
    exec (.seqBqPush g entry) s = lift (fun d => fxSeqBqPush d g.val entry) s := rfl
theorem exec_pushHeldAccept (g : CoreId) (s : State) :
    exec (.pushHeldAccept g) s = lift (fun d => fxPushHeldAccept d g.val) s := rfl
theorem exec_imageFetchDone (g : CoreId) (image : BitVec 52) (s : State) :
    exec (.imageFetchDone g image) s = lift (fun d => fxImageFetchDone d g.val image.toNat) s := rfl
theorem exec_lsCorrectionRewrite (g : CoreId) (s : State) :
    exec (.lsCorrectionRewrite g) s = lift (fun d => fxLsCorrectionRewrite d g.val) s := rfl
theorem exec_lsScrubStep (g : CoreId) (up : List Upset) (s : State) :
    exec (.lsScrubStep g up) s = lift (fun d => fxLsScrubStep d g.val up) s := rfl
theorem exec_narrowRead (g : CoreId) (w : BitVec 22) (a : Agent) (up : List Upset) (s : State) :
    exec (.narrowRead g w a up) s = lift (fun d => fxNarrowRead d g.val w.toNat a up) s := rfl
theorem exec_narrowWrite (g : CoreId) (w : BitVec 22) (v : BitVec 64) (mask : BitVec 8) (a : Agent) (up : List Upset) (s : State) :
    exec (.narrowWrite g w v mask a up) s = lift (fun d => fxNarrowWrite d g.val w.toNat v.toNat mask.toNat a up) s := rfl
theorem exec_lsWipeDone (g : CoreId) (s : State) :
    exec (.lsWipeDone g) s = lift (fun d => fxLsWipeDone d g.val) s := rfl
theorem exec_exchangeLand (g : CoreId) (s : State) :
    exec (.exchangeLand g) s = lift (fun d => fxExchangeLand d g.val) s := rfl
theorem exec_kloadGo (g : CoreId) (v : BitVec 64) (a : Agent) (s : State) :
    exec (.kloadGo g v a) s = lift (fun d => fxKloadGo d g.val v.toNat a) s := rfl
theorem exec_kloadForce (g : CoreId) (v : BitVec 64) (a : Agent) (s : State) :
    exec (.kloadForce g v a) s = lift (fun d => fxKloadForce d g.val v.toNat a) s := rfl
theorem exec_kloadDone (g : CoreId) (s : State) : exec (.kloadDone g) s = lift (fun d => fxKloadDone d g.val) s := rfl
theorem exec_getVersion (s : State) : exec (.getVersion) s = lift fxGetVersion s := rfl
theorem exec_getCapabilities (s : State) : exec (.getCapabilities) s = lift fxGetCapabilities s := rfl
theorem exec_negotiateAlgorithms (offered : Bool) (s : State) :
    exec (.negotiateAlgorithms offered) s = lift (fun d => fxNegotiateAlgorithms d offered) s := rfl
theorem exec_keyExchange (slot : Nat) (hash : Nat) (s : State) :
    exec (.keyExchange slot hash) s = lift (fun d => fxKeyExchange d slot hash) s := rfl
theorem exec_finish (sid : Nat) (ok : Bool) (s : State) :
    exec (.finish sid ok) s = lift (fun d => fxFinish d sid ok) s := rfl
theorem exec_getMeasurements (sid : Nat) (hash : Nat) (s : State) :
    exec (.getMeasurements sid hash) s = lift (fun d => fxGetMeasurements d sid hash) s := rfl
theorem exec_getReport (nonce : List Byte) (s : State) :
    exec (.getReport nonce) s = lift (fun d => fxGetReport d nonce) s := rfl
theorem exec_getDeviceCert (off : Nat) (len : Nat) (s : State) :
    exec (.getDeviceCert off len) s = lift (fun d => fxGetDeviceCert d off len) s := rfl
theorem exec_bootStage (given : List (Nat × Nat)) (loader : Option Image) (fw : Option Image) (s : State) :
    exec (.bootStage given loader fw) s = lift (fun d => fxBootStage d given loader fw) s := rfl
theorem exec_secKcopyGo (v : BitVec 64) (a : Agent) (s : State) :
    exec (.secKcopyGo v a) s = lift (fun d => fxSecKcopyGo d v.toNat a) s := rfl
theorem exec_kcopyDone (s : State) : exec (.kcopyDone) s = lift fxKcopyDone s := rfl
theorem exec_reservationLogWrite (ok : Bool) (s : State) :
    exec (.reservationLogWrite ok) s = lift (fun d => fxReservationLogWrite d ok) s := rfl
theorem exec_bneReqPush (rcd : List Byte) (s : State) :
    exec (.bneReqPush rcd) s = lift (fun d => fxBneReqPush d rcd) s := rfl
theorem exec_bneRequestStart (s : State) : exec (.bneRequestStart) s = lift fxBneRequestStart s := rfl
theorem exec_bneFetchDone (host : List Byte) (bad : Option Nat) (s : State) :
    exec (.bneFetchDone host bad) s = lift (fun d => fxBneFetchDone d host bad) s := rfl
theorem exec_bneComputeDone (mismatch : Bool) (s : State) :
    exec (.bneComputeDone mismatch) s = lift (fun d => fxBneComputeDone d mismatch) s := rfl
theorem exec_bneWipeDone (s : State) : exec (.bneWipeDone) s = lift fxBneWipeDone s := rfl
theorem exec_securityViolation (bits : BitVec 5) (s : State) :
    exec (.securityViolation bits) s = lift (fun d => fxSecurityViolation d bits.toNat) s := rfl
theorem exec_tokenSignalArrives (g : CoreId) (who : Nat) (s : State) :
    exec (.tokenSignalArrives g who) s = lift (fun d => fxTokenSignalArrives d g.val who) s := rfl
theorem exec_run (g : CoreId) (e : EngId) (s : State) :
    exec (.run g e) s = lift (fun d => d.unlessRelock g.val fun d => fxRun d g.val e.val) s := rfl
theorem exec_post (g : CoreId) (e : EngId) (s : State) :
    exec (.post g e) s = lift (fun d => d.unlessRelock g.val fun d => fxPost d g.val e.val) s := rfl
theorem exec_kbind (g : CoreId) (e : EngId) (s : State) :
    exec (.kbind g e) s = lift (fun d => d.unlessRelock g.val fun d => fxKbind d g.val e.val) s := rfl
theorem exec_leave (g : CoreId) (e : EngId) (s : State) :
    exec (.leave g e) s = lift (fun d => d.unlessRelock g.val fun d => fxLeave d g.val e.val) s := rfl
theorem exec_unpost (g : CoreId) (e : EngId) (s : State) :
    exec (.unpost g e) s = lift (fun d => d.unlessRelock g.val fun d => fxUnpost d g.val e.val) s := rfl
theorem exec_unpostComplete (g : CoreId) (e : EngId) (s : State) :
    exec (.unpostComplete g e) s = lift (fun d => d.unlessRelock g.val fun d => fxUnpostComplete d g.val e.val) s := rfl
theorem exec_release (g : CoreId) (e : EngId) (s : State) :
    exec (.release g e) s = lift (fun d => d.unlessRelock g.val fun d => fxRelease d g.val e.val) s := rfl
theorem exec_strEnd (g : CoreId) (e : EngId) (s : State) :
    exec (.strEnd g e) s = lift (fun d => d.unlessRelock g.val fun d => fxStrEnd d g.val e.val) s := rfl
theorem exec_seta (g : CoreId) (e : EngId) (s : State) :
    exec (.seta g e) s = lift (fun d => d.unlessRelock g.val fun d => fxSeta d g.val e.val) s := rfl
theorem exec_adda (g : CoreId) (e : EngId) (s : State) :
    exec (.adda g e) s = lift (fun d => d.unlessRelock g.val fun d => fxAdda d g.val e.val) s := rfl
theorem exec_setl (g : CoreId) (e : EngId) (s : State) :
    exec (.setl g e) s = lift (fun d => d.unlessRelock g.val fun d => fxSetl d g.val e.val) s := rfl
theorem exec_addl (g : CoreId) (e : EngId) (s : State) :
    exec (.addl g e) s = lift (fun d => d.unlessRelock g.val fun d => fxAddl d g.val e.val) s := rfl
theorem exec_strLoop (g : CoreId) (e : EngId) (s : State) :
    exec (.strLoop g e) s = lift (fun d => d.unlessRelock g.val fun d => fxStrLoop d g.val e.val) s := rfl
theorem exec_rd (g : CoreId) (e : EngId) (s : State) :
    exec (.rd g e) s = lift (fun d => d.unlessRelock g.val fun d => fxRd d g.val e.val) s := rfl
theorem exec_wr (g : CoreId) (e : EngId) (s : State) :
    exec (.wr g e) s = lift (fun d => d.unlessRelock g.val fun d => fxWr d g.val e.val) s := rfl
theorem exec_rrd (g : CoreId) (e : EngId) (s : State) :
    exec (.rrd g e) s = lift (fun d => d.unlessRelock g.val fun d => fxRrd d g.val e.val) s := rfl
theorem exec_rwr (g : CoreId) (e : EngId) (s : State) :
    exec (.rwr g e) s = lift (fun d => d.unlessRelock g.val fun d => fxRwr d g.val e.val) s := rfl
theorem exec_waitt (g : CoreId) (e : EngId) (s : State) :
    exec (.waitt g e) s = lift (fun d => d.unlessRelock g.val fun d => fxWaitt d g.val e.val) s := rfl
theorem exec_waittSatisfied (g : CoreId) (e : EngId) (s : State) :
    exec (.waittSatisfied g e) s = lift (fun d => d.unlessRelock g.val fun d => fxWaittSatisfied d g.val e.val) s := rfl
theorem exec_sig (g : CoreId) (e : EngId) (s : State) :
    exec (.sig g e) s = lift (fun d => d.unlessRelock g.val fun d => fxSig d g.val e.val) s := rfl
theorem exec_sigSignalled (g : CoreId) (e : EngId) (s : State) :
    exec (.sigSignalled g e) s = lift (fun d => d.unlessRelock g.val fun d => fxSigSignalled d g.val e.val) s := rfl
theorem exec_fence (g : CoreId) (e : EngId) (s : State) :
    exec (.fence g e) s = lift (fun d => d.unlessRelock g.val fun d => fxFence d g.val e.val) s := rfl
theorem exec_fenceComplete (g : CoreId) (e : EngId) (s : State) :
    exec (.fenceComplete g e) s = lift (fun d => d.unlessRelock g.val fun d => fxFenceComplete d g.val e.val) s := rfl
theorem exec_ringRowLands (g : CoreId) (r : RingId) (up : List Upset) (s : State) :
    exec (.ringRowLands g r up) s = lift (fun d => d.unlessRelock g.val fun d => fxRingRowLands d g.val r.val up) s := rfl
theorem exec_lsend (g : CoreId) (e : EngId) (s : State) :
    exec (.lsend g e) s = lift (fun d => d.unlessRelock g.val fun d => fxLsend d g.val e.val) s := rfl
theorem exec_transferRequest (g : CoreId) (e : EngId) (n : Nat) (s : State) :
    exec (.transferRequest g e n) s = lift (fun d => d.unlessRelock g.val fun d => fxTransferRequest d g.val e.val n) s := rfl
theorem exec_outboundRowDrain (g : CoreId) (r : RingId) (up : List Upset) (s : State) :
    exec (.outboundRowDrain g r up) s = lift (fun d => d.unlessRelock g.val fun d => fxOutboundRowDrain d g.val r.val up) s := rfl
theorem exec_peerAdd (id : BitVec 16) (s : State) : exec (.peerAdd id) s = lift (fun d => fxPeerAdd d id.toNat) s := rfl
theorem exec_peerRemove (id : BitVec 16) (s : State) :
    exec (.peerRemove id) s = lift (fun d => fxPeerRemove d id.toNat) s := rfl
theorem exec_peerSetOwners (id : BitVec 16) (owners : BitVec 64) (s : State) :
    exec (.peerSetOwners id owners) s = lift (fun d => fxPeerSetOwners d id.toNat owners.toNat) s := rfl
theorem exec_peerDrainDone (id : BitVec 16) (s : State) :
    exec (.peerDrainDone id) s = lift (fun d => fxPeerDrainDone d id.toNat) s := rfl
theorem exec_probe (l : LinkId) (s : State) : exec (.probe l) s = lift (fun d => fxProbe d l.val) s := rfl
theorem exec_probeAck (l : LinkId) (s : State) : exec (.probeAck l) s = lift (fun d => fxProbeAck d l.val) s := rfl
theorem exec_probeNak (l : LinkId) (s : State) : exec (.probeNak l) s = lift (fun d => fxProbeNak d l.val) s := rfl
theorem exec_probeRetry (id : BitVec 16) (s : State) :
    exec (.probeRetry id) s = lift (fun d => fxProbeRetry d id.toNat) s := rfl
theorem exec_streamMessageReceive (l : LinkId) (s : State) :
    exec (.streamMessageReceive l) s = lift (fun d => fxStreamMessageReceive d l.val) s := rfl
theorem exec_mackSend (g : CoreId) (r : RingId) (s : State) :
    exec (.mackSend g r) s = lift (fun d => fxMackSend d g.val r.val) s := rfl
theorem exec_refuse (l : LinkId) (core : CoreId) (queue : BitVec 12) (mseq : BitVec 16) (reason : BitVec 4) (s : State) :
    exec (.refuse l core queue mseq reason) s = lift (fun d => fxRefuse d l.val core.val queue.toNat mseq.toNat reason.toNat) s := rfl
theorem exec_rnr (l : LinkId) (core : CoreId) (queue : BitVec 12) (mseq : BitVec 16) (s : State) :
    exec (.rnr l core queue mseq) s = lift (fun d => fxRnr d l.val core.val queue.toNat mseq.toNat) s := rfl
theorem exec_rnrResend (g : CoreId) (peer : BitVec 16) (queue : BitVec 12) (s : State) :
    exec (.rnrResend g peer queue) s = lift (fun d => fxRnrResend d g.val peer.toNat queue.toNat) s := rfl
theorem exec_linkSendTimeout (g : CoreId) (peer : BitVec 16) (queue : BitVec 12) (s : State) :
    exec (.linkSendTimeout g peer queue) s = lift (fun d => fxLinkSendTimeout d g.val peer.toNat queue.toNat) s := rfl
theorem exec_peerWaitTimeout (g : CoreId) (e : EngId) (s : State) :
    exec (.peerWaitTimeout g e) s = lift (fun d => fxPeerWaitTimeout d g.val e.val) s := rfl
theorem exec_linkGroupMemberDrop (g : CoreId) (e : EngId) (n : Nat) (i : Fin 16) (s : State) :
    exec (.linkGroupMemberDrop g e n i) s = lift (fun d => fxLinkGroupMemberDrop d g.val e.val n i.val) s := rfl
theorem exec_kstGrpOpen (die : DieId) (n : GroupId) (a : Agent) (v : BitVec 64) (s : State) :
    exec (.kstGrpOpen die n a v) s = lift (fun d => fxKstGrpOpen d die.val n.val a v.toNat) s := rfl
theorem exec_kstGrpClose (die : DieId) (n : GroupId) (a : Agent) (v : BitVec 64) (s : State) :
    exec (.kstGrpClose die n a v) s = lift (fun d => fxKstGrpClose d die.val n.val a v.toNat) s := rfl
theorem exec_groupHeaderRead (die : DieId) (n : GroupId) (s : State) :
    exec (.groupHeaderRead die n) s = lift (fun d => fxGroupHeaderRead d die.val n.val) s := rfl
theorem exec_keyHeaderArrives (die : DieId) (n : GroupId) (k : Fin 64) (s : State) :
    exec (.keyHeaderArrives die n k) s = lift (fun d => fxKeyHeaderArrives d die.val n.val k.val) s := rfl
theorem exec_expectedTagReady (g : CoreId) (slot : Fin 4) (s : State) :
    exec (.expectedTagReady g slot) s = lift (fun d => fxExpectedTagReady d g.val slot.val) s := rfl
theorem exec_keyChunkArrives (die : DieId) (n : GroupId) (s : State) :
    exec (.keyChunkArrives die n) s = lift (fun d => fxKeyChunkArrives d die.val n.val) s := rfl
theorem exec_multicastRowSend (die : DieId) (n : GroupId) (s : State) :
    exec (.multicastRowSend die n) s = lift (fun d => fxMulticastRowSend d die.val n.val) s := rfl
theorem exec_memberDrop (die : DieId) (n : GroupId) (m : Fin 8) (s : State) :
    exec (.memberDrop die n m) s = lift (fun d => fxMemberDrop d die.val n.val m.val) s := rfl
theorem exec_catchupRead (die : DieId) (n : GroupId) (k : Fin 64) (s : State) :
    exec (.catchupRead die n k) s = lift (fun d => fxCatchupRead d die.val n.val k.val) s := rfl
theorem exec_groupStreamEnd (die : DieId) (n : GroupId) (s : State) :
    exec (.groupStreamEnd die n) s = lift (fun d => fxGroupStreamEnd d die.val n.val) s := rfl
theorem exec_hbmReadReturn (h : ChanId) (atom : BitVec 52) (found : AtomState) (who : Consumer) (s : State) :
    exec (.hbmReadReturn h atom found who) s = lift (fun d => fxHbmReadReturn d h.val atom.toNat found who) s := rfl
theorem exec_fabricUncorrectable (die : DieId) (r : Fin 24) (vc : Nat) (who : Consumer) (s : State) :
    exec (.fabricUncorrectable die r vc who) s = lift (fun d => fxFabricUncorrectable d die.val r.val vc who) s := rfl
theorem exec_jobStart (f : FnId) (seq : BitVec 64) (s : State) :
    exec (.jobStart f seq) s = lift (fun d => fxJobStart d f.val seq.toNat) s := rfl
theorem exec_jobBoundary (f : FnId) (seq : BitVec 64) (s : State) :
    exec (.jobBoundary f seq) s = lift (fun d => fxJobBoundary d f.val seq.toNat) s := rfl
theorem exec_jobCompletion (f : FnId) (seq : BitVec 64) (s : State) :
    exec (.jobCompletion f seq) s = lift (fun d => fxJobCompletion d f.val seq.toNat) s := rfl
theorem exec_functionLevelReset (f : FnId) (s : State) :
    exec (.functionLevelReset f) s = lift (fun d => fxFunctionLevelReset d f.val) s := rfl
theorem exec_kSetGo (k : KSet) (s : State) :
    exec (.kSetGo k) s = lift (fun d => fxKSetGo d k.sid.toNat k.keys) s := rfl
theorem exec_ideIntegrityFail (sid : BitVec 8) (s : State) :
    exec (.ideIntegrityFail sid) s = lift (fun d => fxIdeIntegrityFail d sid.toNat) s := rfl
theorem exec_stopInterface (f : FnId) (s : State) :
    exec (.stopInterface f) s = lift (fun d => fxStopInterface d f.val) s := rfl
theorem exec_lockInterfaceRequest (f : FnId) (stream : BitVec 8) (s : State) :
    exec (.lockInterfaceRequest f stream) s = lift (fun d => fxLockInterfaceRequest d f.val stream.toNat) s := rfl
theorem exec_tdiConfigChange (f : FnId) (s : State) :
    exec (.tdiConfigChange f) s = lift (fun d => fxTdiConfigChange d f.val) s := rfl
theorem exec_startInterfaceRequest (f : FnId) (s : State) :
    exec (.startInterfaceRequest f) s = lift (fun d => fxStartInterfaceRequest d f.val) s := rfl
theorem exec_stopInterfaceWipeDone (f : FnId) (s : State) :
    exec (.stopInterfaceWipeDone f) s = lift (fun d => fxStopInterfaceWipeDone d f.val) s := rfl
theorem exec_smallPathWindow (h : ChanId) (s : State) :
    exec (.smallPathWindow h) s = lift (fun d => fxSmallPathWindow d h.val) s := rfl
theorem exec_wcbPartialWrite (part : PartId) (job : Option Nat) (addr : BitVec 52) (data : List Byte) (s : State) :
    exec (.wcbPartialWrite part job addr data) s = lift (fun d => fxWcbPartialWrite d part.val job addr.toNat data) s := rfl
theorem exec_wcbAgeFlush (die : DieId) (s : State) :
    exec (.wcbAgeFlush die) s = lift (fun d => fxWcbAgeFlush d die.val) s := rfl
theorem exec_wcbFlush (die : DieId) (a : Agent) (s : State) :
    exec (.wcbFlush die a) s = lift (fun d => fxWcbFlush d die.val a) s := rfl
theorem exec_regulatorTick (p : PartId) (s : State) :
    exec (.regulatorTick p) s = lift (fun d => fxRegulatorTick d p.val) s := rfl
theorem exec_regulatedIssue (p : PartId) (s : State) :
    exec (.regulatedIssue p) s = lift (fun d => fxRegulatedIssue d p.val) s := rfl
theorem exec_mregRateWrite (p : PartId) (v : BitVec 64) (a : Agent) (s : State) :
    exec (.mregRateWrite p v a) s = lift (fun d => fxMregRateWrite d p.val v.toNat a) s := rfl
theorem exec_refreshSlot (h : ChanId) (temp : Nat) (found : AtomState) (s : State) :
    exec (.refreshSlot h temp found) s = lift (fun d => fxRefreshSlot d h.val temp found) s := rfl
theorem exec_tgcStart (h : ChanId) (v : BitVec 64) (a : Agent) (s : State) :
    exec (.tgcStart h v a) s = lift (fun d => fxTgcStart d h.val v.toNat a) s := rfl
theorem exec_tgcStop (h : ChanId) (written : Nat) (checked : Nat) (errs : TestErrors) (s : State) :
    exec (.tgcStop h written checked errs) s = lift (fun d => fxTgcStop d h.val written checked errs.count errs.first) s := rfl
theorem exec_tgcTestEnd (h : ChanId) (errs : Nat) (first : Option (Bool × Nat × Nat)) (s : State) :
    exec (.tgcTestEnd h errs first) s = lift (fun d => fxTgcTestEnd d h.val errs first) s := rfl
theorem exec_maintSet (a : Agent) (s : State) : exec (.maintSet a) s = lift (fun d => fxMaintSet d a) s := rfl
theorem exec_maintClear (a : Agent) (s : State) : exec (.maintClear a) s = lift (fun d => fxMaintClear d a) s := rfl
theorem exec_maintWipeDone (s : State) : exec (.maintWipeDone) s = lift fxMaintWipeDone s := rfl
theorem exec_flitCrcReplay (die : DieId) (i : Fin 39) (ok : Bool) (s : State) :
    exec (.flitCrcReplay die i ok) s = lift (fun d => fxFlitCrcReplay d die.val i.val ok) s := rfl
theorem exec_laneSpareReplace (die : DieId) (i : Fin 39) (s : State) :
    exec (.laneSpareReplace die i) s = lift (fun d => fxLaneSpareReplace d die.val i.val) s := rfl
theorem exec_d2dRetrain (a : Agent) (s : State) : exec (.d2dRetrain a) s = lift (fun d => fxD2dRetrain d a) s := rfl
theorem exec_cartridgeFailure (k : CartId) (s : State) :
    exec (.cartridgeFailure k) s = lift (fun d => fxCartridgeFailure d k.val) s := rfl
theorem exec_cartRelease (k : CartId) (s : State) :
    exec (.cartRelease k) s = lift (fun d => fxCartRelease d k.val) s := rfl
theorem exec_cartRestore (k : CartId) (s : State) :
    exec (.cartRestore k) s = lift (fun d => fxCartRestore d k.val) s := rfl
theorem exec_cartridgeInsert (k : CartId) (s : State) :
    exec (.cartridgeInsert k) s = lift (fun d => fxCartridgeInsert d k.val) s := rfl
theorem exec_cartridgeLit (k : CartId) (s : State) :
    exec (.cartridgeLit k) s = lift (fun d => fxCartridgeLit d k.val) s := rfl
theorem exec_cartridgeLeverOpen (k : CartId) (s : State) :
    exec (.cartridgeLeverOpen k) s = lift (fun d => fxCartridgeLeverOpen d k.val) s := rfl
theorem exec_linkLightDetect (l : LinkId) (s : State) :
    exec (.linkLightDetect l) s = lift (fun d => fxLinkLightDetect d l.val) s := rfl
theorem exec_linkTrainStep (l : LinkId) (s : State) :
    exec (.linkTrainStep l) s = lift (fun d => fxLinkTrainStep d l.val) s := rfl
theorem exec_linkTrainTimeout (l : LinkId) (s : State) :
    exec (.linkTrainTimeout l) s = lift (fun d => fxLinkTrainTimeout d l.val) s := rfl
theorem exec_hello (l : LinkId) (id : BitVec 16) (far : BitVec 8) (version : BitVec 8) (s : State) :
    exec (.hello l id far version) s = lift (fun d => fxHello d l.val id.toNat far.toNat version.toNat) s := rfl
theorem exec_lossOfLock (l : LinkId) (s : State) :
    exec (.lossOfLock l) s = lift (fun d => fxLossOfLock d l.val) s := rfl
theorem exec_fastRetrainDone (l : LinkId) (s : State) :
    exec (.fastRetrainDone l) s = lift (fun d => fxFastRetrainDone d l.val) s := rfl
theorem exec_fastRetrainFail (l : LinkId) (s : State) :
    exec (.fastRetrainFail l) s = lift (fun d => fxFastRetrainFail d l.val) s := rfl
theorem exec_linkRetryExpiry (l : LinkId) (s : State) :
    exec (.linkRetryExpiry l) s = lift (fun d => fxLinkRetryExpiry d l.val) s := rfl
theorem exec_flitReceive (l : LinkId) (flit fec : List Nat) (s : State) :
    exec (.flitReceive l flit fec) s = lift (fun d => fxFlitReceive d l.val (flit ++ fec)) s := rfl
theorem exec_nakReceive (l : LinkId) (seq : BitVec 16) (s : State) :
    exec (.nakReceive l seq) s = lift (fun d => fxNakReceive d l.val seq.toNat) s := rfl
theorem exec_lnkRetrain (l : LinkId) (a : Agent) (s : State) :
    exec (.lnkRetrain l a) s = lift (fun d => fxLnkRetrain d l.val a) s := rfl
theorem exec_mack (l : LinkId) (kind : Nat) (core : CoreId) (queue : BitVec 12) (mseq : BitVec 16) (s : State) :
    exec (.mack l kind core queue mseq) s = lift (fun d => fxMack d l.val kind core.val queue.toNat mseq.toNat) s := rfl
theorem exec_winOpen (w : WinId) (s : State) : exec (.winOpen w) s = lift (fun d => fxWinOpen d w.val) s := rfl
theorem exec_winClose (w : WinId) (s : State) : exec (.winClose w) s = lift (fun d => fxWinClose d w.val) s := rfl
theorem exec_winClosed (w : WinId) (s : State) : exec (.winClosed w) s = lift (fun d => fxWinClosed d w.val) s := rfl
theorem exec_windowWriteReceive (l : LinkId) (s : State) :
    exec (.windowWriteReceive l) s = lift (fun d => fxWindowWriteReceive d l.val) s := rfl
theorem exec_windowWriteComplete (w : WinId) (s : State) :
    exec (.windowWriteComplete w) s = lift (fun d => fxWindowWriteComplete d w.val) s := rfl
theorem exec_winXferPush (a : Agent) (rcd : List Byte) (s : State) :
    exec (.winXferPush a rcd) s = lift (fun d => fxWinXferPush d a rcd) s := rfl
theorem exec_winXferStart (s : State) : exec (.winXferStart) s = lift fxWinXferStart s := rfl
theorem exec_windowClosed (l : LinkId) (mseq : BitVec 16) (s : State) :
    exec (.windowClosed l mseq) s = lift (fun d => fxWindowClosed d l.val mseq.toNat) s := rfl
theorem exec_windowRefused (l : LinkId) (mseq : BitVec 16) (s : State) :
    exec (.windowRefused l mseq) s = lift (fun d => fxWindowRefused d l.val mseq.toNat) s := rfl
theorem exec_slotLoad (f : FnId) (slot : ShareId) (v : BitVec 64) (s : State) :
    exec (.slotLoad f slot v) s = lift (fun d => fxSlotLoad d f.val slot.val v.toNat) s := rfl
theorem exec_slotLoadDone (slot : ShareId) (s : State) :
    exec (.slotLoadDone slot) s = lift (fun d => fxSlotLoadDone d slot.val) s := rfl
theorem exec_slotRelease (f : FnId) (slot : ShareId) (s : State) :
    exec (.slotRelease f slot) s = lift (fun d => fxSlotRelease d f.val slot.val) s := rfl
theorem exec_slotWipeDone (slot : ShareId) (s : State) :
    exec (.slotWipeDone slot) s = lift (fun d => fxSlotWipeDone d slot.val) s := rfl
theorem exec_pdecPush (a : Agent) (rcd : List Byte) (s : State) :
    exec (.pdecPush a rcd) s = lift (fun d => fxPdecPush d a rcd) s := rfl
theorem exec_pdecRequestStart (s : State) : exec (.pdecRequestStart) s = lift fxPdecRequestStart s := rfl
theorem exec_pdecDone (s : State) : exec (.pdecDone) s = lift fxPdecDone s := rfl
theorem exec_intakeSeal (f : FnId) (off : Nat) (data : List Byte) (stream : Option Nat) (s : State) :
    exec (.intakeSeal f off data stream) s = lift (fun d => fxIntakeSeal d f.val off data stream) s := rfl
theorem exec_bar0Access (f : FnId) (off : Nat) (wr : Option (List Byte)) (len : Nat) (stream : Option Nat) (s : State) :
    exec (.bar0Access f off wr len stream) s = lift (fun d => fxBar0Access d f.val off wr len stream) s := rfl
theorem exec_bar2Access (f : FnId) (off : Nat) (wr : Option (List Byte)) (len : Nat) (stream : Option Nat) (s : State) :
    exec (.bar2Access f off wr len stream) s = lift (fun d => fxBar2Access d f.val off wr len stream) s := rfl
theorem exec_i3cSetOffset (b : List Byte) (s : State) :
    exec (.i3cSetOffset b) s = lift (fun d => fxI3cSetOffset d b) s := rfl
theorem exec_i3cRegisterWrite (b : List Byte) (s : State) :
    exec (.i3cRegisterWrite b) s = lift (fun d => fxI3cRegisterWrite d b) s := rfl
theorem exec_i3cRegisterRead (s : State) : exec (.i3cRegisterRead) s = lift fxI3cRegisterRead s := rfl
theorem exec_registerWrite (a : Agent) (addr : BitVec 52) (b : RegWrite) (s : State) :
    exec (.registerWrite a addr b) s = lift (fun d => fxRegisterWrite d a addr.toNat b.bytes b.stream) s := rfl
theorem exec_configurationRequest (q : CfgReq) (s : State) :
    exec (.configurationRequest q) s = lift (fun d => fxConfigurationRequest d q) s := rfl
theorem exec_heldSealEvaluate (f : FnId) (s : State) :
    exec (.heldSealEvaluate f) s = lift (fun d => fxHeldSealEvaluate d f.val) s := rfl
theorem exec_jobCheck (f : FnId) (seq : BitVec 64) (s : State) :
    exec (.jobCheck f seq) s = lift (fun d => fxJobCheck d f.val seq.toNat) s := rfl
theorem exec_resourceReserve (f : FnId) (seq : BitVec 64) (s : State) :
    exec (.resourceReserve f seq) s = lift (fun d => fxResourceReserve d f.val seq.toNat) s := rfl
theorem exec_jobTimeLimit (f : FnId) (seq : BitVec 64) (s : State) :
    exec (.jobTimeLimit f seq) s = lift (fun d => fxJobTimeLimit d f.val seq.toNat) s := rfl
theorem exec_intkCancel (f : FnId) (seq : BitVec 64) (s : State) :
    exec (.intkCancel f seq) s = lift (fun d => fxIntkCancel d f.val seq.toNat) s := rfl
theorem exec_intkEn (f : FnId) (v : BitVec 64) (s : State) :
    exec (.intkEn f v) s = lift (fun d => fxIntkEn d f.val v.toNat) s := rfl
theorem exec_hifExpertEnWrite (f : FnId) (v : BitVec 64) (s : State) :
    exec (.hifExpertEnWrite f v) s = lift (fun d => fxHifExpertEnWrite d f.val v.toNat) s := rfl
theorem exec_msixModerationTimer (f : FnId) (v : Fin 16) (s : State) :
    exec (.msixModerationTimer f v) s = lift (fun d => fxMsixModerationTimer d f.val v.val) s := rfl
theorem exec_appExit (a : AppId) (code : BitVec 64) (s : State) :
    exec (.appExit a code) s = lift (fun d => fxAppExit d a.val code.toNat) s := rfl
theorem exec_tokenSignal (a : AppId) (t : BitVec 64) (s : State) :
    exec (.tokenSignal a t) s = lift (fun d => fxTokenSignal d a.val t.toNat) s := rfl
theorem exec_tokenWait (a : AppId) (t : BitVec 64) (threshold : BitVec 64) (limit : BitVec 64) (s : State) :
    exec (.tokenWait a t threshold limit) s = lift (fun d => fxTokenWait d a.val t.toNat threshold.toNat limit.toNat) s := rfl
theorem exec_tokenWaitResume (a : AppId) (s : State) :
    exec (.tokenWaitResume a) s = lift (fun d => fxTokenWaitResume d a.val) s := rfl
theorem exec_tokenRead (a : AppId) (t : BitVec 64) (s : State) :
    exec (.tokenRead a t) s = lift (fun d => fxTokenRead d a.val t.toNat) s := rfl
theorem exec_kgroupOpen (a : AppId) (die : BitVec 64) (hdr : BitVec 64) (members : BitVec 64) (level : BitVec 64) (s : State) :
    exec (.kgroupOpen a die hdr members level) s = lift (fun d => fxKgroupOpen d a.val die.toNat hdr.toNat members.toNat level.toNat) s := rfl
theorem exec_kgroupClose (a : AppId) (die : BitVec 64) (n : BitVec 64) (s : State) :
    exec (.kgroupClose a die n) s = lift (fun d => fxKgroupClose d a.val die.toNat n.toNat) s := rfl
theorem exec_kgroupStatus (a : AppId) (die : BitVec 64) (n : BitVec 64) (s : State) :
    exec (.kgroupStatus a die n) s = lift (fun d => fxKgroupStatus d a.val die.toNat n.toNat) s := rfl
theorem exec_guestPageFault (a : AppId) (addr : BitVec 52) (s : State) :
    exec (.guestPageFault a addr) s = lift (fun d => fxGuestPageFault d a.val addr.toNat) s := rfl
theorem exec_loadAccessFault (a : AppId) (addr : BitVec 52) (s : State) :
    exec (.loadAccessFault a addr) s = lift (fun d => fxLoadAccessFault d a.val addr.toNat) s := rfl
theorem exec_ctrlTrap (a : AppId) (vscause : BitVec 64) (vsepc : BitVec 64) (s : State) :
    exec (.ctrlTrap a vscause vsepc) s = lift (fun d => fxCtrlTrap d a.val vscause.toNat vsepc.toNat) s := rfl
theorem exec_coreFail (c : ClusterId) (p : Fin 9) (ev : Nat) (s : State) :
    exec (.coreFail c p ev) s = lift (fun d => fxCoreFail d c.val p.val ev) s := rfl
theorem exec_spareSubstitution (c : ClusterId) (s : State) :
    exec (.spareSubstitution c) s = lift (fun d => fxSpareSubstitution d c.val) s := rfl
theorem exec_pddSelftestGo (die : DieId) (v : BitVec 64) (a : Agent) (s : State) :
    exec (.pddSelftestGo die v a) s = lift (fun d => fxPddSelftestGo d die.val v.toNat a) s := rfl
theorem exec_selftestStart (die : DieId) (s : State) :
    exec (.selftestStart die) s = lift (fun d => fxSelftestStart d die.val) s := rfl
theorem exec_selftestEnd (die : DieId) (pass : Bool) (s : State) :
    exec (.selftestEnd die pass) s = lift (fun d => fxSelftestEnd d die.val pass) s := rfl
theorem exec_pairingMessage (l : LinkId) (feed : BitVec 8) (answer : Option Bool) (s : State) :
    exec (.pairingMessage l feed answer) s = lift (fun d => fxPairingMessage d l.val feed.toNat answer) s := rfl
theorem exec_pddCommitPush (a : Agent) (rcd : List Byte) (s : State) :
    exec (.pddCommitPush a rcd) s = lift (fun d => fxPddCommitPush d a rcd) s := rfl
theorem exec_commitReceive (l : LinkId) (rcd : List Byte) (s : State) :
    exec (.commitReceive l rcd) s = lift (fun d => fxCommitReceive d l.val rcd) s := rfl
theorem exec_commitAnswer (l : LinkId) (code : BitVec 16) (detail : BitVec 64) (mirrored : Bool) (s : State) :
    exec (.commitAnswer l code detail mirrored) s = lift (fun d => fxCommitAnswer d l.val code.toNat detail.toNat mirrored) s := rfl
theorem exec_pddDigestPush (a : Agent) (rcd : List Byte) (s : State) :
    exec (.pddDigestPush a rcd) s = lift (fun d => fxPddDigestPush d a rcd) s := rfl
theorem exec_digestDone (s : State) : exec (.digestDone) s = lift fxDigestDone s := rfl
theorem exec_lostWaitExpiry (w : Nat) (s : State) :
    exec (.lostWaitExpiry w) s = lift (fun d => fxLostWaitExpiry d w) s := rfl
theorem exec_powerOnReset (s : State) : exec (.powerOnReset) s = lift fxPowerOnReset s := rfl
theorem exec_clockMissing (s : State) : exec (.clockMissing) s = lift fxClockMissing s := rfl
theorem exec_clockReturn (s : State) : exec (.clockReturn) s = lift fxClockReturn s := rfl
theorem exec_perstAssert (n : Nat) (acts : Bool) (s : State) :
    exec (.perstAssert n acts) s = lift (fun d => fxPerstAssert d n acts) s := rfl
theorem exec_perstDeassert (s : State) : exec (.perstDeassert) s = lift fxPerstDeassert s := rfl
theorem exec_hotReset (s : State) : exec (.hotReset) s = lift fxHotReset s := rfl
theorem exec_rstCtrlDevice (v : BitVec 64) (s : State) :
    exec (.rstCtrlDevice v) s = lift (fun d => fxRstCtrlDevice d v.toNat) s := rfl
theorem exec_watchdogExpiry (s : State) : exec (.watchdogExpiry) s = lift fxWatchdogExpiry s := rfl
theorem exec_thermalTrip (cls : Fin 3) (t : Nat) (s : State) :
    exec (.thermalTrip cls t) s = lift (fun d => fxThermalTrip d cls.val t) s := rfl
theorem exec_resetRelease (t : Nat) (s : State) : exec (.resetRelease t) s = lift (fun d => fxResetRelease d t) s := rfl
theorem exec_fuseCopyCheck (ok : Bool) (s : State) :
    exec (.fuseCopyCheck ok) s = lift (fun d => fxFuseCopyCheck d ok) s := rfl
theorem exec_strapSetDone (codes : List Nat) (s : State) :
    exec (.strapSetDone codes) s = lift (fun d => fxStrapSetDone d codes) s := rfl
theorem exec_startTimeout (s : State) : exec (.startTimeout) s = lift fxStartTimeout s := rfl
theorem exec_startStepDone (n : Nat) (norOk : Bool) (bad : List Nat) (s : State) :
    exec (.startStepDone n norOk bad) s = lift (fun d => fxStartStepDone d n norOk bad) s := rfl
theorem exec_startConfirm (s : State) : exec (.startConfirm) s = lift fxStartConfirm s := rfl
theorem exec_partResetCore (g : CoreId) (a : Agent) (s : State) :
    exec (.partResetCore g a) s = lift (fun d => fxPartResetCore d g.val a) s := rfl
theorem exec_partResetCluster (c : ClusterId) (a : Agent) (s : State) :
    exec (.partResetCluster c a) s = lift (fun d => fxPartResetCluster d c.val a) s := rfl
theorem exec_partResetHbmChannel (h : ChanId) (a : Agent) (s : State) :
    exec (.partResetHbmChannel h a) s = lift (fun d => fxPartResetHbmChannel d h.val a) s := rfl
theorem exec_partResetLink (l : LinkId) (a : Agent) (s : State) :
    exec (.partResetLink l a) s = lift (fun d => fxPartResetLink d l.val a) s := rfl
theorem exec_partResetOptEngine (e : OptId) (a : Agent) (s : State) :
    exec (.partResetOptEngine e a) s = lift (fun d => fxPartResetOptEngine d e.val a) s := rfl
theorem exec_partResetAppCore (k : AppId) (a : Agent) (s : State) :
    exec (.partResetAppCore k a) s = lift (fun d => fxPartResetAppCore d k.val a) s := rfl
theorem exec_partResetStart (s : State) : exec (.partResetStart) s = lift fxPartResetStart s := rfl
theorem exec_duskEntry (s : State) : exec (.duskEntry) s = lift fxDuskEntry s := rfl
theorem exec_duskWake (s : State) : exec (.duskWake) s = lift fxDuskWake s := rfl
theorem exec_wakeComplete (s : State) : exec (.wakeComplete) s = lift fxWakeComplete s := rfl
theorem exec_partialResetDone (ok : Bool) (s : State) :
    exec (.partialResetDone ok) s = lift (fun d => fxPartialResetDone d ok) s := rfl
theorem exec_powerSample (w : Nat) (s : State) : exec (.powerSample w) s = lift (fun d => fxPowerSample d w) s := rfl
theorem exec_gapRatioUpdate (s : State) : exec (.gapRatioUpdate) s = lift fxGapRatioUpdate s := rfl
theorem exec_thermalLevelChange (die : DieId) (cls : Fin 3) (t : Nat) (s : State) :
    exec (.thermalLevelChange die cls t) s = lift (fun d => fxThermalLevelChange d die.val cls.val t) s := rfl
theorem exec_throttleStep (die : DieId) (s : State) :
    exec (.throttleStep die) s = lift (fun d => fxThrottleStep d die.val) s := rfl
theorem exec_freqStep (die : DieId) (s : State) : exec (.freqStep die) s = lift (fun d => fxFreqStep d die.val) s := rfl
theorem exec_clusterRelock (c : ClusterId) (s : State) :
    exec (.clusterRelock c) s = lift (fun d => fxClusterRelock d c.val) s := rfl
theorem exec_relockDone (c : ClusterId) (s : State) :
    exec (.relockDone c) s = lift (fun d => fxRelockDone d c.val) s := rfl
theorem exec_pwrCtrlWrite (v : BitVec 64) (a : Agent) (s : State) :
    exec (.pwrCtrlWrite v a) s = lift (fun d => fxPwrCtrlWrite d v.toNat a) s := rfl
theorem exec_clkClusterWrite (c : ClusterId) (v : BitVec 64) (a : Agent) (s : State) :
    exec (.clkClusterWrite c v a) s = lift (fun d => fxClkClusterWrite d c.val v.toNat a) s := rfl
theorem exec_cfgCmdPowerLimit (a : Agent) (v : BitVec 64) (persist : Bool) (norOk : Bool) (s : State) :
    exec (.cfgCmdPowerLimit a v persist norOk) s = lift (fun d => fxCfgCmdPowerLimit d a v.toNat persist norOk) s := rfl
theorem exec_cfgCmdIdleUs (a : Agent) (v : BitVec 64) (persist : Bool) (norOk : Bool) (s : State) :
    exec (.cfgCmdIdleUs a v persist norOk) s = lift (fun d => fxCfgCmdIdleUs d a v.toNat persist norOk) s := rfl
theorem exec_cfgCmdDuskEn (a : Agent) (v : BitVec 64) (persist : Bool) (norOk : Bool) (s : State) :
    exec (.cfgCmdDuskEn a v persist norOk) s = lift (fun d => fxCfgCmdDuskEn d a v.toNat persist norOk) s := rfl
theorem exec_cfgCmdClusterFreq (a : Agent) (v : BitVec 64) (persist : Bool) (norOk : Bool) (s : State) :
    exec (.cfgCmdClusterFreq a v persist norOk) s = lift (fun d => fxCfgCmdClusterFreq d a v.toNat persist norOk) s := rfl
theorem exec_cfgCmdSendLimit (a : Agent) (v : BitVec 64) (persist : Bool) (norOk : Bool) (s : State) :
    exec (.cfgCmdSendLimit a v persist norOk) s = lift (fun d => fxCfgCmdSendLimit d a v.toNat persist norOk) s := rfl
theorem exec_cfgCmdPeerWait (a : Agent) (v : BitVec 64) (persist : Bool) (norOk : Bool) (s : State) :
    exec (.cfgCmdPeerWait a v persist norOk) s = lift (fun d => fxCfgCmdPeerWait d a v.toNat persist norOk) s := rfl
theorem exec_cfgCmdRetry (a : Agent) (v : BitVec 64) (persist : Bool) (norOk : Bool) (s : State) :
    exec (.cfgCmdRetry a v persist norOk) s = lift (fun d => fxCfgCmdRetry d a v.toNat persist norOk) s := rfl
theorem exec_cfgCmdLostWait (a : Agent) (v : BitVec 64) (persist : Bool) (norOk : Bool) (s : State) :
    exec (.cfgCmdLostWait a v persist norOk) s = lift (fun d => fxCfgCmdLostWait d a v.toNat persist norOk) s := rfl
theorem exec_cfgCmdFeedOverride (a : Agent) (v : BitVec 64) (persist : Bool) (norOk : Bool) (s : State) :
    exec (.cfgCmdFeedOverride a v persist norOk) s = lift (fun d => fxCfgCmdFeedOverride d a v.toNat persist norOk) s := rfl
theorem exec_cfgCmdRegulator (a : Agent) (p : PartId) (v : BitVec 64) (persist : Bool) (norOk : Bool) (s : State) :
    exec (.cfgCmdRegulator a p v persist norOk) s = lift (fun d => fxCfgCmdRegulator d a p.val v.toNat persist norOk) s := rfl
theorem exec_updApply (a : Agent) (s : State) : exec (.updApply a) s = lift (fun d => fxUpdApply d a) s := rfl
theorem exec_updResetNow (a : Agent) (s : State) : exec (.updResetNow a) s = lift (fun d => fxUpdResetNow d a) s := rfl
theorem exec_updateStepConfirm (s : State) : exec (.updateStepConfirm) s = lift fxUpdateStepConfirm s := rfl
theorem exec_updateWindowMiss (s : State) : exec (.updateWindowMiss) s = lift fxUpdateWindowMiss s := rfl
theorem exec_updateDeviceReset (s : State) : exec (.updateDeviceReset) s = lift fxUpdateDeviceReset s := rfl
theorem exec_cardInsert (p : Option Package) (s : State) :
    exec (.cardInsert p) s = lift (fun d => fxCardInsert d p) s := rfl
theorem exec_cardRemove (s : State) : exec (.cardRemove) s = lift fxCardRemove s := rfl
theorem exec_updateImageWritten (res : Nat) (s : State) :
    exec (.updateImageWritten res) s = lift (fun d => fxUpdateImageWritten d res) s := rfl
theorem exec_vinRise (s : State) : exec (.vinRise) s = lift fxVinRise s := rfl
theorem exec_vinFall (us : Nat) (s : State) : exec (.vinFall us) s = lift (fun d => fxVinFall d us) s := rfl
theorem exec_vinOvervoltage (s : State) : exec (.vinOvervoltage) s = lift fxVinOvervoltage s := rfl
theorem exec_overcurrentTrip (s : State) : exec (.overcurrentTrip) s = lift fxOvercurrentTrip s := rfl
theorem exec_hotswapRetry (s : State) : exec (.hotswapRetry) s = lift fxHotswapRetry s := rfl
theorem exec_railFault (rail : Fin 16) (kind : Nat) (s : State) :
    exec (.railFault rail kind) s = lift (fun d => fxRailFault d rail.val kind) s := rfl
theorem exec_railRestart (s : State) : exec (.railRestart) s = lift fxRailRestart s := rfl
theorem exec_setdasa (static : BitVec 7) (dyn : BitVec 7) (s : State) :
    exec (.setdasa static dyn) s = lift (fun d => fxSetdasa d static.toNat dyn.toNat) s := rfl
theorem exec_entdaa (dyn : BitVec 7) (s : State) : exec (.entdaa dyn) s = lift (fun d => fxEntdaa d dyn.toNat) s := rfl
theorem exec_pcieLinkReachesL0 (s : State) : exec (.pcieLinkReachesL0) s = lift fxPcieLinkReachesL0 s := rfl
theorem exec_overvoltageTurnOn (s : State) : exec (.overvoltageTurnOn) s = lift fxOvervoltageTurnOn s := rfl

end Sys2Proof.Machine
end

