-- ==== Sys2Proof/Laws/Tab.lean ====
section
/-! SUPPORT. What a sparse table reads after it is written, and that the operations of a memory keep its canonical form. -/

set_option Elab.async false

namespace Sys2Proof

variable {α : Type}

@[simp] theorem Tab.get_set_self (d : α) (t : Tab α) (n : Nat) (x : α) : Tab.get d (Tab.set t n x) n = x := by
  induction t with
  | nil => simp [Tab.set, Tab.get]
  | cons p t ih =>
    obtain ⟨k, v⟩ := p
    simp only [Tab.set]
    split
    · simp [Tab.get]
    · split
      · simp [Tab.get]
      · next h => simp [Tab.get, Ne.symm h, ih]

theorem Tab.get_set_of_ne (d : α) (t : Tab α) {n m : Nat} (x : α) (h : n ≠ m) :
    Tab.get d (Tab.set t n x) m = Tab.get d t m := by
  induction t with
  | nil => simp [Tab.set, Tab.get, h]
  | cons p t ih =>
    obtain ⟨k, v⟩ := p
    simp only [Tab.set]
    split
    · simp [Tab.get, h]
    · split
      · next e => subst e; simp [Tab.get, h]
      · simp [Tab.get, ih]

@[simp] theorem Tab.set_set (t : Tab α) (n : Nat) (x y : α) : Tab.set (Tab.set t n x) n y = Tab.set t n y := by
  induction t with
  | nil => simp [Tab.set]
  | cons p t ih =>
    obtain ⟨k, v⟩ := p
    simp only [Tab.set]
    split
    · simp [Tab.set]
    · split
      · simp [Tab.set]
      · next h1 h2 => simp [Tab.set, h1, h2, ih]

variable {d : α}

theorem Tab.get_of_lt {t : Tab α} {n : Nat} (h : ∀ p ∈ t, n < p.1) : Tab.get d t n = d := by
  induction t with
  | nil => rfl
  | cons p t ih =>
    obtain ⟨k, v⟩ := p
    have : k ≠ n := by have := h (k, v) (List.mem_cons_self ..); simp at this; omega
    simp [Tab.get, this, ih fun p hp => h p (List.mem_cons_of_mem _ hp)]

theorem Tab.mem_set {t : Tab α} {n : Nat} {x : α} {p : Nat × α} (h : p ∈ Tab.set t n x) : p = (n, x) ∨ p ∈ t := by
  induction t with
  | nil => simpa [Tab.set] using h
  | cons q t ih =>
    obtain ⟨k, v⟩ := q
    simp only [Tab.set] at h
    split at h
    · rcases List.mem_cons.mp h with h | h
      · exact .inl h
      · exact .inr h
    · split at h
      · rcases List.mem_cons.mp h with h | h
        · exact .inl h
        · exact .inr (List.mem_cons_of_mem _ h)
      · rcases List.mem_cons.mp h with h | h
        · exact .inr (h ▸ List.mem_cons_self ..)
        · exact (ih h).imp_right (List.mem_cons_of_mem _)

theorem Tab.mem_del {t : Tab α} {n : Nat} {p : Nat × α} (h : p ∈ Tab.del t n) : p ∈ t := by
  induction t with
  | nil => simp [Tab.del] at h
  | cons q t ih =>
    obtain ⟨k, v⟩ := q
    simp only [Tab.del] at h
    split at h
    · exact List.mem_cons_of_mem _ h
    · rcases List.mem_cons.mp h with h | h
      · exact h ▸ List.mem_cons_self ..
      · exact List.mem_cons_of_mem _ (ih h)

variable [DecidableEq α]

theorem Tab.wf_cons {k : Nat} {v : α} {t : Tab α} :
    Tab.wf d ((k, v) :: t) = true ↔ v ≠ d ∧ (∀ p ∈ t, k < p.1) ∧ Tab.wf d t = true := by
  induction t generalizing k v with
  | nil => simp [Tab.wf]
  | cons p t ih =>
    obtain ⟨k', v'⟩ := p
    simp only [Tab.wf, Bool.and_eq_true, decide_eq_true_eq, Bool.not_eq_true', decide_eq_false_iff_not]
    constructor
    · rintro ⟨⟨h1, h2⟩, h3⟩
      refine ⟨h2, ?_, h3⟩
      rw [ih] at h3
      intro p hp
      rcases List.mem_cons.mp hp with rfl | hp
      · exact h1
      · exact Nat.lt_trans h1 (h3.2.1 p hp)
    · rintro ⟨h1, h2, h3⟩
      exact ⟨⟨h2 (k', v') (List.mem_cons_self ..), h1⟩, h3⟩

theorem Tab.wf_tail {p : Nat × α} {t : Tab α} (h : Tab.wf d (p :: t) = true) : Tab.wf d t = true :=
  (Tab.wf_cons.mp h).2.2

theorem Tab.wf_set {t : Tab α} (h : Tab.wf d t = true) (n : Nat) {x : α} (hx : x ≠ d) :
    Tab.wf d (Tab.set t n x) = true := by
  induction t with
  | nil => simp [Tab.set, Tab.wf, hx]
  | cons p t ih =>
    obtain ⟨k, v⟩ := p
    obtain ⟨h1, h2, h3⟩ := Tab.wf_cons.mp h
    simp only [Tab.set]
    split
    · next hn =>
      refine Tab.wf_cons.mpr ⟨hx, ?_, h⟩
      intro p hp
      rcases List.mem_cons.mp hp with rfl | hp
      · exact hn
      · exact Nat.lt_trans hn (h2 p hp)
    · split
      · next e => subst e; exact Tab.wf_cons.mpr ⟨hx, h2, h3⟩
      · refine Tab.wf_cons.mpr ⟨h1, ?_, ih h3⟩
        intro p hp
        rcases Tab.mem_set hp with rfl | hp
        · simp; omega
        · exact h2 p hp

theorem Tab.wf_del {t : Tab α} (h : Tab.wf d t = true) (n : Nat) : Tab.wf d (Tab.del t n) = true := by
  induction t with
  | nil => rfl
  | cons p t ih =>
    obtain ⟨k, v⟩ := p
    obtain ⟨h1, h2, h3⟩ := Tab.wf_cons.mp h
    simp only [Tab.del]
    split
    · exact h3
    · exact Tab.wf_cons.mpr ⟨h1, fun p hp => h2 p (Tab.mem_del hp), ih h3⟩

/-- A write keeps the canonical form. -/
theorem Tab.wf_store {t : Tab α} (h : Tab.wf d t = true) (n : Nat) (x : α) : Tab.wf d (Tab.store d t n x) = true := by
  unfold Tab.store
  split
  · exact Tab.wf_del h n
  · exact Tab.wf_set h n ‹_›

/-- Entries that a condition drops leave the rest in canonical form. -/
theorem Tab.wf_filter {t : Tab α} (h : Tab.wf d t = true) (f : Nat × α → Bool) : Tab.wf d (t.filter f) = true := by
  induction t with
  | nil => rfl
  | cons p t ih =>
    obtain ⟨k, v⟩ := p
    obtain ⟨h1, h2, h3⟩ := Tab.wf_cons.mp h
    simp only [List.filter_cons]
    split
    · exact Tab.wf_cons.mpr ⟨h1, fun p hp => h2 p (List.mem_of_mem_filter hp), ih h3⟩
    · exact ih h3

/-- What a table in canonical form reads after a write. -/
theorem Tab.get_store {t : Tab α} (h : Tab.wf d t = true) (n m : Nat) (x : α) :
    Tab.get d (Tab.store d t n x) m = if m = n then x else Tab.get d t m := by
  unfold Tab.store
  split
  · next hx =>
    subst hx
    induction t with
    | nil => simp [Tab.del, Tab.get]
    | cons p t ih =>
      obtain ⟨k, v⟩ := p
      obtain ⟨h1, h2, h3⟩ := Tab.wf_cons.mp h
      simp only [Tab.del]
      split
      · next e =>
        subst e
        split
        · next e => subst e; exact Tab.get_of_lt h2
        · next e => simp [Tab.get, Ne.symm e]
      · next e =>
        simp only [Tab.get, ih h3]
        split
        · next e2 => subst e2; simp [e]
        · rfl
  · split
    · next e => subst e; exact Tab.get_set_self ..
    · next e => exact Tab.get_set_of_ne _ _ _ (Ne.symm e)

end Sys2Proof
end

