-- ==== Sys2Proof/Laws/Keeps.lean ====
section
/-! SUPPORT. What an effect keeps: `Keeps m a b` says that the device b differs from a in no part outside the mask m, that
memory and local stores in canonical form stay so, that fuses are only burnt and that violations are only added. One lemma
for each way a device is updated. -/

set_option Elab.async false

namespace Sys2Proof.Machine

/-- Every bit of x is a bit of y. -/
abbrev Within (x y : Nat) : Prop := x &&& y = x

theorem within_trans {x y z : Nat} (h : Within y z) (e : Within x y) : Within x z := by
  unfold Within at *
  rw [← e, Nat.and_assoc, h]

theorem within_bit {x y i : Nat} (h : Within x y) (e : x.testBit i = true) : y.testBit i = true := by
  unfold Within at h
  rw [← h, Nat.testBit_and, Bool.and_eq_true] at e
  exact e.2

theorem within_or (x y : Nat) : Within x (x ||| y) := by
  unfold Within
  apply Nat.eq_of_testBit_eq
  intro i
  rw [Nat.testBit_and, Nat.testBit_or]
  cases x.testBit i <;> simp

/-- Nothing outside the mask differs; the forms that a run never loses are kept. Bits of the mask, from bit 0: cores, apps, groups, fns, pcie, expertEn, jobs, nextJob, grants, mem, lane, pwr, rst, nor, cfg, upd, pdd, sec, fuses, viol, hw, bootLog, aon0, aon1, freeCtr, out; bit 26: violations may be cleared. -/
structure Keeps (m : Nat) (a b : Dev) : Prop where
  cores : b.cores = a.cores ∨ m.testBit 0 = true
  apps : b.apps = a.apps ∨ m.testBit 1 = true
  groups : b.groups = a.groups ∨ m.testBit 2 = true
  fns : b.fns = a.fns ∨ m.testBit 3 = true
  pcie : b.pcie = a.pcie ∨ m.testBit 4 = true
  expertEn : b.expertEn = a.expertEn ∨ m.testBit 5 = true
  jobs : b.jobs = a.jobs ∨ m.testBit 6 = true
  nextJob : b.nextJob = a.nextJob ∨ m.testBit 7 = true
  grants : b.grants = a.grants ∨ m.testBit 8 = true
  mem : b.mem = a.mem ∨ m.testBit 9 = true
  lane : b.lane = a.lane ∨ m.testBit 10 = true
  pwr : b.pwr = a.pwr ∨ m.testBit 11 = true
  rst : b.rst = a.rst ∨ m.testBit 12 = true
  nor : b.nor = a.nor ∨ m.testBit 13 = true
  cfg : b.cfg = a.cfg ∨ m.testBit 14 = true
  upd : b.upd = a.upd ∨ m.testBit 15 = true
  pdd : b.pdd = a.pdd ∨ m.testBit 16 = true
  sec : b.sec = a.sec ∨ m.testBit 17 = true
  fuses : b.fuses = a.fuses ∨ m.testBit 18 = true
  viol : b.viol = a.viol ∨ m.testBit 19 = true
  hw : b.hw = a.hw ∨ m.testBit 20 = true
  bootLog : b.bootLog = a.bootLog ∨ m.testBit 21 = true
  aon0 : b.aon0 = a.aon0 ∨ m.testBit 22 = true
  aon1 : b.aon1 = a.aon1 ∨ m.testBit 23 = true
  freeCtr : b.freeCtr = a.freeCtr ∨ m.testBit 24 = true
  out : b.out = a.out ∨ m.testBit 25 = true
  hbm : Tab.wf 0 a.mem.hbm = true → Tab.wf 0 b.mem.hbm = true
  stores : StoresOk a.cores → StoresOk b.cores
  burn : FusesBurn a.fuses b.fuses
  limit : LimitOk a.pwr → LimitOk b.pwr
  grow : Within a.viol b.viol ∨ m.testBit 26 = true

theorem Keeps.refl (m : Nat) (d : Dev) : Keeps m d d :=
  ⟨.inl rfl, .inl rfl, .inl rfl, .inl rfl, .inl rfl, .inl rfl, .inl rfl, .inl rfl, .inl rfl, .inl rfl, .inl rfl, .inl rfl, .inl rfl, .inl rfl, .inl rfl, .inl rfl, .inl rfl, .inl rfl, .inl rfl, .inl rfl, .inl rfl, .inl rfl, .inl rfl, .inl rfl, .inl rfl, .inl rfl, id, id, FusesBurn.refl _, id, .inl (Nat.and_self _)⟩

theorem either_trans {α : Sort _} {x y z : α} {p : Prop} (h : y = x ∨ p) (e : z = y ∨ p) : z = x ∨ p := by
  rcases h with h | h
  · rcases e with e | e
    · exact .inl (e.trans h)
    · exact .inr e
  · exact .inr h

theorem Keeps.trans {m : Nat} {a b c : Dev} (h : Keeps m a b) (e : Keeps m b c) : Keeps m a c :=
  ⟨either_trans h.cores e.cores, either_trans h.apps e.apps, either_trans h.groups e.groups, either_trans h.fns e.fns, either_trans h.pcie e.pcie, either_trans h.expertEn e.expertEn, either_trans h.jobs e.jobs, either_trans h.nextJob e.nextJob, either_trans h.grants e.grants, either_trans h.mem e.mem, either_trans h.lane e.lane, either_trans h.pwr e.pwr, either_trans h.rst e.rst, either_trans h.nor e.nor, either_trans h.cfg e.cfg, either_trans h.upd e.upd, either_trans h.pdd e.pdd, either_trans h.sec e.sec, either_trans h.fuses e.fuses, either_trans h.viol e.viol, either_trans h.hw e.hw, either_trans h.bootLog e.bootLog, either_trans h.aon0 e.aon0, either_trans h.aon1 e.aon1, either_trans h.freeCtr e.freeCtr, either_trans h.out e.out,
    fun x => e.hbm (h.hbm x), fun x => e.stores (h.stores x), h.burn.trans e.burn, fun x => e.limit (h.limit x), by
      rcases h.grow with h | h
      · rcases e.grow with e | e
        · exact .inl (within_trans e h)
        · exact .inr e
      · exact .inr h⟩

/-- One update: each part is the part before or lies in the mask x of the update. -/
theorem Keeps.step (x : Nat) {m : Nat} {a d e : Dev} (h : Keeps m a d) (hm : Within x m)
    (h0 : e.cores = d.cores ∨ x.testBit 0 = true := by first | exact .inr rfl | exact .inl rfl)
    (h1 : e.apps = d.apps ∨ x.testBit 1 = true := by first | exact .inr rfl | exact .inl rfl)
    (h2 : e.groups = d.groups ∨ x.testBit 2 = true := by first | exact .inr rfl | exact .inl rfl)
    (h3 : e.fns = d.fns ∨ x.testBit 3 = true := by first | exact .inr rfl | exact .inl rfl)
    (h4 : e.pcie = d.pcie ∨ x.testBit 4 = true := by first | exact .inr rfl | exact .inl rfl)
    (h5 : e.expertEn = d.expertEn ∨ x.testBit 5 = true := by first | exact .inr rfl | exact .inl rfl)
    (h6 : e.jobs = d.jobs ∨ x.testBit 6 = true := by first | exact .inr rfl | exact .inl rfl)
    (h7 : e.nextJob = d.nextJob ∨ x.testBit 7 = true := by first | exact .inr rfl | exact .inl rfl)
    (h8 : e.grants = d.grants ∨ x.testBit 8 = true := by first | exact .inr rfl | exact .inl rfl)
    (h9 : e.mem = d.mem ∨ x.testBit 9 = true := by first | exact .inr rfl | exact .inl rfl)
    (h10 : e.lane = d.lane ∨ x.testBit 10 = true := by first | exact .inr rfl | exact .inl rfl)
    (h11 : e.pwr = d.pwr ∨ x.testBit 11 = true := by first | exact .inr rfl | exact .inl rfl)
    (h12 : e.rst = d.rst ∨ x.testBit 12 = true := by first | exact .inr rfl | exact .inl rfl)
    (h13 : e.nor = d.nor ∨ x.testBit 13 = true := by first | exact .inr rfl | exact .inl rfl)
    (h14 : e.cfg = d.cfg ∨ x.testBit 14 = true := by first | exact .inr rfl | exact .inl rfl)
    (h15 : e.upd = d.upd ∨ x.testBit 15 = true := by first | exact .inr rfl | exact .inl rfl)
    (h16 : e.pdd = d.pdd ∨ x.testBit 16 = true := by first | exact .inr rfl | exact .inl rfl)
    (h17 : e.sec = d.sec ∨ x.testBit 17 = true := by first | exact .inr rfl | exact .inl rfl)
    (h18 : e.fuses = d.fuses ∨ x.testBit 18 = true := by first | exact .inr rfl | exact .inl rfl)
    (h19 : e.viol = d.viol ∨ x.testBit 19 = true := by first | exact .inr rfl | exact .inl rfl)
    (h20 : e.hw = d.hw ∨ x.testBit 20 = true := by first | exact .inr rfl | exact .inl rfl)
    (h21 : e.bootLog = d.bootLog ∨ x.testBit 21 = true := by first | exact .inr rfl | exact .inl rfl)
    (h22 : e.aon0 = d.aon0 ∨ x.testBit 22 = true := by first | exact .inr rfl | exact .inl rfl)
    (h23 : e.aon1 = d.aon1 ∨ x.testBit 23 = true := by first | exact .inr rfl | exact .inl rfl)
    (h24 : e.freeCtr = d.freeCtr ∨ x.testBit 24 = true := by first | exact .inr rfl | exact .inl rfl)
    (h25 : e.out = d.out ∨ x.testBit 25 = true := by first | exact .inr rfl | exact .inl rfl)
    (hh : Tab.wf 0 d.mem.hbm = true → Tab.wf 0 e.mem.hbm = true := by exact fun x => x)
    (hs : StoresOk d.cores → StoresOk e.cores := by exact fun x => x)
    (hb : FusesBurn d.fuses e.fuses := by exact FusesBurn.refl _)
    (hl : LimitOk d.pwr → LimitOk e.pwr := by exact fun x => x)
    (hv : Within d.viol e.viol ∨ x.testBit 26 = true := by first | exact .inr rfl | exact .inl (Nat.and_self _)) : Keeps m a e :=
  h.trans ⟨h0.imp_right (within_bit hm), h1.imp_right (within_bit hm), h2.imp_right (within_bit hm), h3.imp_right (within_bit hm), h4.imp_right (within_bit hm), h5.imp_right (within_bit hm), h6.imp_right (within_bit hm), h7.imp_right (within_bit hm), h8.imp_right (within_bit hm), h9.imp_right (within_bit hm), h10.imp_right (within_bit hm), h11.imp_right (within_bit hm), h12.imp_right (within_bit hm), h13.imp_right (within_bit hm), h14.imp_right (within_bit hm), h15.imp_right (within_bit hm), h16.imp_right (within_bit hm), h17.imp_right (within_bit hm), h18.imp_right (within_bit hm), h19.imp_right (within_bit hm), h20.imp_right (within_bit hm), h21.imp_right (within_bit hm), h22.imp_right (within_bit hm), h23.imp_right (within_bit hm), h24.imp_right (within_bit hm), h25.imp_right (within_bit hm), hh, hs, hb, hl, hv.imp_right (within_bit hm)⟩

theorem Keeps.ite {m : Nat} {a d e : Dev} {p : Prop} [Decidable p] (h : p → Keeps m a d) (g : ¬ p → Keeps m a e) :
    Keeps m a (if p then d else e) := by
  split
  · exact h ‹_›
  · exact g ‹_›

theorem Keeps.foldl {m : Nat} {a d : Dev} {α : Type} {l : List α} {f : Dev → α → Dev} (h : Keeps m a d)
    (hf : ∀ d x, Keeps m a d → Keeps m a (f d x)) : Keeps m a (l.foldl f d) := by
  induction l generalizing d with
  | nil => exact h
  | cons x l ih => exact ih (hf d x h)

theorem Keeps.foldlFst {m : Nat} {a : Dev} {α β : Type} {l : List α} {p : Dev × β} {f : Dev × β → α → Dev × β} (h : Keeps m a p.1)
    (hf : ∀ p x, Keeps m a p.1 → Keeps m a (f p x).1) : Keeps m a (l.foldl f p).1 := by
  induction l generalizing p with
  | nil => exact h
  | cons x l ih => exact ih (hf p x h)

theorem Keeps.fst {m : Nat} {a d : Dev} {α : Type} {p : Dev × α} {x : α} (e : p = (d, x)) (h : Keeps m a p.1) : Keeps m a d := by
  subst e; exact h

theorem Keeps.snd {m : Nat} {a d : Dev} {α : Type} {p : α × Dev} {x : α} (e : p = (x, d)) (h : Keeps m a p.2) : Keeps m a d := by
  subst e; exact h

theorem ls_fst {α : Type} {p : Core × α} {c : Core} {x : α} (e : p = (c, x)) (h : Tab.wf 0 p.1.ls = true) : Tab.wf 0 c.ls = true := by
  subst e; exact h

theorem ls_snd {α : Type} {p : α × Core} {c : Core} {x : α} (e : p = (x, c)) (h : Tab.wf 0 p.2.ls = true) : Tab.wf 0 c.ls = true := by
  subst e; exact h

theorem hbm_fst {α : Type} {p : Mem × α} {c : Mem} {x : α} (e : p = (c, x)) (h : Tab.wf 0 p.1.hbm = true) : Tab.wf 0 c.hbm = true := by
  subst e; exact h

theorem hbm_snd {α : Type} {p : α × Mem} {c : Mem} {x : α} (e : p = (x, c)) (h : Tab.wf 0 p.2.hbm = true) : Tab.wf 0 c.hbm = true := by
  subst e; exact h

theorem storesOk_core {t : Tab Core} (h : StoresOk t) (g : Nat) : Tab.wf 0 (Tab.get Core.reset t g).ls = true := by
  induction t with
  | nil => rfl
  | cons p t ih =>
    obtain ⟨k, c⟩ := p
    simp only [Tab.get]
    split
    · exact h (k, c) (List.mem_cons_self ..)
    · exact ih fun q hq => h q (List.mem_cons_of_mem _ hq)

theorem storesOk_set {t : Tab Core} (h : StoresOk t) (g : Nat) {c : Core} (hc : Tab.wf 0 c.ls = true) : StoresOk (Tab.set t g c) := by
  intro p hp
  rcases Tab.mem_set hp with hp | hp
  · subst hp; exact hc
  · exact h p hp

end Sys2Proof.Machine
end

