-- ==== Sys2Proof/Laws/Stores.lean ====
section
/-! SUPPORT. Every operation on memory and on a core keeps the canonical form of what it stores. -/

set_option Elab.async false

namespace Sys2Proof.Machine

theorem hbm_foldl {α : Type} {l : List α} {f : Mem → α → Mem} {m : Mem} (h : Tab.wf 0 m.hbm = true)
    (hf : ∀ m x, Tab.wf 0 m.hbm = true → Tab.wf 0 (f m x).hbm = true) : Tab.wf 0 (l.foldl f m).hbm = true := by
  induction l generalizing m with
  | nil => exact h
  | cons x l ih => exact ih (hf m x h)

theorem ls_foldl {α : Type} {l : List α} {f : Core → α → Core} {c : Core} (h : Tab.wf 0 c.ls = true)
    (hf : ∀ c x, Tab.wf 0 c.ls = true → Tab.wf 0 (f c x).ls = true) : Tab.wf 0 (l.foldl f c).ls = true := by
  induction l generalizing c with
  | nil => exact h
  | cons x l ih => exact ih (hf c x h)

theorem tab_store_foldl {t : Tab Word} (l : List (Nat × Word)) (h : Tab.wf 0 t = true) :
    Tab.wf 0 (l.foldl (fun t x => Tab.store 0 t x.1 x.2) t) = true := by
  induction l generalizing t with
  | nil => exact h
  | cons x l ih => exact ih (Tab.wf_store h _ _)

theorem tab_store_foldl2 {t : Tab Word} {α : Type} (l : List α) (k : α → Nat) (f : α → Word) (h : Tab.wf 0 t = true) :
    Tab.wf 0 (l.foldl (fun t a => Tab.store 0 t (k a) (f a)) t) = true := by
  induction l generalizing t with
  | nil => exact h
  | cons x l ih => exact ih (Tab.wf_store h _ _)

theorem tab_store_foldl' {t : Tab Word} (l : List Nat) (f : Nat → Word) (h : Tab.wf 0 t = true) :
    Tab.wf 0 (l.foldl (fun t a => Tab.store 0 t a (f a)) t) = true := by
  induction l generalizing t with
  | nil => exact h
  | cons x l ih => exact ih (Tab.wf_store h _ _)

theorem hbm_updChan (m : Mem) (h : Nat) (u : Chan → Chan) (hm : Tab.wf 0 m.hbm = true) :
    Tab.wf 0 ((Mem.updChan m h u).hbm) = true := by
  exact hm

theorem hbm_updPart (m : Mem) (p : Nat) (u : Part → Part) (h : Tab.wf 0 m.hbm = true) :
    Tab.wf 0 ((Mem.updPart m p u).hbm) = true := by
  exact h

theorem hbm_updWcb (m : Mem) (die : Nat) (u : Wcb → Wcb) (h : Tab.wf 0 m.hbm = true) :
    Tab.wf 0 ((Mem.updWcb m die u).hbm) = true := by
  exact h

theorem hbm_updFab (m : Mem) (die : Nat) (u : Fabric → Fabric) (h : Tab.wf 0 m.hbm = true) :
    Tab.wf 0 ((Mem.updFab m die u).hbm) = true := by
  exact h

theorem hbm_updXch (m : Mem) (c : Nat) (u : Xch → Xch) (h : Tab.wf 0 m.hbm = true) :
    Tab.wf 0 ((Mem.updXch m c u).hbm) = true := by
  exact h

theorem hbm_store (m : Mem) (addr : Nat) (y0 : List Byte) (h : Tab.wf 0 m.hbm = true) :
    Tab.wf 0 ((Mem.store m addr y0).hbm) = true := by
  induction y0 generalizing m addr with
  | nil => exact h
  | cons b t ih =>
    unfold Mem.store
    exact ih _ _ (Tab.wf_store h _ _)

theorem hbm_eccRead (m : Mem) (atom : Nat) (scrub : Bool) (y0 : AtomState) (h : Tab.wf 0 m.hbm = true) :
    Tab.wf 0 ((Mem.eccRead m atom scrub y0).hbm) = true := by
  cases y0 with
  | intact => exact h
  | corrected => unfold Mem.eccRead; dsimp only; split <;> [skip; split] <;> exact h
  | uncorrectable => unfold Mem.eccRead; dsimp only; split <;> exact h

theorem hbm_eccSweep (m : Mem) (addr len : Nat) (h : Tab.wf 0 m.hbm = true) :
    Tab.wf 0 ((Mem.eccSweep m addr len).hbm) = true := by
  unfold Mem.eccSweep
  exact hbm_foldl h fun m x h => hbm_eccRead _ _ _ _ h

theorem hbm_countRd (m : Mem) (addr len : Nat) (h : Tab.wf 0 m.hbm = true) :
    Tab.wf 0 ((Mem.countRd m addr len).hbm) = true := by
  unfold Mem.countRd
  exact hbm_foldl h fun m x h => hbm_updChan _ _ _ h

theorem hbm_countWr (m : Mem) (addr len : Nat) (h : Tab.wf 0 m.hbm = true) :
    Tab.wf 0 ((Mem.countWr m addr len).hbm) = true := by
  unfold Mem.countWr
  exact hbm_foldl h fun m x h => hbm_updChan _ _ _ h

theorem hbm_putAtom (m : Mem) (addr : Nat) (bytes : List Byte) (h : Tab.wf 0 m.hbm = true) :
    Tab.wf 0 ((Mem.putAtom m addr bytes).hbm) = true := by
  unfold Mem.putAtom
  split
  · exact h
  · exact hbm_store m addr bytes h

theorem hbm_smallAdmit (m : Mem) (h ns : Nat) (w : Waiter) (hm : Tab.wf 0 m.hbm = true) :
    Tab.wf 0 ((Mem.smallAdmit m h ns w).hbm) = true := by
  unfold Mem.smallAdmit
  dsimp only
  split <;> exact hm

theorem hbm_askSmall (m : Mem) (w : Waiter) (write : Bool) (addr len : Nat) (h : Tab.wf 0 m.hbm = true) :
    Tab.wf 0 ((Mem.askSmall m w write addr len).hbm) = true := by
  unfold Mem.askSmall
  exact hbm_foldl h fun m x h => hbm_smallAdmit _ _ _ _ h

theorem hbm_askTokens (m : Mem) (w : Waiter) (p bytes : Nat) (h : Tab.wf 0 m.hbm = true) :
    Tab.wf 0 ((Mem.askTokens m w p bytes).hbm) = true := by
  unfold Mem.askTokens
  split <;> exact h

theorem hbm_ask (m : Mem) (w : Waiter) (p : Option Nat) (small write : Bool) (addr len : Nat) (h : Tab.wf 0 m.hbm = true) :
    Tab.wf 0 ((Mem.ask m w p small write addr len).hbm) = true := by
  unfold Mem.ask
  extract_lets m1
  have k : Tab.wf 0 m1.hbm = true := by
    subst m1
    split
    · exact hbm_askSmall _ _ _ _ _ h
    · exact h
  split
  · exact hbm_askTokens _ _ _ _ k
  · exact k

theorem hbm_pass (m : Mem) (w : Waiter) (p : Option Nat) (small : Bool) (addr len : Nat) (h : Tab.wf 0 m.hbm = true) :
    Tab.wf 0 ((Mem.pass m w p small addr len).1.hbm) = true := by
  unfold Mem.pass
  split
  · exact h
  · split
    · split <;> exact h
    · have k := hbm_ask m w p small false addr len h
      dsimp only
      split <;> exact k

theorem hbm_forget (m : Mem) (gone : Waiter → Bool) (h : Tab.wf 0 m.hbm = true) :
    Tab.wf 0 ((Mem.forget m gone).hbm) = true := by
  exact h

theorem hbm_bothEnds (m : Mem) (u : Fabric → Fabric) (h : Tab.wf 0 m.hbm = true) :
    Tab.wf 0 ((Mem.bothEnds m u).hbm) = true := by
  exact h

theorem hbm_bridge (m : Mem) (from' to' bytes : Nat) (h : Tab.wf 0 m.hbm = true) :
    Tab.wf 0 ((Mem.bridge m from' to' bytes).hbm) = true := by
  unfold Mem.bridge
  split <;> exact h

theorem hbm_fill (m : Mem) (h : Nat) (full : Bool) (pattern seed n : Nat) (hm : Tab.wf 0 m.hbm = true) :
    Tab.wf 0 ((Mem.fill m h full pattern seed n).hbm) = true := by
  unfold Mem.fill
  exact hbm_foldl hm fun m x h => hbm_putAtom _ _ _ h

theorem hbm_wipe (m : Mem) (h : Tab.wf 0 m.hbm = true) :
    Tab.wf 0 ((Mem.wipe m).hbm) = true := by
  rfl

theorem hbm_countNocUe (m : Mem) (die : Nat) (h : Tab.wf 0 m.hbm = true) :
    Tab.wf 0 ((Mem.countNocUe m die).hbm) = true := by
  exact h

theorem hbm_multicast (m : Mem) (die bytes : Nat) (h : Tab.wf 0 m.hbm = true) :
    Tab.wf 0 ((Mem.multicast m die bytes).hbm) = true := by
  exact h

theorem hbm_zeroPart (m : Mem) (p : Nat) (h : Tab.wf 0 m.hbm = true) :
    Tab.wf 0 ((Mem.zeroPart m p).hbm) = true := by
  exact Tab.wf_filter h _

theorem ls_cut (c : Core) (h : Tab.wf 0 c.ls = true) :
    Tab.wf 0 ((Core.cut c).ls) = true := by
  exact h

theorem ls_updXfer (c : Core) (e x : Nat) (f : Transfer → Transfer) (h : Tab.wf 0 c.ls = true) :
    Tab.wf 0 ((Core.updXfer c e x f).ls) = true := by
  exact h

theorem ls_wipe (c : Core) (h : Tab.wf 0 c.ls = true) :
    Tab.wf 0 ((Core.wipe c).ls) = true := by
  rfl

theorem ls_power (c : Core) (segs : Nat) (h : Tab.wf 0 c.ls = true) :
    Tab.wf 0 ((Core.power c segs).ls) = true := by
  exact Tab.wf_filter h _

theorem ls_startJob (c : Core) (j : Job) (ptab : List PrimeEntry) (h : Tab.wf 0 c.ls = true) :
    Tab.wf 0 ((Core.startJob c j ptab).ls) = true := by
  have e := ls_power c j.segments h
  unfold Core.startJob
  dsimp only
  split
  · exact e
  · rfl

theorem ls_updRing (c : Core) (r : Nat) (u : Ring → Ring) (h : Tab.wf 0 c.ls = true) :
    Tab.wf 0 ((Core.updRing c r u).ls) = true := by
  exact h

theorem ls_release (c : Core) (h : Tab.wf 0 c.ls = true) :
    Tab.wf 0 ((Core.release c).ls) = true := by
  exact h

theorem ls_noteRead (c : Core) (row : Nat) (h : Tab.wf 0 c.ls = true) :
    Tab.wf 0 ((Core.noteRead c row).ls) = true := by
  unfold Core.noteRead
  split
  · split
    · exact h
    · exact h
  · exact h

theorem ls_noteWrite (c : Core) (addr : Nat) (h : Tab.wf 0 c.ls = true) :
    Tab.wf 0 ((Core.noteWrite c addr).ls) = true := by
  unfold Core.noteWrite
  repeat' first | exact h | split

theorem ls_strike (c : Core) (up : List Upset) (h : Tab.wf 0 c.ls = true) :
    Tab.wf 0 ((Core.strike c up).ls) = true := by
  exact h

theorem ls_correct (c : Core) (cws : List Nat) (h : Tab.wf 0 c.ls = true) :
    Tab.wf 0 ((Core.correct c cws).ls) = true := by
  unfold Core.correct
  refine ls_foldl h fun c x h => ?_
  split <;> exact h

theorem ls_foundUe (c : Core) (cws : List Nat) (h : Tab.wf 0 c.ls = true) :
    Tab.wf 0 ((Core.foundUe c cws).ls) = true := by
  unfold Core.foundUe
  refine ls_foldl h fun c x h => ?_
  split <;> exact h

theorem ls_store (c : Core) (l : List (Nat × Word)) (h : Tab.wf 0 c.ls = true) :
    Tab.wf 0 ((Core.store c l).ls) = true := by
  unfold Core.store
  refine ls_foldl ?_ fun c x h => ls_noteWrite _ _ h
  exact tab_store_foldl l h

theorem ls_sideRead (c : Core) (l : List Nat) (h : Tab.wf 0 c.ls = true) :
    Tab.wf 0 ((Core.sideRead c l).1.ls) = true := by
  have e := ls_foundUe (c.correct (distinct (l.map fun a => a % 2 ^ 22 / 16))) (distinct (l.map fun a => a % 2 ^ 22 / 16)) (ls_correct c _ h)
  unfold Core.sideRead
  dsimp only
  split <;> exact e

theorem ls_noteSide (c : Core) (l : List (Nat × Word)) (h : Tab.wf 0 c.ls = true) :
    Tab.wf 0 ((Core.noteSide c l).ls) = true := by
  unfold Core.noteSide
  split <;> exact h

theorem ls_sideHidden (c : Core) (h : Tab.wf 0 c.ls = true) :
    Tab.wf 0 ((Core.sideHidden c).ls) = true := by
  unfold Core.sideHidden
  exact tab_store_foldl2 _ _ _ h

theorem ls_sideShown (c : Core) (h : Tab.wf 0 c.ls = true) :
    Tab.wf 0 ((Core.sideShown c).ls) = true := by
  unfold Core.sideShown
  exact tab_store_foldl2 _ _ _ h

theorem ls_sideWrite (c : Core) (l : List (Nat × Word)) (h : Tab.wf 0 c.ls = true) :
    Tab.wf 0 ((Core.sideWrite c l).1.ls) = true := by
  exact ls_store _ _ (ls_noteSide _ _ (ls_foundUe _ _ (ls_correct _ _ h)))

theorem ls_placeSends (c : Core) (r : Nat) (h : Tab.wf 0 c.ls = true) :
    Tab.wf 0 ((Core.placeSends c r).ls) = true := by
  exact h

theorem ls_capture (c : Core) (r : Nat) (h : Tab.wf 0 c.ls = true) :
    Tab.wf 0 ((Core.capture c r).ls) = true := by
  exact ls_foundUe _ _ (ls_correct _ _ (ls_foldl h fun c x h => ls_noteRead _ _ h))

theorem ls_land (c : Core) (h : Tab.wf 0 c.ls = true) :
    Tab.wf 0 ((Core.land c).ls) = true := by
  unfold Core.land
  split
  · exact h
  · exact ls_store c _ h

theorem ls_updBinds (c : Core) (p : Binding → Bool) (u : Binding → Binding) (h : Tab.wf 0 c.ls = true) :
    Tab.wf 0 ((Core.updBinds c p u).ls) = true := by
  exact h

theorem ls_failRing (c : Core) (r : Nat) (all' : Bool) (keep code detail : Nat) (h : Tab.wf 0 c.ls = true) :
    Tab.wf 0 ((Core.failRing c r all' keep code detail).ls) = true := by
  exact h

theorem ls_undefine (c : Core) (n : Nat) (l : List Nat) (h : Tab.wf 0 c.ls = true) :
    Tab.wf 0 ((Core.undefine c n l).ls) = true := by
  exact tab_store_foldl' l _ h

theorem ls_mustStop (c : Core) (g : Nat) (own : Option OpSlot) (harm : Nat) (h : Tab.wf 0 c.ls = true) :
    Tab.wf 0 ((Core.mustStop c g own harm).ls) = true := by
  unfold Core.mustStop
  dsimp only
  split <;> exact h

theorem ls_setEng (c : Core) (e : Nat) (x : StreamEng) (h : Tab.wf 0 c.ls = true) :
    Tab.wf 0 ((Core.setEng c e x).ls) = true := by
  exact h

theorem ls_updEng (c : Core) (e : Nat) (u : StreamEng → StreamEng) (h : Tab.wf 0 c.ls = true) :
    Tab.wf 0 ((Core.updEng c e u).ls) = true := by
  exact h

theorem ls_enter (c : Core) (i : Nat) (rd : List Access) (h : Tab.wf 0 c.ls = true) :
    Tab.wf 0 ((Core.enter c i rd).ls) = true := by
  exact ls_correct _ _ (ls_foldl h fun c x h => ls_noteRead _ _ h)

theorem ls_issued (c : Core) (slot : Nat) (h : Tab.wf 0 c.ls = true) :
    Tab.wf 0 ((Core.issued c slot).ls) = true := by
  exact h

theorem ls_launch (c : Core) (slot : Nat) (op : EngOp) (aliased : Bool) (cap : Tab Word) (h : Tab.wf 0 c.ls = true) :
    Tab.wf 0 ((Core.launch c slot op aliased cap).ls) = true := by
  exact h

theorem ls_busyUntil (c : Core) (e occ : Nat) (h : Tab.wf 0 c.ls = true) :
    Tab.wf 0 ((Core.busyUntil c e occ).ls) = true := by
  exact h

theorem ls_popRecord (c : Core) (e : Nat) (h : Tab.wf 0 c.ls = true) :
    Tab.wf 0 ((Core.popRecord c e).ls) = true := by
  exact h

theorem ls_unpostRing (c : Core) (r : Nat) (h : Tab.wf 0 c.ls = true) :
    Tab.wf 0 ((Core.unpostRing c r).ls) = true := by
  exact h

theorem ls_stepProg (c : Core) (e : Nat) (p : Prog) (h : Tab.wf 0 c.ls = true) :
    Tab.wf 0 ((Core.stepProg c e p).ls) = true := by
  exact h

theorem ls_see (c : Core) (t : Nat) (h : Tab.wf 0 c.ls = true) :
    Tab.wf 0 ((Core.see c t).ls) = true := by
  exact h

theorem ls_moved (c : Core) (e n k : Nat) (h : Tab.wf 0 c.ls = true) :
    Tab.wf 0 ((Core.moved c e n k).ls) = true := by
  exact h

theorem ls_outlast (c : Core) (aon : Nat) (h : Tab.wf 0 c.ls = true) :
    Tab.wf 0 ((Core.outlast c aon).ls) = true := by
  exact h

theorem ls_swapBank (c : Core) (h : Tab.wf 0 c.ls = true) :
    Tab.wf 0 ((Core.swapBank c).ls) = true := by
  unfold Core.swapBank
  split
  · split <;> exact h
  · exact h

theorem ls_dispatch (c : Core) (gone i : Nat) (e : BlockEntry) (h : Tab.wf 0 c.ls = true) :
    Tab.wf 0 ((Core.dispatch c gone i e).ls) = true := by
  exact h

theorem ls_passRows (c : Core) (e n rows : Nat) (l : List Dest) (h : Tab.wf 0 c.ls = true) :
    Tab.wf 0 ((Core.passRows c e n rows l).ls) = true := by
  unfold Core.passRows
  exact ls_foldl h fun c x h => ls_updEng _ _ _ (ls_updXfer _ _ _ _ h)

theorem ls_landRows (c : Core) (r form : Nat) (data : List Byte) (y0 : Nat) (h : Tab.wf 0 c.ls = true) :
    Tab.wf 0 ((Core.landRows c r form data y0).ls) = true := by
  induction y0 generalizing c data with
  | zero => exact h
  | succ n ih =>
    unfold Core.landRows
    split
    · exact h
    · exact ih _ _ (ls_updRing _ _ _ (ls_sideWrite _ _ h))

theorem ls_beginLoad (c : Core) (l : KLoad) (h : Tab.wf 0 c.ls = true) :
    Tab.wf 0 ((Core.beginLoad c l).ls) = true := by
  exact h

theorem ls_endJob (c : Core) (h : Tab.wf 0 c.ls = true) :
    Tab.wf 0 ((Core.endJob c).ls) = true := by
  exact h

end Sys2Proof.Machine
end

