-- ==== Sys2Proof/Laws/KeepsBase.lean ====
section
/-! SUPPORT. What the operations of the device every unit shares, of power, resets, modules, updates, memory and the host keep, each in a mask
of the parts of the device it may change (`Keeps`). -/

set_option Elab.async false

namespace Sys2Proof.Machine

theorem ls_core {d : Dev} (s : StoresOk d.cores) (g : Nat) : Tab.wf 0 (d.core g).ls = true := storesOk_core s g

theorem storesOk_map {t : Tab Core} {f : Nat × Core → Core} (h : StoresOk t) (hf : ∀ p, (f p).ls = p.2.ls) :
    StoresOk (t.map fun p => (p.1, f p)) := by
  intro p hp
  obtain ⟨q, hq, rfl⟩ := List.mem_map.mp hp
  exact (congrArg _ (hf q)).trans (h q hq)

theorem limitOk_clamp {p : Pwr} {w : Nat} (h : p.limitW = clampLimit w) : LimitOk p := by
  unfold LimitOk clampLimit at *
  omega

theorem storesOk_nil : StoresOk [] := fun _ h => nomatch h

theorem keeps_setCoreOf {M : Nat} {A d : Dev} {g : Nat} {c : Core} (H : Keeps M A d) (HM : Within 1 M)
    (hc : StoresOk A.cores → Tab.wf 0 c.ls = true) : Keeps M A (d.setCore g c) :=
  ⟨.inr (within_bit HM rfl), H.apps, H.groups, H.fns, H.pcie, H.expertEn, H.jobs, H.nextJob, H.grants, H.mem, H.lane, H.pwr,
    H.rst, H.nor, H.cfg, H.upd, H.pdd, H.sec, H.fuses, H.viol, H.hw, H.bootLog, H.aon0, H.aon1, H.freeCtr, H.out, H.hbm,
    fun s => storesOk_set (H.stores s) g (hc s), H.burn, H.limit, H.grow⟩

theorem keeps_setCore {M : Nat} {A d : Dev} {g : Nat} {c : Core} (H : Keeps M A d) (HM : Within 1 M)
    (hc : StoresOk d.cores → Tab.wf 0 c.ls = true) : Keeps M A (d.setCore g c) :=
  Keeps.step 1 H HM (hs := fun s => storesOk_set s g (hc s))

theorem keeps_updCore {M : Nat} {A d : Dev} {g : Nat} {f : Core → Core} (H : Keeps M A d) (HM : Within 1 M)
    (hf : ∀ c, Tab.wf 0 c.ls = true → Tab.wf 0 (f c).ls = true) : Keeps M A (d.updCore g f) :=
  keeps_setCore H HM fun s => hf _ (ls_core s g)

theorem keeps_setApp {M : Nat} {A : Dev} {d : Dev} {a : Nat} {c : AppCore} (H : Keeps M A d) (HM : Within 2 M) :
    Keeps M A (Dev.setApp d a c) := by
  unfold Dev.setApp
  exact Keeps.step 2 H HM

theorem keeps_updApp {M : Nat} {A : Dev} {d : Dev} {a : Nat} {f : AppCore → AppCore} (H : Keeps M A d) (HM : Within 2 M) :
    Keeps M A (Dev.updApp d a f) := by
  unfold Dev.updApp
  exact keeps_setApp H HM

theorem keeps_setFn {M : Nat} {A : Dev} {d : Dev} {f : Nat} {x : Fn} (H : Keeps M A d) (HM : Within 8 M) :
    Keeps M A (Dev.setFn d f x) := by
  unfold Dev.setFn
  exact Keeps.step 8 H HM

theorem keeps_updFn {M : Nat} {A : Dev} {d : Dev} {f : Nat} {u : Fn → Fn} (H : Keeps M A d) (HM : Within 8 M) :
    Keeps M A (Dev.updFn d f u) := by
  unfold Dev.updFn
  exact keeps_setFn H HM

theorem keeps_setGroup {M : Nat} {A : Dev} {d : Dev} {die n : Nat} {x : Group} (H : Keeps M A d) (HM : Within 4 M) :
    Keeps M A (Dev.setGroup d die n x) := by
  unfold Dev.setGroup
  exact Keeps.step 4 H HM

theorem keeps_updGroup {M : Nat} {A : Dev} {d : Dev} {die n : Nat} {u : Group → Group} (H : Keeps M A d) (HM : Within 4 M) :
    Keeps M A (Dev.updGroup d die n u) := by
  unfold Dev.updGroup
  exact keeps_setGroup H HM

theorem keeps_updMem {M : Nat} {A d : Dev} {u : Mem → Mem} (H : Keeps M A d) (HM : Within 512 M)
    (hf : ∀ m, Tab.wf 0 m.hbm = true → Tab.wf 0 (u m).hbm = true) : Keeps M A (d.updMem u) :=
  Keeps.step 512 H HM (hh := hf d.mem)

theorem keeps_emit {M : Nat} {A : Dev} {d : Dev} {o : Out} (H : Keeps M A d) (HM : Within 33554432 M) :
    Keeps M A (Dev.emit d o) := by
  unfold Dev.emit
  exact Keeps.step 33554432 H HM

theorem keeps_draw {M : Nat} {A : Dev} {d : Dev} (H : Keeps M A d) (HM : Within 16777216 M) :
    Keeps M A ((Dev.draw d).2) := by
  unfold Dev.draw
  dsimp only
  exact Keeps.step 16777216 H HM

theorem keeps_updJob {M : Nat} {A : Dev} {d : Dev} {id : Nat} {u : Job → Job} (H : Keeps M A d) (HM : Within 64 M) :
    Keeps M A (Dev.updJob d id u) := by
  unfold Dev.updJob
  exact Keeps.step 64 H HM

theorem keeps_forAll {M : Nat} {A : Dev} {d : Dev} {l : List Nat} {f : Dev → Nat → Dev} (H : Keeps M A d) (HM : Within 0 M) (hf : ∀ (e0 : Dev) (z1 : Nat), Keeps M A e0 → Keeps M A (f e0 z1)) :
    Keeps M A (Dev.forAll d l f) := by
  unfold Dev.forAll
  exact Keeps.foldl H (fun _ _ k => hf _ _ k)

theorem keeps_endJob {M : Nat} {A : Dev} {d : Dev} {id cause : Nat} (H : Keeps M A d) (HM : Within 67 M) :
    Keeps M A (Dev.endJob d id cause) := by
  unfold Dev.endJob
  split
  · exact H
  · split
    · extract_lets +onlyGivenNames d1
      have k : Keeps M A d1 := keeps_updJob H (within_trans HM rfl)
      try clear_value d1
      extract_lets +onlyGivenNames d2
      have k1 : Keeps M A d2 := keeps_forAll k (within_trans HM rfl) (fun _ _ k1 => keeps_updCore k1 (within_trans HM rfl) (fun _ k2 => ls_cut _ k2))
      try clear_value d2
      exact keeps_forAll k1 (within_trans HM rfl) (fun _ _ k2 => keeps_updApp k2 (within_trans HM rfl))
    · exact Keeps.ite (fun _ => keeps_updJob H (within_trans HM rfl)) (fun _ => H)
    · exact H

theorem keeps_sendMsix {M : Nat} {A : Dev} {d : Dev} {f v : Nat} (H : Keeps M A d) (HM : Within 33554432 M) :
    Keeps M A (Dev.sendMsix d f v) := by
  unfold Dev.sendMsix
  exact keeps_emit H HM

theorem keeps_msix {M : Nat} {A : Dev} {d : Dev} {f v : Nat} (H : Keeps M A d) (HM : Within 33554440 M) :
    Keeps M A (Dev.msix d f v) := by
  unfold Dev.msix
  exact Keeps.ite (fun _ => keeps_sendMsix H (within_trans HM rfl)) (fun _ => keeps_updFn H (within_trans HM rfl))

theorem keeps_hostWrite {M : Nat} {A : Dev} {d : Dev} {f addr : Nat} {bytes : List Byte} (H : Keeps M A d) (HM : Within 33554432 M) :
    Keeps M A (Dev.hostWrite d f addr bytes) := by
  unfold Dev.hostWrite
  exact keeps_emit H HM

theorem keeps_faultRing {M : Nat} {A : Dev} {d : Dev} {r : FaultRec} (H : Keeps M A d) (HM : Within 33558536 M) :
    Keeps M A (Dev.faultRing d r) := by
  unfold Dev.faultRing
  extract_lets +onlyGivenNames d1
  try clear_value d1
  extract_lets +onlyGivenNames d2
  have k : Keeps M A d2 := Keeps.ite (fun _ => Keeps.step 4096 H (within_trans HM rfl)) (fun _ => H)
  try clear_value d2
  extract_lets +onlyGivenNames x
  try clear_value x
  extract_lets +onlyGivenNames d3
  have k1 : Keeps M A d3 := keeps_updFn k (within_trans HM rfl)
  try clear_value d3
  refine Keeps.ite (fun _ => keeps_updFn k1 (within_trans HM rfl)) (fun _ => ?_)
  extract_lets +onlyGivenNames y
  try clear_value y
  extract_lets +onlyGivenNames d4
  have k3 : Keeps M A d4 := keeps_hostWrite k1 (within_trans HM rfl)
  try clear_value d4
  extract_lets +onlyGivenNames d5
  have k4 : Keeps M A d5 := keeps_hostWrite k3 (within_trans HM rfl)
  try clear_value d5
  exact keeps_msix k4 (within_trans HM rfl)

theorem keeps_jobFault {M : Nat} {A : Dev} {d : Dev} {id : Nat} {r : FaultRec} (H : Keeps M A d) (HM : Within 33558603 M) :
    Keeps M A (Dev.jobFault d id r) := by
  unfold Dev.jobFault
  split
  · exact keeps_faultRing H (within_trans HM rfl)
  · extract_lets +onlyGivenNames r1
    try clear_value r1
    extract_lets +onlyGivenNames d1
    have k : Keeps M A d1 := keeps_faultRing H (within_trans HM rfl)
    try clear_value d1
    extract_lets +onlyGivenNames d2
    have k1 : Keeps M A d2 := keeps_updJob k (within_trans HM rfl)
    try clear_value d2
    exact Keeps.ite (fun _ => keeps_endJob k1 (within_trans HM rfl)) (fun _ => k1)

theorem keeps_fnFault {M : Nat} {A : Dev} {d : Dev} {f : Nat} {r : FaultRec} (H : Keeps M A d) (HM : Within 33558536 M) :
    Keeps M A (Dev.fnFault d f r) := by
  unfold Dev.fnFault
  exact keeps_faultRing H HM

theorem keeps_coreFault {M : Nat} {A : Dev} {d : Dev} {g : Nat} {r : FaultRec} (H : Keeps M A d) (HM : Within 33558603 M) :
    Keeps M A (Dev.coreFault d g r) := by
  unfold Dev.coreFault
  split
  · exact keeps_jobFault H HM
  · exact keeps_fnFault H (within_trans HM rfl)

theorem keeps_deny {M : Nat} {A : Dev} {d : Dev} {a : Agent} (H : Keeps M A d) (HM : Within 8 M) :
    Keeps M A (Dev.deny d a) := by
  unfold Dev.deny
  split
  · exact keeps_updFn H HM
  · exact H

theorem keeps_ifExpert {M : Nat} {A : Dev} {d : Dev} {a : Agent} {eff : Dev → Dev} (H : Keeps M A d) (HM : Within 8 M) (heff : ∀ (e0 : Dev), Keeps M A e0 → Keeps M A (eff e0)) :
    Keeps M A (Dev.ifExpert d a eff) := by
  unfold Dev.ifExpert
  exact Keeps.ite (fun _ => heff _ H) (fun _ => keeps_deny H HM)

theorem keeps_mergeFault {M : Nat} {A : Dev} {d : Dev} {e : WcbEntry} {atom : Nat} (H : Keeps M A d) (HM : Within 33558603 M) :
    Keeps M A (Dev.mergeFault d e atom) := by
  unfold Dev.mergeFault
  extract_lets +onlyGivenNames r
  try clear_value r
  split
  · exact keeps_jobFault H HM
  · extract_lets +onlyGivenNames f
    try clear_value f
    exact keeps_fnFault H (within_trans HM rfl)

theorem keeps_flushAtom {M : Nat} {A : Dev} {d : Dev} {die : Nat} {e : WcbEntry} {k : Nat} (H : Keeps M A d) (HM : Within 33559115 M) :
    Keeps M A (Dev.flushAtom d die e k) := by
  unfold Dev.flushAtom
  extract_lets +onlyGivenNames y
  try clear_value y
  extract_lets +onlyGivenNames offs
  try clear_value offs
  extract_lets +onlyGivenNames valid
  try clear_value valid
  refine Keeps.ite (fun _ => H) (fun _ => ?_)
  refine Keeps.ite (fun _ => keeps_updMem H (within_trans HM rfl) (fun _ k3 => hbm_putAtom _ _ _ k3)) (fun _ => ?_)
  extract_lets +onlyGivenNames bad
  try clear_value bad
  extract_lets +onlyGivenNames d1
  have k3 : Keeps M A d1 := keeps_updMem H (within_trans HM rfl) (fun _ k3 => hbm_eccSweep _ _ _ k3)
  try clear_value d1
  exact Keeps.ite (fun _ => keeps_mergeFault k3 (within_trans HM rfl)) (fun _ => keeps_updMem k3 (within_trans HM rfl) (fun _ k5 => hbm_updWcb _ _ _ (hbm_putAtom _ _ _ k5)))

theorem keeps_flushEntry {M : Nat} {A : Dev} {d : Dev} {die : Nat} {e : WcbEntry} (H : Keeps M A d) (HM : Within 33559115 M) :
    Keeps M A (Dev.flushEntry d die e) := by
  unfold Dev.flushEntry
  extract_lets +onlyGivenNames d1
  have k : Keeps M A d1 := keeps_updMem H (within_trans HM rfl) (fun _ k => hbm_smallAdmit _ _ _ _ (hbm_updWcb _ _ _ k))
  try clear_value d1
  exact keeps_flushAtom (keeps_flushAtom (keeps_flushAtom (keeps_flushAtom k HM) HM) HM) HM

theorem keeps_flushOther {M : Nat} {A : Dev} {d : Dev} {die : Nat} {e : WcbEntry} (H : Keeps M A d) (HM : Within 33559115 M) :
    Keeps M A (Dev.flushOther d die e) := by
  unfold Dev.flushOther
  exact keeps_updMem (keeps_flushEntry H HM) (within_trans HM rfl) (fun _ k => hbm_updWcb _ _ _ k)

theorem keeps_flushWhere {M : Nat} {A : Dev} {d : Dev} {die : Nat} {p : WcbEntry → Bool} (H : Keeps M A d) (HM : Within 33559115 M) :
    Keeps M A (Dev.flushWhere d die p) := by
  unfold Dev.flushWhere
  exact Keeps.foldl H (fun _ _ k => keeps_flushOther k HM)

theorem keeps_flushFor {M : Nat} {A : Dev} {d : Dev} {addr len : Nat} (H : Keeps M A d) (HM : Within 33559115 M) :
    Keeps M A (Dev.flushFor d addr len) := by
  unfold Dev.flushFor
  exact keeps_flushWhere H HM

theorem keeps_wcbWrite {M : Nat} {A : Dev} {d : Dev} {part : Nat} {job : Option Nat} {addr : Nat} {bytes : List Byte} (H : Keeps M A d) (HM : Within 33559115 M) :
    Keeps M A (Dev.wcbWrite d part job addr bytes) := by
  unfold Dev.wcbWrite
  extract_lets +onlyGivenNames die
  try clear_value die
  extract_lets +onlyGivenNames gr
  try clear_value gr
  extract_lets +onlyGivenNames w
  try clear_value w
  extract_lets +onlyGivenNames d1
  have k : Keeps M A d1 := by
    subst d1
    split
    · exact Keeps.ite (fun _ => keeps_flushOther H HM) (fun _ => H)
    · exact H
  try clear_value d1
  extract_lets +onlyGivenNames d2
  have k1 : Keeps M A d2 := by
    subst d2
    split
    · exact keeps_updMem H (within_trans HM rfl) (fun _ k1 => hbm_updWcb _ _ _ k1)
    · exact keeps_updMem k (within_trans HM rfl) (fun _ k1 => hbm_updWcb _ _ _ k1)
  try clear_value d2
  split
  · exact Keeps.ite (fun _ => keeps_updMem (keeps_flushEntry k1 HM) (within_trans HM rfl) (fun _ k3 => hbm_updWcb _ _ _ k3)) (fun _ => k1)
  · exact k1

theorem keeps_granuleWrite {M : Nat} {A : Dev} {d : Dev} {addr : Nat} {bytes : List Byte} (H : Keeps M A d) (HM : Within 512 M) :
    Keeps M A (Dev.granuleWrite d addr bytes) := by
  unfold Dev.granuleWrite
  refine keeps_updMem H HM (fun _ k => ?_)
  dsimp only
  exact hbm_foldl (hbm_updWcb _ _ _ k) (fun _ _ k1 => hbm_putAtom _ _ _ k1)

theorem keeps_hbmWrite {M : Nat} {A : Dev} {d : Dev} {part : Nat} {job : Option Nat} {addr : Nat} {bytes : List Byte} (H : Keeps M A d) (HM : Within 33559115 M) :
    Keeps M A (Dev.hbmWrite d part job addr bytes) := by
  unfold Dev.hbmWrite
  extract_lets +onlyGivenNames d1
  have k : Keeps M A d1 := by
    subst d1
    refine Keeps.foldl H (fun _ _ k => ?_)
    extract_lets +onlyGivenNames piece
    try clear_value piece
    exact Keeps.ite (fun _ => keeps_granuleWrite k (within_trans HM rfl)) (fun _ => keeps_wcbWrite k HM)
  try clear_value d1
  exact keeps_updMem k (within_trans HM rfl) (fun _ k1 => hbm_countWr _ _ _ k1)

theorem keeps_hbmTouch {M : Nat} {A : Dev} {d : Dev} {addr len : Nat} (H : Keeps M A d) (HM : Within 33559115 M) :
    Keeps M A ((Dev.hbmTouch d addr len).1) := by
  unfold Dev.hbmTouch
  extract_lets +onlyGivenNames d1
  have k : Keeps M A d1 := keeps_flushFor H HM
  try clear_value d1
  extract_lets +onlyGivenNames bad
  try clear_value bad
  extract_lets +onlyGivenNames d2
  have k1 : Keeps M A d2 := keeps_updMem k (within_trans HM rfl) (fun _ k1 => hbm_eccSweep _ _ _ k1)
  try clear_value d2
  split
  · exact k1
  · dsimp only
    exact keeps_updMem k1 (within_trans HM rfl) (fun _ k2 => hbm_countRd _ _ _ k2)

theorem keeps_hbmRead {M : Nat} {A : Dev} {d : Dev} {addr len : Nat} (H : Keeps M A d) (HM : Within 33559115 M) :
    Keeps M A ((Dev.hbmRead d addr len).1) := by
  unfold Dev.hbmRead
  split
  · rename_i e
    dsimp only
    exact Keeps.fst e (keeps_hbmTouch H HM)
  · rename_i e
    dsimp only
    exact Keeps.fst e (keeps_hbmTouch H HM)

theorem keeps_hostAccess {M : Nat} {A : Dev} {d : Dev} {x : HostAcc} (H : Keeps M A d) (HM : Within 33559115 M) :
    Keeps M A (Dev.hostAccess d x) := by
  unfold Dev.hostAccess
  split
  · exact keeps_updMem (keeps_hbmWrite H HM) (within_trans HM rfl) (fun _ k => hbm_bridge _ _ _ _ k)
  · split
    · rename_i e
      exact keeps_emit (keeps_updMem (Keeps.fst e (keeps_hbmRead H HM)) (within_trans HM rfl) (fun _ k => hbm_bridge _ _ _ _ k)) (within_trans HM rfl)
    · rename_i e
      exact keeps_fnFault (keeps_emit (Keeps.fst e (keeps_hbmRead H HM)) (within_trans HM rfl)) (within_trans HM rfl)

theorem keeps_serveHost {M : Nat} {A d : Dev} {y0 : Nat} (H : Keeps M A d) (HM : Within 33559115 M) :
    Keeps M A (d.serveHost y0) := by
  induction y0 generalizing d with
  | zero => exact H
  | succ n ih =>
    unfold Dev.serveHost
    split
    · exact ih (keeps_hostAccess (keeps_updMem H (within_trans HM rfl) fun _ h => h) (within_trans HM rfl))
    · exact H

theorem keeps_hostAsk {M : Nat} {A : Dev} {d : Dev} {f p addr : Nat} {data : Option (List Byte)} {len : Nat} (H : Keeps M A d) (HM : Within 33559115 M) :
    Keeps M A (Dev.hostAsk d f p addr data len) := by
  unfold Dev.hostAsk
  extract_lets +onlyGivenNames no
  try clear_value no
  extract_lets +onlyGivenNames d1
  have k : Keeps M A d1 := keeps_updMem H (within_trans HM rfl) (fun _ k => hbm_ask _ _ _ _ _ _ _ k)
  try clear_value d1
  exact keeps_serveHost (keeps_updMem k (within_trans HM rfl) (fun _ k1 => k1)) HM

theorem keeps_retune {M : Nat} {A : Dev} {d : Dev} (H : Keeps M A d) (HM : Within 2048 M) :
    Keeps M A (Dev.retune d) := by
  unfold Dev.retune
  exact Keeps.step 2048 H HM

theorem keeps_wakeUp {M : Nat} {A : Dev} {d : Dev} (H : Keeps M A d) (HM : Within 6144 M) :
    Keeps M A (Dev.wakeUp d) := by
  unfold Dev.wakeUp
  exact Keeps.ite (fun _ => Keeps.step 6144 H HM) (fun _ => Keeps.step 2048 H (within_trans HM rfl))

theorem keeps_fxPowerSample {M : Nat} {A : Dev} {d : Dev} {w : Nat} (H : Keeps M A d) (HM : Within 2048 M) :
    Keeps M A (fxPowerSample d w) := by
  unfold fxPowerSample
  extract_lets +onlyGivenNames p
  subst p
  extract_lets +onlyGivenNames p
  subst p
  extract_lets +onlyGivenNames d1
  have k : Keeps M A d1 := Keeps.step 2048 H HM
  try clear_value d1
  extract_lets +onlyGivenNames above
  try clear_value above
  extract_lets +onlyGivenNames floor
  try clear_value floor
  exact Keeps.step 2048 k HM

theorem limitOk_gap {p : Pwr} {t : Tab Nat} (h : LimitOk p) : LimitOk { p with gap := t } := h

theorem keeps_fxGapRatioUpdate {M : Nat} {A : Dev} {d : Dev} (H : Keeps M A d) (HM : Within 2048 M) :
    Keeps M A (fxGapRatioUpdate d) := by
  unfold fxGapRatioUpdate
  exact Keeps.step 2048 H HM (hl := limitOk_gap)

theorem keeps_fxThermalLevelChange {M : Nat} {A d : Dev} {die cls t : Nat} (H : Keeps M A d) (HM : Within 33560584 M) :
    Keeps M A (fxThermalLevelChange d die cls t) := by
  unfold fxThermalLevelChange
  extract_lets old oldStack p p0 key p1 new p2 p3 p4 p5 d1 d2 d3
  have e0 : p0.limitW = p.limitW := by subst p0; split <;> rfl
  have e2 : p2.limitW = p1.limitW := by subst p2; split <;> rfl
  have e3 : p3.limitW = p2.limitW := by subst p3; split <;> rfl
  have e4 : p4.limitW = p3.limitW := by subst p4; split <;> rfl
  have e5 : p5.limitW = p4.limitW := by subst p5; split <;> rfl
  have e : p5.limitW = d.pwr.limitW := ((((e5.trans e4).trans e3).trans e2).trans (show p1.limitW = p0.limitW from rfl)).trans e0
  have hl : LimitOk d.pwr → LimitOk p5 := by
    unfold LimitOk
    rw [e]
    exact fun x => x
  clear_value p5
  have k : Keeps M A d1 := keeps_retune (Keeps.step 2048 H (within_trans HM rfl) (hl := hl)) (within_trans HM rfl)
  refine Keeps.ite (fun _ => k) (fun _ => ?_)
  have k2 : Keeps M A d2 := keeps_fnFault k (within_trans HM rfl)
  have k3 : Keeps M A d3 := keeps_emit (keeps_msix k2 (within_trans HM rfl)) (within_trans HM rfl)
  exact Keeps.ite (fun _ => keeps_wakeUp k3 (within_trans HM rfl)) (fun _ => k3)

theorem keeps_fxThrottleStep {M : Nat} {A : Dev} {d : Dev} {die : Nat} (H : Keeps M A d) (HM : Within 2048 M) :
    Keeps M A (fxThrottleStep d die) := by
  unfold fxThrottleStep
  exact Keeps.ite (fun _ => Keeps.step 2048 H HM) (fun _ => H)

theorem keeps_fxFreqStep {M : Nat} {A : Dev} {d : Dev} {die : Nat} (H : Keeps M A d) (HM : Within 2048 M) :
    Keeps M A (fxFreqStep d die) := by
  unfold fxFreqStep
  extract_lets +onlyGivenNames s
  try clear_value s
  exact Keeps.ite (fun _ => Keeps.ite (fun _ => keeps_retune (Keeps.step 2048 H HM) HM) (fun _ => Keeps.ite (fun _ => keeps_retune (Keeps.step 2048 H HM) HM) (fun _ => H))) (fun _ => H)

theorem keeps_fxClusterRelock {M : Nat} {A : Dev} {d : Dev} {c : Nat} (H : Keeps M A d) (HM : Within 2048 M) :
    Keeps M A (fxClusterRelock d c) := by
  unfold fxClusterRelock
  exact Keeps.ite (fun _ => Keeps.step 2048 H HM) (fun _ => H)

theorem keeps_fxRelockDone {M : Nat} {A : Dev} {d : Dev} {c : Nat} (H : Keeps M A d) (HM : Within 2048 M) :
    Keeps M A (fxRelockDone d c) := by
  unfold fxRelockDone
  exact Keeps.ite (fun _ => Keeps.step 2048 H HM) (fun _ => H)

theorem keeps_fxPwrCtrlWrite {M : Nat} {A : Dev} {d : Dev} {v : Nat} {a : Agent} (H : Keeps M A d) (HM : Within 6152 M) :
    Keeps M A (fxPwrCtrlWrite d v a) := by
  unfold fxPwrCtrlWrite
  exact keeps_wakeUp (keeps_ifExpert H (within_trans HM rfl) (fun _ k => Keeps.step 2048 k (within_trans HM rfl) (hl := fun _ => limitOk_clamp rfl))) (within_trans HM rfl)

theorem keeps_fxClkClusterWrite {M : Nat} {A : Dev} {d : Dev} {c v : Nat} {a : Agent} (H : Keeps M A d) (HM : Within 2056 M) :
    Keeps M A (fxClkClusterWrite d c v a) := by
  unfold fxClkClusterWrite
  exact keeps_ifExpert H (within_trans HM rfl) (fun _ k => keeps_retune (Keeps.step 2048 k (within_trans HM rfl)) (within_trans HM rfl))

theorem keeps_deviceReset {M : Nat} {A d : Dev} {cause : Nat} (H : Keeps M A d) (HM : Within 262143 M) :
    Keeps M A (d.deviceReset cause) :=
  Keeps.step 262143 H HM (hh := fun _ => rfl) (hs := fun _ => storesOk_nil) (hl := fun _ => .inl rfl)

theorem keeps_requestReset {M : Nat} {A : Dev} {d : Dev} {cause : Nat} (H : Keeps M A d) (HM : Within 262143 M) :
    Keeps M A (Dev.requestReset d cause) := by
  unfold Dev.requestReset
  exact Keeps.ite (fun _ => Keeps.ite (fun _ => Keeps.step 4096 H (within_trans HM rfl)) (fun _ => H)) (fun _ => Keeps.ite (fun _ => Keeps.step 4096 H (within_trans HM rfl)) (fun _ => keeps_deviceReset H HM))

theorem keeps_powerOn {M : Nat} {A d : Dev} {aonRose : Bool} (H : Keeps M A d) (HM : Within 83623935 M) :
    Keeps M A (d.powerOn aonRose) :=
  Keeps.step 83623935 H HM (hh := fun _ => rfl) (hs := fun _ => storesOk_nil) (hl := fun _ => .inl rfl)

theorem keeps_fxPowerOnReset {M : Nat} {A : Dev} {d : Dev} (H : Keeps M A d) (HM : Within 83623935 M) :
    Keeps M A (fxPowerOnReset d) := by
  unfold fxPowerOnReset
  exact Keeps.ite (fun _ => keeps_powerOn H HM) (fun _ => H)

theorem keeps_fxClockMissing {M : Nat} {A : Dev} {d : Dev} (H : Keeps M A d) (HM : Within 4096 M) :
    Keeps M A (fxClockMissing d) := by
  unfold fxClockMissing
  exact Keeps.ite (fun _ => H) (fun _ => Keeps.step 4096 H HM)

theorem keeps_fxClockReturn {M : Nat} {A : Dev} {d : Dev} (H : Keeps M A d) (HM : Within 262143 M) :
    Keeps M A (fxClockReturn d) := by
  unfold fxClockReturn
  refine Keeps.ite (fun _ => ?_) (fun _ => H)
  extract_lets +onlyGivenNames causes
  try clear_value causes
  extract_lets +onlyGivenNames d1
  try clear_value d1
  extract_lets +onlyGivenNames d2
  have k1 : Keeps M A d2 := Keeps.step 4096 H (within_trans HM rfl)
  try clear_value d2
  split
  · exact k1
  · extract_lets +onlyGivenNames c
    try clear_value c
    exact Keeps.ite (fun _ => Keeps.step 4096 k1 (within_trans HM rfl)) (fun _ => keeps_deviceReset k1 HM)

theorem keeps_fxPerstAssert {M : Nat} {A : Dev} {d : Dev} {n : Nat} {acts : Bool} (H : Keeps M A d) (HM : Within 262143 M) :
    Keeps M A (fxPerstAssert d n acts) := by
  unfold fxPerstAssert
  extract_lets +onlyGivenNames d1
  try clear_value d1
  extract_lets +onlyGivenNames d2
  have k : Keeps M A d2 := Keeps.step 4096 H (within_trans HM rfl)
  try clear_value d2
  refine Keeps.ite (fun _ => k) (fun _ => ?_)
  refine Keeps.ite (fun _ => ?_) (fun _ => k)
  extract_lets +onlyGivenNames d3
  try clear_value d3
  extract_lets +onlyGivenNames d4
  have k3 : Keeps M A d4 := Keeps.step 4096 k (within_trans HM rfl)
  try clear_value d4
  exact Keeps.ite (fun _ => k3) (fun _ => keeps_requestReset k3 HM)

theorem keeps_fxPerstDeassert {M : Nat} {A : Dev} {d : Dev} (H : Keeps M A d) (HM : Within 4096 M) :
    Keeps M A (fxPerstDeassert d) := by
  unfold fxPerstDeassert
  exact Keeps.ite (fun _ => Keeps.step 4096 H HM) (fun _ => H)

theorem keeps_fxHotReset {M : Nat} {A : Dev} {d : Dev} (H : Keeps M A d) (HM : Within 262143 M) :
    Keeps M A (fxHotReset d) := by
  unfold fxHotReset
  exact Keeps.ite (fun _ => H) (fun _ => keeps_requestReset H HM)

theorem keeps_fxRstCtrlDevice {M : Nat} {A : Dev} {d : Dev} {v : Nat} (H : Keeps M A d) (HM : Within 262143 M) :
    Keeps M A (fxRstCtrlDevice d v) := by
  unfold fxRstCtrlDevice
  exact Keeps.ite (fun _ => keeps_requestReset H HM) (fun _ => H)

theorem keeps_fxWatchdogExpiry {M : Nat} {A : Dev} {d : Dev} (H : Keeps M A d) (HM : Within 262143 M) :
    Keeps M A (fxWatchdogExpiry d) := by
  unfold fxWatchdogExpiry
  exact Keeps.ite (fun _ => keeps_requestReset H HM) (fun _ => H)

theorem keeps_fxThermalTrip {M : Nat} {A : Dev} {d : Dev} {cls t : Nat} (H : Keeps M A d) (HM : Within 262143 M) :
    Keeps M A (fxThermalTrip d cls t) := by
  unfold fxThermalTrip
  exact Keeps.ite (fun _ => keeps_requestReset (Keeps.step 4096 H (within_trans HM rfl)) HM) (fun _ => H)

theorem keeps_fallbackComp {M : Nat} {A : Dev} {d : Dev} {comp : Nat} (H : Keeps M A d) (HM : Within 2105344 M) :
    Keeps M A (Dev.fallbackComp d comp) := by
  unfold Dev.fallbackComp
  extract_lets +onlyGivenNames k
  try clear_value k
  exact Keeps.ite (fun _ => Keeps.step 2105344 H HM) (fun _ => H)

theorem keeps_fxResetRelease {M : Nat} {A : Dev} {d : Dev} {t : Nat} (H : Keeps M A d) (HM : Within 2109440 M) :
    Keeps M A (fxResetRelease d t) := by
  unfold fxResetRelease
  extract_lets +onlyGivenNames r
  try clear_value r
  refine Keeps.ite (fun _ => ?_) (fun _ => H)
  extract_lets +onlyGivenNames d1
  have k1 : Keeps M A d1 := Keeps.step 4096 H (within_trans HM rfl)
  try clear_value d1
  exact Keeps.foldl k1 (fun _ _ k2 => keeps_fallbackComp k2 (within_trans HM rfl))

theorem keeps_fxFuseCopyCheck {M : Nat} {A : Dev} {d : Dev} {ok : Bool} (H : Keeps M A d) (HM : Within 4096 M) :
    Keeps M A (fxFuseCopyCheck d ok) := by
  unfold fxFuseCopyCheck
  extract_lets +onlyGivenNames r
  try clear_value r
  exact Keeps.ite (fun _ => H) (fun _ => Keeps.ite (fun _ => Keeps.step 4096 H HM) (fun _ => Keeps.step 4096 H HM))

theorem keeps_fxStrapSetDone {M : Nat} {A : Dev} {d : Dev} {codes : List Nat} (H : Keeps M A d) (HM : Within 2101248 M) :
    Keeps M A (fxStrapSetDone d codes) := by
  unfold fxStrapSetDone
  extract_lets +onlyGivenNames r
  subst r
  refine Keeps.ite (fun _ => H) (fun _ => ?_)
  extract_lets +onlyGivenNames c
  try clear_value c
  extract_lets +onlyGivenNames r
  subst r
  exact Keeps.ite (fun _ => Keeps.step 4096 H (within_trans HM rfl)) (fun _ => Keeps.ite (fun _ => Keeps.step 2101248 H HM) (fun _ => Keeps.step 4096 H (within_trans HM rfl)))

theorem keeps_fxStartTimeout {M : Nat} {A : Dev} {d : Dev} (H : Keeps M A d) (HM : Within 262143 M) :
    Keeps M A (fxStartTimeout d) := by
  unfold fxStartTimeout
  split
  · exact Keeps.ite (fun _ => keeps_requestReset H HM) (fun _ => H)
  · exact H

theorem keeps_unpowered {M : Nat} {A d : Dev} {hw : Hw} (H : Keeps M A d) (HM : Within 83623935 M) :
    Keeps M A (d.unpowered hw) :=
  Keeps.step 83623935 H HM (hh := fun _ => rfl) (hs := fun _ => storesOk_nil) (hl := fun _ => .inl rfl)

theorem keeps_turnOff {M : Nat} {A : Dev} {d : Dev} {reason : Nat} (H : Keeps M A d) (HM : Within 83623935 M) :
    Keeps M A (Dev.turnOff d reason) := by
  unfold Dev.turnOff
  exact Keeps.ite (fun _ => keeps_unpowered H HM) (fun _ => H)

theorem keeps_turnOn {M : Nat} {A : Dev} {d : Dev} (H : Keeps M A d) (HM : Within 1048576 M) :
    Keeps M A (Dev.turnOn d) := by
  unfold Dev.turnOn
  exact Keeps.ite (fun _ => H) (fun _ => Keeps.step 1048576 H HM)

theorem keeps_fxVinRise {M : Nat} {A : Dev} {d : Dev} (H : Keeps M A d) (HM : Within 1048576 M) :
    Keeps M A (fxVinRise d) := by
  unfold fxVinRise
  exact keeps_turnOn H HM

theorem keeps_fxVinFall {M : Nat} {A : Dev} {d : Dev} {us : Nat} (H : Keeps M A d) (HM : Within 83623935 M) :
    Keeps M A (fxVinFall d us) := by
  unfold fxVinFall
  exact Keeps.ite (fun _ => H) (fun _ => keeps_turnOff H HM)

theorem keeps_fxVinOvervoltage {M : Nat} {A : Dev} {d : Dev} (H : Keeps M A d) (HM : Within 83623935 M) :
    Keeps M A (fxVinOvervoltage d) := by
  unfold fxVinOvervoltage
  exact keeps_turnOff H HM

theorem keeps_fxOvervoltageTurnOn {M : Nat} {A : Dev} {d : Dev} (H : Keeps M A d) (HM : Within 1048576 M) :
    Keeps M A (fxOvervoltageTurnOn d) := by
  unfold fxOvervoltageTurnOn
  exact Keeps.ite (fun _ => keeps_turnOn H HM) (fun _ => H)

theorem keeps_fxOvercurrentTrip {M : Nat} {A : Dev} {d : Dev} (H : Keeps M A d) (HM : Within 83623935 M) :
    Keeps M A (fxOvercurrentTrip d) := by
  unfold fxOvercurrentTrip
  exact keeps_turnOff H HM

theorem keeps_fxHotswapRetry {M : Nat} {A : Dev} {d : Dev} (H : Keeps M A d) (HM : Within 1048576 M) :
    Keeps M A (fxHotswapRetry d) := by
  unfold fxHotswapRetry
  exact Keeps.ite (fun _ => keeps_turnOn H HM) (fun _ => H)

theorem keeps_fxRailFault {M : Nat} {A : Dev} {d : Dev} {rail kind : Nat} (H : Keeps M A d) (HM : Within 83623935 M) :
    Keeps M A (fxRailFault d rail kind) := by
  unfold fxRailFault
  refine Keeps.ite (fun _ => H) (fun _ => ?_)
  refine Keeps.ite (fun _ => keeps_unpowered H HM) (fun _ => ?_)
  extract_lets +onlyGivenNames times
  try clear_value times
  extract_lets +onlyGivenNames h
  try clear_value h
  extract_lets +onlyGivenNames h1
  try clear_value h1
  extract_lets +onlyGivenNames y
  have k2 : Keeps M A y := keeps_deviceReset H (within_trans HM rfl)
  try clear_value y
  exact Keeps.step 1048576 k2 (within_trans HM rfl)

theorem keeps_fxRailRestart {M : Nat} {A : Dev} {d : Dev} (H : Keeps M A d) (HM : Within 1048576 M) :
    Keeps M A (fxRailRestart d) := by
  unfold fxRailRestart
  split
  · exact H
  · exact Keeps.ite (fun _ => H) (fun _ => Keeps.ite (fun _ => Keeps.step 1048576 H HM) (fun _ => Keeps.ite (fun _ => Keeps.step 1048576 H HM) (fun _ => H)))

theorem keeps_fxSetdasa {M : Nat} {A : Dev} {d : Dev} {static dyn : Nat} (H : Keeps M A d) (HM : Within 34603008 M) :
    Keeps M A (fxSetdasa d static dyn) := by
  unfold fxSetdasa
  exact Keeps.ite (fun _ => keeps_emit (Keeps.step 1048576 H (within_trans HM rfl)) (within_trans HM rfl)) (fun _ => keeps_emit H (within_trans HM rfl))

theorem keeps_fxEntdaa {M : Nat} {A : Dev} {d : Dev} {dyn : Nat} (H : Keeps M A d) (HM : Within 34603008 M) :
    Keeps M A (fxEntdaa d dyn) := by
  unfold fxEntdaa
  exact Keeps.ite (fun _ => keeps_emit (Keeps.step 1048576 H (within_trans HM rfl)) (within_trans HM rfl)) (fun _ => keeps_emit H (within_trans HM rfl))

theorem keeps_fxPcieLinkReachesL0 {M : Nat} {A : Dev} {d : Dev} (H : Keeps M A d) (HM : Within 4096 M) :
    Keeps M A (fxPcieLinkReachesL0 d) := by
  unfold fxPcieLinkReachesL0
  exact Keeps.ite (fun _ => Keeps.step 4096 H HM) (fun _ => H)

theorem keeps_applyRecord {M : Nat} {A : Dev} {d : Dev} {r : List Byte} (H : Keeps M A d) (HM : Within 85760 M) :
    Keeps M A (Dev.applyRecord d r) := by
  unfold Dev.applyRecord
  extract_lets +onlyGivenNames linksOff
  try clear_value linksOff
  extract_lets +onlyGivenNames p
  subst p
  exact Keeps.step 85760 H HM (hl := fun _ => limitOk_clamp rfl)

theorem keeps_readRecord {M : Nat} {A d : Dev} {norOk : Bool} {migrate : List Byte → List Byte} (H : Keeps M A d)
    (HM : Within 2191104 M) : Keeps M A (d.readRecord norOk migrate) := by
  unfold Dev.readRecord
  extract_lets k first try' use
  have ht : ∀ d s, Keeps M A d → Keeps M A (try' d s).1 := by
    intro d s h
    dsimp only [try']
    split
    · exact Keeps.step 2097152 h (within_trans HM rfl)
    · exact h
  have hu : ∀ d s, Keeps M A d → Keeps M A (use d s) := by
    intro d s h
    have h1 : ∀ c : Cfg, Keeps M A ({ d with cfg := c } : Dev) := fun c => Keeps.step 16384 h (within_trans HM rfl)
    have h2 : ∀ (c : Cfg) (n : Nor), Keeps M A ({ d with cfg := c, nor := n } : Dev) := fun c n => Keeps.step 24576 h (within_trans HM rfl)
    dsimp only [use]
    split
    · exact keeps_applyRecord (h1 _) (within_trans HM rfl)
    · split
      · exact keeps_applyRecord (h2 _ _) (within_trans HM rfl)
      · exact keeps_applyRecord (h1 _) (within_trans HM rfl)
  clear_value try' use
  split
  rename_i e
  have k1 := Keeps.fst e (ht _ _ H)
  split
  · exact hu _ _ k1
  · split
    rename_i e
    have k2 := Keeps.fst e (ht _ _ k1)
    split
    · exact hu _ _ k2
    · exact k2

theorem keeps_cfgCommand {M : Nat} {A : Dev} {d : Dev} {a : Agent} {key v : Nat} {persist norOk : Bool} {run : Dev → Dev} (H : Keeps M A d) (HM : Within 24584 M) (hrun : ∀ (e0 : Dev), Keeps M A e0 → Keeps M A (run e0)) :
    Keeps M A (Dev.cfgCommand d a key v persist norOk run) := by
  unfold Dev.cfgCommand
  refine keeps_ifExpert H (within_trans HM rfl) (fun _ k => ?_)
  extract_lets +onlyGivenNames d1
  try clear_value d1
  extract_lets +onlyGivenNames d2
  have k1 : Keeps M A d2 := Keeps.step 16384 k (within_trans HM rfl)
  try clear_value d2
  refine Keeps.ite (fun _ => Keeps.step 16384 k1 (within_trans HM rfl)) (fun _ => ?_)
  extract_lets +onlyGivenNames d3
  try clear_value d3
  extract_lets +onlyGivenNames d4
  have k3 : Keeps M A d4 := hrun _ (Keeps.step 16384 k1 (within_trans HM rfl))
  try clear_value d4
  refine Keeps.ite (fun _ => k3) (fun _ => ?_)
  refine Keeps.ite (fun _ => Keeps.step 16384 k3 (within_trans HM rfl)) (fun _ => ?_)
  refine Keeps.ite (fun _ => Keeps.step 16384 k3 (within_trans HM rfl)) (fun _ => ?_)
  extract_lets +onlyGivenNames r
  try clear_value r
  extract_lets +onlyGivenNames dest
  try clear_value dest
  extract_lets +onlyGivenNames k7
  try clear_value k7
  extract_lets +onlyGivenNames s
  try clear_value s
  extract_lets +onlyGivenNames k8
  try clear_value k8
  extract_lets +onlyGivenNames k9
  try clear_value k9
  exact Keeps.step 24576 k3 (within_trans HM rfl)

theorem keeps_fxCfgCmdPowerLimit {M : Nat} {A : Dev} {d : Dev} {a : Agent} {v : Nat} {persist norOk : Bool} (H : Keeps M A d) (HM : Within 26632 M) :
    Keeps M A (fxCfgCmdPowerLimit d a v persist norOk) := by
  unfold fxCfgCmdPowerLimit
  exact keeps_cfgCommand H (within_trans HM rfl) (fun _ k => Keeps.step 2048 k (within_trans HM rfl) (hl := fun _ => limitOk_clamp rfl))

theorem keeps_fxCfgCmdIdleUs {M : Nat} {A : Dev} {d : Dev} {a : Agent} {v : Nat} {persist norOk : Bool} (H : Keeps M A d) (HM : Within 26632 M) :
    Keeps M A (fxCfgCmdIdleUs d a v persist norOk) := by
  unfold fxCfgCmdIdleUs
  exact keeps_cfgCommand H (within_trans HM rfl) (fun _ k => Keeps.step 2048 k (within_trans HM rfl))

theorem keeps_fxCfgCmdDuskEn {M : Nat} {A : Dev} {d : Dev} {a : Agent} {v : Nat} {persist norOk : Bool} (H : Keeps M A d) (HM : Within 26632 M) :
    Keeps M A (fxCfgCmdDuskEn d a v persist norOk) := by
  unfold fxCfgCmdDuskEn
  exact keeps_cfgCommand H (within_trans HM rfl) (fun _ k => Keeps.step 2048 k (within_trans HM rfl))

theorem keeps_fxCfgCmdClusterFreq {M : Nat} {A : Dev} {d : Dev} {a : Agent} {v : Nat} {persist norOk : Bool} (H : Keeps M A d) (HM : Within 26632 M) :
    Keeps M A (fxCfgCmdClusterFreq d a v persist norOk) := by
  unfold fxCfgCmdClusterFreq
  exact keeps_cfgCommand H (within_trans HM rfl) (fun _ k => keeps_retune (Keeps.step 2048 k (within_trans HM rfl)) (within_trans HM rfl))

theorem keeps_fxCfgCmdSendLimit {M : Nat} {A : Dev} {d : Dev} {a : Agent} {v : Nat} {persist norOk : Bool} (H : Keeps M A d) (HM : Within 25608 M) :
    Keeps M A (fxCfgCmdSendLimit d a v persist norOk) := by
  unfold fxCfgCmdSendLimit
  exact keeps_cfgCommand H (within_trans HM rfl) (fun _ k => Keeps.step 1024 k (within_trans HM rfl))

theorem keeps_fxCfgCmdPeerWait {M : Nat} {A : Dev} {d : Dev} {a : Agent} {v : Nat} {persist norOk : Bool} (H : Keeps M A d) (HM : Within 25608 M) :
    Keeps M A (fxCfgCmdPeerWait d a v persist norOk) := by
  unfold fxCfgCmdPeerWait
  exact keeps_cfgCommand H (within_trans HM rfl) (fun _ k => Keeps.step 1024 k (within_trans HM rfl))

theorem keeps_fxCfgCmdRetry {M : Nat} {A : Dev} {d : Dev} {a : Agent} {v : Nat} {persist norOk : Bool} (H : Keeps M A d) (HM : Within 25608 M) :
    Keeps M A (fxCfgCmdRetry d a v persist norOk) := by
  unfold fxCfgCmdRetry
  exact keeps_cfgCommand H (within_trans HM rfl) (fun _ k => Keeps.step 1024 k (within_trans HM rfl))

theorem keeps_fxCfgCmdLostWait {M : Nat} {A : Dev} {d : Dev} {a : Agent} {v : Nat} {persist norOk : Bool} (H : Keeps M A d) (HM : Within 90120 M) :
    Keeps M A (fxCfgCmdLostWait d a v persist norOk) := by
  unfold fxCfgCmdLostWait
  exact keeps_cfgCommand H (within_trans HM rfl) (fun _ k => Keeps.step 65536 k (within_trans HM rfl))

theorem keeps_fxCfgCmdFeedOverride {M : Nat} {A : Dev} {d : Dev} {a : Agent} {v : Nat} {persist norOk : Bool} (H : Keeps M A d) (HM : Within 90120 M) :
    Keeps M A (fxCfgCmdFeedOverride d a v persist norOk) := by
  unfold fxCfgCmdFeedOverride
  exact keeps_cfgCommand H (within_trans HM rfl) (fun _ k => Keeps.step 65536 k (within_trans HM rfl))

theorem keeps_fxCfgCmdRegulator {M : Nat} {A : Dev} {d : Dev} {a : Agent} {p v : Nat} {persist norOk : Bool} (H : Keeps M A d) (HM : Within 25096 M) :
    Keeps M A (fxCfgCmdRegulator d a p v persist norOk) := by
  unfold fxCfgCmdRegulator
  exact keeps_cfgCommand H (within_trans HM rfl) (fun _ k => keeps_updMem k (within_trans HM rfl) (fun _ k1 => hbm_updPart _ _ _ k1))

theorem keeps_updFault {M : Nat} {A : Dev} {d : Dev} {code detail : Nat} (H : Keeps M A d) (HM : Within 35655688 M) :
    Keeps M A (Dev.updFault d code detail) := by
  unfold Dev.updFault
  extract_lets +onlyGivenNames r
  try clear_value r
  exact Keeps.ite (fun _ => Keeps.step 2097152 H (within_trans HM rfl)) (fun _ => keeps_msix (keeps_fnFault H (within_trans HM rfl)) (within_trans HM rfl))

theorem keeps_loadPackage {M : Nat} {A : Dev} {d : Dev} {offline : Bool} (H : Keeps M A d) (HM : Within 35696648 M) :
    Keeps M A (Dev.loadPackage d offline) := by
  unfold Dev.loadPackage
  extract_lets +onlyGivenNames fail
  subst fail
  extract_lets +onlyGivenNames d1
  try clear_value d1
  extract_lets +onlyGivenNames d2
  have k : Keeps M A d2 := Keeps.step 32768 H (within_trans HM rfl)
  try clear_value d2
  split
  · split
    · exact Keeps.step 32768 (keeps_updFault k (within_trans HM rfl)) (within_trans HM rfl)
    · refine Keeps.ite (fun _ => Keeps.step 32768 k (within_trans HM rfl)) (fun _ => ?_)
      extract_lets +onlyGivenNames plan
      try clear_value plan
      split
      · exact Keeps.step 32768 (keeps_updFault k (within_trans HM rfl)) (within_trans HM rfl)
      · split
        · exact Keeps.step 40960 k (within_trans HM rfl)
        · exact Keeps.step 32768 k (within_trans HM rfl)
  · exact Keeps.step 32768 k (within_trans HM rfl)

theorem keeps_fxUpdApply {M : Nat} {A : Dev} {d : Dev} {a : Agent} (H : Keeps M A d) (HM : Within 35696648 M) :
    Keeps M A (fxUpdApply d a) := by
  unfold fxUpdApply
  exact keeps_ifExpert H (within_trans HM rfl) (fun _ k => Keeps.ite (fun _ => Keeps.step 32768 k (within_trans HM rfl)) (fun _ => keeps_loadPackage k HM))

theorem keeps_endUpdate {M : Nat} {A : Dev} {d : Dev} {res : Nat} {bad : Option PkgEntry} (H : Keeps M A d) (HM : Within 40960 M) :
    Keeps M A (Dev.endUpdate d res bad) := by
  unfold Dev.endUpdate
  extract_lets +onlyGivenNames n
  try clear_value n
  exact Keeps.step 40960 H HM

theorem keeps_measure {M : Nat} {A : Dev} {d : Dev} {comp slot : Nat} (H : Keeps M A d) (HM : Within 131072 M) :
    Keeps M A (Dev.measure d comp slot) := by
  unfold Dev.measure
  extract_lets +onlyGivenNames k
  try clear_value k
  extract_lets +onlyGivenNames i
  try clear_value i
  extract_lets +onlyGivenNames s
  try clear_value s
  extract_lets +onlyGivenNames s1
  try clear_value s1
  exact Keeps.step 131072 H HM

theorem keeps_noteSvn {M : Nat} {A : Dev} {d : Dev} {comp : Nat} (H : Keeps M A d) (HM : Within 8192 M) :
    Keeps M A (Dev.noteSvn d comp) := by
  unfold Dev.noteSvn
  extract_lets +onlyGivenNames i
  try clear_value i
  exact Keeps.ite (fun _ => Keeps.step 8192 H HM) (fun _ => H)

theorem keeps_fxUpdateImageWritten {M : Nat} {A : Dev} {d : Dev} {res : Nat} (H : Keeps M A d) (HM : Within 35913727 M) :
    Keeps M A (fxUpdateImageWritten d res) := by
  unfold fxUpdateImageWritten
  refine Keeps.ite (fun _ => H) (fun _ => ?_)
  split
  · exact H
  · split
    · exact H
    · extract_lets +onlyGivenNames slot
      try clear_value slot
      refine Keeps.ite (fun _ => keeps_endUpdate (keeps_updFault H (within_trans HM rfl)) (within_trans HM rfl)) (fun _ => ?_)
      refine Keeps.ite (fun _ => keeps_endUpdate (keeps_updFault H (within_trans HM rfl)) (within_trans HM rfl)) (fun _ => ?_)
      extract_lets +onlyGivenNames d1
      try clear_value d1
      extract_lets +onlyGivenNames d2
      have k3 : Keeps M A d2 := Keeps.step 40960 H (within_trans HM rfl)
      try clear_value d2
      refine Keeps.ite (fun _ => Keeps.step 32768 k3 (within_trans HM rfl)) (fun _ => ?_)
      refine Keeps.ite (fun _ => ?_) (fun _ => ?_)
      · extract_lets +onlyGivenNames d3
        try clear_value d3
        extract_lets +onlyGivenNames d4
        try clear_value d4
        extract_lets +onlyGivenNames d5
        have k6 : Keeps M A d5 := Keeps.step 40960 k3 (within_trans HM rfl)
        try clear_value d5
        exact keeps_requestReset k6 (within_trans HM rfl)
      · refine Keeps.ite (fun _ => ?_) (fun _ => keeps_msix (Keeps.step 40960 k3 (within_trans HM rfl)) (within_trans HM rfl))
        extract_lets +onlyGivenNames d3
        try clear_value d3
        extract_lets +onlyGivenNames d4
        have k7 : Keeps M A d4 := Keeps.step 40960 k3 (within_trans HM rfl)
        try clear_value d4
        exact Keeps.foldl k7 (fun _ _ k8 => keeps_measure k8 (within_trans HM rfl))

theorem keeps_fxUpdateStepConfirm {M : Nat} {A : Dev} {d : Dev} (H : Keeps M A d) (HM : Within 33595400 M) :
    Keeps M A (fxUpdateStepConfirm d) := by
  unfold fxUpdateStepConfirm
  refine Keeps.ite (fun _ => H) (fun _ => ?_)
  split
  · exact H
  · refine Keeps.ite (fun _ => ?_) (fun _ => H)
    extract_lets +onlyGivenNames d1
    have k2 : Keeps M A d1 := Keeps.step 8192 H (within_trans HM rfl)
    try clear_value d1
    extract_lets +onlyGivenNames d2
    have k3 : Keeps M A d2 := keeps_msix (Keeps.foldl k2 (fun _ _ k3 => keeps_noteSvn k3 (within_trans HM rfl))) (within_trans HM rfl)
    try clear_value d2
    split
    · exact Keeps.step 40960 k3 (within_trans HM rfl)
    · exact Keeps.step 32768 k3 (within_trans HM rfl)

theorem keeps_fxUpdateWindowMiss {M : Nat} {A : Dev} {d : Dev} (H : Keeps M A d) (HM : Within 35827720 M) :
    Keeps M A (fxUpdateWindowMiss d) := by
  unfold fxUpdateWindowMiss
  refine Keeps.ite (fun _ => H) (fun _ => ?_)
  split
  · exact H
  · refine keeps_endUpdate ?_ (within_trans HM rfl)
    refine Keeps.foldl H (fun _ _ k1 => ?_)
    extract_lets +onlyGivenNames k2
    try clear_value k2
    exact keeps_updFault (keeps_measure (Keeps.step 8192 k1 (within_trans HM rfl)) (within_trans HM rfl)) (within_trans HM rfl)

theorem keeps_fxUpdateDeviceReset {M : Nat} {A : Dev} {d : Dev} (H : Keeps M A d) (HM : Within 262143 M) :
    Keeps M A (fxUpdateDeviceReset d) := by
  unfold fxUpdateDeviceReset
  exact Keeps.ite (fun _ => keeps_requestReset H HM) (fun _ => H)

theorem keeps_fxUpdResetNow {M : Nat} {A : Dev} {d : Dev} {a : Agent} (H : Keeps M A d) (HM : Within 262143 M) :
    Keeps M A (fxUpdResetNow d a) := by
  unfold fxUpdResetNow
  exact keeps_ifExpert H (within_trans HM rfl) (fun _ k => Keeps.ite (fun _ => keeps_requestReset k HM) (fun _ => k))

theorem keeps_fxCardInsert {M : Nat} {A : Dev} {d : Dev} {p : Option Package} (H : Keeps M A d) (HM : Within 36745224 M) :
    Keeps M A (fxCardInsert d p) := by
  unfold fxCardInsert
  refine Keeps.ite (fun _ => H) (fun _ => ?_)
  extract_lets +onlyGivenNames d1
  try clear_value d1
  extract_lets +onlyGivenNames d2
  have k1 : Keeps M A d2 := Keeps.step 1048576 H (within_trans HM rfl)
  try clear_value d2
  exact Keeps.ite (fun _ => keeps_loadPackage k1 (within_trans HM rfl)) (fun _ => k1)

theorem keeps_fxCardRemove {M : Nat} {A d : Dev} (H : Keeps M A d) (HM : Within 36745224 M) : Keeps M A (fxCardRemove d) := by
  unfold fxCardRemove
  extract_lets s d1
  have k : Keeps M A d1 := Keeps.step 1048576 H (within_trans HM rfl)
  split
  · exact keeps_endUpdate (keeps_updFault k (within_trans HM rfl)) (within_trans HM rfl)
  · exact k

theorem keeps_letGo {M : Nat} {A : Dev} {d : Dev} {w : Waiter} (H : Keeps M A d) (HM : Within 513 M) :
    Keeps M A (Dev.letGo d w) := by
  unfold Dev.letGo
  extract_lets +onlyGivenNames d1
  have k : Keeps M A d1 := keeps_updMem H (within_trans HM rfl) (fun _ k => k)
  try clear_value d1
  refine Keeps.ite (fun _ => k) (fun _ => ?_)
  split
  · exact keeps_updCore k (within_trans HM rfl) (fun _ k2 => ls_updXfer _ _ _ _ k2)
  · exact k

theorem keeps_fxSmallPathWindow {M : Nat} {A : Dev} {d : Dev} {h : Nat} (H : Keeps M A d) (HM : Within 33559115 M) :
    Keeps M A (fxSmallPathWindow d h) := by
  unfold fxSmallPathWindow
  extract_lets +onlyGivenNames r
  try clear_value r
  extract_lets +onlyGivenNames d1
  have k : Keeps M A d1 := keeps_updMem H (within_trans HM rfl) (fun _ k => hbm_updChan _ _ _ k)
  try clear_value d1
  extract_lets +onlyGivenNames d2
  have k1 : Keeps M A d2 := Keeps.foldl k (fun _ _ k1 => keeps_letGo k1 (within_trans HM rfl))
  try clear_value d2
  exact keeps_serveHost k1 HM

theorem keeps_fxWcbPartialWrite {M : Nat} {A : Dev} {d : Dev} {part : Nat} {job : Option Nat} {addr : Nat} {data : List Byte} (H : Keeps M A d) (HM : Within 33559115 M) :
    Keeps M A (fxWcbPartialWrite d part job addr data) := by
  unfold fxWcbPartialWrite
  exact Keeps.ite (fun _ => keeps_wcbWrite (keeps_updMem H (within_trans HM rfl) (fun _ k1 => hbm_updPart _ _ _ k1)) HM) (fun _ => H)

theorem keeps_fxWcbAgeFlush {M : Nat} {A : Dev} {d : Dev} {die : Nat} (H : Keeps M A d) (HM : Within 33559115 M) :
    Keeps M A (fxWcbAgeFlush d die) := by
  unfold fxWcbAgeFlush
  split
  · exact Keeps.ite (fun _ => keeps_updMem (keeps_flushEntry H HM) (within_trans HM rfl) (fun _ k1 => hbm_updWcb _ _ _ k1)) (fun _ => H)
  · exact H

theorem keeps_fxWcbFlush {M : Nat} {A : Dev} {d : Dev} {die : Nat} {a : Agent} (H : Keeps M A d) (HM : Within 33559115 M) :
    Keeps M A (fxWcbFlush d die a) := by
  unfold fxWcbFlush
  exact keeps_ifExpert H (within_trans HM rfl) (fun _ k => keeps_flushWhere k HM)

theorem keeps_fxRegulatorTick {M : Nat} {A : Dev} {d : Dev} {p : Nat} (H : Keeps M A d) (HM : Within 512 M) :
    Keeps M A (fxRegulatorTick d p) := by
  unfold fxRegulatorTick
  exact keeps_updMem H HM (fun _ k => hbm_updPart _ _ _ k)

theorem keeps_fxRegulatedIssue {M : Nat} {A : Dev} {d : Dev} {p : Nat} (H : Keeps M A d) (HM : Within 33559115 M) :
    Keeps M A (fxRegulatedIssue d p) := by
  unfold fxRegulatedIssue
  split
  · refine Keeps.ite (fun _ => ?_) (fun _ => H)
    extract_lets +onlyGivenNames d1
    have k1 : Keeps M A d1 := keeps_letGo (keeps_updMem H (within_trans HM rfl) (fun _ k1 => hbm_updPart _ _ _ k1)) (within_trans HM rfl)
    try clear_value d1
    exact keeps_serveHost k1 HM
  · exact H

theorem keeps_fxMregRateWrite {M : Nat} {A : Dev} {d : Dev} {p v : Nat} {a : Agent} (H : Keeps M A d) (HM : Within 520 M) :
    Keeps M A (fxMregRateWrite d p v a) := by
  unfold fxMregRateWrite
  exact keeps_ifExpert H (within_trans HM rfl) (fun _ k => keeps_updMem k (within_trans HM rfl) (fun _ k1 => hbm_updPart _ _ _ k1))

theorem keeps_fxRefreshSlot {M : Nat} {A : Dev} {d : Dev} {h temp : Nat} {s : AtomState} (H : Keeps M A d) (HM : Within 33559048 M) :
    Keeps M A (fxRefreshSlot d h temp s) := by
  unfold fxRefreshSlot
  extract_lets +onlyGivenNames c
  try clear_value c
  refine Keeps.ite (fun _ => ?_) (fun _ => H)
  extract_lets +onlyGivenNames d1
  have k1 : Keeps M A d1 := keeps_updMem H (within_trans HM rfl) (fun _ k1 => hbm_updChan _ _ _ k1)
  try clear_value d1
  refine Keeps.ite (fun _ => ?_) (fun _ => k1)
  extract_lets +onlyGivenNames atom
  try clear_value atom
  extract_lets +onlyGivenNames f
  try clear_value f
  extract_lets +onlyGivenNames d2
  have k3 : Keeps M A d2 := keeps_updMem k1 (within_trans HM rfl) (fun _ k3 => hbm_updChan _ _ _ (hbm_eccRead _ _ _ _ k3))
  try clear_value d2
  split
  · exact keeps_fnFault k3 (within_trans HM rfl)
  · exact k3

theorem keeps_fxTgcStart {M : Nat} {A : Dev} {d : Dev} {h v : Nat} {a : Agent} (H : Keeps M A d) (HM : Within 520 M) :
    Keeps M A (fxTgcStart d h v a) := by
  unfold fxTgcStart
  extract_lets +onlyGivenNames ex
  try clear_value ex
  extract_lets +onlyGivenNames want
  try clear_value want
  extract_lets +onlyGivenNames d1
  have k : Keeps M A d1 := Keeps.ite (fun _ => H) (fun _ => keeps_deny H (within_trans HM rfl))
  try clear_value d1
  refine keeps_updMem k (within_trans HM rfl) (fun _ k1 => ?_)
  dsimp only
  exact hbm_updChan _ _ _ (hbm_updChan _ _ _ k1)

theorem keeps_tgcEnd {M : Nat} {A : Dev} {d : Dev} {h written checked errs : Nat} {first : Option (Bool × Nat × Nat)} {stopped : Bool} (H : Keeps M A d) (HM : Within 512 M) :
    Keeps M A (Dev.tgcEnd d h written checked errs first stopped) := by
  unfold Dev.tgcEnd
  extract_lets +onlyGivenNames c
  try clear_value c
  refine Keeps.ite (fun _ => H) (fun _ => ?_)
  refine keeps_updMem H HM (fun _ k1 => ?_)
  dsimp only
  refine hbm_updChan _ _ _ ?_
  split
  · exact k1
  · exact hbm_fill _ _ _ _ _ _ k1

theorem keeps_fxTgcStop {M : Nat} {A : Dev} {d : Dev} {h written checked errs : Nat} {first : Option (Bool × Nat × Nat)} (H : Keeps M A d) (HM : Within 512 M) :
    Keeps M A (fxTgcStop d h written checked errs first) := by
  unfold fxTgcStop
  exact keeps_tgcEnd H HM

theorem keeps_fxTgcTestEnd {M : Nat} {A : Dev} {d : Dev} {h errs : Nat} {first : Option (Bool × Nat × Nat)} (H : Keeps M A d) (HM : Within 512 M) :
    Keeps M A (fxTgcTestEnd d h errs first) := by
  unfold fxTgcTestEnd
  extract_lets +onlyGivenNames c
  try clear_value c
  exact Keeps.ite (fun _ => H) (fun _ => keeps_tgcEnd H HM)

theorem keeps_fxMaintSet {M : Nat} {A : Dev} {d : Dev} {a : Agent} (H : Keeps M A d) (HM : Within 520 M) :
    Keeps M A (fxMaintSet d a) := by
  unfold fxMaintSet
  exact keeps_ifExpert H (within_trans HM rfl) (fun _ k => Keeps.ite (fun _ => keeps_updMem k (within_trans HM rfl) (fun _ k2 => k2)) (fun _ => keeps_updMem k (within_trans HM rfl) (fun _ k2 => k2)))

theorem keeps_fxMaintClear {M : Nat} {A : Dev} {d : Dev} {a : Agent} (H : Keeps M A d) (HM : Within 520 M) :
    Keeps M A (fxMaintClear d a) := by
  unfold fxMaintClear
  exact keeps_ifExpert H (within_trans HM rfl) (fun _ k => keeps_updMem k (within_trans HM rfl) (fun _ k1 => k1))

theorem keeps_fxMaintWipeDone {M : Nat} {A : Dev} {d : Dev} (H : Keeps M A d) (HM : Within 512 M) :
    Keeps M A (fxMaintWipeDone d) := by
  unfold fxMaintWipeDone
  refine Keeps.ite (fun _ => ?_) (fun _ => H)
  refine keeps_updMem H HM (fun _ k1 => ?_)
  dsimp only
  exact hbm_wipe _ k1

theorem keeps_laneFault {M : Nat} {A : Dev} {d : Dev} {die i : Nat} (H : Keeps M A d) (HM : Within 33558536 M) :
    Keeps M A (Dev.laneFault d die i) := by
  unfold Dev.laneFault
  exact keeps_fnFault H HM

theorem keeps_fxFlitCrcReplay {M : Nat} {A : Dev} {d : Dev} {die i : Nat} {ok : Bool} (H : Keeps M A d) (HM : Within 33559048 M) :
    Keeps M A (fxFlitCrcReplay d die i ok) := by
  unfold fxFlitCrcReplay
  refine Keeps.ite (fun _ => ?_) (fun _ => ?_)
  · extract_lets +onlyGivenNames l
    try clear_value l
    extract_lets +onlyGivenNames run
    try clear_value run
    extract_lets +onlyGivenNames l1
    try clear_value l1
    exact Keeps.ite (fun _ => keeps_updMem H (within_trans HM rfl) (fun _ k2 => hbm_updFab _ _ _ k2)) (fun _ => Keeps.ite (fun _ => keeps_laneFault (keeps_updMem H (within_trans HM rfl) (fun _ k3 => hbm_updFab _ _ _ k3)) (within_trans HM rfl)) (fun _ => keeps_updMem H (within_trans HM rfl) (fun _ k3 => hbm_updFab _ _ _ k3)))
  · extract_lets +onlyGivenNames f
    try clear_value f
    extract_lets +onlyGivenNames run
    try clear_value run
    extract_lets +onlyGivenNames d1
    have k1 : Keeps M A d1 := keeps_updMem H (within_trans HM rfl) (fun _ k1 => hbm_updFab _ _ _ k1)
    try clear_value d1
    exact Keeps.ite (fun _ => k1) (fun _ => Keeps.ite (fun _ => keeps_laneFault (keeps_updMem k1 (within_trans HM rfl) (fun _ k4 => hbm_bothEnds _ _ k4)) (within_trans HM rfl)) (fun _ => keeps_updMem k1 (within_trans HM rfl) (fun _ k4 => hbm_bothEnds _ _ k4)))

theorem keeps_fxLaneSpareReplace {M : Nat} {A : Dev} {d : Dev} {die i : Nat} (H : Keeps M A d) (HM : Within 33559048 M) :
    Keeps M A (fxLaneSpareReplace d die i) := by
  unfold fxLaneSpareReplace
  refine Keeps.ite (fun _ => ?_) (fun _ => Keeps.ite (fun _ => keeps_laneFault (keeps_updMem H (within_trans HM rfl) (fun _ k2 => hbm_bothEnds _ _ k2)) (within_trans HM rfl)) (fun _ => H))
  extract_lets +onlyGivenNames l
  try clear_value l
  exact Keeps.ite (fun _ => keeps_laneFault (keeps_updMem H (within_trans HM rfl) (fun _ k2 => hbm_updFab _ _ _ k2)) (within_trans HM rfl)) (fun _ => H)

theorem keeps_fxD2dRetrain {M : Nat} {A : Dev} {d : Dev} {a : Agent} (H : Keeps M A d) (HM : Within 520 M) :
    Keeps M A (fxD2dRetrain d a) := by
  unfold fxD2dRetrain
  exact keeps_ifExpert H (within_trans HM rfl) (fun _ k => keeps_updMem k (within_trans HM rfl) (fun _ k1 => hbm_bothEnds _ _ k1))

theorem keeps_accept {M : Nat} {A : Dev} {d : Dev} {f : Nat} (H : Keeps M A d) (HM : Within 200 M) :
    Keeps M A (Dev.accept d f) := by
  unfold Dev.accept
  extract_lets +onlyGivenNames x
  try clear_value x
  extract_lets +onlyGivenNames slot
  try clear_value slot
  extract_lets +onlyGivenNames j
  try clear_value j
  exact keeps_updFn (Keeps.step 192 H (within_trans HM rfl)) (within_trans HM rfl)

theorem keeps_evalExpected {M : Nat} {A : Dev} {d : Dev} {f : Nat} (H : Keeps M A d) (HM : Within 200 M) :
    Keeps M A (Dev.evalExpected d f) := by
  unfold Dev.evalExpected
  extract_lets +onlyGivenNames x
  try clear_value x
  exact Keeps.ite (fun _ => keeps_accept H HM) (fun _ => H)

theorem keeps_evalSlot {M : Nat} {A : Dev} {d : Dev} {f slot : Nat} (H : Keeps M A d) (HM : Within 200 M) :
    Keeps M A (Dev.evalSlot d f slot) := by
  unfold Dev.evalSlot
  extract_lets +onlyGivenNames x
  try clear_value x
  extract_lets +onlyGivenNames s
  try clear_value s
  extract_lets +onlyGivenNames d1
  have k : Keeps M A d1 := keeps_updFn H (within_trans HM rfl)
  try clear_value d1
  exact Keeps.ite (fun _ => Keeps.ite (fun _ => keeps_accept k HM) (fun _ => keeps_updFn k (within_trans HM rfl))) (fun _ => Keeps.ite (fun _ => keeps_updFn k (within_trans HM rfl)) (fun _ => keeps_updFn k (within_trans HM rfl)))

theorem keeps_intakeWrite {M : Nat} {A : Dev} {d : Dev} {f off : Nat} {data : List Byte} (H : Keeps M A d) (HM : Within 6344 M) :
    Keeps M A (Dev.intakeWrite d f off data) := by
  unfold Dev.intakeWrite
  extract_lets +onlyGivenNames data1
  try clear_value data1
  extract_lets +onlyGivenNames d1
  have k : Keeps M A d1 := keeps_wakeUp H (within_trans HM rfl)
  try clear_value d1
  extract_lets +onlyGivenNames d2
  have k1 : Keeps M A d2 := keeps_updFn k (within_trans HM rfl)
  try clear_value d2
  exact Keeps.ite (fun _ => Keeps.foldl k1 (fun _ _ k3 => Keeps.ite (fun _ => keeps_evalSlot k3 (within_trans HM rfl)) (fun _ => k3))) (fun _ => k1)

theorem keeps_fxHeldSealEvaluate {M : Nat} {A : Dev} {d : Dev} {f : Nat} (H : Keeps M A d) (HM : Within 200 M) :
    Keeps M A (fxHeldSealEvaluate d f) := by
  unfold fxHeldSealEvaluate
  exact keeps_evalExpected H HM

theorem keeps_fxIntkEn {M : Nat} {A : Dev} {d : Dev} {f v : Nat} (H : Keeps M A d) (HM : Within 8 M) :
    Keeps M A (fxIntkEn d f v) := by
  unfold fxIntkEn
  extract_lets +onlyGivenNames x
  try clear_value x
  exact Keeps.ite (fun _ => Keeps.ite (fun _ => keeps_updFn H HM) (fun _ => keeps_updFn H HM)) (fun _ => Keeps.ite (fun _ => keeps_updFn H HM) (fun _ => keeps_updFn H HM))

theorem keeps_fxHifExpertEnWrite {M : Nat} {A : Dev} {d : Dev} {f v : Nat} (H : Keeps M A d) (HM : Within 32 M) :
    Keeps M A (fxHifExpertEnWrite d f v) := by
  unfold fxHifExpertEnWrite
  exact Keeps.ite (fun _ => Keeps.step 32 H HM) (fun _ => H)

theorem keeps_announce {M : Nat} {A : Dev} {d : Dev} {f v : Nat} (H : Keeps M A d) (HM : Within 33554440 M) :
    Keeps M A (Dev.announce d f v) := by
  unfold Dev.announce
  exact keeps_msix (keeps_updFn H (within_trans HM rfl)) HM

theorem keeps_moderate {M : Nat} {A : Dev} {d : Dev} {f v : Nat} (H : Keeps M A d) (HM : Within 33554440 M) :
    Keeps M A (Dev.moderate d f v) := by
  unfold Dev.moderate
  extract_lets +onlyGivenNames x
  try clear_value x
  extract_lets +onlyGivenNames u
  try clear_value u
  exact Keeps.ite (fun _ => keeps_announce H HM) (fun _ => keeps_updFn H (within_trans HM rfl))

theorem keeps_fxMsixModerationTimer {M : Nat} {A : Dev} {d : Dev} {f v : Nat} (H : Keeps M A d) (HM : Within 33554440 M) :
    Keeps M A (fxMsixModerationTimer d f v) := by
  unfold fxMsixModerationTimer
  extract_lets +onlyGivenNames x
  try clear_value x
  extract_lets +onlyGivenNames u
  try clear_value u
  exact Keeps.ite (fun _ => keeps_announce H HM) (fun _ => H)

theorem keeps_complete {M : Nat} {A : Dev} {d : Dev} {j : Job} {status : Nat} {fault : Option FaultRec} {endAon : Nat} (H : Keeps M A d) (HM : Within 33554440 M) :
    Keeps M A (Dev.complete d j status fault endAon) := by
  unfold Dev.complete
  extract_lets +onlyGivenNames base
  try clear_value base
  extract_lets +onlyGivenNames fb
  try clear_value fb
  extract_lets +onlyGivenNames d1
  have k : Keeps M A d1 := keeps_hostWrite H (within_trans HM rfl)
  try clear_value d1
  extract_lets +onlyGivenNames d2
  have k1 : Keeps M A d2 := keeps_hostWrite k (within_trans HM rfl)
  try clear_value d2
  exact Keeps.ite (fun _ => k1) (fun _ => keeps_moderate k1 HM)

theorem keeps_dropJob {M : Nat} {A : Dev} {d : Dev} {id : Nat} (H : Keeps M A d) (HM : Within 64 M) :
    Keeps M A (Dev.dropJob d id) := by
  unfold Dev.dropJob
  exact Keeps.step 64 H HM

theorem keeps_readPSets {M : Nat} {A d : Dev} {y0 : List Nat} (H : Keeps M A d) (HM : Within 33559115 M) :
    Keeps M A (d.readPSets y0).1 := by
  induction y0 generalizing d with
  | nil => exact H
  | cons a t ih =>
    unfold Dev.readPSets
    split
    · rename_i e; exact Keeps.fst e (keeps_hbmRead H (within_trans HM rfl))
    · rename_i e
      have k := Keeps.fst e (keeps_hbmRead H (within_trans HM rfl))
      split
      · exact k
      · split
        · rename_i e; exact Keeps.fst e (ih k)
        · rename_i e; exact Keeps.fst e (ih k)

theorem keeps_refuse {M : Nat} {A : Dev} {d : Dev} {j : Job} {code detail : Nat} (H : Keeps M A d) (HM : Within 33558600 M) :
    Keeps M A (Dev.refuse d j code detail) := by
  unfold Dev.refuse
  extract_lets +onlyGivenNames r
  try clear_value r
  extract_lets +onlyGivenNames r1
  try clear_value r1
  extract_lets +onlyGivenNames d1
  have k : Keeps M A d1 := keeps_faultRing H (within_trans HM rfl)
  try clear_value d1
  exact keeps_dropJob (keeps_complete k (within_trans HM rfl)) (within_trans HM rfl)

theorem keeps_fxJobCheck {M : Nat} {A : Dev} {d : Dev} {f seq : Nat} (H : Keeps M A d) (HM : Within 33559115 M) :
    Keeps M A (fxJobCheck d f seq) := by
  unfold fxJobCheck
  split
  · exact H
  · refine Keeps.ite (fun _ => H) (fun _ => ?_)
    split
    · exact keeps_refuse H (within_trans HM rfl)
    · extract_lets +onlyGivenNames addrs
      try clear_value addrs
      refine Keeps.ite (fun _ => H) (fun _ => ?_)
      split
      · rename_i e
        exact keeps_refuse (Keeps.fst e (keeps_readPSets H HM)) (within_trans HM rfl)
      · rename_i e
        split
        · exact keeps_refuse (Keeps.fst e (keeps_readPSets H HM)) (within_trans HM rfl)
        · exact keeps_updJob (Keeps.fst e (keeps_readPSets H HM)) (within_trans HM rfl)

theorem keeps_startProgram {M : Nat} {A : Dev} {d : Dev} {j : Job} (H : Keeps M A d) (HM : Within 33559115 M) :
    Keeps M A (Dev.startProgram d j) := by
  unfold Dev.startProgram
  extract_lets +onlyGivenNames fail
  subst fail
  split
  · rename_i e
    exact keeps_jobFault (Keeps.fst e (keeps_hbmRead H HM)) (within_trans HM rfl)
  · rename_i e
    split
    · exact keeps_jobFault (Keeps.fst e (keeps_hbmRead H HM)) (within_trans HM rfl)
    · exact Keeps.foldl (Keeps.fst e (keeps_hbmRead H HM)) (fun _ _ k => keeps_updApp k (within_trans HM rfl))

theorem keeps_jobStart {M : Nat} {A : Dev} {d : Dev} {f seq : Nat} (H : Keeps M A d) (HM : Within 33559115 M) :
    Keeps M A (Dev.jobStart d f seq) := by
  unfold Dev.jobStart
  split
  · exact H
  · refine Keeps.ite (fun _ => H) (fun _ => ?_)
    extract_lets +onlyGivenNames ptab
    try clear_value ptab
    extract_lets +onlyGivenNames d1
    have k1 : Keeps M A d1 := keeps_updJob H (within_trans HM rfl)
    try clear_value d1
    extract_lets +onlyGivenNames d2
    have k2 : Keeps M A d2 := keeps_forAll k1 (within_trans HM rfl) (fun _ _ k2 => keeps_updMem (keeps_updCore k2 (within_trans HM rfl) (fun _ k3 => ls_startJob _ _ _ k3)) (within_trans HM rfl) (fun _ k3 => hbm_updXch _ _ _ k3))
    try clear_value d2
    extract_lets +onlyGivenNames d3
    try clear_value d3
    extract_lets +onlyGivenNames d4
    have k3 : Keeps M A d4 := keeps_forAll k2 (within_trans HM rfl) (fun _ _ k3 => keeps_updApp k3 (within_trans HM rfl))
    try clear_value d4
    exact keeps_startProgram k3 HM

theorem keeps_fxResourceReserve {M : Nat} {A : Dev} {d : Dev} {f seq : Nat} (H : Keeps M A d) (HM : Within 64 M) :
    Keeps M A (fxResourceReserve d f seq) := by
  unfold fxResourceReserve
  split
  · exact H
  · exact Keeps.ite (fun _ => keeps_updJob H HM) (fun _ => H)

theorem keeps_reserveFreed {M : Nat} {A : Dev} {d : Dev} (H : Keeps M A d) (HM : Within 64 M) :
    Keeps M A (Dev.reserveFreed d) := by
  unfold Dev.reserveFreed
  exact Keeps.step 64 H HM

theorem keeps_fxJobTimeLimit {M : Nat} {A : Dev} {d : Dev} {f seq : Nat} (H : Keeps M A d) (HM : Within 33560651 M) :
    Keeps M A (fxJobTimeLimit d f seq) := by
  unfold fxJobTimeLimit
  split
  · exact H
  · exact Keeps.ite (fun _ => keeps_wakeUp (keeps_jobFault (keeps_endJob H (within_trans HM rfl)) (within_trans HM rfl)) (within_trans HM rfl)) (fun _ => H)

theorem keeps_fxIntkCancel {M : Nat} {A : Dev} {d : Dev} {f seq : Nat} (H : Keeps M A d) (HM : Within 33554507 M) :
    Keeps M A (fxIntkCancel d f seq) := by
  unfold fxIntkCancel
  extract_lets +onlyGivenNames res
  subst res
  split
  · exact keeps_updFn H (within_trans HM rfl)
  · split
    · exact keeps_updFn (keeps_dropJob (keeps_complete H (within_trans HM rfl)) (within_trans HM rfl)) (within_trans HM rfl)
    · exact keeps_updFn (keeps_reserveFreed (keeps_dropJob (keeps_complete H (within_trans HM rfl)) (within_trans HM rfl)) (within_trans HM rfl)) (within_trans HM rfl)
    · exact keeps_updFn (keeps_endJob H (within_trans HM rfl)) (within_trans HM rfl)
    · exact keeps_updFn (keeps_endJob H (within_trans HM rfl)) (within_trans HM rfl)
    · exact keeps_updFn H (within_trans HM rfl)

end Sys2Proof.Machine
end

