-- ==== Sys2Proof/Laws/KeepsCores.lean ====
section
/-! SUPPORT. What the operations of the cores: blocks, stream engines, the sequencer, local stores, keys and application cores keep, each in a mask
of the parts of the device it may change (`Keeps`). -/

set_option Elab.async false

namespace Sys2Proof.Machine

theorem keeps_groupSettle {M : Nat} {A : Dev} {d : Dev} {die n : Nat} (H : Keeps M A d) (HM : Within 516 M) :
    Keeps M A (Dev.groupSettle d die n) := by
  unfold Dev.groupSettle
  extract_lets +onlyGivenNames x
  try clear_value x
  extract_lets +onlyGivenNames st
  try clear_value st
  extract_lets +onlyGivenNames st1
  try clear_value st1
  extract_lets +onlyGivenNames d1
  have k : Keeps M A d1 := keeps_setGroup H (within_trans HM rfl)
  try clear_value d1
  exact Keeps.ite (fun _ => k) (fun _ => keeps_updMem k (within_trans HM rfl) (fun _ k2 => hbm_forget _ _ k2))

theorem keeps_leaveMember {M : Nat} {A : Dev} {d : Dev} {die n m : Nat} (H : Keeps M A d) (HM : Within 517 M) :
    Keeps M A (Dev.leaveMember d die n m) := by
  unfold Dev.leaveMember
  extract_lets +onlyGivenNames d1
  have k : Keeps M A d1 := keeps_updGroup H (within_trans HM rfl)
  try clear_value d1
  extract_lets +onlyGivenNames d2
  have k1 : Keeps M A d2 := keeps_forAll k (within_trans HM rfl) (fun _ _ k1 => keeps_updCore k1 (within_trans HM rfl) (fun _ k2 => ls_updBinds _ _ _ k2))
  try clear_value d2
  exact keeps_groupSettle k1 (within_trans HM rfl)

theorem keeps_endBinding {M : Nat} {A : Dev} {d : Dev} {g : Nat} {b : Binding} (H : Keeps M A d) (HM : Within 517 M) :
    Keeps M A (Dev.endBinding d g b) := by
  unfold Dev.endBinding
  extract_lets +onlyGivenNames d1
  have k : Keeps M A d1 := keeps_updCore H (within_trans HM rfl) (fun _ k => k)
  try clear_value d1
  extract_lets +onlyGivenNames d2
  have k1 : Keeps M A d2 := keeps_updMem k (within_trans HM rfl) (fun _ k1 => hbm_forget _ _ k1)
  try clear_value d2
  exact keeps_groupSettle k1 (within_trans HM rfl)

theorem keeps_leaveBound {M : Nat} {A : Dev} {d : Dev} {g : Nat} (H : Keeps M A d) (HM : Within 517 M) :
    Keeps M A (Dev.leaveBound d g) := by
  unfold Dev.leaveBound
  exact Keeps.foldl H (fun _ _ k => keeps_leaveMember k HM)

theorem keeps_leaveGroups {M : Nat} {A : Dev} {d : Dev} {g : Nat} (H : Keeps M A d) (HM : Within 517 M) :
    Keeps M A (Dev.leaveGroups d g) := by
  unfold Dev.leaveGroups
  extract_lets +onlyGivenNames d1
  have k : Keeps M A d1 := keeps_forAll H (within_trans HM rfl) (fun _ _ k => Keeps.ite (fun _ => keeps_leaveMember k HM) (fun _ => k))
  try clear_value d1
  exact Keeps.foldl k (fun _ _ k1 => keeps_endBinding k1 HM)

theorem keeps_undefine {M : Nat} {A : Dev} {d : Dev} {g : Nat} {l : List Nat} (H : Keeps M A d) (HM : Within 16777217 M) :
    Keeps M A (Dev.undefine d g l) := by
  unfold Dev.undefine
  refine Keeps.ite (fun _ => H) (fun _ => ?_)
  extract_lets +onlyGivenNames y
  have k1 : Keeps M A y := keeps_updCore H (within_trans HM rfl) (fun _ k1 => ls_undefine _ _ _ k1)
  try clear_value y
  exact Keeps.step 16777216 k1 (within_trans HM rfl)

theorem keeps_abandonBoot {M : Nat} {A : Dev} {d : Dev} {g : Nat} (H : Keeps M A d) (HM : Within 16777217 M) :
    Keeps M A (Dev.abandonBoot d g) := by
  unfold Dev.abandonBoot
  extract_lets +onlyGivenNames c
  subst c
  split
  · exact H
  · refine Keeps.ite (fun _ => ?_) (fun _ => H)
    extract_lets +onlyGivenNames d1
    have k1 : Keeps M A d1 := Keeps.foldl H (fun _ _ k1 => keeps_undefine k1 HM)
    try clear_value d1
    exact keeps_forAll k1 (within_trans HM rfl) (fun _ _ k2 => keeps_updCore k2 (within_trans HM rfl) (fun _ k3 => k3))

theorem keeps_endFreeze {M : Nat} {A : Dev} {d : Dev} {g : Nat} (H : Keeps M A d) (HM : Within 16777217 M) :
    Keeps M A (Dev.endFreeze d g) := by
  unfold Dev.endFreeze
  refine Keeps.ite (fun _ => H) (fun _ => ?_)
  extract_lets +onlyGivenNames y
  have k1 : Keeps M A y := keeps_updCore H (within_trans HM rfl) (fun _ k1 => k1)
  try clear_value y
  exact Keeps.step 16777216 k1 (within_trans HM rfl)

theorem keeps_cutBlock {M : Nat} {A : Dev} {d : Dev} {g : Nat} {s : Stop} (H : Keeps M A d) (HM : Within 16777733 M) :
    Keeps M A (Dev.cutBlock d g s) := by
  unfold Dev.cutBlock
  extract_lets +onlyGivenNames d1
  have k : Keeps M A d1 := keeps_endFreeze H (within_trans HM rfl)
  try clear_value d1
  extract_lets +onlyGivenNames c
  subst c
  extract_lets +onlyGivenNames own
  try clear_value own
  extract_lets +onlyGivenNames harm
  try clear_value harm
  extract_lets +onlyGivenNames d2
  have k1 : Keeps M A d2 := keeps_abandonBoot (keeps_undefine k (within_trans HM rfl)) (within_trans HM rfl)
  try clear_value d2
  extract_lets +onlyGivenNames d3
  have k2 : Keeps M A d3 := keeps_leaveGroups k1 (within_trans HM rfl)
  try clear_value d3
  extract_lets +onlyGivenNames d4
  have k3 : Keeps M A d4 := keeps_updCore k2 (within_trans HM rfl) (fun _ k3 => k3)
  try clear_value d4
  exact keeps_forAll k3 (within_trans HM rfl) (fun _ _ k4 => keeps_updCore k4 (within_trans HM rfl) (fun _ k5 => ls_mustStop _ _ _ _ k5))

theorem keeps_stopBlock {M : Nat} {A : Dev} {d : Dev} {g : Nat} {s : Stop} (H : Keeps M A d) (HM : Within 50336335 M) :
    Keeps M A (Dev.stopBlock d g s) := by
  unfold Dev.stopBlock
  extract_lets +onlyGivenNames d1
  have k : Keeps M A d1 := keeps_updCore H (within_trans HM rfl) (fun _ k => ls_foundUe _ _ k)
  try clear_value d1
  extract_lets +onlyGivenNames c
  subst c
  extract_lets +onlyGivenNames e
  try clear_value e
  extract_lets +onlyGivenNames rcd
  try clear_value rcd
  exact keeps_coreFault (keeps_cutBlock k (within_trans HM rfl)) (within_trans HM rfl)

theorem keeps_refusedWord {M : Nat} {A : Dev} {d : Dev} {h g addr : Nat} (H : Keeps M A d) (HM : Within 33558603 M) :
    Keeps M A (Dev.refusedWord d h g addr) := by
  unfold Dev.refusedWord
  extract_lets +onlyGivenNames c
  subst c
  refine Keeps.ite (fun _ => H) (fun _ => ?_)
  extract_lets +onlyGivenNames code
  try clear_value code
  extract_lets +onlyGivenNames detail
  try clear_value detail
  extract_lets +onlyGivenNames runs
  try clear_value runs
  extract_lets +onlyGivenNames e
  try clear_value e
  exact keeps_coreFault (keeps_updCore H (within_trans HM rfl) (fun _ k1 => k1)) HM

theorem keeps_exchangeLand {M : Nat} {A : Dev} {d : Dev} {g : Nat} (H : Keeps M A d) (HM : Within 33559115 M) :
    Keeps M A (Dev.exchangeLand d g) := by
  unfold Dev.exchangeLand
  extract_lets +onlyGivenNames cs
  try clear_value cs
  extract_lets +onlyGivenNames port
  try clear_value port
  extract_lets +onlyGivenNames last
  try clear_value last
  split
  · exact H
  · extract_lets +onlyGivenNames batch
    try clear_value batch
    extract_lets +onlyGivenNames ok
    try clear_value ok
    extract_lets +onlyGivenNames bad
    try clear_value bad
    extract_lets +onlyGivenNames d1
    have k : Keeps M A d1 := keeps_updMem H (within_trans HM rfl) (fun _ k => hbm_updXch _ _ _ k)
    try clear_value d1
    extract_lets +onlyGivenNames d2
    have k1 : Keeps M A d2 := keeps_updCore k (within_trans HM rfl) (fun _ k1 => k1)
    try clear_value d2
    extract_lets +onlyGivenNames r
    subst r
    extract_lets +onlyGivenNames d3
    have k2 : Keeps M A d3 := keeps_setCore k1 (within_trans HM rfl) (fun k2 => ls_sideWrite _ _ (ls_core k2 _))
    try clear_value d3
    extract_lets +onlyGivenNames d4
    have k3 : Keeps M A d4 := by
      subst d4
      split
      · exact keeps_coreFault k2 (within_trans HM rfl)
      · exact k2
    try clear_value d4
    split
    · exact k3
    · exact keeps_refusedWord k3 (within_trans HM rfl)

theorem keeps_makeRoom {M : Nat} {A : Dev} {d : Dev} {g r : Nat} (H : Keeps M A d) (HM : Within 33559115 M) :
    Keeps M A (Dev.makeRoom d g r) := by
  unfold Dev.makeRoom
  refine Keeps.foldl H (fun _ _ k => ?_)
  extract_lets +onlyGivenNames c
  subst c
  split
  · extract_lets +onlyGivenNames target
    try clear_value target
    exact Keeps.ite (fun _ => keeps_exchangeLand k HM) (fun _ => k)
  · exact k

theorem keeps_startFreeze {M : Nat} {A : Dev} {d : Dev} {g source bundle row order : Nat} {sreg : Option Nat} (H : Keeps M A d) (HM : Within 1 M) :
    Keeps M A (Dev.startFreeze d g source bundle row order sreg) := by
  unfold Dev.startFreeze
  exact keeps_updCore H HM (fun _ k => k)

theorem keeps_freezeOn {M : Nat} {A : Dev} {d : Dev} {g : Nat} {q : Ring} {bundle row order : Nat} (H : Keeps M A d) (HM : Within 1 M) :
    Keeps M A (Dev.freezeOn d g q bundle row order) := by
  unfold Dev.freezeOn
  exact keeps_startFreeze H HM

theorem keeps_stopIn {M : Nat} {A : Dev} {d : Dev} {g r : Nat} {s : Stop} (H : Keeps M A d) (HM : Within 50336335 M) :
    Keeps M A (Dev.stopIn d g r s) := by
  unfold Dev.stopIn
  exact keeps_stopBlock (Keeps.ite (fun _ => keeps_updCore H (within_trans HM rfl) (fun _ k1 => ls_placeSends _ _ k1)) (fun _ => H)) HM

theorem keeps_tick {M : Nat} {A d : Dev} {g : Nat} (H : Keeps M A d) (HM : Within 50336335 M) :
    Keeps M A (d.tick g).1 := by
  unfold Dev.tick
  extract_lets +onlyGivenNames d1
  have k : Keeps M A d1 := keeps_updCore H (within_trans HM rfl) fun _ k => ls_release _ (ls_land _ k)
  clear_value d1
  extract_lets +onlyGivenNames c r
  split
  · exact k
  · split
    · dsimp only
      exact keeps_freezeOn k (within_trans HM rfl)
    · extract_lets +onlyGivenNames d2
      have k2 : Keeps M A d2 := keeps_makeRoom k (within_trans HM rfl)
      clear_value d2
      extract_lets +onlyGivenNames c2
      split
      · dsimp only
        exact keeps_stopBlock k2 (within_trans HM rfl)
      · split
        · dsimp only
          exact keeps_stopIn k2 (within_trans HM rfl)
        · dsimp only
          exact keeps_updCore k2 (within_trans HM rfl) fun _ k => ls_capture _ _ k
      · extract_lets +onlyGivenNames base x rd
        split
        · dsimp only
          exact keeps_cutBlock k2 (within_trans HM rfl)
        · extract_lets +onlyGivenNames early
          split
          · dsimp only
            exact keeps_freezeOn k2 (within_trans HM rfl)
          · dsimp only
            exact keeps_startFreeze (Keeps.step 16777216 k2 (within_trans HM rfl)) (within_trans HM rfl)
          · dsimp only
            exact keeps_startFreeze (Keeps.step 16777216 k2 (within_trans HM rfl)) (within_trans HM rfl)
          · extract_lets +onlyGivenNames late
            split
            · dsimp only
              exact keeps_stopIn k2 (within_trans HM rfl)
            · dsimp only
              exact keeps_updCore k2 (within_trans HM rfl) fun _ k => ls_enter _ _ _ (ls_capture _ _ k)

theorem keeps_advance {M : Nat} {A d : Dev} {g target y0 : Nat} (H : Keeps M A d) (HM : Within 50336335 M) :
    Keeps M A (d.advance g target y0) := by
  induction y0 generalizing d with
  | zero => exact H
  | succ n ih =>
    unfold Dev.advance
    split
    · exact H
    · split
      · rename_i e; exact ih (Keeps.fst e (keeps_tick H (within_trans HM rfl)))
      · rename_i e; exact Keeps.fst e (keeps_tick H (within_trans HM rfl))

theorem keeps_skipEmpty {M : Nat} {A d : Dev} {g y0 : Nat} (H : Keeps M A d) (HM : Within 50336335 M) :
    Keeps M A (d.skipEmpty g y0) := by
  induction y0 generalizing d with
  | zero => exact H
  | succ n ih =>
    unfold Dev.skipEmpty
    extract_lets c d1
    have k : Keeps M A d1 := keeps_advance H HM
    split
    · split
      · split
        · exact ih k
        · exact k
      · exact H
    · exact H

theorem keeps_reach {M : Nat} {A : Dev} {d : Dev} {g slot op : Nat} (H : Keeps M A d) (HM : Within 50336335 M) :
    Keeps M A ((Dev.reach d g slot op).1) := by
  unfold Dev.reach
  extract_lets +onlyGivenNames d1
  have k : Keeps M A d1 := keeps_skipEmpty H HM
  try clear_value d1
  extract_lets +onlyGivenNames c
  subst c
  extract_lets +onlyGivenNames firstIs
  try clear_value firstIs
  split
  · exact k
  · split
    · exact k
    · split
      · exact k
      · extract_lets +onlyGivenNames o
        try clear_value o
        split
        · extract_lets +onlyGivenNames d2
          have k1 : Keeps M A d2 := keeps_advance k HM
          try clear_value d2
          exact k1
        · exact k

theorem keeps_streamFault {M : Nat} {A : Dev} {d : Dev} {g e code detail block prog : Nat} {ring : Option Nat} (H : Keeps M A d) (HM : Within 33558603 M) :
    Keeps M A (Dev.streamFault d g e code detail block prog ring) := by
  unfold Dev.streamFault
  extract_lets +onlyGivenNames x
  try clear_value x
  extract_lets +onlyGivenNames filling
  try clear_value filling
  extract_lets +onlyGivenNames left
  try clear_value left
  extract_lets +onlyGivenNames d1
  have k : Keeps M A d1 := by
    subst d1
    refine keeps_updCore H (within_trans HM rfl) (fun _ k => ?_)
    dsimp only
    exact ls_updEng _ _ _ (ls_foldl k (fun _ _ k1 => ls_failRing _ _ _ _ _ _ k1))
  try clear_value d1
  exact keeps_coreFault k HM

theorem keeps_unlessRelock {M : Nat} {A : Dev} {d : Dev} {g : Nat} {f : Dev → Dev} (H : Keeps M A d) (HM : Within 0 M) (hf : ∀ (e0 : Dev), Keeps M A e0 → Keeps M A (f e0)) :
    Keeps M A (Dev.unlessRelock d g f) := by
  unfold Dev.unlessRelock
  exact Keeps.ite (fun _ => H) (fun _ => hf _ H)

theorem keeps_issueRecord {M : Nat} {A : Dev} {d : Dev} {g e addr : Nat} (H : Keeps M A d) (HM : Within 33558603 M) :
    Keeps M A (Dev.issueRecord d g e addr) := by
  unfold Dev.issueRecord
  extract_lets +onlyGivenNames c
  subst c
  extract_lets +onlyGivenNames ws
  try clear_value ws
  extract_lets +onlyGivenNames block
  try clear_value block
  refine Keeps.ite (fun _ => keeps_updCore H (within_trans HM rfl) (fun _ k1 => ls_updEng _ _ _ k1)) (fun _ => ?_)
  split
  · exact keeps_streamFault H HM
  · exact keeps_updCore H (within_trans HM rfl) (fun _ k1 => ls_updEng _ _ _ k1)

theorem keeps_recordFail {M : Nat} {A : Dev} {d : Dev} {g e : Nat} {q : StrCmd} {code detail : Nat} (H : Keeps M A d) (HM : Within 33558603 M) :
    Keeps M A (Dev.recordFail d g e q code detail) := by
  unfold Dev.recordFail
  exact keeps_streamFault (keeps_updCore H (within_trans HM rfl) (fun _ k => ls_popRecord _ _ k)) HM

theorem keeps_fxRun {M : Nat} {A : Dev} {d : Dev} {g e : Nat} (H : Keeps M A d) (HM : Within 1 M) :
    Keeps M A (fxRun d g e) := by
  unfold fxRun
  split
  · exact H
  · exact keeps_updCore H HM (fun _ k => ls_updEng _ _ _ (ls_popRecord _ _ k))

theorem keeps_fxPost {M : Nat} {A : Dev} {d : Dev} {g e : Nat} (H : Keeps M A d) (HM : Within 33558603 M) :
    Keeps M A (fxPost d g e) := by
  unfold fxPost
  split
  · exact H
  · extract_lets +onlyGivenNames base
    try clear_value base
    extract_lets +onlyGivenNames rows
    try clear_value rows
    extract_lets +onlyGivenNames w3
    try clear_value w3
    extract_lets +onlyGivenNames r
    try clear_value r
    refine Keeps.ite (fun _ => keeps_recordFail H HM) (fun _ => ?_)
    refine keeps_updCore H (within_trans HM rfl) (fun _ k1 => ?_)
    dsimp only
    exact ls_popRecord _ _ k1

theorem keeps_fxUnpost {M : Nat} {A : Dev} {d : Dev} {g e : Nat} (H : Keeps M A d) (HM : Within 33558603 M) :
    Keeps M A (fxUnpost d g e) := by
  unfold fxUnpost
  split
  · exact H
  · extract_lets +onlyGivenNames r
    try clear_value r
    split
    · exact Keeps.ite (fun _ => keeps_updCore H (within_trans HM rfl) (fun _ k1 => ls_updEng _ _ _ k1)) (fun _ => keeps_recordFail H HM)
    · exact keeps_recordFail H HM

theorem keeps_fxUnpostComplete {M : Nat} {A : Dev} {d : Dev} {g e : Nat} (H : Keeps M A d) (HM : Within 1 M) :
    Keeps M A (fxUnpostComplete d g e) := by
  unfold fxUnpostComplete
  extract_lets +onlyGivenNames x
  try clear_value x
  split
  · exact Keeps.ite (fun _ => H) (fun _ => keeps_updCore H HM (fun _ k1 => ls_unpostRing _ _ (ls_updEng _ _ _ (ls_popRecord _ _ k1))))
  · exact H

theorem keeps_fxRelease {M : Nat} {A : Dev} {d : Dev} {g e : Nat} (H : Keeps M A d) (HM : Within 33558603 M) :
    Keeps M A (fxRelease d g e) := by
  unfold fxRelease
  split
  · exact H
  · extract_lets +onlyGivenNames r
    try clear_value r
    split
    · exact Keeps.ite (fun _ => keeps_updCore H (within_trans HM rfl) (fun _ k1 => ls_updRing _ _ _ (ls_popRecord _ _ k1))) (fun _ => keeps_recordFail H HM)
    · exact keeps_recordFail H HM

theorem keeps_fxLeave {M : Nat} {A : Dev} {d : Dev} {g e : Nat} (H : Keeps M A d) (HM : Within 517 M) :
    Keeps M A (fxLeave d g e) := by
  unfold fxLeave
  split
  · exact H
  · extract_lets +onlyGivenNames n
    try clear_value n
    extract_lets +onlyGivenNames d1
    have k : Keeps M A d1 := keeps_updCore H (within_trans HM rfl) (fun _ k => ls_popRecord _ _ k)
    try clear_value d1
    exact Keeps.ite (fun _ => keeps_leaveMember k HM) (fun _ => k)

theorem keeps_subscribe {M : Nat} {A : Dev} {d : Dev} {die n m : Nat} (H : Keeps M A d) (HM : Within 4 M) :
    Keeps M A (Dev.subscribe d die n m) := by
  unfold Dev.subscribe
  extract_lets +onlyGivenNames x
  try clear_value x
  extract_lets +onlyGivenNames y
  try clear_value y
  refine Keeps.ite (fun _ => ?_) (fun _ => H)
  extract_lets +onlyGivenNames sub
  try clear_value sub
  extract_lets +onlyGivenNames st
  try clear_value st
  exact keeps_setGroup H HM

theorem keeps_fxKbind {M : Nat} {A : Dev} {d : Dev} {g e : Nat} (H : Keeps M A d) (HM : Within 33558607 M) :
    Keeps M A (fxKbind d g e) := by
  unfold fxKbind
  split
  · exact H
  · extract_lets +onlyGivenNames w1
    try clear_value w1
    extract_lets +onlyGivenNames n
    try clear_value n
    extract_lets +onlyGivenNames slot
    try clear_value slot
    extract_lets +onlyGivenNames sreg
    try clear_value sreg
    extract_lets +onlyGivenNames r
    try clear_value r
    extract_lets +onlyGivenNames el
    try clear_value el
    extract_lets +onlyGivenNames die
    try clear_value die
    extract_lets +onlyGivenNames m
    try clear_value m
    extract_lets +onlyGivenNames c
    subst c
    extract_lets +onlyGivenNames x
    try clear_value x
    extract_lets +onlyGivenNames mask
    try clear_value mask
    extract_lets +onlyGivenNames foreign
    try clear_value foreign
    extract_lets +onlyGivenNames op
    try clear_value op
    extract_lets +onlyGivenNames ringOk
    try clear_value ringOk
    extract_lets +onlyGivenNames taken
    try clear_value taken
    extract_lets +onlyGivenNames unfit
    try clear_value unfit
    refine Keeps.ite (fun _ => keeps_recordFail H (within_trans HM rfl)) (fun _ => ?_)
    refine Keeps.ite (fun _ => keeps_recordFail H (within_trans HM rfl)) (fun _ => ?_)
    extract_lets +onlyGivenNames b
    try clear_value b
    extract_lets +onlyGivenNames d1
    have k2 : Keeps M A d1 := by
      subst d1
      refine keeps_updCore H (within_trans HM rfl) (fun _ k2 => ?_)
      dsimp only
      exact ls_popRecord _ _ k2
    try clear_value d1
    exact keeps_subscribe k2 (within_trans HM rfl)

theorem keeps_simpleInstr {M : Nat} {A : Dev} {d : Dev} {g e op : Nat} {u : Prog → Nat → Prog} (H : Keeps M A d) (HM : Within 1 M) :
    Keeps M A (Dev.simpleInstr d g e op u) := by
  unfold Dev.simpleInstr
  split
  · exact keeps_updCore H HM (fun _ k => ls_stepProg _ _ _ k)
  · exact H

theorem keeps_fxStrEnd {M : Nat} {A : Dev} {d : Dev} {g e : Nat} (H : Keeps M A d) (HM : Within 1 M) :
    Keeps M A (fxStrEnd d g e) := by
  unfold fxStrEnd
  split
  · exact keeps_updCore H HM (fun _ k => ls_updEng _ _ _ k)
  · exact H

theorem keeps_fxSeta {M : Nat} {A : Dev} {d : Dev} {g e : Nat} (H : Keeps M A d) (HM : Within 1 M) :
    Keeps M A (fxSeta d g e) := by
  unfold fxSeta
  exact keeps_simpleInstr H HM

theorem keeps_fxAdda {M : Nat} {A : Dev} {d : Dev} {g e : Nat} (H : Keeps M A d) (HM : Within 1 M) :
    Keeps M A (fxAdda d g e) := by
  unfold fxAdda
  exact keeps_simpleInstr H HM

theorem keeps_fxSetl {M : Nat} {A : Dev} {d : Dev} {g e : Nat} (H : Keeps M A d) (HM : Within 1 M) :
    Keeps M A (fxSetl d g e) := by
  unfold fxSetl
  exact keeps_simpleInstr H HM

theorem keeps_fxAddl {M : Nat} {A : Dev} {d : Dev} {g e : Nat} (H : Keeps M A d) (HM : Within 1 M) :
    Keeps M A (fxAddl d g e) := by
  unfold fxAddl
  exact keeps_simpleInstr H HM

theorem keeps_fxStrLoop {M : Nat} {A : Dev} {d : Dev} {g e : Nat} (H : Keeps M A d) (HM : Within 1 M) :
    Keeps M A (fxStrLoop d g e) := by
  unfold fxStrLoop
  split
  · exact keeps_updCore H HM (fun _ k => ls_updEng _ _ _ k)
  · exact H

theorem keeps_signal {M : Nat} {A : Dev} {d : Dev} {id t by' : Nat} (H : Keeps M A d) (HM : Within 65 M) :
    Keeps M A (Dev.signal d id t by') := by
  unfold Dev.signal
  split
  · exact H
  · refine keeps_forAll (keeps_updJob H (within_trans HM rfl)) (within_trans HM rfl) (fun _ _ k => ?_)
    refine keeps_updCore k (within_trans HM rfl) (fun _ k1 => ?_)
    split
    · exact ls_see _ _ k1
    · exact k1

theorem keeps_fxTokenSignalArrives {M : Nat} {A : Dev} {d : Dev} {g by' : Nat} (H : Keeps M A d) (HM : Within 1 M) :
    Keeps M A (fxTokenSignalArrives d g by') := by
  unfold fxTokenSignalArrives
  refine keeps_updCore H HM (fun _ k => ?_)
  split
  · dsimp only
    exact ls_see _ _ k
  · exact k

theorem keeps_fxWaitt {M : Nat} {A : Dev} {d : Dev} {g e : Nat} (H : Keeps M A d) (HM : Within 1 M) :
    Keeps M A (fxWaitt d g e) := by
  unfold fxWaitt
  split
  · extract_lets +onlyGivenNames rep
    try clear_value rep
    extract_lets +onlyGivenNames thr
    try clear_value thr
    extract_lets +onlyGivenNames now
    try clear_value now
    exact Keeps.ite (fun _ => keeps_updCore H HM (fun _ k1 => ls_stepProg _ _ _ k1)) (fun _ => keeps_updCore H HM (fun _ k1 => ls_updEng _ _ _ k1))
  · exact H

theorem keeps_fxWaittSatisfied {M : Nat} {A : Dev} {d : Dev} {g e : Nat} (H : Keeps M A d) (HM : Within 1 M) :
    Keeps M A (fxWaittSatisfied d g e) := by
  unfold fxWaittSatisfied
  extract_lets +onlyGivenNames x
  try clear_value x
  split
  · exact Keeps.ite (fun _ => keeps_updCore H HM (fun _ k1 => ls_stepProg _ _ _ (ls_updEng _ _ _ k1))) (fun _ => H)
  · exact H

theorem keeps_fxSig {M : Nat} {A : Dev} {d : Dev} {g e : Nat} (H : Keeps M A d) (HM : Within 1 M) :
    Keeps M A (fxSig d g e) := by
  unfold fxSig
  split
  · exact keeps_updCore H HM (fun _ k => ls_stepProg _ _ _ (ls_updEng _ _ _ k))
  · exact H

theorem keeps_fxSigSignalled {M : Nat} {A : Dev} {d : Dev} {g e : Nat} (H : Keeps M A d) (HM : Within 65 M) :
    Keeps M A (fxSigSignalled d g e) := by
  unfold fxSigSignalled
  extract_lets +onlyGivenNames x
  try clear_value x
  split
  · exact keeps_signal (keeps_updCore H (within_trans HM rfl) (fun _ k => ls_updEng _ _ _ k)) HM
  · exact H

theorem keeps_fxFence {M : Nat} {A : Dev} {d : Dev} {g e : Nat} (H : Keeps M A d) (HM : Within 1 M) :
    Keeps M A (fxFence d g e) := by
  unfold fxFence
  split
  · extract_lets +onlyGivenNames x
    try clear_value x
    exact Keeps.ite (fun _ => keeps_updCore H HM (fun _ k1 => ls_stepProg _ _ _ k1)) (fun _ => keeps_updCore H HM (fun _ k1 => ls_updEng _ _ _ k1))
  · exact H

theorem keeps_fxFenceComplete {M : Nat} {A : Dev} {d : Dev} {g e : Nat} (H : Keeps M A d) (HM : Within 1 M) :
    Keeps M A (fxFenceComplete d g e) := by
  unfold fxFenceComplete
  extract_lets +onlyGivenNames x
  try clear_value x
  split
  · exact Keeps.ite (fun _ => keeps_updCore H HM (fun _ k1 => ls_stepProg _ _ _ (ls_updEng _ _ _ k1))) (fun _ => H)
  · exact H

theorem keeps_issueTransfer {M : Nat} {A : Dev} {d : Dev} {g e op : Nat} {extra : Dev → Transfer → Option (Nat × Nat)} (H : Keeps M A d) (HM : Within 50336335 M) :
    Keeps M A (Dev.issueTransfer d g e op extra) := by
  unfold Dev.issueTransfer
  split
  · exact H
  · extract_lets +onlyGivenNames t
    try clear_value t
    split
    · exact keeps_streamFault H (within_trans HM rfl)
    · refine keeps_updCore H (within_trans HM rfl) (fun _ k => ?_)
      dsimp only
      refine ls_stepProg _ _ _ ?_
      refine ls_updEng _ _ _ ?_
      split
      · exact k
      · exact k

theorem keeps_fxRd {M : Nat} {A : Dev} {d : Dev} {g e : Nat} (H : Keeps M A d) (HM : Within 50336335 M) :
    Keeps M A (fxRd d g e) := by
  unfold fxRd
  exact keeps_issueTransfer H HM

theorem keeps_fxWr {M : Nat} {A : Dev} {d : Dev} {g e : Nat} (H : Keeps M A d) (HM : Within 50336335 M) :
    Keeps M A (fxWr d g e) := by
  unfold fxWr
  exact keeps_issueTransfer H HM

theorem keeps_fxRrd {M : Nat} {A : Dev} {d : Dev} {g e : Nat} (H : Keeps M A d) (HM : Within 50336335 M) :
    Keeps M A (fxRrd d g e) := by
  unfold fxRrd
  exact keeps_issueTransfer H HM

theorem keeps_fxRwr {M : Nat} {A : Dev} {d : Dev} {g e : Nat} (H : Keeps M A d) (HM : Within 50336335 M) :
    Keeps M A (fxRwr d g e) := by
  unfold fxRwr
  exact keeps_issueTransfer H HM

theorem keeps_xferFail {M : Nat} {A : Dev} {d : Dev} {g e : Nat} {t : Transfer} {code detail : Nat} (H : Keeps M A d) (HM : Within 33558603 M) :
    Keeps M A (Dev.xferFail d g e t code detail) := by
  unfold Dev.xferFail
  exact keeps_streamFault (keeps_updCore H (within_trans HM rfl) (fun _ k => ls_updEng _ _ _ k)) HM

theorem keeps_xferSkip {M : Nat} {A : Dev} {d : Dev} {g e : Nat} {t : Transfer} {code detail : Nat} (H : Keeps M A d) (HM : Within 33558603 M) :
    Keeps M A (Dev.xferSkip d g e t code detail) := by
  unfold Dev.xferSkip
  refine keeps_updCore (keeps_streamFault H HM) (within_trans HM rfl) (fun _ k => ?_)
  dsimp only
  split
  · exact ls_updRing _ _ _ (ls_moved _ _ _ _ k)
  · exact ls_moved _ _ _ _ k

theorem keeps_fetchRow {M : Nat} {A : Dev} {d : Dev} {g e : Nat} {t : Transfer} {from' : Nat} (H : Keeps M A d) (HM : Within 33559115 M) :
    Keeps M A ((Dev.fetchRow d g e t from').1) := by
  unfold Dev.fetchRow
  split
  · split
    · rename_i e1
      extract_lets +onlyGivenNames d1
      have k : Keeps M A d1 := keeps_updMem (Keeps.fst e1 (keeps_hbmRead H HM)) (within_trans HM rfl) (fun _ k => hbm_bridge _ _ _ _ k)
      try clear_value d1
      exact k
    · rename_i e1
      dsimp only
      exact keeps_xferSkip (Keeps.fst e1 (keeps_hbmRead H HM)) (within_trans HM rfl)
  · extract_lets +onlyGivenNames h
    try clear_value h
    extract_lets +onlyGivenNames a
    try clear_value a
    extract_lets +onlyGivenNames l
    try clear_value l
    split
    · rename_i e1
      dsimp only
      exact keeps_setCore H (within_trans HM rfl) (fun k => ls_fst e1 (ls_sideRead _ _ (ls_core k _)))
    · rename_i e1
      dsimp only
      exact keeps_xferSkip (keeps_setCore H (within_trans HM rfl) (fun k => ls_fst e1 (ls_sideRead _ _ (ls_core k _)))) (within_trans HM rfl)

theorem keeps_putRow {M : Nat} {A : Dev} {d : Dev} {g : Nat} {t : Transfer} {at' : Nat} {ws : List Word} (H : Keeps M A d) (HM : Within 33559115 M) :
    Keeps M A (Dev.putRow d g t at' ws) := by
  unfold Dev.putRow
  refine Keeps.ite (fun _ => ?_) (fun _ => ?_)
  · extract_lets +onlyGivenNames job
    try clear_value job
    extract_lets +onlyGivenNames mask
    try clear_value mask
    extract_lets +onlyGivenNames d1
    have k1 : Keeps M A d1 := keeps_hbmWrite H HM
    try clear_value d1
    extract_lets +onlyGivenNames d2
    have k2 : Keeps M A d2 := keeps_updMem k1 (within_trans HM rfl) (fun _ k2 => hbm_bridge _ _ _ _ k2)
    try clear_value d2
    exact keeps_updCore k2 (within_trans HM rfl) (fun _ k3 => k3)
  · extract_lets +onlyGivenNames h
    try clear_value h
    extract_lets +onlyGivenNames a
    try clear_value a
    extract_lets +onlyGivenNames r
    subst r
    extract_lets +onlyGivenNames d1
    have k1 : Keeps M A d1 := by
      subst d1
      refine keeps_updMem (keeps_setCore H (within_trans HM rfl) (fun k1 => ls_sideWrite _ _ (ls_core k1 _))) (within_trans HM rfl) (fun _ k1 => ?_)
      split
      · exact k1
      · exact hbm_bridge _ _ _ _ k1
    try clear_value d1
    extract_lets +onlyGivenNames d2
    have k2 : Keeps M A d2 := by
      subst d2
      refine keeps_updCore k1 (within_trans HM rfl) (fun _ k2 => ?_)
      split
      · exact k2
      · exact k2
    try clear_value d2
    split
    · exact keeps_coreFault k2 (within_trans HM rfl)
    · exact k2

theorem keeps_moveRun {M : Nat} {A : Dev} {d : Dev} {g e n : Nat} (H : Keeps M A d) (HM : Within 33559115 M) :
    Keeps M A (Dev.moveRun d g e n) := by
  unfold Dev.moveRun
  split
  · exact H
  · refine Keeps.ite (fun _ => H) (fun _ => ?_)
    split
    · rename_i e1
      exact keeps_updCore (keeps_putRow (Keeps.fst e1 (keeps_fetchRow H HM)) HM) (within_trans HM rfl) (fun _ k1 => ls_moved _ _ _ _ k1)
    · rename_i e1
      exact Keeps.fst e1 (keeps_fetchRow H HM)

theorem keeps_moveRuns {M : Nat} {A d : Dev} {g e n y0 : Nat} (H : Keeps M A d) (HM : Within 33559115 M) :
    Keeps M A (d.moveRuns g e n y0) := by
  induction y0 generalizing d with
  | zero => exact H
  | succ k ih => exact ih (keeps_moveRun H (within_trans HM rfl))

theorem keeps_letPass {M : Nat} {A : Dev} {d : Dev} {g e : Nat} {t : Transfer} {k : Nat} (H : Keeps M A d) (HM : Within 513 M) :
    Keeps M A (Dev.letPass d g e t k) := by
  unfold Dev.letPass
  extract_lets +onlyGivenNames len
  try clear_value len
  extract_lets +onlyGivenNames mask
  try clear_value mask
  extract_lets +onlyGivenNames w
  try clear_value w
  extract_lets +onlyGivenNames d1
  have k1 : Keeps M A d1 := keeps_updMem H (within_trans HM rfl) (fun _ k1 => hbm_ask _ _ _ _ _ _ _ k1)
  try clear_value d1
  extract_lets +onlyGivenNames held
  try clear_value held
  exact keeps_updCore k1 (within_trans HM rfl) (fun _ k2 => ls_updXfer _ _ _ _ k2)

theorem keeps_request {M : Nat} {A : Dev} {d : Dev} {g e n : Nat} (H : Keeps M A d) (HM : Within 33559115 M) :
    Keeps M A (Dev.request d g e n) := by
  unfold Dev.request
  split
  · exact H
  · refine Keeps.ite (fun _ => H) (fun _ => ?_)
    extract_lets +onlyGivenNames d1
    have k1 : Keeps M A d1 := Keeps.ite (fun _ => keeps_moveRuns H HM) (fun _ => H)
    try clear_value d1
    split
    · exact k1
    · extract_lets +onlyGivenNames k2
      try clear_value k2
      exact Keeps.ite (fun _ => k1) (fun _ => Keeps.ite (fun _ => Keeps.ite (fun _ => k1) (fun _ => keeps_letPass k1 (within_trans HM rfl))) (fun _ => keeps_updCore k1 (within_trans HM rfl) (fun _ k5 => ls_updXfer _ _ _ _ k5)))

theorem keeps_fxRingRowLands {M : Nat} {A : Dev} {d : Dev} {g r : Nat} {up : List Upset} (H : Keeps M A d) (HM : Within 33559115 M) :
    Keeps M A (fxRingRowLands d g r up) := by
  unfold fxRingRowLands
  extract_lets +onlyGivenNames d1
  have k : Keeps M A d1 := keeps_updCore H (within_trans HM rfl) (fun _ k => ls_release _ (ls_strike _ _ k))
  try clear_value d1
  split
  · refine Keeps.ite (fun _ => ?_) (fun _ => k)
    split
    · rename_i e
      exact keeps_updCore (keeps_putRow (Keeps.fst e (keeps_fetchRow k HM)) HM) (within_trans HM rfl) (fun _ k2 => ls_updRing _ _ _ (ls_moved _ _ _ _ k2))
    · rename_i e
      exact Keeps.fst e (keeps_fetchRow k HM)
  · exact k

theorem keeps_drainRow {M : Nat} {A : Dev} {d : Dev} {g r : Nat} {q : Ring} {e : Nat} {t : Transfer} (H : Keeps M A d) (HM : Within 33559115 M) :
    Keeps M A (Dev.drainRow d g r q e t) := by
  unfold Dev.drainRow
  refine Keeps.ite (fun _ => H) (fun _ => ?_)
  split
  · rename_i e1
    exact keeps_updCore (keeps_putRow (Keeps.fst e1 (keeps_fetchRow H HM)) HM) (within_trans HM rfl) (fun _ k1 => ls_updRing _ _ _ (ls_moved _ _ _ _ k1))
  · rename_i e1
    exact Keeps.fst e1 (keeps_fetchRow H HM)

theorem keeps_slot {M : Nat} {A : Dev} {d : Dev} {g slot op : Nat} {u : Dev → Cx → Dev} (H : Keeps M A d) (HM : Within 50336335 M) (hu : ∀ (e0 : Dev) (z1 : Cx), Keeps M A e0 → Keeps M A (u e0 z1)) :
    Keeps M A (Dev.slot d g slot op u) := by
  unfold Dev.slot
  split
  · rename_i e
    extract_lets +onlyGivenNames d1
    have k : Keeps M A d1 := keeps_updCore (Keeps.fst e (keeps_reach H HM)) (within_trans HM rfl) (fun _ k => ls_sideHidden _ k)
    try clear_value d1
    exact keeps_updCore (hu _ _ k) (within_trans HM rfl) (fun _ k1 => ls_issued _ _ (ls_sideShown _ k1))
  · rename_i e
    exact Keeps.fst e (keeps_reach H HM)

theorem keeps_launch {M : Nat} {A : Dev} {d : Dev} {g slot : Nat} {x : Cx} {m : Cmd} (H : Keeps M A d) (HM : Within 1 M) :
    Keeps M A (Dev.launch d g slot x m) := by
  unfold Dev.launch
  refine keeps_updCore H HM (fun _ k => ?_)
  dsimp only
  refine ls_launch _ _ _ _ _ ?_
  split
  · exact ls_busyUntil _ _ _ k
  · exact k

theorem keeps_bootKeys {M : Nat} {A : Dev} {d : Dev} {g : Nat} {j : Job} (H : Keeps M A d) (HM : Within 33559115 M) :
    Keeps M A ((Dev.bootKeys d g j).1) := by
  unfold Dev.bootKeys
  split
  · rename_i e
    dsimp only
    exact Keeps.fst e (keeps_hbmRead H HM)
  · rename_i e
    dsimp only
    exact Keeps.fst e (keeps_hbmRead H HM)

theorem keeps_openFails {M : Nat} {A : Dev} {d : Dev} {g slot : Nat} {x : Cx} {code detail : Nat} (H : Keeps M A d) (HM : Within 50336335 M) :
    Keeps M A (Dev.openFails d g slot x code detail) := by
  unfold Dev.openFails
  extract_lets +onlyGivenNames d1
  have k : Keeps M A d1 := Keeps.foldl H (fun _ _ k => keeps_endBinding k (within_trans HM rfl))
  try clear_value d1
  exact keeps_updCore k (within_trans HM rfl) (fun _ k1 => k1)

theorem keeps_fxOpOpen {M : Nat} {A : Dev} {d : Dev} {g : Nat} (H : Keeps M A d) (HM : Within 50336335 M) :
    Keeps M A (fxOpOpen d g) := by
  unfold fxOpOpen
  refine keeps_slot H HM (fun _ _ k => ?_)
  extract_lets +onlyGivenNames a
  try clear_value a
  split
  · exact k
  · extract_lets +onlyGivenNames boot
    try clear_value boot
    split
    · exact keeps_openFails k HM
    · extract_lets +onlyGivenNames k1
      have k1 : Keeps M A k1.1 := by
        subst k1
        split
        · exact keeps_bootKeys k (within_trans HM rfl)
        · exact k
      try clear_value k1
      split
      · exact keeps_openFails k1 HM
      · refine keeps_updCore k1 (within_trans HM rfl) (fun _ k2 => ?_)
        dsimp only
        refine ls_updBinds _ _ _ ?_
        dsimp only
        split
        · exact k2
        · exact k2

theorem keeps_fxOpClose {M : Nat} {A : Dev} {d : Dev} {g : Nat} (H : Keeps M A d) (HM : Within 50336335 M) :
    Keeps M A (fxOpClose d g) := by
  unfold fxOpClose
  refine keeps_slot H HM (fun _ _ k => ?_)
  extract_lets +onlyGivenNames s
  try clear_value s
  split
  · exact k
  · extract_lets +onlyGivenNames o
    try clear_value o
    extract_lets +onlyGivenNames d1
    have k1 : Keeps M A d1 := by
      subst d1
      refine keeps_updCore k (within_trans HM rfl) (fun _ k1 => ?_)
      dsimp only
      exact ls_launch _ _ _ _ _ k1
    try clear_value d1
    exact Keeps.foldl k1 (fun _ _ k2 => keeps_endBinding k2 (within_trans HM rfl))

theorem keeps_fxLoop {M : Nat} {A : Dev} {d : Dev} {g : Nat} (H : Keeps M A d) (HM : Within 50336335 M) :
    Keeps M A (fxLoop d g) := by
  unfold fxLoop
  exact keeps_slot H HM (fun _ _ k => k)

theorem keeps_fxShapeSet {M : Nat} {A : Dev} {d : Dev} {g : Nat} (H : Keeps M A d) (HM : Within 50336335 M) :
    Keeps M A (fxShapeSet d g) := by
  unfold fxShapeSet
  exact keeps_slot H HM (fun _ _ k => keeps_updCore k (within_trans HM rfl) (fun _ k1 => k1))

theorem keeps_fxPxSet {M : Nat} {A : Dev} {d : Dev} {g : Nat} (H : Keeps M A d) (HM : Within 50336335 M) :
    Keeps M A (fxPxSet d g) := by
  unfold fxPxSet
  exact keeps_slot H HM (fun _ _ k => keeps_updCore k (within_trans HM rfl) (fun _ k1 => k1))

theorem keeps_fxNttFwd {M : Nat} {A : Dev} {d : Dev} {g : Nat} {up : List Upset} (H : Keeps M A d) (HM : Within 50336335 M) :
    Keeps M A (fxNttFwd d g up) := by
  unfold fxNttFwd
  exact keeps_slot (keeps_updCore H (within_trans HM rfl) (fun _ k => ls_strike _ _ k)) HM (fun _ _ k => keeps_launch k (within_trans HM rfl))

theorem keeps_fxNttInv {M : Nat} {A : Dev} {d : Dev} {g : Nat} (H : Keeps M A d) (HM : Within 50336335 M) :
    Keeps M A (fxNttInv d g) := by
  unfold fxNttInv
  exact keeps_slot H HM (fun _ _ k => keeps_launch k (within_trans HM rfl))

theorem keeps_fxNttFwdq {M : Nat} {A : Dev} {d : Dev} {g : Nat} (H : Keeps M A d) (HM : Within 50336335 M) :
    Keeps M A (fxNttFwdq d g) := by
  unfold fxNttFwdq
  exact keeps_slot H HM (fun _ _ k => keeps_launch k (within_trans HM rfl))

theorem keeps_fxNttInvq {M : Nat} {A : Dev} {d : Dev} {g : Nat} (H : Keeps M A d) (HM : Within 50336335 M) :
    Keeps M A (fxNttInvq d g) := by
  unfold fxNttInvq
  exact keeps_slot H HM (fun _ _ k => keeps_launch k (within_trans HM rfl))

theorem keeps_fxBcvLdm {M : Nat} {A : Dev} {d : Dev} {g : Nat} (H : Keeps M A d) (HM : Within 50336335 M) :
    Keeps M A (fxBcvLdm d g) := by
  unfold fxBcvLdm
  exact keeps_slot H HM (fun _ _ k => keeps_launch k (within_trans HM rfl))

theorem keeps_fxBcvExt {M : Nat} {A : Dev} {d : Dev} {g : Nat} (H : Keeps M A d) (HM : Within 50336335 M) :
    Keeps M A (fxBcvExt d g) := by
  unfold fxBcvExt
  exact keeps_slot H HM (fun _ _ k => keeps_launch k (within_trans HM rfl))

theorem keeps_fxBcvMatmul {M : Nat} {A : Dev} {d : Dev} {g : Nat} (H : Keeps M A d) (HM : Within 50336335 M) :
    Keeps M A (fxBcvMatmul d g) := by
  unfold fxBcvMatmul
  exact keeps_slot H HM (fun _ _ k => keeps_launch k (within_trans HM rfl))

theorem keeps_load {M : Nat} {A : Dev} {d : Dev} {g slot : Nat} (H : Keeps M A d) (HM : Within 50336335 M) :
    Keeps M A (Dev.load d g slot) := by
  unfold Dev.load
  refine keeps_slot H HM (fun _ _ k => ?_)
  refine keeps_updCore k (within_trans HM rfl) (fun _ k1 => ?_)
  dsimp only
  exact ls_launch _ _ _ _ _ k1

theorem keeps_fxLd {M : Nat} {A : Dev} {d : Dev} {g : Nat} {up : List Upset} (H : Keeps M A d) (HM : Within 50336335 M) :
    Keeps M A (fxLd d g up) := by
  unfold fxLd
  extract_lets +onlyGivenNames d1
  have k : Keeps M A d1 := keeps_updCore H (within_trans HM rfl) (fun _ k => ls_strike _ _ k)
  try clear_value d1
  exact keeps_load k HM

theorem keeps_fxQpop {M : Nat} {A : Dev} {d : Dev} {g : Nat} (H : Keeps M A d) (HM : Within 50336335 M) :
    Keeps M A (fxQpop d g) := by
  unfold fxQpop
  extract_lets +onlyGivenNames slot
  try clear_value slot
  refine keeps_slot H HM (fun _ _ k => ?_)
  refine keeps_updCore k (within_trans HM rfl) (fun _ k1 => ?_)
  dsimp only
  refine ls_launch _ _ _ _ _ ?_
  split
  · exact k1
  · exact k1

theorem keeps_fxSt {M : Nat} {A : Dev} {d : Dev} {g : Nat} (H : Keeps M A d) (HM : Within 50336335 M) :
    Keeps M A (fxSt d g) := by
  unfold fxSt
  exact keeps_slot H HM (fun _ _ k => keeps_updCore k (within_trans HM rfl) (fun _ k1 => ls_launch _ _ _ _ _ k1))

theorem keeps_arith {M : Nat} {A : Dev} {d : Dev} {g aop : Nat} (H : Keeps M A d) (HM : Within 50336335 M) :
    Keeps M A (Dev.arith d g aop) := by
  unfold Dev.arith
  refine keeps_slot H HM (fun _ _ k => ?_)
  refine keeps_updCore k (within_trans HM rfl) (fun _ k1 => ?_)
  dsimp only
  exact ls_launch _ _ _ _ _ (ls_busyUntil _ _ _ k1)

theorem keeps_fxAdd {M : Nat} {A : Dev} {d : Dev} {g : Nat} (H : Keeps M A d) (HM : Within 50336335 M) :
    Keeps M A (fxAdd d g) := by
  unfold fxAdd
  exact keeps_arith H HM

theorem keeps_fxSub {M : Nat} {A : Dev} {d : Dev} {g : Nat} (H : Keeps M A d) (HM : Within 50336335 M) :
    Keeps M A (fxSub d g) := by
  unfold fxSub
  exact keeps_arith H HM

theorem keeps_fxNeg {M : Nat} {A : Dev} {d : Dev} {g : Nat} (H : Keeps M A d) (HM : Within 50336335 M) :
    Keeps M A (fxNeg d g) := by
  unfold fxNeg
  exact keeps_arith H HM

theorem keeps_fxMul {M : Nat} {A : Dev} {d : Dev} {g : Nat} (H : Keeps M A d) (HM : Within 50336335 M) :
    Keeps M A (fxMul d g) := by
  unfold fxMul
  exact keeps_arith H HM

theorem keeps_fxMac {M : Nat} {A : Dev} {d : Dev} {g : Nat} (H : Keeps M A d) (HM : Within 50336335 M) :
    Keeps M A (fxMac d g) := by
  unfold fxMac
  exact keeps_arith H HM

theorem keeps_fxCmplt {M : Nat} {A : Dev} {d : Dev} {g : Nat} (H : Keeps M A d) (HM : Within 50336335 M) :
    Keeps M A (fxCmplt d g) := by
  unfold fxCmplt
  exact keeps_arith H HM

theorem keeps_fxCmpeq {M : Nat} {A : Dev} {d : Dev} {g : Nat} (H : Keeps M A d) (HM : Within 50336335 M) :
    Keeps M A (fxCmpeq d g) := by
  unfold fxCmpeq
  exact keeps_arith H HM

theorem keeps_fxSel {M : Nat} {A : Dev} {d : Dev} {g : Nat} (H : Keeps M A d) (HM : Within 50336335 M) :
    Keeps M A (fxSel d g) := by
  unfold fxSel
  exact keeps_arith H HM

theorem keeps_fxShuf {M : Nat} {A : Dev} {d : Dev} {g : Nat} (H : Keeps M A d) (HM : Within 50336335 M) :
    Keeps M A (fxShuf d g) := by
  unfold fxShuf
  exact keeps_arith H HM

theorem keeps_fxBcast {M : Nat} {A : Dev} {d : Dev} {g : Nat} (H : Keeps M A d) (HM : Within 50336335 M) :
    Keeps M A (fxBcast d g) := by
  unfold fxBcast
  exact keeps_arith H HM

theorem keeps_fxAdd64 {M : Nat} {A : Dev} {d : Dev} {g : Nat} (H : Keeps M A d) (HM : Within 50336335 M) :
    Keeps M A (fxAdd64 d g) := by
  unfold fxAdd64
  exact keeps_arith H HM

theorem keeps_fxSub64 {M : Nat} {A : Dev} {d : Dev} {g : Nat} (H : Keeps M A d) (HM : Within 50336335 M) :
    Keeps M A (fxSub64 d g) := by
  unfold fxSub64
  exact keeps_arith H HM

theorem keeps_fxMul64 {M : Nat} {A : Dev} {d : Dev} {g : Nat} (H : Keeps M A d) (HM : Within 50336335 M) :
    Keeps M A (fxMul64 d g) := by
  unfold fxMul64
  exact keeps_arith H HM

theorem keeps_fxCmplt64 {M : Nat} {A : Dev} {d : Dev} {g : Nat} (H : Keeps M A d) (HM : Within 50336335 M) :
    Keeps M A (fxCmplt64 d g) := by
  unfold fxCmplt64
  exact keeps_arith H HM

theorem keeps_fxPrmAuto {M : Nat} {A : Dev} {d : Dev} {g : Nat} (H : Keeps M A d) (HM : Within 50336335 M) :
    Keeps M A (fxPrmAuto d g) := by
  unfold fxPrmAuto
  exact keeps_slot H HM (fun _ _ k => keeps_launch k (within_trans HM rfl))

theorem keeps_fxPrmAutoip {M : Nat} {A : Dev} {d : Dev} {g : Nat} (H : Keeps M A d) (HM : Within 50336335 M) :
    Keeps M A (fxPrmAutoip d g) := by
  unfold fxPrmAutoip
  exact keeps_slot H HM (fun _ _ k => keeps_launch k (within_trans HM rfl))

theorem keeps_fxPrmTrans {M : Nat} {A : Dev} {d : Dev} {g : Nat} (H : Keeps M A d) (HM : Within 50336335 M) :
    Keeps M A (fxPrmTrans d g) := by
  unfold fxPrmTrans
  exact keeps_slot H HM (fun _ _ k => keeps_launch k (within_trans HM rfl))

theorem keeps_fxPrmTransip {M : Nat} {A : Dev} {d : Dev} {g : Nat} (H : Keeps M A d) (HM : Within 50336335 M) :
    Keeps M A (fxPrmTransip d g) := by
  unfold fxPrmTransip
  exact keeps_slot H HM (fun _ _ k => keeps_launch k (within_trans HM rfl))

theorem keeps_fxPrmGather {M : Nat} {A : Dev} {d : Dev} {g : Nat} (H : Keeps M A d) (HM : Within 50336335 M) :
    Keeps M A (fxPrmGather d g) := by
  unfold fxPrmGather
  exact keeps_slot H HM (fun _ _ k => keeps_launch k (within_trans HM rfl))

theorem keeps_fxPrmScatter {M : Nat} {A : Dev} {d : Dev} {g : Nat} (H : Keeps M A d) (HM : Within 50336335 M) :
    Keeps M A (fxPrmScatter d g) := by
  unfold fxPrmScatter
  exact keeps_slot H HM (fun _ _ k => keeps_launch k (within_trans HM rfl))

theorem keeps_fxPrmSend {M : Nat} {A : Dev} {d : Dev} {g : Nat} (H : Keeps M A d) (HM : Within 50336335 M) :
    Keeps M A (fxPrmSend d g) := by
  unfold fxPrmSend
  exact keeps_slot H HM (fun _ _ k => keeps_launch k (within_trans HM rfl))

theorem keeps_fxKexGen {M : Nat} {A : Dev} {d : Dev} {g : Nat} (H : Keeps M A d) (HM : Within 50336335 M) :
    Keeps M A (fxKexGen d g) := by
  unfold fxKexGen
  exact keeps_slot H HM (fun _ _ k => keeps_launch k (within_trans HM rfl))

theorem keeps_fxKexGenq {M : Nat} {A : Dev} {d : Dev} {g : Nat} (H : Keeps M A d) (HM : Within 50336335 M) :
    Keeps M A (fxKexGenq d g) := by
  unfold fxKexGenq
  exact keeps_slot H HM (fun _ _ k => keeps_launch k (within_trans HM rfl))

theorem keeps_fxStrIssue {M : Nat} {A : Dev} {d : Dev} {g : Nat} (H : Keeps M A d) (HM : Within 50336335 M) :
    Keeps M A (fxStrIssue d g) := by
  unfold fxStrIssue
  exact keeps_slot H HM (fun _ _ k => keeps_issueRecord k (within_trans HM rfl))

theorem keeps_runTo {M : Nat} {A : Dev} {d : Dev} {g : Nat} {cycles : Core → List Nat} (H : Keeps M A d) (HM : Within 50336335 M) :
    Keeps M A (Dev.runTo d g cycles) := by
  unfold Dev.runTo
  extract_lets +onlyGivenNames d1
  have k : Keeps M A d1 := keeps_skipEmpty H HM
  try clear_value d1
  extract_lets +onlyGivenNames c
  subst c
  extract_lets +onlyGivenNames y
  try clear_value y
  split
  · refine Keeps.ite (fun _ => k) (fun _ => ?_)
    extract_lets +onlyGivenNames d2
    have k2 : Keeps M A d2 := keeps_advance k HM
    try clear_value d2
    exact Keeps.ite (fun _ => keeps_updCore k2 (within_trans HM rfl) (fun _ k4 => ls_land _ k4)) (fun _ => k2)
  · exact k

theorem keeps_fxEngineWriteLands {M : Nat} {A : Dev} {d : Dev} {g : Nat} (H : Keeps M A d) (HM : Within 50336335 M) :
    Keeps M A (fxEngineWriteLands d g) := by
  unfold fxEngineWriteLands
  exact keeps_runTo H HM

theorem keeps_fxTileDeposit {M : Nat} {A : Dev} {d : Dev} {g : Nat} (H : Keeps M A d) (HM : Within 50336335 M) :
    Keeps M A (fxTileDeposit d g) := by
  unfold fxTileDeposit
  exact keeps_runTo H HM

theorem keeps_fxCoordListFail {M : Nat} {A : Dev} {d : Dev} {g : Nat} (H : Keeps M A d) (HM : Within 50336335 M) :
    Keeps M A (fxCoordListFail d g) := by
  unfold fxCoordListFail
  extract_lets +onlyGivenNames c
  subst c
  split
  · refine Keeps.ite (fun _ => H) (fun _ => ?_)
    extract_lets +onlyGivenNames d1
    have k1 : Keeps M A d1 := keeps_advance H HM
    try clear_value d1
    exact Keeps.ite (fun _ => keeps_tick k1 HM) (fun _ => k1)
  · exact H

theorem keeps_fxFreezeEnd {M : Nat} {A : Dev} {d : Dev} {g n : Nat} (H : Keeps M A d) (HM : Within 50336335 M) :
    Keeps M A (fxFreezeEnd d g n) := by
  unfold fxFreezeEnd
  extract_lets +onlyGivenNames free
  have k : Keeps M A free := by
    subst free
    refine keeps_updCore H (within_trans HM rfl) (fun _ k => ?_)
    dsimp only
    exact ls_release _ k
  try clear_value free
  exact Keeps.ite (fun _ => k) (fun _ => keeps_updCore H (within_trans HM rfl) (fun _ k2 => ls_release _ k2))

theorem keeps_fxStreamTimeout {M : Nat} {A : Dev} {d : Dev} {g n : Nat} (H : Keeps M A d) (HM : Within 50336335 M) :
    Keeps M A (fxStreamTimeout d g n) := by
  unfold fxStreamTimeout
  extract_lets +onlyGivenNames c
  subst c
  split
  · exact Keeps.ite (fun _ => keeps_stopBlock (keeps_updCore H (within_trans HM rfl) (fun _ k1 => k1)) HM) (fun _ => H)
  · exact H

theorem keeps_fxAuditFreeze {M : Nat} {A : Dev} {d : Dev} {g : Nat} (H : Keeps M A d) (HM : Within 50336335 M) :
    Keeps M A (fxAuditFreeze d g) := by
  unfold fxAuditFreeze
  refine keeps_updCore H (within_trans HM rfl) (fun _ k => ?_)
  split
  · exact k
  · exact k

theorem keeps_fxClusterOperationStop {M : Nat} {A : Dev} {d : Dev} {g : Nat} (H : Keeps M A d) (HM : Within 50336335 M) :
    Keeps M A (fxClusterOperationStop d g) := by
  unfold fxClusterOperationStop
  extract_lets +onlyGivenNames c
  subst c
  exact Keeps.ite (fun _ => keeps_cutBlock H (within_trans HM rfl)) (fun _ => Keeps.ite (fun _ => H) (fun _ => keeps_advance H HM))

theorem keeps_drain {M : Nat} {A d : Dev} {g y0 : Nat} (H : Keeps M A d) (HM : Within 50336335 M) :
    Keeps M A (d.drain g y0) := by
  induction y0 generalizing d with
  | zero => exact H
  | succ n ih =>
    unfold Dev.drain
    extract_lets c
    split
    · exact keeps_updCore H (within_trans HM rfl) fun c h => ls_land c h
    · split
      · rename_i e; exact ih (Keeps.fst e (keeps_tick H (within_trans HM rfl)))
      · rename_i e; exact Keeps.fst e (keeps_tick H (within_trans HM rfl))

theorem keeps_unclosed {M : Nat} {A : Dev} {d : Dev} {g index : Nat} {p : Nat × OpSlot} (H : Keeps M A d) (HM : Within 50335819 M) :
    Keeps M A (Dev.unclosed d g index p) := by
  unfold Dev.unclosed
  extract_lets +onlyGivenNames d1
  have k : Keeps M A d1 := keeps_coreFault H (within_trans HM rfl)
  try clear_value d1
  exact Keeps.ite (fun _ => keeps_undefine k (within_trans HM rfl)) (fun _ => k)

theorem keeps_boundary {M : Nat} {A : Dev} {d : Dev} {g : Nat} {b : BlockEntry} (H : Keeps M A d) (HM : Within 50336335 M) :
    Keeps M A (Dev.boundary d g b) := by
  unfold Dev.boundary
  extract_lets +onlyGivenNames c
  subst c
  extract_lets +onlyGivenNames d1
  have k : Keeps M A d1 := by
    subst d1
    refine keeps_updCore H (within_trans HM rfl) (fun _ k => ?_)
    dsimp only
    exact ls_outlast _ _ k
  try clear_value d1
  extract_lets +onlyGivenNames y
  try clear_value y
  extract_lets +onlyGivenNames d2
  have k1 : Keeps M A d2 := keeps_updCore k (within_trans HM rfl) (fun _ k1 => k1)
  try clear_value d2
  extract_lets +onlyGivenNames d3
  have k2 : Keeps M A d3 := Keeps.foldl k1 (fun _ _ k2 => keeps_unclosed k2 (within_trans HM rfl))
  try clear_value d3
  extract_lets +onlyGivenNames d4
  have k3 : Keeps M A d4 := Keeps.ite (fun _ => keeps_leaveGroups (keeps_abandonBoot k2 (within_trans HM rfl)) (within_trans HM rfl)) (fun _ => k2)
  try clear_value d4
  extract_lets +onlyGivenNames d5
  have k4 : Keeps M A d5 := keeps_updCore k3 (within_trans HM rfl) (fun _ k4 => k4)
  try clear_value d5
  extract_lets +onlyGivenNames d6
  have k5 : Keeps M A d6 := by
    subst d6
    refine Keeps.ite (fun _ => k4) (fun _ => ?_)
    split
    · exact Keeps.foldl k4 (fun _ _ k6 => keeps_signal k6 (within_trans HM rfl))
    · exact k4
  try clear_value d6
  refine keeps_updCore k5 (within_trans HM rfl) (fun _ k6 => ?_)
  split
  · exact k6
  · exact ls_swapBank _ k6

theorem keeps_fxBlockBoundary {M : Nat} {A : Dev} {d : Dev} {g : Nat} (H : Keeps M A d) (HM : Within 50336335 M) :
    Keeps M A (fxBlockBoundary d g) := by
  unfold fxBlockBoundary
  extract_lets +onlyGivenNames d1
  have k : Keeps M A d1 := keeps_skipEmpty H HM
  try clear_value d1
  extract_lets +onlyGivenNames c
  subst c
  refine Keeps.ite (fun _ => k) (fun _ => ?_)
  extract_lets +onlyGivenNames last
  try clear_value last
  extract_lets +onlyGivenNames d2
  have k2 : Keeps M A d2 := keeps_drain k HM
  try clear_value d2
  extract_lets +onlyGivenNames c
  subst c
  split
  · exact Keeps.ite (fun _ => keeps_boundary k2 HM) (fun _ => k2)
  · exact k2

theorem keeps_push {M : Nat} {A : Dev} {d : Dev} {g : Nat} {a : Option Agent} (H : Keeps M A d) (HM : Within 50336335 M) :
    Keeps M A (Dev.push d g a) := by
  unfold Dev.push
  extract_lets +onlyGivenNames c
  subst c
  extract_lets +onlyGivenNames b
  try clear_value b
  extract_lets +onlyGivenNames job
  try clear_value job
  split
  · extract_lets +onlyGivenNames r
    try clear_value r
    extract_lets +onlyGivenNames r1
    try clear_value r1
    split
    · exact Keeps.ite (fun _ => keeps_jobFault H (within_trans HM rfl)) (fun _ => keeps_fnFault H (within_trans HM rfl))
    · exact keeps_fnFault H (within_trans HM rfl)
    · exact keeps_jobFault H (within_trans HM rfl)
    · exact keeps_fnFault H (within_trans HM rfl)
  · split
    · exact H
    · refine Keeps.ite (fun _ => H) (fun _ => ?_)
      refine keeps_updCore H (within_trans HM rfl) (fun _ k1 => ?_)
      split
      · exact k1
      · exact k1

theorem keeps_pushWindow {M : Nat} {A : Dev} {d : Dev} {g off : Nat} {data : List Byte} {a : Option Agent} (H : Keeps M A d) (HM : Within 50336335 M) :
    Keeps M A (Dev.pushWindow d g off data a) := by
  unfold Dev.pushWindow
  extract_lets +onlyGivenNames d1
  have k : Keeps M A d1 := keeps_updCore H (within_trans HM rfl) (fun _ k => k)
  try clear_value d1
  exact Keeps.ite (fun _ => keeps_push k HM) (fun _ => k)

theorem keeps_fxSeqBqPush {M : Nat} {A : Dev} {d : Dev} {g : Nat} {entry : List Byte} (H : Keeps M A d) (HM : Within 50336335 M) :
    Keeps M A (fxSeqBqPush d g entry) := by
  unfold fxSeqBqPush
  exact keeps_pushWindow H HM

theorem keeps_fxPushHeldAccept {M : Nat} {A : Dev} {d : Dev} {g : Nat} (H : Keeps M A d) (HM : Within 50336335 M) :
    Keeps M A (fxPushHeldAccept d g) := by
  unfold fxPushHeldAccept
  refine keeps_updCore H (within_trans HM rfl) (fun _ k => ?_)
  split
  · split
    · exact k
    · exact k
  · exact k

theorem keeps_fxImageFetchDone {M : Nat} {A : Dev} {d : Dev} {g image : Nat} (H : Keeps M A d) (HM : Within 50336335 M) :
    Keeps M A (fxImageFetchDone d g image) := by
  unfold fxImageFetchDone
  extract_lets +onlyGivenNames c
  subst c
  split
  · exact H
  · extract_lets +onlyGivenNames held
    try clear_value held
    extract_lets +onlyGivenNames keep
    try clear_value keep
    extract_lets +onlyGivenNames p
    try clear_value p
    refine Keeps.ite (fun _ => H) (fun _ => ?_)
    extract_lets +onlyGivenNames r
    subst r
    extract_lets +onlyGivenNames d1
    have k1 : Keeps M A d1 := Keeps.step 512 H (within_trans HM rfl) (hh := fun h => hbm_pass _ _ _ _ _ _ h)
    try clear_value d1
    refine Keeps.ite (fun _ => k1) (fun _ => ?_)
    split
    · rename_i e
      exact keeps_updCore (keeps_updMem (Keeps.fst e (keeps_hbmRead k1 (within_trans HM rfl))) (within_trans HM rfl) (fun _ k3 => hbm_bridge _ _ _ _ k3)) (within_trans HM rfl) (fun _ k3 => k3)
    · rename_i e
      exact keeps_coreFault (keeps_updCore (Keeps.fst e (keeps_hbmRead k1 (within_trans HM rfl))) (within_trans HM rfl) (fun _ k3 => k3)) (within_trans HM rfl)

theorem keeps_mpcOpening {M : Nat} {A : Dev} {d : Dev} {j : Job} {kid : Nat} (H : Keeps M A d) (HM : Within 33559115 M) :
    Keeps M A ((Dev.mpcOpening d j kid).1) := by
  unfold Dev.mpcOpening
  extract_lets +onlyGivenNames arg
  try clear_value arg
  split
  · extract_lets +onlyGivenNames a
    try clear_value a
    split
    · exact H
    · split
      · rename_i e
        dsimp only
        exact Keeps.fst e (keeps_hbmRead (keeps_updMem H (within_trans HM rfl) (fun _ k => hbm_updPart _ _ _ k)) HM)
      · rename_i e
        dsimp only
        exact Keeps.fst e (keeps_hbmRead (keeps_updMem H (within_trans HM rfl) (fun _ k => hbm_updPart _ _ _ k)) HM)
  · split
    · exact H
    · exact H

theorem keeps_kernelOpens {M : Nat} {A : Dev} {d : Dev} {g : Nat} {e : BlockEntry} (H : Keeps M A d) (HM : Within 50336335 M) :
    Keeps M A (Dev.kernelOpens d g e) := by
  unfold Dev.kernelOpens
  split
  · refine Keeps.ite (fun _ => ?_) (fun _ => H)
    split
    · rename_i e1
      exact keeps_stopBlock (Keeps.fst e1 (keeps_mpcOpening H (within_trans HM rfl))) HM
    · rename_i e1
      exact Keeps.fst e1 (keeps_mpcOpening H (within_trans HM rfl))
  · exact H

theorem keeps_fxBlockDispatch {M : Nat} {A : Dev} {d : Dev} {g : Nat} (H : Keeps M A d) (HM : Within 50336335 M) :
    Keeps M A (fxBlockDispatch d g) := by
  unfold fxBlockDispatch
  extract_lets +onlyGivenNames c
  subst c
  extract_lets +onlyGivenNames gone
  try clear_value gone
  refine Keeps.ite (fun _ => H) (fun _ => ?_)
  split
  · exact H
  · refine Keeps.ite (fun _ => keeps_coreFault (keeps_updCore H (within_trans HM rfl) (fun _ k2 => k2)) (within_trans HM rfl)) (fun _ => ?_)
    split
    · exact Keeps.ite (fun _ => H) (fun _ => keeps_kernelOpens (keeps_updCore H (within_trans HM rfl) (fun _ k3 => ls_dispatch _ _ _ _ k3)) HM)
    · exact H

theorem keeps_narrowRefuse {M : Nat} {A : Dev} {d : Dev} {g w : Nat} {a : Agent} {code : Nat} (H : Keeps M A d) (HM : Within 33558536 M) :
    Keeps M A (Dev.narrowRefuse d g w a code) := by
  unfold Dev.narrowRefuse
  exact keeps_fnFault H HM

theorem keeps_narrowRead {M : Nat} {A : Dev} {d : Dev} {g w : Nat} {a : Agent} (H : Keeps M A d) (HM : Within 33559115 M) :
    Keeps M A ((Dev.narrowRead d g w a).1) := by
  unfold Dev.narrowRead
  split
  · dsimp only
    exact keeps_narrowRefuse H (within_trans HM rfl)
  · split
    · rename_i e
      dsimp only
      exact keeps_updMem (keeps_setCore H (within_trans HM rfl) (fun k => ls_fst e (ls_sideRead _ _ (ls_core k _)))) (within_trans HM rfl) (fun _ k => hbm_bridge _ _ _ _ k)
    · rename_i e
      dsimp only
      exact keeps_coreFault (keeps_setCore H (within_trans HM rfl) (fun k => ls_fst e (ls_sideRead _ _ (ls_core k _)))) (within_trans HM rfl)

theorem keeps_fxNarrowRead {M : Nat} {A : Dev} {d : Dev} {g w : Nat} {a : Agent} {up : List Upset} (H : Keeps M A d) (HM : Within 33559115 M) :
    Keeps M A (fxNarrowRead d g w a up) := by
  unfold fxNarrowRead
  split
  · rename_i e
    exact keeps_emit (Keeps.fst e (keeps_narrowRead (keeps_updCore H (within_trans HM rfl) (fun _ k => ls_strike _ _ k)) HM)) (within_trans HM rfl)
  · rename_i e
    exact keeps_emit (Keeps.fst e (keeps_narrowRead (keeps_updCore H (within_trans HM rfl) (fun _ k => ls_strike _ _ k)) HM)) (within_trans HM rfl)

theorem keeps_narrowWrite {M : Nat} {A : Dev} {d : Dev} {g w v mask : Nat} {a : Agent} (H : Keeps M A d) (HM : Within 33559115 M) :
    Keeps M A (Dev.narrowWrite d g w v mask a) := by
  unfold Dev.narrowWrite
  split
  · exact keeps_narrowRefuse H (within_trans HM rfl)
  · split
    · rename_i e
      exact keeps_updMem (keeps_setCore H (within_trans HM rfl) (fun k => ls_fst e (ls_sideWrite _ _ (ls_core k _)))) (within_trans HM rfl) (fun _ k => hbm_bridge _ _ _ _ k)
    · rename_i e
      exact keeps_coreFault (keeps_setCore H (within_trans HM rfl) (fun k => ls_fst e (ls_sideWrite _ _ (ls_core k _)))) (within_trans HM rfl)

theorem keeps_fxNarrowWrite {M : Nat} {A : Dev} {d : Dev} {g w v mask : Nat} {a : Agent} {up : List Upset} (H : Keeps M A d) (HM : Within 33559115 M) :
    Keeps M A (fxNarrowWrite d g w v mask a up) := by
  unfold fxNarrowWrite
  exact keeps_narrowWrite (keeps_updCore H (within_trans HM rfl) (fun _ k => ls_strike _ _ k)) HM

theorem keeps_fxLsScrubStep {M : Nat} {A : Dev} {d : Dev} {g : Nat} {up : List Upset} (H : Keeps M A d) (HM : Within 50336335 M) :
    Keeps M A (fxLsScrubStep d g up) := by
  unfold fxLsScrubStep
  refine keeps_updCore H (within_trans HM rfl) (fun _ k => ?_)
  dsimp only
  split
  · exact ls_strike _ _ k
  · dsimp only
    exact ls_foundUe _ _ (ls_correct _ _ (ls_strike _ _ k))

theorem keeps_fxLsCorrectionRewrite {M : Nat} {A : Dev} {d : Dev} {g : Nat} (H : Keeps M A d) (HM : Within 50336335 M) :
    Keeps M A (fxLsCorrectionRewrite d g) := by
  unfold fxLsCorrectionRewrite
  refine keeps_updCore H (within_trans HM rfl) (fun _ k => ?_)
  split
  · exact k
  · exact k

theorem keeps_fxLsWipeDone {M : Nat} {A : Dev} {d : Dev} {g : Nat} (H : Keeps M A d) (HM : Within 50336335 M) :
    Keeps M A (fxLsWipeDone d g) := by
  unfold fxLsWipeDone
  exact keeps_updCore H (within_trans HM rfl) (fun _ k => k)

theorem keeps_fxExchangeLand {M : Nat} {A : Dev} {d : Dev} {g : Nat} (H : Keeps M A d) (HM : Within 33559115 M) :
    Keeps M A (fxExchangeLand d g) := by
  unfold fxExchangeLand
  exact keeps_exchangeLand H HM

theorem keeps_openGroup {M : Nat} {A : Dev} {d : Dev} {die n fn addr level members : Nat} {job : Option Nat} (H : Keeps M A d) (HM : Within 4 M) :
    Keeps M A (Dev.openGroup d die n fn addr level members job) := by
  unfold Dev.openGroup
  split
  · exact keeps_updGroup H HM
  · exact keeps_updGroup H HM
  · exact keeps_updGroup H HM

theorem keeps_closeGroup {M : Nat} {A : Dev} {d : Dev} {die n : Nat} (H : Keeps M A d) (HM : Within 517 M) :
    Keeps M A (Dev.closeGroup d die n) := by
  unfold Dev.closeGroup
  extract_lets +onlyGivenNames x
  try clear_value x
  split
  · exact keeps_updGroup (keeps_forAll H (within_trans HM rfl) (fun _ _ k => keeps_updCore k (within_trans HM rfl) (fun _ k1 => ls_updBinds _ _ _ k1))) (within_trans HM rfl)
  · exact keeps_groupSettle (keeps_forAll H (within_trans HM rfl) (fun _ _ k => keeps_leaveMember k HM)) (within_trans HM rfl)
  · exact keeps_updGroup H (within_trans HM rfl)
  · exact H

theorem keeps_groupCtrl {M : Nat} {A : Dev} {d : Dev} {die n : Nat} {a : Agent} {v : Nat} {e : Bool} (H : Keeps M A d) (HM : Within 525 M) :
    Keeps M A (Dev.groupCtrl d die n a v e) := by
  unfold Dev.groupCtrl
  extract_lets +onlyGivenNames d1
  have k : Keeps M A d1 := Keeps.ite (fun _ => keeps_closeGroup H (within_trans HM rfl)) (fun _ => H)
  try clear_value d1
  extract_lets +onlyGivenNames refused
  try clear_value refused
  extract_lets +onlyGivenNames stall
  subst stall
  extract_lets +onlyGivenNames d2
  have k1 : Keeps M A d2 := Keeps.ite (fun _ => keeps_ifExpert k (within_trans HM rfl) (fun _ k2 => Keeps.ite (fun _ => k2) (fun _ => keeps_updGroup k2 (within_trans HM rfl)))) (fun _ => k)
  try clear_value d2
  extract_lets +onlyGivenNames job
  try clear_value job
  exact Keeps.ite (fun _ => keeps_openGroup k1 (within_trans HM rfl)) (fun _ => keeps_updGroup k1 (within_trans HM rfl))

theorem keeps_fxKstGrpOpen {M : Nat} {A : Dev} {d : Dev} {die n : Nat} {a : Agent} {v : Nat} (H : Keeps M A d) (HM : Within 525 M) :
    Keeps M A (fxKstGrpOpen d die n a v) := by
  unfold fxKstGrpOpen
  exact keeps_groupCtrl H HM

theorem keeps_fxKstGrpClose {M : Nat} {A : Dev} {d : Dev} {die n : Nat} {a : Agent} {v : Nat} (H : Keeps M A d) (HM : Within 525 M) :
    Keeps M A (fxKstGrpClose d die n a v) := by
  unfold fxKstGrpClose
  exact keeps_groupCtrl H HM

theorem keeps_stopOnSeed {M : Nat} {A : Dev} {d : Dev} {g sreg code detail : Nat} (H : Keeps M A d) (HM : Within 50336335 M) :
    Keeps M A (Dev.stopOnSeed d g sreg code detail) := by
  unfold Dev.stopOnSeed
  split
  · exact Keeps.ite (fun _ => keeps_stopBlock H HM) (fun _ => H)
  · exact H

theorem keeps_failBinding {M : Nat} {A : Dev} {d : Dev} {g : Nat} {b : Binding} {code detail : Nat} (H : Keeps M A d) (HM : Within 50336335 M) :
    Keeps M A (Dev.failBinding d g b code detail) := by
  unfold Dev.failBinding
  extract_lets +onlyGivenNames d1
  have k : Keeps M A d1 := by
    subst d1
    refine keeps_updCore H (within_trans HM rfl) (fun _ k => ?_)
    dsimp only
    split
    · dsimp only
      exact ls_failRing _ _ _ _ _ _ (ls_updBinds _ _ _ k)
    · exact ls_failRing _ _ _ _ _ _ (ls_updBinds _ _ _ k)
  try clear_value d1
  extract_lets +onlyGivenNames d2
  have k1 : Keeps M A d2 := keeps_groupSettle k (within_trans HM rfl)
  try clear_value d2
  exact Keeps.ite (fun _ => keeps_stopOnSeed k1 HM) (fun _ => k1)

theorem keeps_failGroup {M : Nat} {A : Dev} {d : Dev} {die n : Nat} {f : Binding → Nat × Nat} (H : Keeps M A d) (HM : Within 50336335 M) :
    Keeps M A (Dev.failGroup d die n f) := by
  unfold Dev.failGroup
  extract_lets +onlyGivenNames d1
  have k : Keeps M A d1 := keeps_updGroup H (within_trans HM rfl)
  try clear_value d1
  extract_lets +onlyGivenNames d2
  have k1 : Keeps M A d2 := keeps_updMem k (within_trans HM rfl) (fun _ k1 => hbm_forget _ _ k1)
  try clear_value d2
  exact Keeps.foldl k1 (fun _ _ k2 => keeps_failBinding k2 HM)

theorem keeps_failHeader {M : Nat} {A : Dev} {d : Dev} {g : Nat} {b : Binding} {code detail : Nat} (H : Keeps M A d) (HM : Within 50336335 M) :
    Keeps M A (Dev.failHeader d g b code detail) := by
  unfold Dev.failHeader
  extract_lets +onlyGivenNames d1
  have k : Keeps M A d1 := by
    subst d1
    refine keeps_updCore H (within_trans HM rfl) (fun _ k => ?_)
    dsimp only
    exact ls_failRing _ _ _ _ _ _ (ls_updBinds _ _ _ k)
  try clear_value d1
  exact Keeps.ite (fun _ => keeps_leaveMember k (within_trans HM rfl)) (fun _ => k)

theorem keeps_landHeader {M : Nat} {A : Dev} {d : Dev} {g : Nat} {b : Binding} {bytes : List Byte} (H : Keeps M A d) (HM : Within 50336335 M) :
    Keeps M A (Dev.landHeader d g b bytes) := by
  unfold Dev.landHeader
  extract_lets +onlyGivenNames h
  try clear_value h
  refine keeps_updCore H (within_trans HM rfl) (fun _ k => ?_)
  dsimp only
  exact ls_updBinds _ _ _ k

theorem keeps_keyRead {M : Nat} {A : Dev} {d : Dev} {w : Waiter} {small : Bool} {base addr len : Nat} (H : Keeps M A d) (HM : Within 33559115 M) :
    Keeps M A ((Dev.keyRead d w small base addr len).1) := by
  unfold Dev.keyRead
  split
  · exact H
  · extract_lets +onlyGivenNames r
    subst r
    extract_lets +onlyGivenNames d1
    have k : Keeps M A d1 := Keeps.step 512 H (within_trans HM rfl) (hh := fun h => hbm_pass _ _ _ _ _ _ h)
    try clear_value d1
    split
    · exact k
    · split
      · rename_i e
        dsimp only
        exact Keeps.fst e (keeps_hbmTouch k HM)
      · rename_i e
        dsimp only
        exact Keeps.fst e (keeps_hbmTouch k HM)

theorem keeps_groupReadFail {M : Nat} {A : Dev} {d : Dev} {die n : Nat} {f : Nat × Nat} (H : Keeps M A d) (HM : Within 50336335 M) :
    Keeps M A (Dev.groupReadFail d die n f) := by
  unfold Dev.groupReadFail
  exact keeps_failGroup H HM

theorem keeps_fxGroupHeaderRead {M : Nat} {A : Dev} {d : Dev} {die n : Nat} (H : Keeps M A d) (HM : Within 50336335 M) :
    Keeps M A (fxGroupHeaderRead d die n) := by
  unfold fxGroupHeaderRead
  extract_lets +onlyGivenNames x
  try clear_value x
  refine Keeps.ite (fun _ => H) (fun _ => ?_)
  split
  · rename_i e
    exact Keeps.fst e (keeps_keyRead H (within_trans HM rfl))
  · rename_i e
    exact keeps_groupReadFail (Keeps.fst e (keeps_keyRead H (within_trans HM rfl))) HM
  · rename_i e
    exact keeps_updMem (keeps_updGroup (Keeps.fst e (keeps_keyRead H (within_trans HM rfl))) (within_trans HM rfl)) (within_trans HM rfl) (fun _ k1 => hbm_multicast _ _ _ k1)

theorem keeps_fxKeyHeaderArrives {M : Nat} {A : Dev} {d : Dev} {die n k : Nat} (H : Keeps M A d) (HM : Within 50336335 M) :
    Keeps M A (fxKeyHeaderArrives d die n k) := by
  unfold fxKeyHeaderArrives
  extract_lets +onlyGivenNames g
  try clear_value g
  split
  · exact H
  · exact Keeps.foldl H (fun _ _ k1 => keeps_landHeader k1 HM)

theorem keeps_fxExpectedTagReady {M : Nat} {A : Dev} {d : Dev} {g slot : Nat} (H : Keeps M A d) (HM : Within 50336335 M) :
    Keeps M A (fxExpectedTagReady d g slot) := by
  unfold fxExpectedTagReady
  extract_lets +onlyGivenNames one
  subst one
  refine Keeps.foldl H (fun _ _ k => ?_)
  split
  · extract_lets +onlyGivenNames h
    try clear_value h
    extract_lets +onlyGivenNames p
    try clear_value p
    extract_lets +onlyGivenNames kg
    try clear_value kg
    extract_lets +onlyGivenNames tag
    try clear_value tag
    extract_lets +onlyGivenNames el
    try clear_value el
    extract_lets +onlyGivenNames d2
    have k1 : Keeps M A d2 := keeps_updCore k (within_trans HM rfl) (fun _ k1 => ls_updBinds _ _ _ k1)
    try clear_value d2
    split
    · exact keeps_failHeader k1 HM
    · split
      · exact keeps_failHeader k1 HM
      · exact k1
  · exact k

theorem keeps_fxKeyChunkArrives {M : Nat} {A : Dev} {d : Dev} {die n : Nat} (H : Keeps M A d) (HM : Within 50336335 M) :
    Keeps M A (fxKeyChunkArrives d die n) := by
  unfold fxKeyChunkArrives
  extract_lets +onlyGivenNames x
  try clear_value x
  split
  · exact H
  · extract_lets +onlyGivenNames h
    try clear_value h
    refine Keeps.ite (fun _ => H) (fun _ => ?_)
    split
    · exact H
    · split
      · rename_i e
        exact Keeps.fst e (keeps_keyRead H (within_trans HM rfl))
      · rename_i e
        exact keeps_groupReadFail (Keeps.fst e (keeps_keyRead H (within_trans HM rfl))) HM
      · rename_i e
        extract_lets +onlyGivenNames d1
        have k1 : Keeps M A d1 := keeps_updMem (Keeps.fst e (keeps_keyRead H (within_trans HM rfl))) (within_trans HM rfl) (fun _ k1 => hbm_multicast _ _ _ k1)
        try clear_value d1
        split
        · exact keeps_failGroup k1 HM
        · extract_lets +onlyGivenNames d2
          have k2 : Keeps M A d2 := keeps_updGroup k1 (within_trans HM rfl)
          try clear_value d2
          exact Keeps.ite (fun _ => keeps_forAll k2 (within_trans HM rfl) (fun _ _ k4 => keeps_updCore k4 (within_trans HM rfl) (fun _ k5 => ls_updBinds _ _ _ k5))) (fun _ => k2)

theorem keeps_landKey {M : Nat} {A : Dev} {d : Dev} {g : Nat} {b : Binding} {bytes : List Byte} (H : Keeps M A d) (HM : Within 50336335 M) :
    Keeps M A (Dev.landKey d g b bytes) := by
  unfold Dev.landKey
  split
  · exact H
  · extract_lets +onlyGivenNames ws
    try clear_value ws
    extract_lets +onlyGivenNames r
    subst r
    extract_lets +onlyGivenNames c
    subst c
    refine keeps_setCore H (within_trans HM rfl) (fun k => ?_)
    dsimp only
    exact ls_updRing _ _ _ (ls_sideWrite _ _ (ls_core k _))

theorem keeps_fxMulticastRowSend {M : Nat} {A : Dev} {d : Dev} {die n : Nat} (H : Keeps M A d) (HM : Within 50336335 M) :
    Keeps M A (fxMulticastRowSend d die n) := by
  unfold fxMulticastRowSend
  extract_lets +onlyGivenNames x
  try clear_value x
  split
  · exact H
  · extract_lets +onlyGivenNames h
    try clear_value h
    extract_lets +onlyGivenNames members
    try clear_value members
    refine Keeps.ite (fun _ => H) (fun _ => ?_)
    extract_lets +onlyGivenNames y
    try clear_value y
    extract_lets +onlyGivenNames bytes
    try clear_value bytes
    extract_lets +onlyGivenNames d1
    have k1 : Keeps M A d1 := by
      subst d1
      refine keeps_forAll H (within_trans HM rfl) (fun _ _ k1 => ?_)
      extract_lets +onlyGivenNames g
      try clear_value g
      split
      · exact keeps_updCore (keeps_landKey k1 HM) (within_trans HM rfl) (fun _ k2 => k2)
      · exact k1
    try clear_value d1
    extract_lets +onlyGivenNames d2
    have k2 : Keeps M A d2 := keeps_forAll k1 (within_trans HM rfl) (fun _ _ k2 => keeps_updCore k2 (within_trans HM rfl) (fun _ k3 => ls_updBinds _ _ _ k3))
    try clear_value d2
    exact keeps_updMem (keeps_updGroup k2 (within_trans HM rfl)) (within_trans HM rfl) (fun _ k3 => hbm_multicast _ _ _ k3)

theorem keeps_fxGroupStreamEnd {M : Nat} {A : Dev} {d : Dev} {die n : Nat} (H : Keeps M A d) (HM : Within 50336335 M) :
    Keeps M A (fxGroupStreamEnd d die n) := by
  unfold fxGroupStreamEnd
  extract_lets +onlyGivenNames x
  try clear_value x
  split
  · exact H
  · refine Keeps.ite (fun _ => H) (fun _ => ?_)
    extract_lets +onlyGivenNames d1
    have k1 : Keeps M A d1 := keeps_forAll H (within_trans HM rfl) (fun _ _ k1 => keeps_updCore k1 (within_trans HM rfl) (fun _ k2 => ls_updBinds _ _ _ k2))
    try clear_value d1
    exact keeps_groupSettle (keeps_updGroup k1 (within_trans HM rfl)) (within_trans HM rfl)

theorem keeps_fxMemberDrop {M : Nat} {A : Dev} {d : Dev} {die n m : Nat} (H : Keeps M A d) (HM : Within 50336335 M) :
    Keeps M A (fxMemberDrop d die n m) := by
  unfold fxMemberDrop
  extract_lets +onlyGivenNames x
  try clear_value x
  extract_lets +onlyGivenNames due
  try clear_value due
  refine Keeps.ite (fun _ => H) (fun _ => ?_)
  extract_lets +onlyGivenNames record
  subst record
  extract_lets +onlyGivenNames d1
  have k1 : Keeps M A d1 := by
    subst d1
    refine keeps_forAll H (within_trans HM rfl) (fun _ _ k1 => ?_)
    extract_lets +onlyGivenNames g
    try clear_value g
    extract_lets +onlyGivenNames y
    try clear_value y
    exact keeps_coreFault (keeps_updCore k1 (within_trans HM rfl) (fun _ k2 => k2)) (within_trans HM rfl)
  try clear_value d1
  extract_lets +onlyGivenNames d2
  have k2 : Keeps M A d2 := keeps_updGroup k1 (within_trans HM rfl)
  try clear_value d2
  exact keeps_leaveMember k2 (within_trans HM rfl)

theorem keeps_noteStall {M : Nat} {A : Dev} {d : Dev} {die n : Nat} (H : Keeps M A d) (HM : Within 4 M) :
    Keeps M A (Dev.noteStall d die n) := by
  unfold Dev.noteStall
  exact keeps_updGroup H HM

theorem keeps_noteStalls {M : Nat} {A : Dev} {d : Dev} (H : Keeps M A d) (HM : Within 4 M) :
    Keeps M A (Dev.noteStalls d) := by
  unfold Dev.noteStalls
  exact Keeps.foldl H (fun _ _ k => keeps_noteStall k HM)

theorem keeps_fxCatchupRead {M : Nat} {A : Dev} {d : Dev} {die n k : Nat} (H : Keeps M A d) (HM : Within 50336335 M) :
    Keeps M A (fxCatchupRead d die n k) := by
  unfold fxCatchupRead
  extract_lets +onlyGivenNames g
  try clear_value g
  split
  · exact H
  · refine Keeps.ite (fun _ => H) (fun _ => ?_)
    extract_lets +onlyGivenNames finish
    subst finish
    split
    · split
      · rename_i e
        exact Keeps.fst e (keeps_keyRead H (within_trans HM rfl))
      · rename_i e
        exact keeps_failBinding (Keeps.fst e (keeps_keyRead H (within_trans HM rfl))) HM
      · rename_i e
        exact keeps_landHeader (Keeps.fst e (keeps_keyRead H (within_trans HM rfl))) HM
    · extract_lets +onlyGivenNames h
      try clear_value h
      extract_lets +onlyGivenNames next
      try clear_value next
      split
      · split
        · rename_i e
          exact Keeps.fst e (keeps_keyRead H (within_trans HM rfl))
        · rename_i e
          exact keeps_failBinding (Keeps.fst e (keeps_keyRead H (within_trans HM rfl))) HM
        · rename_i e
          split
          · exact keeps_failBinding (Keeps.fst e (keeps_keyRead H (within_trans HM rfl))) HM
          · exact keeps_updCore (Keeps.fst e (keeps_keyRead H (within_trans HM rfl))) (within_trans HM rfl) (fun _ k2 => ls_updBinds _ _ _ k2)
      · exact keeps_groupSettle (keeps_updCore H (within_trans HM rfl) (fun _ k2 => ls_updBinds _ _ _ k2)) (within_trans HM rfl)
      · extract_lets +onlyGivenNames y
        try clear_value y
        extract_lets +onlyGivenNames fresh
        try clear_value fresh
        refine Keeps.ite (fun _ => H) (fun _ => ?_)
        split
        · rename_i e
          exact Keeps.fst e (keeps_keyRead H (within_trans HM rfl))
        · rename_i e
          exact keeps_failBinding (Keeps.fst e (keeps_keyRead H (within_trans HM rfl))) HM
        · rename_i e
          extract_lets +onlyGivenNames d1
          have k3 : Keeps M A d1 := Keeps.ite (fun _ => keeps_updCore (keeps_landKey (Keeps.fst e (keeps_keyRead H (within_trans HM rfl))) HM) (within_trans HM rfl) (fun _ k4 => k4)) (fun _ => keeps_updCore (Keeps.fst e (keeps_keyRead H (within_trans HM rfl))) (within_trans HM rfl) (fun _ k4 => k4))
          try clear_value d1
          extract_lets +onlyGivenNames d2
          have k4 : Keeps M A d2 := keeps_updCore k3 (within_trans HM rfl) (fun _ k4 => ls_updBinds _ _ _ k4)
          try clear_value d2
          exact Keeps.ite (fun _ => keeps_groupSettle (keeps_updCore k4 (within_trans HM rfl) (fun _ k6 => ls_updBinds _ _ _ k6)) (within_trans HM rfl)) (fun _ => k4)

theorem keeps_call {M : Nat} {A : Dev} {d : Dev} {a : Nat} {f : Job → Dev × Nat × Nat} (H : Keeps M A d) (HM : Within 33554432 M) (hf : ∀ (z0 : Job), Keeps M A ((f z0).1)) :
    Keeps M A (Dev.call d a f) := by
  unfold Dev.call
  split
  · extract_lets +onlyGivenNames r
    have k : Keeps M A r.1 := hf _
    try clear_value r
    exact keeps_emit k HM
  · exact H

theorem keeps_fxAppExit {M : Nat} {A : Dev} {d : Dev} {a code : Nat} (H : Keeps M A d) (HM : Within 33558603 M) :
    Keeps M A (fxAppExit d a code) := by
  unfold fxAppExit
  split
  · exact H
  · extract_lets +onlyGivenNames d1
    have k : Keeps M A d1 := keeps_updApp H (within_trans HM rfl)
    try clear_value d1
    exact Keeps.ite (fun _ => k) (fun _ => keeps_jobFault k HM)

theorem keeps_fxTokenSignal {M : Nat} {A : Dev} {d : Dev} {a t : Nat} (H : Keeps M A d) (HM : Within 33554497 M) :
    Keeps M A (fxTokenSignal d a t) := by
  unfold fxTokenSignal
  refine keeps_call H (within_trans HM rfl) (fun _ => ?_)
  split
  · exact H
  · dsimp only
    exact keeps_signal H (within_trans HM rfl)

theorem keeps_fxTokenRead {M : Nat} {A : Dev} {d : Dev} {a t : Nat} (H : Keeps M A d) (HM : Within 33554432 M) :
    Keeps M A (fxTokenRead d a t) := by
  unfold fxTokenRead
  refine keeps_call H HM (fun _ => ?_)
  split
  · exact H
  · exact H

theorem keeps_fxTokenWait {M : Nat} {A : Dev} {d : Dev} {a t threshold limit : Nat} (H : Keeps M A d) (HM : Within 33554434 M) :
    Keeps M A (fxTokenWait d a t threshold limit) := by
  unfold fxTokenWait
  split
  · exact H
  · exact Keeps.ite (fun _ => keeps_emit H (within_trans HM rfl)) (fun _ => Keeps.ite (fun _ => keeps_emit H (within_trans HM rfl)) (fun _ => keeps_updApp H (within_trans HM rfl)))

theorem keeps_fxTokenWaitResume {M : Nat} {A : Dev} {d : Dev} {a : Nat} (H : Keeps M A d) (HM : Within 33554434 M) :
    Keeps M A (fxTokenWaitResume d a) := by
  unfold fxTokenWaitResume
  split
  · extract_lets +onlyGivenNames wake
    subst wake
    exact Keeps.ite (fun _ => keeps_emit (keeps_updApp H (within_trans HM rfl)) (within_trans HM rfl)) (fun _ => Keeps.ite (fun _ => keeps_emit (keeps_updApp H (within_trans HM rfl)) (within_trans HM rfl)) (fun _ => H))
  · exact H

theorem keeps_fxKgroupOpen {M : Nat} {A : Dev} {d : Dev} {a die hdr members level : Nat} (H : Keeps M A d) (HM : Within 33554436 M) :
    Keeps M A (fxKgroupOpen d a die hdr members level) := by
  unfold fxKgroupOpen
  refine keeps_call H (within_trans HM rfl) (fun _ => ?_)
  split
  · exact H
  · split
    · exact H
    · extract_lets +onlyGivenNames y
      have k : Keeps M A y := keeps_openGroup H (within_trans HM rfl)
      try clear_value y
      split
      · exact k
      · exact k

theorem keeps_fxKgroupClose {M : Nat} {A : Dev} {d : Dev} {a die n : Nat} (H : Keeps M A d) (HM : Within 33554949 M) :
    Keeps M A (fxKgroupClose d a die n) := by
  unfold fxKgroupClose
  refine keeps_call H (within_trans HM rfl) (fun _ => ?_)
  split
  · dsimp only
    exact keeps_closeGroup H (within_trans HM rfl)
  · exact H

theorem keeps_fxKgroupStatus {M : Nat} {A : Dev} {d : Dev} {a die n : Nat} (H : Keeps M A d) (HM : Within 33554432 M) :
    Keeps M A (fxKgroupStatus d a die n) := by
  unfold fxKgroupStatus
  refine keeps_call H HM (fun _ => ?_)
  split
  · exact H
  · exact H

theorem keeps_fxGuestPageFault {M : Nat} {A : Dev} {d : Dev} {a addr : Nat} (H : Keeps M A d) (HM : Within 33558603 M) :
    Keeps M A (fxGuestPageFault d a addr) := by
  unfold fxGuestPageFault
  split
  · exact Keeps.ite (fun _ => H) (fun _ => keeps_jobFault H HM)
  · exact H

theorem keeps_fxLoadAccessFault {M : Nat} {A : Dev} {d : Dev} {a addr : Nat} (H : Keeps M A d) (HM : Within 33559115 M) :
    Keeps M A (fxLoadAccessFault d a addr) := by
  unfold fxLoadAccessFault
  split
  · refine Keeps.ite (fun _ => H) (fun _ => ?_)
    refine Keeps.ite (fun _ => ?_) (fun _ => keeps_jobFault H (within_trans HM rfl))
    extract_lets +onlyGivenNames atom
    try clear_value atom
    exact keeps_jobFault (keeps_updMem H (within_trans HM rfl) (fun _ k2 => hbm_eccRead _ _ _ _ k2)) (within_trans HM rfl)
  · exact H

theorem keeps_fxCtrlTrap {M : Nat} {A : Dev} {d : Dev} {a vscause vsepc : Nat} (H : Keeps M A d) (HM : Within 33558603 M) :
    Keeps M A (fxCtrlTrap d a vscause vsepc) := by
  unfold fxCtrlTrap
  split
  · exact keeps_jobFault H HM
  · exact H

end Sys2Proof.Machine
end

