-- ==== Sys2Proof/Laws/KeepsUnits.lean ====
section
/-! SUPPORT. What the operations of links, mirrors, peers, windows, the big-number engine, shares and security keep, each in a mask
of the parts of the device it may change (`Keeps`). -/

set_option Elab.async false

namespace Sys2Proof.Machine

theorem keeps_updLane {M : Nat} {A : Dev} {d : Dev} {u : Starlane → Starlane} (H : Keeps M A d) (HM : Within 1024 M) :
    Keeps M A (Dev.updLane d u) := by
  unfold Dev.updLane
  exact Keeps.step 1024 H HM

theorem keeps_updLink {M : Nat} {A : Dev} {d : Dev} {l : Nat} {u : Link → Link} (H : Keeps M A d) (HM : Within 1024 M) :
    Keeps M A (Dev.updLink d l u) := by
  unfold Dev.updLink
  exact keeps_updLane H HM

theorem keeps_updCart {M : Nat} {A : Dev} {d : Dev} {k : Nat} {u : Cart → Cart} (H : Keeps M A d) (HM : Within 1024 M) :
    Keeps M A (Dev.updCart d k u) := by
  unfold Dev.updCart
  exact keeps_updLane H HM

theorem keeps_updOpt {M : Nat} {A : Dev} {d : Dev} {e : Nat} {u : OptEng → OptEng} (H : Keeps M A d) (HM : Within 1024 M) :
    Keeps M A (Dev.updOpt d e u) := by
  unfold Dev.updOpt
  exact keeps_updLane H HM

theorem keeps_linkState {M : Nat} {A : Dev} {d : Dev} {l st : Nat} (H : Keeps M A d) (HM : Within 33555464 M) :
    Keeps M A (Dev.linkState d l st) := by
  unfold Dev.linkState
  exact keeps_msix (keeps_updLink H (within_trans HM rfl)) (within_trans HM rfl)

theorem keeps_showFlit {M : Nat} {A : Dev} {d : Dev} {l seq ack credit : Nat} {b : FlitBody} (H : Keeps M A d) (HM : Within 33554432 M) :
    Keeps M A (Dev.showFlit d l seq ack credit b) := by
  unfold Dev.showFlit
  exact keeps_emit H HM

theorem keeps_sendFlit {M : Nat} {A : Dev} {d : Dev} {l : Nat} {b : FlitBody} (H : Keeps M A d) (HM : Within 33555456 M) :
    Keeps M A (Dev.sendFlit d l b) := by
  unfold Dev.sendFlit
  extract_lets +onlyGivenNames k
  try clear_value k
  exact keeps_updLink (keeps_showFlit H (within_trans HM rfl)) (within_trans HM rfl)

theorem keeps_pumpFlits {M : Nat} {A d : Dev} {l y0 : Nat} (H : Keeps M A d) (HM : Within 33555456 M) :
    Keeps M A (d.pumpFlits l y0) := by
  induction y0 generalizing d with
  | zero => exact H
  | succ n ih =>
    unfold Dev.pumpFlits
    extract_lets k
    split
    · exact H
    · split
      · exact ih (keeps_sendFlit (keeps_updLink H (within_trans HM rfl)) (within_trans HM rfl))
      · split
        · exact H
        · split
          · extract_lets d1
            have k1 : Keeps M A d1 := keeps_sendFlit (keeps_updLink H (within_trans HM rfl)) (within_trans HM rfl)
            refine ih ?_
            split
            · exact keeps_updLane k1 (within_trans HM rfl)
            · exact k1
          · exact H

theorem keeps_pump {M : Nat} {A : Dev} {d : Dev} {l : Nat} (H : Keeps M A d) (HM : Within 33555456 M) :
    Keeps M A (Dev.pump d l) := by
  unfold Dev.pump
  extract_lets +onlyGivenNames d1
  have k : Keeps M A d1 := keeps_pumpFlits H HM
  try clear_value d1
  extract_lets +onlyGivenNames k1
  try clear_value k1
  exact Keeps.ite (fun _ => keeps_updLink (keeps_showFlit k (within_trans HM rfl)) (within_trans HM rfl)) (fun _ => k)

theorem keeps_sendCtl {M : Nat} {A : Dev} {d : Dev} {l : Nat} {c : Ctl} (H : Keeps M A d) (HM : Within 33555456 M) :
    Keeps M A (Dev.sendCtl d l c) := by
  unfold Dev.sendCtl
  extract_lets +onlyGivenNames st
  try clear_value st
  exact Keeps.ite (fun _ => keeps_pump (keeps_updLink H (within_trans HM rfl)) HM) (fun _ => H)

theorem keeps_keepAlive {M : Nat} {A : Dev} {d : Dev} (H : Keeps M A d) (HM : Within 33555456 M) :
    Keeps M A (Dev.keepAlive d) := by
  unfold Dev.keepAlive
  refine Keeps.foldl H (fun _ _ k => ?_)
  extract_lets +onlyGivenNames k1
  try clear_value k1
  exact Keeps.ite (fun _ => keeps_sendCtl k HM) (fun _ => k)

theorem keeps_giveLink {M : Nat} {A : Dev} {d : Dev} {l : Nat} {m : Msg} (H : Keeps M A d) (HM : Within 33555456 M) :
    Keeps M A (Dev.giveLink d l m) := by
  unfold Dev.giveLink
  exact keeps_pump (keeps_updLink H (within_trans HM rfl)) HM

theorem keeps_giveStream {M : Nat} {A : Dev} {d : Dev} {core peer queue : Nat} {p : TxMsg → Bool} (H : Keeps M A d) (HM : Within 33555456 M) :
    Keeps M A (Dev.giveStream d core peer queue p) := by
  unfold Dev.giveStream
  split
  · exact H
  · split
    · exact H
    · extract_lets +onlyGivenNames ms
      try clear_value ms
      extract_lets +onlyGivenNames d1
      have k : Keeps M A d1 := keeps_updLane H (within_trans HM rfl)
      try clear_value d1
      exact Keeps.foldl k (fun _ _ k1 => keeps_giveLink k1 HM)

theorem keeps_reroute {M : Nat} {A : Dev} {d : Dev} {t : TxStream} (H : Keeps M A d) (HM : Within 33555456 M) :
    Keeps M A (Dev.reroute d t) := by
  unfold Dev.reroute
  split
  · exact H
  · extract_lets +onlyGivenNames moves
    try clear_value moves
    extract_lets +onlyGivenNames ms
    try clear_value ms
    extract_lets +onlyGivenNames d1
    have k : Keeps M A d1 := keeps_updLane H (within_trans HM rfl)
    try clear_value d1
    exact keeps_giveStream k HM

theorem keeps_pairStart {M : Nat} {A : Dev} {d : Dev} {id : Nat} (H : Keeps M A d) (HM : Within 33620992 M) :
    Keeps M A (Dev.pairStart d id) := by
  unfold Dev.pairStart
  extract_lets +onlyGivenNames own
  try clear_value own
  extract_lets +onlyGivenNames d1
  try clear_value d1
  extract_lets +onlyGivenNames d2
  have k : Keeps M A d2 := Keeps.ite (fun _ => Keeps.step 65536 H (within_trans HM rfl)) (fun _ => H)
  try clear_value d2
  refine Keeps.ite (fun _ => ?_) (fun _ => k)
  split
  · exact keeps_sendCtl k (within_trans HM rfl)
  · exact k

theorem keeps_waitFor {M : Nat} {A d : Dev} {id st : Nat} (H : Keeps M A d) (HM : Within 1 M) :
    Keeps M A (d.waitFor id st) := by
  unfold Dev.waitFor
  exact Keeps.step 1 H HM (hs := fun s => storesOk_map s fun _ => rfl)

theorem keeps_peerState {M : Nat} {A d : Dev} {id st : Nat} (H : Keeps M A d) (HM : Within 33621001 M) :
    Keeps M A (d.peerState id st) := by
  unfold Dev.peerState
  split
  · exact H
  · split
    · exact H
    · extract_lets d2 d3
      have k2 : Keeps M A d2 := keeps_msix (keeps_updLane H (within_trans HM rfl)) (within_trans HM rfl)
      have k3 : Keeps M A d3 := keeps_waitFor k2 (within_trans HM rfl)
      split
      · exact keeps_pairStart k3 (within_trans HM rfl)
      · exact k3

theorem keeps_giveWindow {M : Nat} {A : Dev} {d : Dev} (H : Keeps M A d) (HM : Within 33555456 M) :
    Keeps M A (Dev.giveWindow d) := by
  unfold Dev.giveWindow
  split
  · extract_lets +onlyGivenNames peer
    try clear_value peer
    refine Keeps.ite (fun _ => H) (fun _ => ?_)
    split
    · exact Keeps.foldl (keeps_updLane H (within_trans HM rfl)) (fun _ _ k1 => keeps_giveLink k1 HM)
    · exact H
  · exact H

theorem keeps_moveStreams {M : Nat} {A : Dev} {d : Dev} {l : Nat} (H : Keeps M A d) (HM : Within 33621001 M) :
    Keeps M A (Dev.moveStreams d l) := by
  unfold Dev.moveStreams
  extract_lets +onlyGivenNames peer
  try clear_value peer
  extract_lets +onlyGivenNames d1
  have k : Keeps M A d1 := keeps_updLane H (within_trans HM rfl)
  try clear_value d1
  refine Keeps.ite (fun _ => ?_) (fun _ => keeps_giveWindow (Keeps.foldl k (fun _ _ k2 => keeps_giveStream k2 (within_trans HM rfl))) (within_trans HM rfl))
  refine Keeps.ite (fun _ => k) (fun _ => ?_)
  split
  · exact Keeps.ite (fun _ => keeps_peerState k HM) (fun _ => Keeps.ite (fun _ => keeps_waitFor k (within_trans HM rfl)) (fun _ => k))
  · exact k

theorem keeps_linkDown {M : Nat} {A : Dev} {d : Dev} {l st reason : Nat} (H : Keeps M A d) (HM : Within 33621001 M) :
    Keeps M A (Dev.linkDown d l st reason) := by
  unfold Dev.linkDown
  extract_lets +onlyGivenNames was
  try clear_value was
  extract_lets +onlyGivenNames d1
  have k : Keeps M A d1 := keeps_updLink (keeps_linkState H (within_trans HM rfl)) (within_trans HM rfl)
  try clear_value d1
  exact Keeps.ite (fun _ => keeps_moveStreams k HM) (fun _ => k)

theorem keeps_failLink {M : Nat} {A : Dev} {d : Dev} {l reason : Nat} (H : Keeps M A d) (HM : Within 33621001 M) :
    Keeps M A (Dev.failLink d l reason) := by
  unfold Dev.failLink
  exact Keeps.ite (fun _ => H) (fun _ => keeps_linkDown H HM)

theorem keeps_serve {M : Nat} {A : Dev} {d : Dev} {l : Nat} (H : Keeps M A d) (HM : Within 33621001 M) :
    Keeps M A (Dev.serve d l) := by
  unfold Dev.serve
  extract_lets +onlyGivenNames peer
  try clear_value peer
  extract_lets +onlyGivenNames d1
  have k : Keeps M A d1 := by
    subst d1
    split
    · exact Keeps.ite (fun _ => keeps_peerState H HM) (fun _ => Keeps.ite (fun _ => keeps_sendCtl H (within_trans HM rfl)) (fun _ => Keeps.ite (fun _ => keeps_waitFor H (within_trans HM rfl)) (fun _ => H)))
    · exact H
  try clear_value d1
  extract_lets +onlyGivenNames d2
  have k1 : Keeps M A d2 := Keeps.foldl k (fun _ _ k1 => keeps_reroute k1 (within_trans HM rfl))
  try clear_value d2
  exact keeps_pump (keeps_giveWindow k1 (within_trans HM rfl)) (within_trans HM rfl)

theorem keeps_enterUp {M : Nat} {A : Dev} {d : Dev} {l : Nat} (H : Keeps M A d) (HM : Within 33621001 M) :
    Keeps M A (Dev.enterUp d l) := by
  unfold Dev.enterUp
  exact Keeps.ite (fun _ => keeps_linkState H (within_trans HM rfl)) (fun _ => keeps_serve (keeps_linkState H (within_trans HM rfl)) HM)

theorem keeps_linkUp {M : Nat} {A : Dev} {d : Dev} {l : Nat} (H : Keeps M A d) (HM : Within 33621001 M) :
    Keeps M A (Dev.linkUp d l) := by
  unfold Dev.linkUp
  extract_lets +onlyGivenNames d1
  have k : Keeps M A d1 := keeps_updLink H (within_trans HM rfl)
  try clear_value d1
  extract_lets +onlyGivenNames d2
  have k1 : Keeps M A d2 := keeps_updLane k (within_trans HM rfl)
  try clear_value d2
  exact keeps_enterUp k1 HM

theorem keeps_darken {M : Nat} {A : Dev} {d : Dev} {e : Nat} (H : Keeps M A d) (HM : Within 33621001 M) :
    Keeps M A (Dev.darken d e) := by
  unfold Dev.darken
  exact keeps_forAll (keeps_updOpt H (within_trans HM rfl)) (within_trans HM rfl) (fun _ _ k => Keeps.ite (fun _ => k) (fun _ => keeps_failLink k HM))

theorem keeps_switchOver {M : Nat} {A : Dev} {d : Dev} {e : Nat} (H : Keeps M A d) (HM : Within 33621001 M) :
    Keeps M A (Dev.switchOver d e) := by
  unfold Dev.switchOver
  extract_lets +onlyGivenNames x
  try clear_value x
  extract_lets +onlyGivenNames other
  try clear_value other
  exact Keeps.ite (fun _ => keeps_updOpt H (within_trans HM rfl)) (fun _ => keeps_darken H HM)

theorem keeps_resumeEngine {M : Nat} {A : Dev} {d : Dev} {e : Nat} (H : Keeps M A d) (HM : Within 33621001 M) :
    Keeps M A (Dev.resumeEngine d e) := by
  unfold Dev.resumeEngine
  exact Keeps.ite (fun _ => keeps_updOpt H (within_trans HM rfl)) (fun _ => keeps_switchOver H HM)

theorem keeps_loseCart {M : Nat} {A : Dev} {d : Dev} {k st : Nat} (H : Keeps M A d) (HM : Within 33621001 M) :
    Keeps M A (Dev.loseCart d k st) := by
  unfold Dev.loseCart
  extract_lets +onlyGivenNames fed
  try clear_value fed
  exact keeps_forAll (keeps_updCart H (within_trans HM rfl)) (within_trans HM rfl) (fun _ _ k1 => keeps_switchOver k1 HM)

theorem keeps_fxCartridgeFailure {M : Nat} {A : Dev} {d : Dev} {k : Nat} (H : Keeps M A d) (HM : Within 33621001 M) :
    Keeps M A (fxCartridgeFailure d k) := by
  unfold fxCartridgeFailure
  exact Keeps.ite (fun _ => keeps_loseCart H HM) (fun _ => H)

theorem keeps_fxCartRelease {M : Nat} {A : Dev} {d : Dev} {k : Nat} (H : Keeps M A d) (HM : Within 33621001 M) :
    Keeps M A (fxCartRelease d k) := by
  unfold fxCartRelease
  exact Keeps.ite (fun _ => keeps_loseCart H HM) (fun _ => H)

theorem keeps_fxCartRestore {M : Nat} {A : Dev} {d : Dev} {k : Nat} (H : Keeps M A d) (HM : Within 1024 M) :
    Keeps M A (fxCartRestore d k) := by
  unfold fxCartRestore
  exact Keeps.ite (fun _ => H) (fun _ => keeps_forAll (keeps_updCart H HM) (within_trans HM rfl) (fun _ _ k2 => Keeps.ite (fun _ => keeps_updOpt k2 HM) (fun _ => k2)))

theorem keeps_fxCartridgeInsert {M : Nat} {A : Dev} {d : Dev} {k : Nat} (H : Keeps M A d) (HM : Within 1024 M) :
    Keeps M A (fxCartridgeInsert d k) := by
  unfold fxCartridgeInsert
  exact Keeps.ite (fun _ => H) (fun _ => keeps_updCart H HM)

theorem keeps_fxCartridgeLit {M : Nat} {A : Dev} {d : Dev} {k : Nat} (H : Keeps M A d) (HM : Within 1024 M) :
    Keeps M A (fxCartridgeLit d k) := by
  unfold fxCartridgeLit
  exact Keeps.ite (fun _ => keeps_updCart H HM) (fun _ => H)

theorem keeps_fxCartridgeLeverOpen {M : Nat} {A : Dev} {d : Dev} {k : Nat} (H : Keeps M A d) (HM : Within 33625097 M) :
    Keeps M A (fxCartridgeLeverOpen d k) := by
  unfold fxCartridgeLeverOpen
  extract_lets +onlyGivenNames lit
  try clear_value lit
  extract_lets +onlyGivenNames d1
  have k1 : Keeps M A d1 := keeps_loseCart H (within_trans HM rfl)
  try clear_value d1
  extract_lets +onlyGivenNames d2
  have k2 : Keeps M A d2 := keeps_updCart k1 (within_trans HM rfl)
  try clear_value d2
  exact Keeps.ite (fun _ => keeps_fnFault k2 (within_trans HM rfl)) (fun _ => k2)

theorem keeps_fxLinkLightDetect {M : Nat} {A : Dev} {d : Dev} {l : Nat} (H : Keeps M A d) (HM : Within 33555464 M) :
    Keeps M A (fxLinkLightDetect d l) := by
  unfold fxLinkLightDetect
  exact Keeps.ite (fun _ => keeps_linkState H HM) (fun _ => H)

theorem keeps_fxLinkTrainStep {M : Nat} {A : Dev} {d : Dev} {l : Nat} (H : Keeps M A d) (HM : Within 33555464 M) :
    Keeps M A (fxLinkTrainStep d l) := by
  unfold fxLinkTrainStep
  extract_lets +onlyGivenNames st
  try clear_value st
  exact Keeps.ite (fun _ => keeps_linkState H HM) (fun _ => Keeps.ite (fun _ => keeps_showFlit (keeps_linkState H HM) (within_trans HM rfl)) (fun _ => H))

theorem keeps_fxLinkTrainTimeout {M : Nat} {A : Dev} {d : Dev} {l : Nat} (H : Keeps M A d) (HM : Within 33621001 M) :
    Keeps M A (fxLinkTrainTimeout d l) := by
  unfold fxLinkTrainTimeout
  extract_lets +onlyGivenNames k
  try clear_value k
  exact Keeps.ite (fun _ => keeps_linkDown H HM) (fun _ => H)

theorem keeps_fxHello {M : Nat} {A : Dev} {d : Dev} {l id far version : Nat} (H : Keeps M A d) (HM : Within 33621001 M) :
    Keeps M A (fxHello d l id far version) := by
  unfold fxHello
  refine Keeps.ite (fun _ => H) (fun _ => ?_)
  extract_lets +onlyGivenNames d1
  have k1 : Keeps M A d1 := keeps_updLink H (within_trans HM rfl)
  try clear_value d1
  exact Keeps.ite (fun _ => keeps_failLink k1 HM) (fun _ => Keeps.ite (fun _ => keeps_failLink k1 HM) (fun _ => keeps_linkUp k1 HM))

theorem keeps_fxLossOfLock {M : Nat} {A : Dev} {d : Dev} {l : Nat} (H : Keeps M A d) (HM : Within 33555464 M) :
    Keeps M A (fxLossOfLock d l) := by
  unfold fxLossOfLock
  exact Keeps.ite (fun _ => keeps_linkState H HM) (fun _ => H)

theorem keeps_fxFastRetrainDone {M : Nat} {A : Dev} {d : Dev} {l : Nat} (H : Keeps M A d) (HM : Within 33621001 M) :
    Keeps M A (fxFastRetrainDone d l) := by
  unfold fxFastRetrainDone
  extract_lets +onlyGivenNames k
  try clear_value k
  exact Keeps.ite (fun _ => keeps_enterUp H HM) (fun _ => H)

theorem keeps_fxFastRetrainFail {M : Nat} {A : Dev} {d : Dev} {l : Nat} (H : Keeps M A d) (HM : Within 33621001 M) :
    Keeps M A (fxFastRetrainFail d l) := by
  unfold fxFastRetrainFail
  extract_lets +onlyGivenNames k
  try clear_value k
  exact Keeps.ite (fun _ => keeps_failLink H HM) (fun _ => H)

theorem keeps_fxLinkRetryExpiry {M : Nat} {A : Dev} {d : Dev} {l : Nat} (H : Keeps M A d) (HM : Within 33555464 M) :
    Keeps M A (fxLinkRetryExpiry d l) := by
  unfold fxLinkRetryExpiry
  extract_lets +onlyGivenNames k
  try clear_value k
  exact Keeps.ite (fun _ => keeps_linkState H HM) (fun _ => H)

theorem keeps_retrain {M : Nat} {A : Dev} {d : Dev} {l : Nat} (H : Keeps M A d) (HM : Within 33621001 M) :
    Keeps M A (Dev.retrain d l) := by
  unfold Dev.retrain
  extract_lets +onlyGivenNames st
  try clear_value st
  exact Keeps.ite (fun _ => keeps_linkState H (within_trans HM rfl)) (fun _ => Keeps.ite (fun _ => H) (fun _ => keeps_linkDown H HM))

theorem keeps_fxLnkRetrain {M : Nat} {A : Dev} {d : Dev} {l : Nat} {a : Agent} (H : Keeps M A d) (HM : Within 33621001 M) :
    Keeps M A (fxLnkRetrain d l a) := by
  unfold fxLnkRetrain
  exact keeps_ifExpert H (within_trans HM rfl) (fun _ k => keeps_retrain k HM)

theorem keeps_enableLink {M : Nat} {A : Dev} {d : Dev} {l : Nat} {want : Bool} (H : Keeps M A d) (HM : Within 33621001 M) :
    Keeps M A (Dev.enableLink d l want) := by
  unfold Dev.enableLink
  extract_lets +onlyGivenNames k
  try clear_value k
  extract_lets +onlyGivenNames en
  try clear_value en
  extract_lets +onlyGivenNames d1
  have k1 : Keeps M A d1 := keeps_updLink H (within_trans HM rfl)
  try clear_value d1
  exact Keeps.ite (fun _ => Keeps.ite (fun _ => keeps_linkState k1 (within_trans HM rfl)) (fun _ => k1)) (fun _ => Keeps.ite (fun _ => k1) (fun _ => keeps_linkDown k1 HM))

theorem keeps_nakFlit {M : Nat} {A : Dev} {d : Dev} {l : Nat} {corrupt : Bool} (H : Keeps M A d) (HM : Within 33555456 M) :
    Keeps M A (Dev.nakFlit d l corrupt) := by
  unfold Dev.nakFlit
  extract_lets +onlyGivenNames k
  try clear_value k
  exact Keeps.ite (fun _ => H) (fun _ => keeps_sendCtl (keeps_updLink H (within_trans HM rfl)) HM)

theorem keeps_takeFlit {M : Nat} {A : Dev} {d : Dev} {l : Nat} {flit : List Byte} (H : Keeps M A d) (HM : Within 33561600 M) :
    Keeps M A (Dev.takeFlit d l flit) := by
  unfold Dev.takeFlit
  extract_lets +onlyGivenNames typ
  try clear_value typ
  extract_lets +onlyGivenNames ack
  try clear_value ack
  extract_lets +onlyGivenNames asleep
  try clear_value asleep
  extract_lets +onlyGivenNames d1
  have k : Keeps M A d1 := keeps_updLink H (within_trans HM rfl)
  try clear_value d1
  extract_lets +onlyGivenNames d2
  have k1 : Keeps M A d2 := Keeps.ite (fun _ => k) (fun _ => keeps_updLink k (within_trans HM rfl))
  try clear_value d2
  extract_lets +onlyGivenNames d3
  have k2 : Keeps M A d3 := Keeps.ite (fun _ => keeps_updLink k1 (within_trans HM rfl)) (fun _ => k1)
  try clear_value d3
  exact keeps_pump (Keeps.ite (fun _ => keeps_wakeUp k2 (within_trans HM rfl)) (fun _ => k2)) (within_trans HM rfl)

theorem keeps_fxFlitReceive {M : Nat} {A : Dev} {d : Dev} {l : Nat} {codeword : List Nat} (H : Keeps M A d) (HM : Within 33561600 M) :
    Keeps M A (fxFlitReceive d l codeword) := by
  unfold fxFlitReceive
  extract_lets +onlyGivenNames k
  try clear_value k
  refine Keeps.ite (fun _ => H) (fun _ => ?_)
  split
  · exact keeps_nakFlit (keeps_updLink H (within_trans HM rfl)) (within_trans HM rfl)
  · extract_lets +onlyGivenNames d1
    have k2 : Keeps M A d1 := Keeps.ite (fun _ => H) (fun _ => keeps_updLink H (within_trans HM rfl))
    try clear_value d1
    extract_lets +onlyGivenNames flit
    try clear_value flit
    exact Keeps.ite (fun _ => keeps_nakFlit k2 (within_trans HM rfl)) (fun _ => Keeps.ite (fun _ => keeps_nakFlit k2 (within_trans HM rfl)) (fun _ => keeps_takeFlit k2 HM))

theorem keeps_fxNakReceive {M : Nat} {A : Dev} {d : Dev} {l seq : Nat} (H : Keeps M A d) (HM : Within 33555456 M) :
    Keeps M A (fxNakReceive d l seq) := by
  unfold fxNakReceive
  extract_lets +onlyGivenNames k
  try clear_value k
  refine Keeps.ite (fun _ => H) (fun _ => ?_)
  extract_lets +onlyGivenNames again
  try clear_value again
  extract_lets +onlyGivenNames d1
  have k2 : Keeps M A d1 := keeps_updLink H (within_trans HM rfl)
  try clear_value d1
  exact keeps_pump (Keeps.foldl k2 (fun _ _ k3 => keeps_showFlit k3 (within_trans HM rfl))) HM

theorem keeps_taken {M : Nat} {A : Dev} {d : Dev} {l : Nat} (H : Keeps M A d) (HM : Within 1024 M) :
    Keeps M A (Dev.taken d l) := by
  unfold Dev.taken
  exact keeps_updLink H HM

theorem keeps_returnCredit {M : Nat} {A : Dev} {d : Dev} {l flits : Nat} (H : Keeps M A d) (HM : Within 1024 M) :
    Keeps M A (Dev.returnCredit d l flits) := by
  unfold Dev.returnCredit
  exact keeps_updLink H HM

theorem keeps_handled {M : Nat} {A : Dev} {d : Dev} {l : Nat} {m : RxMsg} (H : Keeps M A d) (HM : Within 1024 M) :
    Keeps M A (Dev.handled d l m) := by
  unfold Dev.handled
  exact keeps_returnCredit (keeps_taken H HM) HM

theorem keeps_updSlot {M : Nat} {A : Dev} {d : Dev} {i : Nat} {u : MSlot → MSlot} (H : Keeps M A d) (HM : Within 65536 M) :
    Keeps M A (Dev.updSlot d i u) := by
  unfold Dev.updSlot
  exact Keeps.step 65536 H HM

theorem keeps_updTap {M : Nat} {A : Dev} {d : Dev} {j : Nat} {u : Tap → Tap} (H : Keeps M A d) (HM : Within 65536 M) :
    Keeps M A (Dev.updTap d j u) := by
  unfold Dev.updTap
  exact Keeps.step 65536 H HM

theorem keeps_resetTaps {M : Nat} {A : Dev} {d : Dev} {i : Nat} {newEpoch : Bool} (H : Keeps M A d) (HM : Within 50401871 M) :
    Keeps M A (Dev.resetTaps d i newEpoch) := by
  unfold Dev.resetTaps
  exact Keeps.foldl H (fun _ _ k => keeps_updTap k (within_trans HM rfl))

theorem keeps_tapWrite {M : Nat} {A : Dev} {d : Dev} {j : Nat} {m : Msg} (H : Keeps M A d) (HM : Within 50401871 M) :
    Keeps M A (Dev.tapWrite d j m) := by
  unfold Dev.tapWrite
  extract_lets +onlyGivenNames t
  try clear_value t
  extract_lets +onlyGivenNames epoch
  try clear_value epoch
  extract_lets +onlyGivenNames d1
  have k : Keeps M A d1 := by
    subst d1
    split
    · exact Keeps.ite (fun _ => H) (fun _ => keeps_resetTaps H HM)
    · exact H
  try clear_value d1
  extract_lets +onlyGivenNames t1
  try clear_value t1
  extract_lets +onlyGivenNames keep
  try clear_value keep
  extract_lets +onlyGivenNames y
  try clear_value y
  extract_lets +onlyGivenNames p
  try clear_value p
  extract_lets +onlyGivenNames d2
  have k1 : Keeps M A d2 := Keeps.ite (fun _ => k) (fun _ => keeps_updMem (keeps_hbmWrite k (within_trans HM rfl)) (within_trans HM rfl) (fun _ k2 => hbm_updPart _ _ _ k2))
  try clear_value d2
  extract_lets +onlyGivenNames d3
  try clear_value d3
  extract_lets +onlyGivenNames d4
  have k2 : Keeps M A d4 := Keeps.step 65536 k1 (within_trans HM rfl)
  try clear_value d4
  exact keeps_updTap k2 (within_trans HM rfl)

theorem keeps_tapMessage {M : Nat} {A : Dev} {d : Dev} {far : Nat} {m : Msg} (H : Keeps M A d) (HM : Within 50401871 M) :
    Keeps M A (Dev.tapMessage d far m) := by
  unfold Dev.tapMessage
  exact Keeps.foldl H (fun _ _ k => keeps_tapWrite k HM)

theorem keeps_peerAnswer {M : Nat} {A : Dev} {d : Dev} {index result : Nat} (H : Keeps M A d) (HM : Within 1024 M) :
    Keeps M A (Dev.peerAnswer d index result) := by
  unfold Dev.peerAnswer
  exact keeps_updLane H HM

theorem keeps_toPeer {M : Nat} {A : Dev} {d : Dev} {id : Nat} {c : Ctl} (H : Keeps M A d) (HM : Within 33555456 M) :
    Keeps M A (Dev.toPeer d id c) := by
  unfold Dev.toPeer
  exact Keeps.foldl H (fun _ _ k => keeps_sendCtl k HM)

theorem keeps_fxPeerAdd {M : Nat} {A : Dev} {d : Dev} {id : Nat} (H : Keeps M A d) (HM : Within 33555464 M) :
    Keeps M A (fxPeerAdd d id) := by
  unfold fxPeerAdd
  extract_lets +onlyGivenNames d1
  have k : Keeps M A d1 := keeps_updLane H (within_trans HM rfl)
  try clear_value d1
  refine Keeps.ite (fun _ => keeps_peerAnswer k (within_trans HM rfl)) (fun _ => ?_)
  split
  · exact keeps_peerAnswer k (within_trans HM rfl)
  · split
    · exact keeps_peerAnswer k (within_trans HM rfl)
    · extract_lets +onlyGivenNames d2
      have k2 : Keeps M A d2 := keeps_updLane k (within_trans HM rfl)
      try clear_value d2
      exact keeps_toPeer (keeps_msix (keeps_peerAnswer k2 (within_trans HM rfl)) (within_trans HM rfl)) (within_trans HM rfl)

theorem keeps_fxPeerRemove {M : Nat} {A : Dev} {d : Dev} {id : Nat} (H : Keeps M A d) (HM : Within 33621001 M) :
    Keeps M A (fxPeerRemove d id) := by
  unfold fxPeerRemove
  extract_lets +onlyGivenNames d1
  have k : Keeps M A d1 := keeps_updLane H (within_trans HM rfl)
  try clear_value d1
  split
  · exact keeps_peerState (keeps_peerAnswer k (within_trans HM rfl)) HM
  · exact keeps_peerAnswer k (within_trans HM rfl)

theorem keeps_fxPeerSetOwners {M : Nat} {A : Dev} {d : Dev} {id owners : Nat} (H : Keeps M A d) (HM : Within 33555464 M) :
    Keeps M A (fxPeerSetOwners d id owners) := by
  unfold fxPeerSetOwners
  extract_lets +onlyGivenNames d1
  have k : Keeps M A d1 := keeps_updLane H (within_trans HM rfl)
  try clear_value d1
  split
  · exact keeps_peerAnswer (keeps_msix (keeps_updLane k (within_trans HM rfl)) (within_trans HM rfl)) (within_trans HM rfl)
  · exact keeps_peerAnswer k (within_trans HM rfl)

theorem keeps_fxPeerDrainDone {M : Nat} {A : Dev} {d : Dev} {id : Nat} (H : Keeps M A d) (HM : Within 33555464 M) :
    Keeps M A (fxPeerDrainDone d id) := by
  unfold fxPeerDrainDone
  split
  · refine Keeps.ite (fun _ => H) (fun _ => ?_)
    extract_lets +onlyGivenNames d1
    have k1 : Keeps M A d1 := keeps_msix (keeps_updLane H (within_trans HM rfl)) (within_trans HM rfl)
    try clear_value d1
    split
    · exact keeps_sendCtl k1 (within_trans HM rfl)
    · exact k1
  · exact H

theorem keeps_fxProbe {M : Nat} {A : Dev} {d : Dev} {l : Nat} (H : Keeps M A d) (HM : Within 33555456 M) :
    Keeps M A (fxProbe d l) := by
  unfold fxProbe
  split
  · exact keeps_sendCtl H HM
  · exact keeps_sendCtl H HM

theorem keeps_resume {M : Nat} {A : Dev} {d : Dev} {id : Nat} (H : Keeps M A d) (HM : Within 33555456 M) :
    Keeps M A (Dev.resume d id) := by
  unfold Dev.resume
  exact keeps_giveWindow (Keeps.foldl H (fun _ _ k => keeps_reroute k HM)) HM

theorem keeps_fxProbeAck {M : Nat} {A : Dev} {d : Dev} {l : Nat} (H : Keeps M A d) (HM : Within 33621001 M) :
    Keeps M A (fxProbeAck d l) := by
  unfold fxProbeAck
  extract_lets +onlyGivenNames id
  try clear_value id
  refine Keeps.ite (fun _ => H) (fun _ => ?_)
  split
  · exact Keeps.ite (fun _ => keeps_resume (keeps_peerState H HM) (within_trans HM rfl)) (fun _ => H)
  · exact H

theorem keeps_fxProbeNak {M : Nat} {A : Dev} {d : Dev} {l : Nat} (H : Keeps M A d) (HM : Within 33621001 M) :
    Keeps M A (fxProbeNak d l) := by
  unfold fxProbeNak
  extract_lets +onlyGivenNames id
  try clear_value id
  split
  · exact Keeps.ite (fun _ => H) (fun _ => keeps_peerState H HM)
  · exact H

theorem keeps_fxProbeRetry {M : Nat} {A : Dev} {d : Dev} {id : Nat} (H : Keeps M A d) (HM : Within 33555456 M) :
    Keeps M A (fxProbeRetry d id) := by
  unfold fxProbeRetry
  split
  · exact Keeps.ite (fun _ => keeps_toPeer (keeps_updLane H (within_trans HM rfl)) HM) (fun _ => H)
  · exact H

theorem keeps_dropRecord {M : Nat} {A : Dev} {d : Dev} {g id : Nat} (H : Keeps M A d) (HM : Within 33558603 M) :
    Keeps M A (Dev.dropRecord d g id) := by
  unfold Dev.dropRecord
  exact keeps_coreFault H HM

theorem keeps_fxLsend {M : Nat} {A : Dev} {d : Dev} {g e : Nat} (H : Keeps M A d) (HM : Within 50336335 M) :
    Keeps M A (fxLsend d g e) := by
  unfold fxLsend
  extract_lets +onlyGivenNames n
  try clear_value n
  extract_lets +onlyGivenNames y
  have k : Keeps M A y := keeps_issueTransfer H HM
  try clear_value y
  split
  · extract_lets +onlyGivenNames ds
    try clear_value ds
    extract_lets +onlyGivenNames y1
    have k1 : Keeps M A y1 := keeps_updCore k (within_trans HM rfl) (fun _ k1 => ls_updXfer _ _ _ _ k1)
    try clear_value y1
    exact Keeps.foldl k1 (fun _ _ k2 => keeps_dropRecord k2 (within_trans HM rfl))
  · exact k

theorem keeps_sendMsg {M : Nat} {A : Dev} {d : Dev} {g e n peer queue form rows : Nat} {kind : Nat} {data : List Byte} (H : Keeps M A d) (HM : Within 50337359 M) :
    Keeps M A (Dev.sendMsg d g e n peer queue form rows kind data) := by
  unfold Dev.sendMsg
  extract_lets +onlyGivenNames s
  try clear_value s
  extract_lets +onlyGivenNames streams
  try clear_value streams
  extract_lets +onlyGivenNames mseq
  try clear_value mseq
  extract_lets +onlyGivenNames m
  try clear_value m
  extract_lets +onlyGivenNames d1
  have k : Keeps M A d1 := keeps_updLane H (within_trans HM rfl)
  try clear_value d1
  extract_lets +onlyGivenNames d2
  have k1 : Keeps M A d2 := by
    subst d2
    refine keeps_updCore k (within_trans HM rfl) (fun _ k1 => ?_)
    dsimp only
    exact ls_updXfer _ _ _ _ k1
  try clear_value d2
  exact keeps_giveStream k1 (within_trans HM rfl)

theorem keeps_runRow {M : Nat} {A d : Dev} {g e row : Nat} {t : Transfer} (H : Keeps M A d) (HM : Within 33558603 M) :
    Keeps M A (d.runRow g e t row).1 := by
  unfold Dev.runRow
  extract_lets l
  split
  · rename_i c e
    exact keeps_setCore H (within_trans HM rfl) fun s => ls_fst e (ls_sideRead _ _ (ls_core s g))
  · rename_i c _ e
    exact keeps_streamFault (keeps_setCore H (within_trans HM rfl) fun s => ls_fst e (ls_sideRead _ _ (ls_core s g))) (within_trans HM rfl)

theorem keeps_runBytes {M : Nat} {A d : Dev} {g e row y0 : Nat} {t : Transfer} (H : Keeps M A d) (HM : Within 33558603 M) :
    Keeps M A (d.runBytes g e t row y0).1 := by
  induction y0 generalizing d row with
  | zero => exact H
  | succ n ih =>
    unfold Dev.runBytes
    dsimp only
    exact ih (keeps_runRow H HM)

theorem keeps_sendRun {M : Nat} {A : Dev} {d : Dev} {g e : Nat} {t : Transfer} {row rows : Nat} {l : List Dest} (H : Keeps M A d) (HM : Within 50337359 M) :
    Keeps M A (Dev.sendRun d g e t row rows l) := by
  unfold Dev.sendRun
  extract_lets +onlyGivenNames r
  have k : Keeps M A r.1 := keeps_runBytes H (within_trans HM rfl)
  try clear_value r
  exact Keeps.ite (fun _ => keeps_updCore k (within_trans HM rfl) (fun _ k2 => ls_passRows _ _ _ _ _ k2)) (fun _ => Keeps.foldl k (fun _ _ k2 => keeps_sendMsg k2 HM))

theorem keeps_sendDrained {M : Nat} {A : Dev} {d : Dev} {g e n : Nat} (H : Keeps M A d) (HM : Within 50337359 M) :
    Keeps M A (Dev.sendDrained d g e n) := by
  unfold Dev.sendDrained
  split
  · exact H
  · extract_lets +onlyGivenNames x
    try clear_value x
    refine Keeps.ite (fun _ => H) (fun _ => ?_)
    extract_lets +onlyGivenNames d1
    have k1 : Keeps M A d1 := keeps_updCore H (within_trans HM rfl) (fun _ k1 => ls_updXfer _ _ _ _ k1)
    try clear_value d1
    exact Keeps.ite (fun _ => keeps_updCore k1 (within_trans HM rfl) (fun _ k3 => ls_passRows _ _ _ _ _ k3)) (fun _ => keeps_sendMsg k1 HM)

theorem keeps_lsendSkip {M : Nat} {A : Dev} {d : Dev} {g e : Nat} {t : Transfer} {code detail : Nat} (H : Keeps M A d) (HM : Within 50337359 M) :
    Keeps M A (Dev.lsendSkip d g e t code detail) := by
  unfold Dev.lsendSkip
  extract_lets +onlyGivenNames d1
  have k : Keeps M A d1 := keeps_streamFault H (within_trans HM rfl)
  try clear_value d1
  split
  · exact keeps_sendDrained (keeps_updCore k (within_trans HM rfl) (fun _ k1 => ls_updRing _ _ _ (ls_updXfer _ _ _ _ k1))) HM
  · exact keeps_updCore k (within_trans HM rfl) (fun _ k1 => ls_passRows _ _ _ _ _ k1)

theorem keeps_lrequest {M : Nat} {A : Dev} {d : Dev} {g e : Nat} {t : Transfer} (H : Keeps M A d) (HM : Within 50337359 M) :
    Keeps M A (Dev.lrequest d g e t) := by
  unfold Dev.lrequest
  extract_lets +onlyGivenNames live
  try clear_value live
  extract_lets +onlyGivenNames ready
  try clear_value ready
  extract_lets +onlyGivenNames x
  try clear_value x
  refine Keeps.ite (fun _ => ?_) (fun _ => ?_)
  · split
    · extract_lets +onlyGivenNames k1
      try clear_value k1
      exact Keeps.ite (fun _ => keeps_updCore H (within_trans HM rfl) (fun _ k3 => ls_updXfer _ _ _ _ k3)) (fun _ => H)
    · exact keeps_updCore (keeps_sendRun H HM) (within_trans HM rfl) (fun _ k1 => ls_updXfer _ _ _ _ k1)
  · split
    · exact keeps_sendRun H HM
    · exact H

theorem keeps_fxTransferRequest {M : Nat} {A : Dev} {d : Dev} {g e n : Nat} (H : Keeps M A d) (HM : Within 50337359 M) :
    Keeps M A (fxTransferRequest d g e n) := by
  unfold fxTransferRequest
  split
  · exact Keeps.ite (fun _ => keeps_lrequest H HM) (fun _ => keeps_request H (within_trans HM rfl))
  · exact H

theorem keeps_fxOutboundRowDrain {M : Nat} {A : Dev} {d : Dev} {g r : Nat} {up : List Upset} (H : Keeps M A d) (HM : Within 50337359 M) :
    Keeps M A (fxOutboundRowDrain d g r up) := by
  unfold fxOutboundRowDrain
  extract_lets +onlyGivenNames d1
  have k : Keeps M A d1 := keeps_updCore H (within_trans HM rfl) (fun _ k => ls_release _ (ls_strike _ _ k))
  try clear_value d1
  split
  · refine Keeps.ite (fun _ => k) (fun _ => ?_)
    refine Keeps.ite (fun _ => keeps_drainRow k (within_trans HM rfl)) (fun _ => ?_)
    extract_lets +onlyGivenNames l
    try clear_value l
    split
    · rename_i e
      exact keeps_lsendSkip (keeps_setCore k (within_trans HM rfl) (fun k3 => ls_fst e (ls_sideRead _ _ (ls_core k3 _)))) HM
    · rename_i e
      extract_lets +onlyGivenNames d2
      have k3 : Keeps M A d2 := keeps_setCore k (within_trans HM rfl) (fun k3 => ls_updXfer _ _ _ _ (ls_updRing _ _ _ (ls_fst e (ls_sideRead _ _ (ls_core k3 _)))))
      try clear_value d2
      exact keeps_sendDrained k3 HM
  · exact k

theorem keeps_acked {M : Nat} {A : Dev} {d : Dev} {g peer queue : Nat} {o : TxMsg} (H : Keeps M A d) (HM : Within 1025 M) :
    Keeps M A (Dev.acked d g peer queue o) := by
  unfold Dev.acked
  exact keeps_updCore (keeps_updLane H (within_trans HM rfl)) (within_trans HM rfl) (fun _ k => ls_updEng _ _ _ k)

theorem keeps_dropMessages {M : Nat} {A : Dev} {d : Dev} {g e n : Nat} (H : Keeps M A d) (HM : Within 1024 M) :
    Keeps M A (Dev.dropMessages d g e n) := by
  unfold Dev.dropMessages
  extract_lets +onlyGivenNames mine
  try clear_value mine
  exact keeps_updLane H HM

theorem keeps_lsendFail {M : Nat} {A : Dev} {d : Dev} {g e n peer reason mseq code : Nat} (H : Keeps M A d) (HM : Within 33559627 M) :
    Keeps M A (Dev.lsendFail d g e n peer reason mseq code) := by
  unfold Dev.lsendFail
  split
  · exact keeps_xferFail (keeps_dropMessages H (within_trans HM rfl)) (within_trans HM rfl)
  · exact H

theorem keeps_fxRefuse {M : Nat} {A : Dev} {d : Dev} {l core queue mseq reason : Nat} (H : Keeps M A d) (HM : Within 33559627 M) :
    Keeps M A (fxRefuse d l core queue mseq reason) := by
  unfold fxRefuse
  extract_lets +onlyGivenNames peer
  try clear_value peer
  split
  · exact keeps_pump (keeps_lsendFail H HM) (within_trans HM rfl)
  · exact H

theorem keeps_fxRnr {M : Nat} {A : Dev} {d : Dev} {l core queue mseq : Nat} (H : Keeps M A d) (HM : Within 1024 M) :
    Keeps M A (fxRnr d l core queue mseq) := by
  unfold fxRnr
  extract_lets +onlyGivenNames peer
  try clear_value peer
  exact keeps_updLane H HM

theorem keeps_fxRnrResend {M : Nat} {A : Dev} {d : Dev} {g peer queue : Nat} (H : Keeps M A d) (HM : Within 33555456 M) :
    Keeps M A (fxRnrResend d g peer queue) := by
  unfold fxRnrResend
  split
  · exact H
  · extract_lets +onlyGivenNames again
    try clear_value again
    refine Keeps.ite (fun _ => H) (fun _ => ?_)
    extract_lets +onlyGivenNames ms
    try clear_value ms
    extract_lets +onlyGivenNames d1
    have k1 : Keeps M A d1 := keeps_updLane H (within_trans HM rfl)
    try clear_value d1
    exact keeps_giveStream k1 HM

theorem keeps_fxLinkSendTimeout {M : Nat} {A : Dev} {d : Dev} {g peer queue : Nat} (H : Keeps M A d) (HM : Within 33559627 M) :
    Keeps M A (fxLinkSendTimeout d g peer queue) := by
  unfold fxLinkSendTimeout
  extract_lets +onlyGivenNames lim
  try clear_value lim
  split
  · exact keeps_lsendFail H HM
  · exact H

theorem keeps_fxPeerWaitTimeout {M : Nat} {A : Dev} {d : Dev} {g e : Nat} (H : Keeps M A d) (HM : Within 33559627 M) :
    Keeps M A (fxPeerWaitTimeout d g e) := by
  unfold fxPeerWaitTimeout
  extract_lets +onlyGivenNames lim
  try clear_value lim
  extract_lets +onlyGivenNames due
  try clear_value due
  split
  · extract_lets +onlyGivenNames id
    try clear_value id
    exact keeps_lsendFail H HM
  · exact H

theorem keeps_noteHolders {M : Nat} {A d : Dev} (H : Keeps M A d) (HM : Within 1 M) : Keeps M A d.noteHolders := by
  have go : ∀ (l : Tab Core) (d' : Dev), Keeps M A d' → (StoresOk A.cores → StoresOk l) →
      Keeps M A (l.foldl (fun d c => if c.2.engs.all fun e => e.2.xfers.all fun t => decide (t.opc ≠ 10) then d else d.setCore c.1 { c.2 with engs := c.2.engs.map fun e => (e.1, { e.2 with
        xfers := e.2.xfers.map fun t => if t.opc = 10 ∧ 0xFF00 ≤ t.peer then
          { t with dests := t.dests.map fun x =>
              { x with stall := if x.dropped || !d.holds c.1 t x then none else x.stall.or (some (d.aon (c.1 / 64))) } }
        else t }) }) d') := by
    intro l
    induction l with
    | nil => exact fun d' h _ => h
    | cons c l ih =>
      intro d' h hl
      refine ih _ ?_ fun s p hp => hl s p (List.mem_cons_of_mem _ hp)
      dsimp only
      split
      · exact h
      · exact keeps_setCoreOf h HM fun s => hl s c (List.mem_cons_self ..)
  exact go d.cores d H H.stores

theorem keeps_fxLinkGroupMemberDrop {M : Nat} {A : Dev} {d : Dev} {g e n i : Nat} (H : Keeps M A d) (HM : Within 33559627 M) :
    Keeps M A (fxLinkGroupMemberDrop d g e n i) := by
  unfold fxLinkGroupMemberDrop
  split
  · exact H
  · extract_lets +onlyGivenNames j
    try clear_value j
    split
    · exact H
    · extract_lets +onlyGivenNames due
      try clear_value due
      refine Keeps.ite (fun _ => H) (fun _ => ?_)
      extract_lets +onlyGivenNames d1
      have k1 : Keeps M A d1 := keeps_updCore H (within_trans HM rfl) (fun _ k1 => ls_updXfer _ _ _ _ k1)
      try clear_value d1
      extract_lets +onlyGivenNames mine
      try clear_value mine
      extract_lets +onlyGivenNames old
      try clear_value old
      extract_lets +onlyGivenNames d2
      have k2 : Keeps M A d2 := keeps_updLane k1 (within_trans HM rfl)
      try clear_value d2
      exact keeps_giveStream (keeps_dropRecord k2 (within_trans HM rfl)) (within_trans HM rfl)

theorem keeps_fxStreamMessageReceive {M : Nat} {A : Dev} {d : Dev} {l : Nat} (H : Keeps M A d) (HM : Within 50402895 M) :
    Keeps M A (fxStreamMessageReceive d l) := by
  unfold fxStreamMessageReceive
  split
  · exact H
  · extract_lets +onlyGivenNames m
    try clear_value m
    refine Keeps.ite (fun _ => H) (fun _ => ?_)
    extract_lets +onlyGivenNames g
    try clear_value g
    extract_lets +onlyGivenNames r
    try clear_value r
    extract_lets +onlyGivenNames src
    try clear_value src
    extract_lets +onlyGivenNames d1
    have k1 : Keeps M A d1 := keeps_updCore (keeps_handled H (within_trans HM rfl)) (within_trans HM rfl) (fun _ k1 => ls_release _ k1)
    try clear_value d1
    extract_lets +onlyGivenNames count
    subst count
    split
    · exact keeps_pump (keeps_sendCtl (keeps_updLink k1 (within_trans HM rfl)) (within_trans HM rfl)) (within_trans HM rfl)
    · split
      · exact k1
      · extract_lets +onlyGivenNames s
        try clear_value s
        extract_lets +onlyGivenNames ahead
        try clear_value ahead
        extract_lets +onlyGivenNames rows
        try clear_value rows
        extract_lets +onlyGivenNames free
        try clear_value free
        refine Keeps.ite (fun _ => keeps_pump (keeps_sendCtl (keeps_updCore k1 (within_trans HM rfl) (fun _ k3 => ls_updRing _ _ _ k3)) (within_trans HM rfl)) (within_trans HM rfl)) (fun _ => ?_)
        refine Keeps.ite (fun _ => keeps_pump (keeps_sendCtl (keeps_updLink (keeps_updCore k1 (within_trans HM rfl) (fun _ k4 => ls_updRing _ _ _ k4)) (within_trans HM rfl)) (within_trans HM rfl)) (within_trans HM rfl)) (fun _ => ?_)
        extract_lets +onlyGivenNames first
        subst first
        extract_lets +onlyGivenNames d2
        have k4 : Keeps M A d2 := keeps_updCore k1 (within_trans HM rfl) (fun _ k4 => ls_updRing _ _ _ (ls_landRows _ _ _ _ _ k4))
        try clear_value d2
        extract_lets +onlyGivenNames d3
        have k5 : Keeps M A d3 := keeps_updLink k4 (within_trans HM rfl)
        try clear_value d3
        extract_lets +onlyGivenNames d4
        have k6 : Keeps M A d4 := keeps_tapMessage k5 (within_trans HM rfl)
        try clear_value d4
        extract_lets +onlyGivenNames d5
        have k7 : Keeps M A d5 := keeps_updLane k6 (within_trans HM rfl)
        try clear_value d5
        extract_lets +onlyGivenNames d6
        have k8 : Keeps M A d6 := Keeps.ite (fun _ => keeps_coreFault k7 (within_trans HM rfl)) (fun _ => k7)
        try clear_value d6
        exact keeps_pump k8 (within_trans HM rfl)

theorem keeps_fxMackSend {M : Nat} {A : Dev} {d : Dev} {g r : Nat} (H : Keeps M A d) (HM : Within 33555456 M) :
    Keeps M A (fxMackSend d g r) := by
  unfold fxMackSend
  split
  · exact keeps_sendCtl (keeps_updLane H (within_trans HM rfl)) HM
  · exact H

theorem keeps_updWin {M : Nat} {A : Dev} {d : Dev} {w : Nat} {u : Window → Window} (H : Keeps M A d) (HM : Within 1024 M) :
    Keeps M A (Dev.updWin d w u) := by
  unfold Dev.updWin
  exact keeps_updLane H HM

theorem keeps_rebuild {M : Nat} {A : Dev} {d : Dev} {w : Nat} (H : Keeps M A d) (HM : Within 65536 M) :
    Keeps M A (Dev.rebuild d w) := by
  unfold Dev.rebuild
  extract_lets +onlyGivenNames x
  try clear_value x
  split
  · exact Keeps.ite (fun _ => keeps_updSlot H HM) (fun _ => H)
  · exact H

theorem keeps_fxWinOpen {M : Nat} {A : Dev} {d : Dev} {w : Nat} (H : Keeps M A d) (HM : Within 66560 M) :
    Keeps M A (fxWinOpen d w) := by
  unfold fxWinOpen
  split
  · exact keeps_rebuild (keeps_updWin H (within_trans HM rfl)) (within_trans HM rfl)
  · exact keeps_updWin H (within_trans HM rfl)

theorem keeps_fxWinClose {M : Nat} {A : Dev} {d : Dev} {w : Nat} (H : Keeps M A d) (HM : Within 1024 M) :
    Keeps M A (fxWinClose d w) := by
  unfold fxWinClose
  exact keeps_updWin H HM

theorem keeps_fxWinClosed {M : Nat} {A : Dev} {d : Dev} {w : Nat} (H : Keeps M A d) (HM : Within 33555464 M) :
    Keeps M A (fxWinClosed d w) := by
  unfold fxWinClosed
  extract_lets +onlyGivenNames x
  try clear_value x
  exact Keeps.ite (fun _ => keeps_msix (keeps_updWin H (within_trans HM rfl)) (within_trans HM rfl)) (fun _ => H)

theorem keeps_fxWindowWriteReceive {M : Nat} {A : Dev} {d : Dev} {l : Nat} (H : Keeps M A d) (HM : Within 33555456 M) :
    Keeps M A (fxWindowWriteReceive d l) := by
  unfold fxWindowWriteReceive
  split
  · exact H
  · extract_lets +onlyGivenNames m
    try clear_value m
    refine Keeps.ite (fun _ => H) (fun _ => ?_)
    extract_lets +onlyGivenNames w
    try clear_value w
    extract_lets +onlyGivenNames x
    try clear_value x
    extract_lets +onlyGivenNames len
    try clear_value len
    extract_lets +onlyGivenNames lost
    subst lost
    exact Keeps.ite (fun _ => keeps_pump (keeps_sendCtl (keeps_updWin (keeps_handled H (within_trans HM rfl)) (within_trans HM rfl)) HM) HM) (fun _ => Keeps.ite (fun _ => keeps_pump (keeps_sendCtl (keeps_updWin (keeps_handled H (within_trans HM rfl)) (within_trans HM rfl)) HM) HM) (fun _ => keeps_pump (keeps_updWin (keeps_taken H (within_trans HM rfl)) (within_trans HM rfl)) HM))

theorem keeps_fxWindowWriteComplete {M : Nat} {A : Dev} {d : Dev} {w : Nat} (H : Keeps M A d) (HM : Within 33560139 M) :
    Keeps M A (fxWindowWriteComplete d w) := by
  unfold fxWindowWriteComplete
  extract_lets +onlyGivenNames x
  try clear_value x
  split
  · exact H
  · refine Keeps.ite (fun _ => H) (fun _ => ?_)
    extract_lets +onlyGivenNames d1
    have k1 : Keeps M A d1 := keeps_hbmWrite H (within_trans HM rfl)
    try clear_value d1
    extract_lets +onlyGivenNames d2
    have k2 : Keeps M A d2 := keeps_updMem k1 (within_trans HM rfl) (fun _ k2 => hbm_updPart _ _ _ k2)
    try clear_value d2
    extract_lets +onlyGivenNames d3
    have k3 : Keeps M A d3 := keeps_updLink (keeps_updWin k2 (within_trans HM rfl)) (within_trans HM rfl)
    try clear_value d3
    exact keeps_pump (keeps_sendCtl (keeps_returnCredit k3 (within_trans HM rfl)) (within_trans HM rfl)) (within_trans HM rfl)

theorem keeps_endXfer {M : Nat} {A : Dev} {d : Dev} {x : WinXfer} {code units : Nat} (H : Keeps M A d) (HM : Within 33560139 M) :
    Keeps M A (Dev.endXfer d x code units) := by
  unfold Dev.endXfer
  extract_lets +onlyGivenNames d1
  have k : Keeps M A d1 := keeps_updLane H (within_trans HM rfl)
  try clear_value d1
  extract_lets +onlyGivenNames d2
  have k1 : Keeps M A d2 := by
    subst d2
    split
    · exact keeps_hbmWrite k (within_trans HM rfl)
    · exact k
  try clear_value d2
  exact keeps_msix k1 (within_trans HM rfl)

theorem keeps_winFill {M : Nat} {A d : Dev} {y0 : Nat} (H : Keeps M A d) (HM : Within 33560139 M) :
    Keeps M A (d.winFill y0) := by
  induction y0 generalizing d with
  | zero => exact H
  | succ n ih =>
    unfold Dev.winFill
    split
    · exact H
    · extract_lets k
      split
      · exact H
      · split
        · rename_i e
          exact keeps_endXfer (Keeps.fst e (keeps_hbmRead H (within_trans HM rfl))) (within_trans HM rfl)
        · rename_i e
          have k1 := Keeps.fst e (keeps_hbmRead H (within_trans HM rfl))
          extract_lets m d1
          have k2 : Keeps M A d1 := keeps_updLane k1 (within_trans HM rfl)
          refine ih ?_
          split
          · exact keeps_giveLink k2 (within_trans HM rfl)
          · exact k2

theorem keeps_fxWinXferPush {M : Nat} {A : Dev} {d : Dev} {a : Agent} {rec' : List Byte} (H : Keeps M A d) (HM : Within 1024 M) :
    Keeps M A (fxWinXferPush d a rec') := by
  unfold fxWinXferPush
  exact keeps_updLane H HM

theorem keeps_fxWinXferStart {M : Nat} {A : Dev} {d : Dev} (H : Keeps M A d) (HM : Within 33560139 M) :
    Keeps M A (fxWinXferStart d) := by
  unfold fxWinXferStart
  refine Keeps.ite (fun _ => keeps_winFill (keeps_giveWindow H (within_trans HM rfl)) HM) (fun _ => ?_)
  split
  · exact H
  · extract_lets +onlyGivenNames x
    try clear_value x
    extract_lets +onlyGivenNames d1
    have k1 : Keeps M A d1 := keeps_updLane H (within_trans HM rfl)
    try clear_value d1
    exact Keeps.ite (fun _ => keeps_fnFault (keeps_endXfer k1 HM) (within_trans HM rfl)) (fun _ => Keeps.ite (fun _ => keeps_winFill (keeps_giveWindow k1 (within_trans HM rfl)) HM) (fun _ => keeps_endXfer k1 HM))

theorem keeps_fxMack {M : Nat} {A : Dev} {d : Dev} {l kind core queue mseq : Nat} (H : Keeps M A d) (HM : Within 33560139 M) :
    Keeps M A (fxMack d l kind core queue mseq) := by
  unfold fxMack
  extract_lets +onlyGivenNames peer
  try clear_value peer
  refine Keeps.ite (fun _ => ?_) (fun _ => ?_)
  · split
    · refine Keeps.ite (fun _ => H) (fun _ => ?_)
      extract_lets +onlyGivenNames x
      try clear_value x
      extract_lets +onlyGivenNames d1
      have k2 : Keeps M A d1 := keeps_updLane H (within_trans HM rfl)
      try clear_value d1
      exact Keeps.ite (fun _ => keeps_pump (keeps_endXfer k2 HM) (within_trans HM rfl)) (fun _ => keeps_pump (keeps_winFill k2 HM) (within_trans HM rfl))
    · exact H
  · split
    · exact keeps_pump (keeps_acked H (within_trans HM rfl)) (within_trans HM rfl)
    · exact H

theorem keeps_windowStop {M : Nat} {A : Dev} {d : Dev} {l mseq code : Nat} (H : Keeps M A d) (HM : Within 33560139 M) :
    Keeps M A (Dev.windowStop d l mseq code) := by
  unfold Dev.windowStop
  split
  · exact Keeps.ite (fun _ => keeps_pump (keeps_endXfer H HM) (within_trans HM rfl)) (fun _ => H)
  · exact H

theorem keeps_fxWindowClosed {M : Nat} {A : Dev} {d : Dev} {l mseq : Nat} (H : Keeps M A d) (HM : Within 33560139 M) :
    Keeps M A (fxWindowClosed d l mseq) := by
  unfold fxWindowClosed
  exact keeps_windowStop H HM

theorem keeps_fxWindowRefused {M : Nat} {A : Dev} {d : Dev} {l mseq : Nat} (H : Keeps M A d) (HM : Within 33625675 M) :
    Keeps M A (fxWindowRefused d l mseq) := by
  unfold fxWindowRefused
  extract_lets +onlyGivenNames own
  try clear_value own
  extract_lets +onlyGivenNames d1
  have k : Keeps M A d1 := keeps_windowStop H (within_trans HM rfl)
  try clear_value d1
  exact Keeps.ite (fun _ => Keeps.step 65536 k (within_trans HM rfl)) (fun _ => k)

theorem keeps_updSec {M : Nat} {A : Dev} {d : Dev} {u : Sec → Sec} (H : Keeps M A d) (HM : Within 131072 M) :
    Keeps M A (Dev.updSec d u) := by
  unfold Dev.updSec
  exact Keeps.step 131072 H HM

theorem keeps_updMpc {M : Nat} {A : Dev} {d : Dev} {u : Mpc → Mpc} (H : Keeps M A d) (HM : Within 131072 M) :
    Keeps M A (Dev.updMpc d u) := by
  unfold Dev.updMpc
  exact keeps_updSec H HM

theorem keeps_updShare {M : Nat} {A : Dev} {d : Dev} {s : Nat} {u : Share → Share} (H : Keeps M A d) (HM : Within 131072 M) :
    Keeps M A (Dev.updShare d s u) := by
  unfold Dev.updShare
  exact keeps_updMpc H HM

theorem keeps_emptySlot {M : Nat} {A : Dev} {d : Dev} {s : Nat} (H : Keeps M A d) (HM : Within 16908288 M) :
    Keeps M A (Dev.emptySlot d s) := by
  unfold Dev.emptySlot
  extract_lets +onlyGivenNames x
  try clear_value x
  split
  · rename_i e
    exact keeps_updShare (Keeps.snd e (keeps_draw H (within_trans HM rfl))) (within_trans HM rfl)

theorem keeps_pdecFault {M : Nat} {A : Dev} {d : Dev} {q : PdecReq} {code detail : Nat} (H : Keeps M A d) (HM : Within 33558603 M) :
    Keeps M A (Dev.pdecFault d q code detail) := by
  unfold Dev.pdecFault
  split
  · exact keeps_jobFault H HM
  · exact keeps_fnFault H (within_trans HM rfl)

theorem keeps_pdecDone {M : Nat} {A : Dev} {d : Dev} {q : PdecReq} {code limbs : Nat} (H : Keeps M A d) (HM : Within 33559115 M) :
    Keeps M A (Dev.pdecDone d q code limbs) := by
  unfold Dev.pdecDone
  extract_lets +onlyGivenNames a
  try clear_value a
  split
  · exact keeps_hbmWrite H HM
  · exact H

theorem keeps_pdecFail {M : Nat} {A : Dev} {d : Dev} {q : PdecReq} {code detail limbs : Nat} (H : Keeps M A d) (HM : Within 33559115 M) :
    Keeps M A (Dev.pdecFail d q code detail limbs) := by
  unfold Dev.pdecFail
  exact keeps_msix (keeps_pdecFault (keeps_pdecDone H HM) (within_trans HM rfl)) (within_trans HM rfl)

theorem keeps_fxPdecPush {M : Nat} {A : Dev} {d : Dev} {a : Agent} {rcd : List Byte} (H : Keeps M A d) (HM : Within 50467407 M) :
    Keeps M A (fxPdecPush d a rcd) := by
  unfold fxPdecPush
  split
  · exact H
  · extract_lets +onlyGivenNames job
    try clear_value job
    exact keeps_updMpc H (within_trans HM rfl)

theorem keeps_hbmLimbs {M : Nat} {A : Dev} {d : Dev} {parts : Nat} {b : List Byte} {bytes comps : Nat} (H : Keeps M A d) (HM : Within 33559115 M) :
    Keeps M A ((Dev.hbmLimbs d parts b bytes comps).1) := by
  unfold Dev.hbmLimbs
  extract_lets +onlyGivenNames a
  try clear_value a
  extract_lets +onlyGivenNames n
  try clear_value n
  split
  · exact H
  · split
    · rename_i e
      dsimp only
      exact Keeps.fst e (keeps_hbmRead H HM)
    · rename_i e
      extract_lets +onlyGivenNames es
      try clear_value es
      split
      · dsimp only
        exact Keeps.fst e (keeps_hbmRead H HM)
      · dsimp only
        exact Keeps.fst e (keeps_hbmRead H HM)

theorem keeps_pdecDesc {M : Nat} {A : Dev} {d : Dev} {q : PdecReq} {s : Nat} {p : PSet} {b : List Byte} (H : Keeps M A d) (HM : Within 33559115 M) :
    Keeps M A ((Dev.pdecDesc d q s p b).1) := by
  unfold Dev.pdecDesc
  extract_lets +onlyGivenNames x
  try clear_value x
  extract_lets +onlyGivenNames bytes
  try clear_value bytes
  split
  · exact H
  · extract_lets +onlyGivenNames comp
    try clear_value comp
    split
    · rename_i e
      dsimp only
      exact Keeps.fst e (keeps_hbmLimbs H HM)
    · rename_i e
      dsimp only
      exact Keeps.fst e (keeps_hbmLimbs H HM)
    · rename_i e
      extract_lets +onlyGivenNames set
      try clear_value set
      extract_lets +onlyGivenNames flood
      try clear_value flood
      extract_lets +onlyGivenNames primes
      try clear_value primes
      split
      · dsimp only
        exact Keeps.fst e (keeps_hbmLimbs H HM)
      · split
        · dsimp only
          exact Keeps.fst e (keeps_hbmLimbs H HM)
        · split
          · dsimp only
            exact Keeps.fst e (keeps_hbmLimbs H HM)
          · dsimp only
            exact Keeps.fst e (keeps_hbmLimbs H HM)

theorem keeps_pdecCheck {M : Nat} {A : Dev} {d : Dev} {q : PdecReq} (H : Keeps M A d) (HM : Within 33559115 M) :
    Keeps M A ((Dev.pdecCheck d q).1) := by
  unfold Dev.pdecCheck
  extract_lets +onlyGivenNames s
  try clear_value s
  extract_lets +onlyGivenNames x
  try clear_value x
  split
  · exact H
  · split
    · exact H
    · split
      · exact H
      · extract_lets +onlyGivenNames dsc
        try clear_value dsc
        extract_lets +onlyGivenNames limbs
        try clear_value limbs
        split
        · exact H
        · split
          · rename_i e
            dsimp only
            exact Keeps.fst e (keeps_hbmRead H HM)
          · rename_i e
            split
            · dsimp only
              exact Keeps.fst e (keeps_hbmRead H HM)
            · split
              · rename_i e1
                dsimp only
                exact Keeps.fst e1 (keeps_hbmRead (Keeps.fst e (keeps_hbmRead H HM)) HM)
              · rename_i e1
                exact keeps_pdecDesc (Keeps.fst e1 (keeps_hbmRead (Keeps.fst e (keeps_hbmRead H HM)) HM)) HM

theorem keeps_fxPdecRequestStart {M : Nat} {A : Dev} {d : Dev} (H : Keeps M A d) (HM : Within 50467407 M) :
    Keeps M A (fxPdecRequestStart d) := by
  unfold fxPdecRequestStart
  split
  · refine Keeps.ite (fun _ => H) (fun _ => ?_)
    extract_lets +onlyGivenNames d1
    have k1 : Keeps M A d1 := keeps_updMpc H (within_trans HM rfl)
    try clear_value d1
    split
    · rename_i e
      exact keeps_pdecFail (Keeps.fst e (keeps_pdecCheck k1 (within_trans HM rfl))) (within_trans HM rfl)
    · rename_i e
      exact keeps_updMpc (keeps_updShare (Keeps.fst e (keeps_pdecCheck k1 (within_trans HM rfl))) (within_trans HM rfl)) (within_trans HM rfl)
  · exact H

theorem keeps_pdecLimbs {M : Nat} {A d : Dev} {r : PdecRun} {x : Share} {noise : Nat → Int} {y0 : Nat}
    {y1 : List (Nat × (Nat × Nat))} (H : Keeps M A d) (HM : Within 33559115 M) :
    Keeps M A (d.pdecLimbs r x noise y0 y1).1 := by
  induction y1 generalizing d y0 with
  | nil => exact H
  | cons p t ih =>
    unfold Dev.pdecLimbs
    extract_lets n
    split
    · rename_i e; exact Keeps.fst e (keeps_hbmRead H (within_trans HM rfl))
    · rename_i e
      exact ih (keeps_hbmWrite (Keeps.fst e (keeps_hbmRead H (within_trans HM rfl))) (within_trans HM rfl))

theorem keeps_spoilLimb {M : Nat} {A : Dev} {d : Dev} {r : PdecRun} {i n : Nat} (H : Keeps M A d) (HM : Within 50336331 M) :
    Keeps M A (Dev.spoilLimb d r i n) := by
  unfold Dev.spoilLimb
  extract_lets +onlyGivenNames y
  try clear_value y
  extract_lets +onlyGivenNames p
  try clear_value p
  extract_lets +onlyGivenNames d1
  have k : Keeps M A d1 := keeps_hbmWrite H (within_trans HM rfl)
  try clear_value d1
  exact Keeps.step 16777216 k (within_trans HM rfl)

theorem keeps_wipeSlot {M : Nat} {A : Dev} {d : Dev} {s : Nat} (H : Keeps M A d) (HM : Within 50467407 M) :
    Keeps M A (Dev.wipeSlot d s) := by
  unfold Dev.wipeSlot
  extract_lets +onlyGivenNames x
  try clear_value x
  extract_lets +onlyGivenNames d1
  try clear_value d1
  extract_lets +onlyGivenNames d2
  have k : Keeps M A d2 := keeps_updShare H (within_trans HM rfl)
  try clear_value d2
  split
  · refine Keeps.ite (fun _ => ?_) (fun _ => k)
    extract_lets +onlyGivenNames n
    try clear_value n
    extract_lets +onlyGivenNames ctr
    try clear_value ctr
    extract_lets +onlyGivenNames d3
    have k2 : Keeps M A d3 := Keeps.step 16777216 k (within_trans HM rfl)
    try clear_value d3
    extract_lets +onlyGivenNames d4
    have k3 : Keeps M A d4 := keeps_updMpc k2 (within_trans HM rfl)
    try clear_value d4
    split
    · rename_i e
      exact keeps_pdecFail (keeps_spoilLimb (Keeps.fst e (keeps_pdecLimbs k3 (within_trans HM rfl))) (within_trans HM rfl)) (within_trans HM rfl)
    · rename_i e
      exact keeps_pdecFail (keeps_spoilLimb (Keeps.fst e (keeps_pdecLimbs k3 (within_trans HM rfl))) (within_trans HM rfl)) (within_trans HM rfl)
  · exact k

theorem keeps_budgetWipe {M : Nat} {A : Dev} {d : Dev} {s : Nat} (H : Keeps M A d) (HM : Within 50467407 M) :
    Keeps M A (Dev.budgetWipe d s) := by
  unfold Dev.budgetWipe
  exact Keeps.ite (fun _ => keeps_wipeSlot H HM) (fun _ => H)

theorem keeps_fxPdecDone {M : Nat} {A : Dev} {d : Dev} (H : Keeps M A d) (HM : Within 50467407 M) :
    Keeps M A (fxPdecDone d) := by
  unfold fxPdecDone
  split
  · exact H
  · extract_lets +onlyGivenNames x
    try clear_value x
    extract_lets +onlyGivenNames n
    try clear_value n
    refine Keeps.ite (fun _ => H) (fun _ => ?_)
    extract_lets +onlyGivenNames bits
    try clear_value bits
    extract_lets +onlyGivenNames ctr
    try clear_value ctr
    extract_lets +onlyGivenNames d1
    have k1 : Keeps M A d1 := Keeps.step 16777216 H (within_trans HM rfl)
    try clear_value d1
    extract_lets +onlyGivenNames d2
    have k2 : Keeps M A d2 := keeps_updMpc k1 (within_trans HM rfl)
    try clear_value d2
    split
    · rename_i e
      exact keeps_budgetWipe (keeps_pdecFail (keeps_spoilLimb (Keeps.fst e (keeps_pdecLimbs k2 (within_trans HM rfl))) (within_trans HM rfl)) (within_trans HM rfl)) HM
    · rename_i e
      extract_lets +onlyGivenNames y
      try clear_value y
      extract_lets +onlyGivenNames p
      try clear_value p
      extract_lets +onlyGivenNames d3
      have k3 : Keeps M A d3 := keeps_hbmWrite (Keeps.fst e (keeps_pdecLimbs k2 (within_trans HM rfl))) (within_trans HM rfl)
      try clear_value d3
      extract_lets +onlyGivenNames d4
      have k4 : Keeps M A d4 := Keeps.step 16777216 k3 (within_trans HM rfl)
      try clear_value d4
      extract_lets +onlyGivenNames d5
      have k5 : Keeps M A d5 := keeps_updMpc k4 (within_trans HM rfl)
      try clear_value d5
      exact keeps_budgetWipe (keeps_msix (keeps_pdecDone k5 (within_trans HM rfl)) (within_trans HM rfl)) HM

theorem keeps_fxSlotLoad {M : Nat} {A : Dev} {d : Dev} {f s v : Nat} (H : Keeps M A d) (HM : Within 50467407 M) :
    Keeps M A (fxSlotLoad d f s v) := by
  unfold fxSlotLoad
  extract_lets +onlyGivenNames x
  try clear_value x
  refine Keeps.ite (fun _ => H) (fun _ => ?_)
  extract_lets +onlyGivenNames d1
  have k1 : Keeps M A d1 := keeps_updFn H (within_trans HM rfl)
  try clear_value d1
  extract_lets +onlyGivenNames d2
  have k2 : Keeps M A d2 := Keeps.ite (fun _ => keeps_wipeSlot k1 HM) (fun _ => k1)
  try clear_value d2
  refine Keeps.ite (fun _ => k2) (fun _ => ?_)
  refine Keeps.ite (fun _ => keeps_fnFault (keeps_updShare k2 (within_trans HM rfl)) (within_trans HM rfl)) (fun _ => ?_)
  extract_lets +onlyGivenNames a
  try clear_value a
  exact keeps_updShare k2 (within_trans HM rfl)

theorem keeps_fxSlotRelease {M : Nat} {A : Dev} {d : Dev} {f s : Nat} (H : Keeps M A d) (HM : Within 50467407 M) :
    Keeps M A (fxSlotRelease d f s) := by
  unfold fxSlotRelease
  extract_lets +onlyGivenNames x
  try clear_value x
  exact Keeps.ite (fun _ => keeps_wipeSlot H HM) (fun _ => H)

theorem keeps_fxSlotWipeDone {M : Nat} {A : Dev} {d : Dev} {s : Nat} (H : Keeps M A d) (HM : Within 16908288 M) :
    Keeps M A (fxSlotWipeDone d s) := by
  unfold fxSlotWipeDone
  exact Keeps.ite (fun _ => keeps_emptySlot H HM) (fun _ => H)

theorem keeps_loadRefused {M : Nat} {A : Dev} {d : Dev} {s err : Nat} (H : Keeps M A d) (HM : Within 50466824 M) :
    Keeps M A (Dev.loadRefused d s err) := by
  unfold Dev.loadRefused
  extract_lets +onlyGivenNames f
  try clear_value f
  exact keeps_fnFault (keeps_emptySlot (keeps_updShare H (within_trans HM rfl)) (within_trans HM rfl)) (within_trans HM rfl)

theorem keeps_fxSlotLoadDone {M : Nat} {A : Dev} {d : Dev} {s : Nat} (H : Keeps M A d) (HM : Within 50467403 M) :
    Keeps M A (fxSlotLoadDone d s) := by
  unfold fxSlotLoadDone
  extract_lets +onlyGivenNames x
  try clear_value x
  refine Keeps.ite (fun _ => H) (fun _ => ?_)
  refine Keeps.ite (fun _ => keeps_loadRefused H (within_trans HM rfl)) (fun _ => ?_)
  refine Keeps.ite (fun _ => H) (fun _ => ?_)
  split
  · rename_i e
    exact keeps_loadRefused (Keeps.fst e (keeps_hbmRead H (within_trans HM rfl))) (within_trans HM rfl)
  · rename_i e
    split
    · rename_i e1
      split
      · rename_i e2
        exact keeps_updShare (Keeps.snd e2 (keeps_draw (Keeps.fst e (keeps_hbmRead H (within_trans HM rfl))) (within_trans HM rfl))) (within_trans HM rfl)
    · rename_i e1
      exact keeps_loadRefused (Keeps.fst e (keeps_hbmRead H (within_trans HM rfl))) (within_trans HM rfl)

theorem keeps_authLog {M : Nat} {A : Dev} {d : Dev} {check comp slot : Nat} (H : Keeps M A d) (HM : Within 2097152 M) :
    Keeps M A (Dev.authLog d check comp slot) := by
  unfold Dev.authLog
  exact Keeps.step 2097152 H HM

theorem keeps_bootComp {M : Nat} {A : Dev} {d : Dev} {given : List (Nat × Nat)} {comp : Nat} (H : Keeps M A d) (HM : Within 2236416 M) :
    Keeps M A ((Dev.bootComp d given comp).1) := by
  unfold Dev.bootComp
  extract_lets +onlyGivenNames k
  try clear_value k
  extract_lets +onlyGivenNames s
  try clear_value s
  extract_lets +onlyGivenNames bad
  try clear_value bad
  split
  · extract_lets +onlyGivenNames d1
    have k1 : Keeps M A d1 := Keeps.ite (fun _ => Keeps.step 8192 H (within_trans HM rfl)) (fun _ => H)
    try clear_value d1
    dsimp only
    exact keeps_measure k1 (within_trans HM rfl)
  · extract_lets +onlyGivenNames d1
    have k1 : Keeps M A d1 := keeps_authLog H (within_trans HM rfl)
    try clear_value d1
    extract_lets +onlyGivenNames bad1
    try clear_value bad1
    split
    · extract_lets +onlyGivenNames d2
      have k2 : Keeps M A d2 := Keeps.ite (fun _ => Keeps.step 2105344 k1 (within_trans HM rfl)) (fun _ => k1)
      try clear_value d2
      dsimp only
      exact keeps_measure k2 (within_trans HM rfl)
    · dsimp only
      exact keeps_authLog k1 (within_trans HM rfl)

theorem keeps_bootCard {M : Nat} {A : Dev} {d : Dev} {comp : Nat} {im : Option Image} (H : Keeps M A d) (HM : Within 2228224 M) :
    Keeps M A ((Dev.bootCard d comp im).1) := by
  unfold Dev.bootCard
  split
  · exact H
  · extract_lets +onlyGivenNames bad
    try clear_value bad
    split
    · dsimp only
      exact keeps_authLog H (within_trans HM rfl)
    · dsimp only
      exact keeps_updSec H (within_trans HM rfl)

theorem keeps_drawKeys {M : Nat} {A : Dev} {d : Dev} (H : Keeps M A d) (HM : Within 16908288 M) :
    Keeps M A (Dev.drawKeys d) := by
  unfold Dev.drawKeys
  split
  · rename_i e
    split
    · rename_i e1
      extract_lets +onlyGivenNames k
      try clear_value k
      extract_lets +onlyGivenNames w
      try clear_value w
      extract_lets +onlyGivenNames d1
      have k1 : Keeps M A d1 := keeps_updSec (Keeps.snd e1 (keeps_draw (Keeps.snd e (keeps_draw H (within_trans HM rfl))) (within_trans HM rfl))) (within_trans HM rfl)
      try clear_value d1
      exact keeps_forAll k1 (within_trans HM rfl) (fun _ _ k2 => keeps_emptySlot k2 HM)

theorem keeps_burnSvn {M : Nat} {A d : Dev} {given : List (Nat × Nat)} (H : Keeps M A d) (HM : Within 270336 M) :
    Keeps M A (d.burnSvn given) := by
  unfold Dev.burnSvn
  refine Keeps.foldl H fun d p h => ?_
  dsimp only
  split
  · refine Keeps.step 270336 h HM (hb := ⟨rfl, rfl, rfl, rfl, fun _ h => h, fun c => ?_⟩)
    by_cases e : p.1 = c
    · subst e
      rw [Tab.get_set_self]
      exact Nat.le_max_left _ _
    · rw [Tab.get_set_of_ne _ _ _ e]
  · exact h

theorem keeps_fxBootStage {M : Nat} {A : Dev} {d : Dev} {given : List (Nat × Nat)} {loader fw : Option Image} (H : Keeps M A d) (HM : Within 19279872 M) :
    Keeps M A (fxBootStage d given loader fw) := by
  unfold fxBootStage
  refine Keeps.ite (fun _ => H) (fun _ => ?_)
  split
  · extract_lets +onlyGivenNames d1
    have k1 : Keeps M A d1 := keeps_updSec H (within_trans HM rfl)
    try clear_value d1
    split
    · rename_i e
      exact keeps_updSec (Keeps.fst e (keeps_bootComp k1 (within_trans HM rfl))) (within_trans HM rfl)
    · rename_i e
      split
      · rename_i e1
        exact keeps_updSec (Keeps.fst e1 (keeps_bootCard (Keeps.fst e (keeps_bootComp k1 (within_trans HM rfl))) (within_trans HM rfl))) (within_trans HM rfl)
      · rename_i e1
        exact Keeps.step 4096 (Keeps.fst e1 (keeps_bootCard (Keeps.fst e (keeps_bootComp k1 (within_trans HM rfl))) (within_trans HM rfl))) (within_trans HM rfl)
  · refine Keeps.ite (fun _ => H) (fun _ => ?_)
    extract_lets +onlyGivenNames run
    subst run
    split
    · rename_i e
      exact keeps_updSec (Keeps.step 8192 (Keeps.fst e (keeps_bootComp H (within_trans HM rfl))) (within_trans HM rfl)) (within_trans HM rfl)
    · rename_i e
      refine Keeps.ite (fun _ => ?_) (fun _ => Keeps.fst e (keeps_bootComp H (within_trans HM rfl)))
      split
      · rename_i e1
        exact keeps_updSec (Keeps.step 8192 (Keeps.fst e1 (keeps_bootCard (Keeps.fst e (keeps_bootComp H (within_trans HM rfl))) (within_trans HM rfl))) (within_trans HM rfl)) (within_trans HM rfl)
      · rename_i e1
        exact Keeps.fst e1 (keeps_bootCard (Keeps.fst e (keeps_bootComp H (within_trans HM rfl))) (within_trans HM rfl))
  · refine Keeps.ite (fun _ => H) (fun _ => ?_)
    extract_lets +onlyGivenNames d1
    have k2 : Keeps M A d1 := Keeps.foldl H (fun _ _ k2 => keeps_bootComp k2 (within_trans HM rfl))
    try clear_value d1
    extract_lets +onlyGivenNames d2
    have k3 : Keeps M A d2 := keeps_burnSvn (keeps_drawKeys k2 (within_trans HM rfl)) (within_trans HM rfl)
    try clear_value d2
    extract_lets +onlyGivenNames d3
    have k4 : Keeps M A d3 := Keeps.ite (fun _ => Keeps.step 2097152 k3 (within_trans HM rfl)) (fun _ => k3)
    try clear_value d3
    exact keeps_updSec k4 (within_trans HM rfl)
  · exact H

theorem keeps_kloadWrite {M : Nat} {A : Dev} {d : Dev} {g v : Nat} {a : Agent} (H : Keeps M A d) (HM : Within 50336335 M) :
    Keeps M A (Dev.kloadWrite d g v a) := by
  unfold Dev.kloadWrite
  extract_lets +onlyGivenNames c
  subst c
  extract_lets +onlyGivenNames f
  try clear_value f
  extract_lets +onlyGivenNames d1
  have k : Keeps M A d1 := Keeps.ite (fun _ => keeps_deny H (within_trans HM rfl)) (fun _ => H)
  try clear_value d1
  extract_lets +onlyGivenNames force
  try clear_value force
  extract_lets +onlyGivenNames len
  try clear_value len
  extract_lets +onlyGivenNames bank
  try clear_value bank
  refine Keeps.ite (fun _ => k) (fun _ => ?_)
  extract_lets +onlyGivenNames d2
  have k2 : Keeps M A d2 := keeps_updCore k (within_trans HM rfl) (fun _ k2 => k2)
  try clear_value d2
  refine Keeps.ite (fun _ => k2) (fun _ => ?_)
  refine Keeps.ite (fun _ => keeps_fnFault (keeps_updCore k2 (within_trans HM rfl) (fun _ k5 => k5)) (within_trans HM rfl)) (fun _ => ?_)
  refine Keeps.ite (fun _ => keeps_updCore k2 (within_trans HM rfl) (fun _ k6 => k6)) (fun _ => ?_)
  extract_lets +onlyGivenNames l
  try clear_value l
  refine keeps_updCore k2 (within_trans HM rfl) (fun _ k6 => ?_)
  split
  · exact k6
  · exact ls_beginLoad _ _ k6

theorem keeps_fxKloadGo {M : Nat} {A : Dev} {d : Dev} {g v : Nat} {a : Agent} (H : Keeps M A d) (HM : Within 50336335 M) :
    Keeps M A (fxKloadGo d g v a) := by
  unfold fxKloadGo
  exact keeps_kloadWrite H HM

theorem keeps_fxKloadForce {M : Nat} {A : Dev} {d : Dev} {g v : Nat} {a : Agent} (H : Keeps M A d) (HM : Within 50336335 M) :
    Keeps M A (fxKloadForce d g v a) := by
  unfold fxKloadForce
  exact keeps_kloadWrite H HM

theorem keeps_fxKloadDone {M : Nat} {A : Dev} {d : Dev} {g : Nat} (H : Keeps M A d) (HM : Within 50336335 M) :
    Keeps M A (fxKloadDone d g) := by
  unfold fxKloadDone
  split
  · exact H
  · extract_lets +onlyGivenNames fail
    subst fail
    refine Keeps.ite (fun _ => H) (fun _ => ?_)
    extract_lets +onlyGivenNames p
    try clear_value p
    extract_lets +onlyGivenNames d1
    have k1 : Keeps M A d1 := keeps_updMem H (within_trans HM rfl) (fun _ k1 => hbm_updPart _ _ _ k1)
    try clear_value d1
    split
    · rename_i e
      exact keeps_fnFault (keeps_updCore (Keeps.fst e (keeps_hbmRead k1 (within_trans HM rfl))) (within_trans HM rfl) (fun _ k2 => k2)) (within_trans HM rfl)
    · rename_i e
      extract_lets +onlyGivenNames kid
      try clear_value kid
      split
      · exact keeps_updCore (Keeps.fst e (keeps_hbmRead k1 (within_trans HM rfl))) (within_trans HM rfl) (fun _ k2 => k2)
      · refine Keeps.ite (fun _ => keeps_updCore (Keeps.fst e (keeps_hbmRead k1 (within_trans HM rfl))) (within_trans HM rfl) (fun _ k3 => k3)) (fun _ => ?_)
        extract_lets +onlyGivenNames code
        try clear_value code
        exact keeps_updCore (Keeps.fst e (keeps_hbmRead k1 (within_trans HM rfl))) (within_trans HM rfl) (fun _ k3 => k3)

theorem keeps_fxSecKcopyGo {M : Nat} {A : Dev} {d : Dev} {v : Nat} {a : Agent} (H : Keeps M A d) (HM : Within 131072 M) :
    Keeps M A (fxSecKcopyGo d v a) := by
  unfold fxSecKcopyGo
  refine Keeps.ite (fun _ => keeps_updSec H HM) (fun _ => ?_)
  refine Keeps.ite (fun _ => keeps_updSec H HM) (fun _ => ?_)
  extract_lets +onlyGivenNames kid
  try clear_value kid
  extract_lets +onlyGivenNames d1
  have k2 : Keeps M A d1 := keeps_updSec H HM
  try clear_value d1
  split
  · exact keeps_updSec k2 HM
  · exact Keeps.ite (fun _ => keeps_updSec k2 HM) (fun _ => keeps_updSec k2 HM)

theorem keeps_fxKcopyDone {M : Nat} {A : Dev} {d : Dev} (H : Keeps M A d) (HM : Within 33690187 M) :
    Keeps M A (fxKcopyDone d) := by
  unfold fxKcopyDone
  split
  · exact H
  · extract_lets +onlyGivenNames b
    try clear_value b
    extract_lets +onlyGivenNames d1
    have k : Keeps M A d1 := by
      subst d1
      split
      · exact keeps_hbmWrite H (within_trans HM rfl)
      · exact H
    try clear_value d1
    exact keeps_updSec k (within_trans HM rfl)

theorem keeps_fxReservationLogWrite {M : Nat} {A : Dev} {d : Dev} {ok : Bool} (H : Keeps M A d) (HM : Within 139264 M) :
    Keeps M A (fxReservationLogWrite d ok) := by
  unfold fxReservationLogWrite
  exact Keeps.ite (fun _ => H) (fun _ => Keeps.ite (fun _ => keeps_updSec (Keeps.step 8192 H (within_trans HM rfl)) (within_trans HM rfl)) (fun _ => keeps_updSec H (within_trans HM rfl)))

theorem keeps_spdm {M : Nat} {A : Dev} {d : Dev} {eff : Dev → Dev} (H : Keeps M A d) (HM : Within 33554440 M) (heff : ∀ (e0 : Dev), Keeps M A e0 → Keeps M A (eff e0)) :
    Keeps M A (Dev.spdm d eff) := by
  unfold Dev.spdm
  exact Keeps.ite (fun _ => keeps_msix (heff _ H) HM) (fun _ => H)

theorem keeps_fxGetVersion {M : Nat} {A : Dev} {d : Dev} (H : Keeps M A d) (HM : Within 33685512 M) :
    Keeps M A (fxGetVersion d) := by
  unfold fxGetVersion
  exact keeps_spdm H (within_trans HM rfl) (fun _ k => keeps_emit (keeps_updSec k (within_trans HM rfl)) (within_trans HM rfl))

theorem keeps_fxGetCapabilities {M : Nat} {A : Dev} {d : Dev} (H : Keeps M A d) (HM : Within 33685512 M) :
    Keeps M A (fxGetCapabilities d) := by
  unfold fxGetCapabilities
  exact keeps_spdm H (within_trans HM rfl) (fun _ k => Keeps.ite (fun _ => keeps_emit k (within_trans HM rfl)) (fun _ => keeps_emit (keeps_updSec k (within_trans HM rfl)) (within_trans HM rfl)))

theorem keeps_fxNegotiateAlgorithms {M : Nat} {A : Dev} {d : Dev} {offered : Bool} (H : Keeps M A d) (HM : Within 33685512 M) :
    Keeps M A (fxNegotiateAlgorithms d offered) := by
  unfold fxNegotiateAlgorithms
  exact keeps_spdm H (within_trans HM rfl) (fun _ k => Keeps.ite (fun _ => keeps_emit k (within_trans HM rfl)) (fun _ => Keeps.ite (fun _ => keeps_emit k (within_trans HM rfl)) (fun _ => keeps_emit (keeps_updSec k (within_trans HM rfl)) (within_trans HM rfl))))

theorem keeps_spdmSign {M : Nat} {A : Dev} {d : Dev} {hash : Nat} (H : Keeps M A d) (HM : Within 16777216 M) :
    Keeps M A ((Dev.spdmSign d hash).1) := by
  unfold Dev.spdmSign
  split
  · rename_i e
    split
    · dsimp only
      exact Keeps.snd e (keeps_draw H HM)
    · dsimp only
      exact Keeps.snd e (keeps_draw H HM)

theorem keeps_fxKeyExchange {M : Nat} {A : Dev} {d : Dev} {slot hash : Nat} (H : Keeps M A d) (HM : Within 50462728 M) :
    Keeps M A (fxKeyExchange d slot hash) := by
  unfold fxKeyExchange
  refine keeps_spdm H (within_trans HM rfl) (fun _ k => ?_)
  refine Keeps.ite (fun _ => keeps_emit k (within_trans HM rfl)) (fun _ => ?_)
  refine Keeps.ite (fun _ => keeps_emit k (within_trans HM rfl)) (fun _ => ?_)
  refine Keeps.ite (fun _ => keeps_emit k (within_trans HM rfl)) (fun _ => ?_)
  refine Keeps.ite (fun _ => keeps_emit k (within_trans HM rfl)) (fun _ => ?_)
  extract_lets +onlyGivenNames sid
  try clear_value sid
  split
  · rename_i e
    extract_lets +onlyGivenNames pub
    try clear_value pub
    split
    · rename_i e1
      exact keeps_emit (keeps_updSec (Keeps.fst e1 (keeps_spdmSign (Keeps.snd e (keeps_draw k (within_trans HM rfl))) (within_trans HM rfl))) (within_trans HM rfl)) (within_trans HM rfl)

theorem keeps_secured {M : Nat} {A : Dev} {d : Dev} {eff : Dev → Dev} (H : Keeps M A d) (HM : Within 33554432 M) (heff : ∀ (e0 : Dev), Keeps M A e0 → Keeps M A (eff e0)) :
    Keeps M A (Dev.secured d eff) := by
  unfold Dev.secured
  exact Keeps.ite (fun _ => heff _ H) (fun _ => keeps_emit H HM)

theorem keeps_fxFinish {M : Nat} {A : Dev} {d : Dev} {sid : Nat} {ok : Bool} (H : Keeps M A d) (HM : Within 33685512 M) :
    Keeps M A (fxFinish d sid ok) := by
  unfold fxFinish
  exact keeps_spdm H (within_trans HM rfl) (fun _ k => Keeps.ite (fun _ => keeps_emit k (within_trans HM rfl)) (fun _ => Keeps.ite (fun _ => keeps_emit (keeps_updSec k (within_trans HM rfl)) (within_trans HM rfl)) (fun _ => keeps_emit (keeps_updSec k (within_trans HM rfl)) (within_trans HM rfl))))

theorem keeps_fxGetMeasurements {M : Nat} {A : Dev} {d : Dev} {sid hash : Nat} (H : Keeps M A d) (HM : Within 50331656 M) :
    Keeps M A (fxGetMeasurements d sid hash) := by
  unfold fxGetMeasurements
  refine keeps_spdm H (within_trans HM rfl) (fun _ k => ?_)
  refine Keeps.ite (fun _ => keeps_emit k (within_trans HM rfl)) (fun _ => ?_)
  split
  · rename_i e
    exact keeps_emit (Keeps.fst e (keeps_spdmSign k (within_trans HM rfl))) (within_trans HM rfl)

theorem keeps_fxGetReport {M : Nat} {A : Dev} {d : Dev} {nonce : List Byte} (H : Keeps M A d) (HM : Within 33685512 M) :
    Keeps M A (fxGetReport d nonce) := by
  unfold fxGetReport
  refine keeps_spdm H (within_trans HM rfl) (fun _ k => ?_)
  extract_lets +onlyGivenNames recent
  try clear_value recent
  refine Keeps.ite (fun _ => keeps_emit k (within_trans HM rfl)) (fun _ => ?_)
  refine Keeps.ite (fun _ => keeps_emit k (within_trans HM rfl)) (fun _ => ?_)
  extract_lets +onlyGivenNames body
  try clear_value body
  extract_lets +onlyGivenNames q
  try clear_value q
  extract_lets +onlyGivenNames sig
  try clear_value sig
  exact keeps_emit (keeps_updSec k (within_trans HM rfl)) (within_trans HM rfl)

theorem keeps_fxGetDeviceCert {M : Nat} {A : Dev} {d : Dev} {off len : Nat} (H : Keeps M A d) (HM : Within 33554440 M) :
    Keeps M A (fxGetDeviceCert d off len) := by
  unfold fxGetDeviceCert
  exact keeps_spdm H HM (fun _ k => keeps_emit k (within_trans HM rfl))

theorem keeps_updBne {M : Nat} {A : Dev} {d : Dev} {u : Bne → Bne} (H : Keeps M A d) (HM : Within 33685512 M) :
    Keeps M A (Dev.updBne d u) := by
  unfold Dev.updBne
  exact keeps_updSec H (within_trans HM rfl)

theorem keeps_fxBneReqPush {M : Nat} {A : Dev} {d : Dev} {rcd : List Byte} (H : Keeps M A d) (HM : Within 33685512 M) :
    Keeps M A (fxBneReqPush d rcd) := by
  unfold fxBneReqPush
  exact keeps_updBne H HM

theorem keeps_bnWrite {M : Nat} {A : Dev} {d : Dev} {a : Nat} {b : List Byte} (H : Keeps M A d) (HM : Within 33559115 M) :
    Keeps M A (Dev.bnWrite d a b) := by
  unfold Dev.bnWrite
  refine Keeps.ite (fun _ => keeps_hostWrite H (within_trans HM rfl)) (fun _ => ?_)
  split
  · exact keeps_hbmWrite H HM
  · exact H

theorem keeps_bnDone {M : Nat} {A : Dev} {d : Dev} {r : List Byte} {code : Nat} (H : Keeps M A d) (HM : Within 33559115 M) :
    Keeps M A (Dev.bnDone d r code) := by
  unfold Dev.bnDone
  extract_lets +onlyGivenNames a
  try clear_value a
  exact Keeps.ite (fun _ => keeps_bnWrite H HM) (fun _ => H)

theorem keeps_bnFault {M : Nat} {A : Dev} {d : Dev} {code detail : Nat} (H : Keeps M A d) (HM : Within 33558536 M) :
    Keeps M A (Dev.bnFault d code detail) := by
  unfold Dev.bnFault
  exact keeps_fnFault H HM

theorem keeps_fxBneRequestStart {M : Nat} {A : Dev} {d : Dev} (H : Keeps M A d) (HM : Within 33690187 M) :
    Keeps M A (fxBneRequestStart d) := by
  unfold fxBneRequestStart
  extract_lets +onlyGivenNames b
  try clear_value b
  split
  · exact H
  · refine Keeps.ite (fun _ => H) (fun _ => ?_)
    extract_lets +onlyGivenNames d1
    have k1 : Keeps M A d1 := keeps_updBne H (within_trans HM rfl)
    try clear_value d1
    extract_lets +onlyGivenNames ended
    subst ended
    split
    · exact keeps_updBne (keeps_bnFault (keeps_bnDone k1 (within_trans HM rfl)) (within_trans HM rfl)) (within_trans HM rfl)
    · extract_lets +onlyGivenNames l
      try clear_value l
      split
      · exact keeps_updBne (keeps_bnFault (keeps_bnDone k1 (within_trans HM rfl)) (within_trans HM rfl)) (within_trans HM rfl)
      · exact keeps_updBne k1 (within_trans HM rfl)

theorem keeps_fxBneFetchDone {M : Nat} {A : Dev} {d : Dev} {host : List Byte} {bad : Option Nat} (H : Keeps M A d) (HM : Within 33690187 M) :
    Keeps M A (fxBneFetchDone d host bad) := by
  unfold fxBneFetchDone
  split
  · exact H
  · refine Keeps.ite (fun _ => H) (fun _ => ?_)
    extract_lets +onlyGivenNames a
    try clear_value a
    extract_lets +onlyGivenNames len
    try clear_value len
    extract_lets +onlyGivenNames fail
    subst fail
    refine Keeps.ite (fun _ => ?_) (fun _ => ?_)
    · split
      · exact keeps_updBne (keeps_bnFault (Keeps.ite (fun _ => H) (fun _ => keeps_bnDone H (within_trans HM rfl))) (within_trans HM rfl)) (within_trans HM rfl)
      · exact keeps_updBne H (within_trans HM rfl)
    · refine Keeps.ite (fun _ => H) (fun _ => ?_)
      split
      · rename_i e
        exact keeps_updBne (keeps_bnFault (Keeps.ite (fun _ => Keeps.fst e (keeps_hbmRead H (within_trans HM rfl))) (fun _ => keeps_bnDone (Keeps.fst e (keeps_hbmRead H (within_trans HM rfl))) (within_trans HM rfl))) (within_trans HM rfl)) (within_trans HM rfl)
      · rename_i e
        exact keeps_updBne (Keeps.fst e (keeps_hbmRead H (within_trans HM rfl))) (within_trans HM rfl)

theorem keeps_violation {M : Nat} {A d : Dev} {bits : Nat} (H : Keeps M A d) (HM : Within 786431 M) :
    Keeps M A (d.violation bits) :=
  keeps_requestReset (Keeps.step 524288 H (within_trans HM rfl) (hv := .inl (within_or _ _))) (within_trans HM rfl)

theorem keeps_fxBneComputeDone {M : Nat} {A : Dev} {d : Dev} {mismatch : Bool} (H : Keeps M A d) (HM : Within 51118079 M) :
    Keeps M A (fxBneComputeDone d mismatch) := by
  unfold fxBneComputeDone
  split
  · exact H
  · refine Keeps.ite (fun _ => H) (fun _ => ?_)
    extract_lets +onlyGivenNames op
    try clear_value op
    extract_lets +onlyGivenNames bits
    try clear_value bits
    extract_lets +onlyGivenNames out
    try clear_value out
    split
    · rename_i e
      extract_lets +onlyGivenNames res
      try clear_value res
      extract_lets +onlyGivenNames d1
      have k1 : Keeps M A d1 := keeps_updBne (Keeps.snd e (keeps_draw H (within_trans HM rfl))) (within_trans HM rfl)
      try clear_value d1
      extract_lets +onlyGivenNames d2
      have k2 : Keeps M A d2 := by
        subst d2
        refine Keeps.ite (fun _ => k1) (fun _ => ?_)
        split
        · exact keeps_bnDone (keeps_bnWrite k1 (within_trans HM rfl)) (within_trans HM rfl)
        · exact keeps_updBne (keeps_bnFault (keeps_bnDone (keeps_bnWrite k1 (within_trans HM rfl)) (within_trans HM rfl)) (within_trans HM rfl)) (within_trans HM rfl)
      try clear_value d2
      exact Keeps.ite (fun _ => keeps_violation k2 (within_trans HM rfl)) (fun _ => k2)

theorem keeps_fxBneWipeDone {M : Nat} {A : Dev} {d : Dev} (H : Keeps M A d) (HM : Within 33685512 M) :
    Keeps M A (fxBneWipeDone d) := by
  unfold fxBneWipeDone
  exact Keeps.ite (fun _ => keeps_updBne H HM) (fun _ => H)

theorem keeps_fxSecurityViolation {M : Nat} {A : Dev} {d : Dev} {bits : Nat} (H : Keeps M A d) (HM : Within 786431 M) :
    Keeps M A (fxSecurityViolation d bits) := by
  unfold fxSecurityViolation
  exact Keeps.ite (fun _ => H) (fun _ => keeps_violation H HM)

end Sys2Proof.Machine
end

