-- ==== Sys2Proof/Laws/KeepsDevice.lean ====
section
/-! SUPPORT. What the operations of resilience, starting, the end of jobs, registers and time keep, each in a mask
of the parts of the device it may change (`Keeps`). -/

set_option Elab.async false

namespace Sys2Proof.Machine

theorem keeps_updPdd {M : Nat} {A : Dev} {d : Dev} {u : Pdd → Pdd} (H : Keeps M A d) (HM : Within 65536 M) :
    Keeps M A (Dev.updPdd d u) := by
  unfold Dev.updPdd
  exact Keeps.step 65536 H HM

theorem keeps_markFailed {M : Nat} {A : Dev} {d : Dev} {c p : Nat} {on : Bool} (H : Keeps M A d) (HM : Within 73728 M) :
    Keeps M A (Dev.markFailed d c p on) := by
  unfold Dev.markFailed
  extract_lets +onlyGivenNames l
  try clear_value l
  exact keeps_updPdd (Keeps.step 8192 H (within_trans HM rfl)) (within_trans HM rfl)

theorem keeps_failCore {M : Nat} {A : Dev} {d : Dev} {c p ev : Nat} (H : Keeps M A d) (HM : Within 50410063 M) :
    Keeps M A (Dev.failCore d c p ev) := by
  unfold Dev.failCore
  refine Keeps.ite (fun _ => H) (fun _ => ?_)
  extract_lets +onlyGivenNames d1
  have k1 : Keeps M A d1 := keeps_markFailed H (within_trans HM rfl)
  try clear_value d1
  split
  · exact k1
  · extract_lets +onlyGivenNames g
    try clear_value g
    extract_lets +onlyGivenNames detail
    try clear_value detail
    extract_lets +onlyGivenNames d2
    have k2 : Keeps M A d2 := keeps_updPdd k1 (within_trans HM rfl)
    try clear_value d2
    split
    · exact k2
    · extract_lets +onlyGivenNames s
      try clear_value s
      extract_lets +onlyGivenNames e
      try clear_value e
      extract_lets +onlyGivenNames index
      try clear_value index
      exact keeps_jobFault (keeps_cutBlock k2 (within_trans HM rfl)) (within_trans HM rfl)

theorem keeps_fxCoreFail {M : Nat} {A : Dev} {d : Dev} {c p ev : Nat} (H : Keeps M A d) (HM : Within 50410063 M) :
    Keeps M A (fxCoreFail d c p ev) := by
  unfold fxCoreFail
  exact keeps_failCore H HM

theorem keeps_fxSpareSubstitution {M : Nat} {A d : Dev} {c : Nat} (H : Keeps M A d) (HM : Within 65537 M) :
    Keeps M A (fxSpareSubstitution d c) := by
  unfold fxSpareSubstitution
  split
  · exact H
  · extract_lets +onlyGivenNames d1
    have k : Keeps M A d1 := keeps_updPdd H (within_trans HM rfl)
    clear_value d1
    split
    · exact keeps_updPdd (keeps_setCore k (within_trans HM rfl) fun _ => rfl) (within_trans HM rfl)
    · exact keeps_updPdd k (within_trans HM rfl)

theorem keeps_updTest {M : Nat} {A : Dev} {d : Dev} {die : Nat} {u : SelfTest → SelfTest} (H : Keeps M A d) (HM : Within 65536 M) :
    Keeps M A (Dev.updTest d die u) := by
  unfold Dev.updTest
  exact keeps_updPdd H HM

theorem keeps_selftestCtrl {M : Nat} {A : Dev} {d : Dev} {die v : Nat} {a : Agent} {e : Bool} (H : Keeps M A d) (HM : Within 65544 M) :
    Keeps M A (Dev.selftestCtrl d die v a e) := by
  unfold Dev.selftestCtrl
  extract_lets +onlyGivenNames t
  try clear_value t
  extract_lets +onlyGivenNames retest
  try clear_value retest
  extract_lets +onlyGivenNames d1
  have k : Keeps M A d1 := Keeps.ite (fun _ => keeps_ifExpert H (within_trans HM rfl) (fun _ k1 => keeps_updTest k1 (within_trans HM rfl))) (fun _ => H)
  try clear_value d1
  extract_lets +onlyGivenNames d2
  have k1 : Keeps M A d2 := keeps_updTest k (within_trans HM rfl)
  try clear_value d2
  exact Keeps.ite (fun _ => k1) (fun _ => Keeps.ite (fun _ => keeps_updTest k1 (within_trans HM rfl)) (fun _ => keeps_updTest k1 (within_trans HM rfl)))

theorem keeps_fxPddSelftestGo {M : Nat} {A : Dev} {d : Dev} {die v : Nat} {a : Agent} (H : Keeps M A d) (HM : Within 65544 M) :
    Keeps M A (fxPddSelftestGo d die v a) := by
  unfold fxPddSelftestGo
  exact keeps_selftestCtrl H HM

theorem keeps_fxSelftestStart {M : Nat} {A : Dev} {d : Dev} {die : Nat} (H : Keeps M A d) (HM : Within 65536 M) :
    Keeps M A (fxSelftestStart d die) := by
  unfold fxSelftestStart
  extract_lets +onlyGivenNames t
  try clear_value t
  refine Keeps.ite (fun _ => H) (fun _ => ?_)
  split
  · exact Keeps.ite (fun _ => keeps_updTest H HM) (fun _ => H)
  · exact keeps_updTest H HM

theorem keeps_fxSelftestEnd {M : Nat} {A : Dev} {d : Dev} {die : Nat} {pass : Bool} (H : Keeps M A d) (HM : Within 50410063 M) :
    Keeps M A (fxSelftestEnd d die pass) := by
  unfold fxSelftestEnd
  extract_lets +onlyGivenNames t
  try clear_value t
  refine Keeps.ite (fun _ => H) (fun _ => ?_)
  extract_lets +onlyGivenNames c
  try clear_value c
  extract_lets +onlyGivenNames p
  try clear_value p
  extract_lets +onlyGivenNames d1
  have k1 : Keeps M A d1 := by
    subst d1
    split
    · exact keeps_updCore H (within_trans HM rfl) (fun _ k1 => ls_wipe _ k1)
    · exact H
  try clear_value d1
  extract_lets +onlyGivenNames d2
  have k2 : Keeps M A d2 := keeps_updTest k1 (within_trans HM rfl)
  try clear_value d2
  exact Keeps.ite (fun _ => Keeps.ite (fun _ => keeps_markFailed k2 (within_trans HM rfl)) (fun _ => k2)) (fun _ => keeps_failCore k2 HM)

theorem keeps_fxPairingMessage {M : Nat} {A : Dev} {d : Dev} {l feed : Nat} {answer : Option Bool} (H : Keeps M A d) (HM : Within 33625096 M) :
    Keeps M A (fxPairingMessage d l feed answer) := by
  unfold fxPairingMessage
  extract_lets +onlyGivenNames far
  try clear_value far
  refine Keeps.ite (fun _ => H) (fun _ => ?_)
  split
  · refine Keeps.ite (fun _ => H) (fun _ => ?_)
    extract_lets +onlyGivenNames same
    try clear_value same
    extract_lets +onlyGivenNames d1
    have k2 : Keeps M A d1 := keeps_updPdd H (within_trans HM rfl)
    try clear_value d1
    exact Keeps.ite (fun _ => keeps_sendCtl (keeps_fnFault (keeps_updPdd k2 (within_trans HM rfl)) (within_trans HM rfl)) (within_trans HM rfl)) (fun _ => keeps_sendCtl (keeps_updPdd k2 (within_trans HM rfl)) (within_trans HM rfl))
  · split
    · exact keeps_updSlot H (within_trans HM rfl)
    · exact H

theorem keeps_reqDone {M : Nat} {A : Dev} {d : Dev} {q : PddReq} {addr code : Nat} (H : Keeps M A d) (HM : Within 33559115 M) :
    Keeps M A (Dev.reqDone d q addr code) := by
  unfold Dev.reqDone
  split
  · exact keeps_hbmWrite H HM
  · exact H

theorem keeps_reqFault {M : Nat} {A : Dev} {d : Dev} {q : PddReq} {code detail : Nat} (H : Keeps M A d) (HM : Within 33558603 M) :
    Keeps M A (Dev.reqFault d q code detail) := by
  unfold Dev.reqFault
  extract_lets +onlyGivenNames r
  try clear_value r
  split
  · exact keeps_jobFault H HM
  · exact keeps_fnFault H (within_trans HM rfl)

theorem keeps_fxPddCommitPush {M : Nat} {A : Dev} {d : Dev} {a : Agent} {rcd : List Byte} (H : Keeps M A d) (HM : Within 33620992 M) :
    Keeps M A (fxPddCommitPush d a rcd) := by
  unfold fxPddCommitPush
  extract_lets +onlyGivenNames q
  try clear_value q
  extract_lets +onlyGivenNames d1
  have k : Keeps M A d1 := keeps_updPdd H (within_trans HM rfl)
  try clear_value d1
  split
  · exact keeps_sendCtl k (within_trans HM rfl)
  · exact k

theorem keeps_fxCommitReceive {M : Nat} {A : Dev} {d : Dev} {l : Nat} {rcd : List Byte} (H : Keeps M A d) (HM : Within 50402895 M) :
    Keeps M A (fxCommitReceive d l rcd) := by
  unfold fxCommitReceive
  extract_lets +onlyGivenNames b
  try clear_value b
  extract_lets +onlyGivenNames step
  try clear_value step
  extract_lets +onlyGivenNames digest
  try clear_value digest
  extract_lets +onlyGivenNames fail
  subst fail
  refine Keeps.ite (fun _ => H) (fun _ => ?_)
  split
  · exact keeps_sendCtl (keeps_updPdd H (within_trans HM rfl)) (within_trans HM rfl)
  · extract_lets +onlyGivenNames x
    try clear_value x
    extract_lets +onlyGivenNames done
    subst done
    refine Keeps.ite (fun _ => Keeps.ite (fun _ => keeps_sendCtl (keeps_resetTaps (keeps_updPdd (keeps_updSlot H (within_trans HM rfl)) (within_trans HM rfl)) (within_trans HM rfl)) (within_trans HM rfl)) (fun _ => keeps_sendCtl (keeps_updPdd H (within_trans HM rfl)) (within_trans HM rfl))) (fun _ => ?_)
    refine Keeps.ite (fun _ => keeps_sendCtl (keeps_updPdd H (within_trans HM rfl)) (within_trans HM rfl)) (fun _ => ?_)
    refine Keeps.ite (fun _ => keeps_sendCtl (keeps_updPdd H (within_trans HM rfl)) (within_trans HM rfl)) (fun _ => ?_)
    split
    · exact keeps_sendCtl (keeps_updPdd H (within_trans HM rfl)) (within_trans HM rfl)
    · extract_lets +onlyGivenNames d1
      have k4 : Keeps M A d1 := keeps_resetTaps (keeps_updPdd (keeps_updSlot H (within_trans HM rfl)) (within_trans HM rfl)) (within_trans HM rfl)
      try clear_value d1
      exact keeps_sendCtl k4 (within_trans HM rfl)

theorem keeps_fxCommitAnswer {M : Nat} {A : Dev} {d : Dev} {l code detail : Nat} {mirrored : Bool} (H : Keeps M A d) (HM : Within 33624651 M) :
    Keeps M A (fxCommitAnswer d l code detail mirrored) := by
  unfold fxCommitAnswer
  refine Keeps.ite (fun _ => H) (fun _ => ?_)
  split
  · exact H
  · extract_lets +onlyGivenNames d1
    have k1 : Keeps M A d1 := keeps_reqDone (keeps_updPdd H (within_trans HM rfl)) (within_trans HM rfl)
    try clear_value d1
    exact Keeps.ite (fun _ => keeps_updPdd k1 (within_trans HM rfl)) (fun _ => keeps_reqFault k1 (within_trans HM rfl))

theorem keeps_fxPddDigestPush {M : Nat} {A : Dev} {d : Dev} {a : Agent} {rcd : List Byte} (H : Keeps M A d) (HM : Within 65536 M) :
    Keeps M A (fxPddDigestPush d a rcd) := by
  unfold fxPddDigestPush
  exact keeps_updPdd H HM

theorem keeps_digestRanges {M : Nat} {A d : Dev} {q : PddReq} {y0 : List (Nat × Nat)} (H : Keeps M A d)
    (HM : Within 33559115 M) : Keeps M A (d.digestRanges q y0).1 := by
  induction y0 generalizing d with
  | nil => exact H
  | cons p t ih =>
    unfold Dev.digestRanges
    split
    · exact H
    · extract_lets d1
      have k : Keeps M A d1 := keeps_updMem H (within_trans HM rfl) fun m h => hbm_updPart _ _ _ h
      split
      · rename_i e; exact Keeps.fst e (keeps_hbmRead k (within_trans HM rfl))
      · rename_i e
        have k1 := Keeps.fst e (keeps_hbmRead k (within_trans HM rfl))
        split
        · rename_i e; exact Keeps.fst e (ih k1)
        · rename_i e; exact Keeps.fst e (ih k1)

theorem keeps_fxDigestDone {M : Nat} {A : Dev} {d : Dev} (H : Keeps M A d) (HM : Within 33624651 M) :
    Keeps M A (fxDigestDone d) := by
  unfold fxDigestDone
  split
  · exact H
  · extract_lets +onlyGivenNames list
    try clear_value list
    extract_lets +onlyGivenNames n
    try clear_value n
    refine Keeps.ite (fun _ => H) (fun _ => ?_)
    extract_lets +onlyGivenNames d1
    have k1 : Keeps M A d1 := keeps_updPdd H (within_trans HM rfl)
    try clear_value d1
    extract_lets +onlyGivenNames done
    try clear_value done
    extract_lets +onlyGivenNames fail
    subst fail
    refine Keeps.ite (fun _ => keeps_reqFault (keeps_reqDone k1 (within_trans HM rfl)) (within_trans HM rfl)) (fun _ => ?_)
    split
    · rename_i e
      exact keeps_reqFault (keeps_reqDone (Keeps.fst e (keeps_hbmRead k1 (within_trans HM rfl))) (within_trans HM rfl)) (within_trans HM rfl)
    · rename_i e
      split
      · rename_i e1
        exact keeps_reqFault (keeps_reqDone (Keeps.fst e1 (keeps_digestRanges (Keeps.fst e (keeps_hbmRead k1 (within_trans HM rfl))) (within_trans HM rfl))) (within_trans HM rfl)) (within_trans HM rfl)
      · rename_i e1
        split
        · exact keeps_reqDone (keeps_hbmWrite (Keeps.fst e1 (keeps_digestRanges (Keeps.fst e (keeps_hbmRead k1 (within_trans HM rfl))) (within_trans HM rfl))) (within_trans HM rfl)) (within_trans HM rfl)
        · exact keeps_reqFault (Keeps.fst e1 (keeps_digestRanges (Keeps.fst e (keeps_hbmRead k1 (within_trans HM rfl))) (within_trans HM rfl))) (within_trans HM rfl)

theorem keeps_noteLost {M : Nat} {A : Dev} {d : Dev} (H : Keeps M A d) (HM : Within 65536 M) :
    Keeps M A (Dev.noteLost d) := by
  unfold Dev.noteLost
  extract_lets +onlyGivenNames mark
  try clear_value mark
  exact keeps_updPdd H HM

theorem keeps_fxLostWaitExpiry {M : Nat} {A : Dev} {d : Dev} {w : Nat} (H : Keeps M A d) (HM : Within 33624072 M) :
    Keeps M A (fxLostWaitExpiry d w) := by
  unfold fxLostWaitExpiry
  extract_lets +onlyGivenNames lim
  try clear_value lim
  extract_lets +onlyGivenNames due
  try clear_value due
  extract_lets +onlyGivenNames rcd
  try clear_value rcd
  refine Keeps.ite (fun _ => Keeps.ite (fun _ => keeps_fnFault (keeps_updPdd H (within_trans HM rfl)) (within_trans HM rfl)) (fun _ => H)) (fun _ => ?_)
  extract_lets +onlyGivenNames x
  try clear_value x
  exact Keeps.ite (fun _ => H) (fun _ => Keeps.ite (fun _ => keeps_fnFault (keeps_updSlot H (within_trans HM rfl)) (within_trans HM rfl)) (fun _ => keeps_fnFault (keeps_updSlot H (within_trans HM rfl)) (within_trans HM rfl)))

theorem keeps_updRst {M : Nat} {A : Dev} {d : Dev} {u : Rst → Rst} (H : Keeps M A d) (HM : Within 4096 M) :
    Keeps M A (Dev.updRst d u) := by
  unfold Dev.updRst
  exact Keeps.step 4096 H HM

theorem keeps_countFails {M : Nat} {A : Dev} {d : Dev} (H : Keeps M A d) (HM : Within 2105344 M) :
    Keeps M A (Dev.countFails d) := by
  unfold Dev.countFails
  extract_lets +onlyGivenNames d1
  try clear_value d1
  extract_lets +onlyGivenNames d2
  have k : Keeps M A d2 := Keeps.ite (fun _ => Keeps.step 8192 H (within_trans HM rfl)) (fun _ => H)
  try clear_value d2
  extract_lets +onlyGivenNames d3
  try clear_value d3
  extract_lets +onlyGivenNames d4
  try clear_value d4
  extract_lets +onlyGivenNames d5
  have k1 : Keeps M A d5 := Keeps.ite (fun _ => Keeps.step 2105344 k HM) (fun _ => k)
  try clear_value d5
  exact Keeps.step 8192 k1 (within_trans HM rfl)

theorem keeps_lodestar {M : Nat} {A : Dev} {d : Dev} (H : Keeps M A d) (HM : Within 52604936 M) :
    Keeps M A (Dev.lodestar d) := by
  unfold Dev.lodestar
  extract_lets +onlyGivenNames d1
  have k : Keeps M A d1 := keeps_updSec (keeps_updRst H (within_trans HM rfl)) (within_trans HM rfl)
  try clear_value d1
  extract_lets +onlyGivenNames d2
  try clear_value d2
  extract_lets +onlyGivenNames d3
  have k1 : Keeps M A d3 := keeps_drawKeys (Keeps.step 8192 k (within_trans HM rfl)) (within_trans HM rfl)
  try clear_value d3
  split
  · exact Keeps.ite (fun _ => k1) (fun _ => keeps_loadPackage k1 (within_trans HM rfl))
  · exact k1

theorem keeps_step4 {M : Nat} {A : Dev} {d : Dev} (H : Keeps M A d) (HM : Within 52604936 M) :
    Keeps M A (Dev.step4 d) := by
  unfold Dev.step4
  extract_lets +onlyGivenNames d1
  have k : Keeps M A d1 := keeps_countFails H (within_trans HM rfl)
  try clear_value d1
  exact Keeps.ite (fun _ => keeps_lodestar k HM) (fun _ => Keeps.ite (fun _ => keeps_loadPackage k (within_trans HM rfl)) (fun _ => k))

theorem keeps_railNotice {M : Nat} {A : Dev} {d : Dev} (H : Keeps M A d) (HM : Within 3145728 M) :
    Keeps M A (Dev.railNotice d) := by
  unfold Dev.railNotice
  exact Keeps.ite (fun _ => Keeps.step 3145728 H HM) (fun _ => H)

theorem keeps_step7 {M : Nat} {A : Dev} {d : Dev} {norOk : Bool} (H : Keeps M A d) (HM : Within 52690696 M) :
    Keeps M A (Dev.step7 d norOk) := by
  unfold Dev.step7
  extract_lets +onlyGivenNames d1
  have k : Keeps M A d1 := keeps_readRecord H (within_trans HM rfl)
  try clear_value d1
  refine Keeps.ite (fun _ => k) (fun _ => ?_)
  extract_lets +onlyGivenNames d2
  have k2 : Keeps M A d2 := keeps_updRst k (within_trans HM rfl)
  try clear_value d2
  exact Keeps.ite (fun _ => keeps_updMem k2 (within_trans HM rfl) (fun _ k4 => k4)) (fun _ => k2)

theorem keeps_step8 {M : Nat} {A : Dev} {d : Dev} {badPll : List Nat} (H : Keeps M A d) (HM : Within 50412111 M) :
    Keeps M A (Dev.step8 d badPll) := by
  unfold Dev.step8
  extract_lets +onlyGivenNames up
  try clear_value up
  extract_lets +onlyGivenNames d1
  have k : Keeps M A d1 := keeps_updMem H (within_trans HM rfl) (fun _ k => hbm_updFab _ _ _ (hbm_updFab _ _ _ k))
  try clear_value d1
  extract_lets +onlyGivenNames d2
  subst d2
  extract_lets +onlyGivenNames d2
  have k1 : Keeps M A d2 := Keeps.step 2048 k (within_trans HM rfl)
  try clear_value d2
  exact Keeps.foldl k1 (fun _ _ k2 => keeps_forAll k2 (within_trans HM rfl) (fun _ _ k3 => keeps_failCore k3 (within_trans HM rfl)))

theorem keeps_step9 {M : Nat} {A : Dev} {d : Dev} {bad : List Nat} (H : Keeps M A d) (HM : Within 52605448 M) :
    Keeps M A (Dev.step9 d bad) := by
  unfold Dev.step9
  extract_lets +onlyGivenNames d1
  have k : Keeps M A d1 := keeps_updMem H (within_trans HM rfl) (fun _ k => hbm_wipe _ (hbm_foldl k (fun _ _ k1 => hbm_updChan _ _ _ k1)))
  try clear_value d1
  exact keeps_updRst k (within_trans HM rfl)

theorem keeps_startEngine {M : Nat} {A : Dev} {d : Dev} {e : Nat} (H : Keeps M A d) (HM : Within 1024 M) :
    Keeps M A (Dev.startEngine d e) := by
  unfold Dev.startEngine
  exact Keeps.ite (fun _ => keeps_updOpt H HM) (fun _ => Keeps.ite (fun _ => keeps_updOpt H HM) (fun _ => keeps_updOpt H HM))

theorem keeps_startLink {M : Nat} {A : Dev} {d : Dev} {l : Nat} (H : Keeps M A d) (HM : Within 33621001 M) :
    Keeps M A (Dev.startLink d l) := by
  unfold Dev.startLink
  refine Keeps.ite (fun _ => ?_) (fun _ => H)
  extract_lets +onlyGivenNames d1
  have k1 : Keeps M A d1 := keeps_linkState H (within_trans HM rfl)
  try clear_value d1
  exact Keeps.ite (fun _ => k1) (fun _ => keeps_failLink k1 HM)

theorem keeps_fxStartStepDone {M : Nat} {A : Dev} {d : Dev} {n : Nat} {norOk : Bool} {bad : List Nat} (H : Keeps M A d) (HM : Within 53739343 M) :
    Keeps M A (fxStartStepDone d n norOk bad) := by
  unfold fxStartStepDone
  refine Keeps.ite (fun _ => H) (fun _ => ?_)
  refine Keeps.ite (fun _ => keeps_step7 H (within_trans HM rfl)) (fun _ => ?_)
  extract_lets +onlyGivenNames d1
  have k2 : Keeps M A d1 := keeps_updRst H (within_trans HM rfl)
  try clear_value d1
  split
  · exact keeps_step4 k2 (within_trans HM rfl)
  · exact keeps_railNotice k2 (within_trans HM rfl)
  · exact keeps_step8 k2 (within_trans HM rfl)
  · exact keeps_step9 k2 (within_trans HM rfl)
  · exact keeps_forAll (keeps_forAll k2 (within_trans HM rfl) (fun _ _ k3 => keeps_startEngine k3 (within_trans HM rfl))) (within_trans HM rfl) (fun _ _ k3 => keeps_startLink k3 (within_trans HM rfl))
  · exact k2

theorem keeps_burnRevoke {M : Nat} {A d : Dev} (H : Keeps M A d) (HM : Within 262144 M) : Keeps M A d.burnRevoke := by
  unfold Dev.burnRevoke
  extract_lets k i
  split
  · refine Keeps.step 262144 H HM (hb := ⟨rfl, rfl, rfl, rfl, fun i h => ?_, fun _ => Nat.le_refl _⟩)
    simp only [bit, Nat.testBit_or, Bool.or_eq_true]
    exact .inl h
  · exact H

theorem keeps_fxStartConfirm {M : Nat} {A : Dev} {d : Dev} (H : Keeps M A d) (HM : Within 52867272 M) :
    Keeps M A (fxStartConfirm d) := by
  unfold fxStartConfirm
  refine Keeps.ite (fun _ => ?_) (fun _ => H)
  extract_lets +onlyGivenNames d1
  have k1 : Keeps M A d1 := keeps_updRst H (within_trans HM rfl)
  try clear_value d1
  extract_lets +onlyGivenNames d2
  try clear_value d2
  extract_lets +onlyGivenNames d3
  have k2 : Keeps M A d3 := Keeps.step 8192 k1 (within_trans HM rfl)
  try clear_value d3
  extract_lets +onlyGivenNames d4
  have k3 : Keeps M A d4 := keeps_burnRevoke (Keeps.foldl k2 (fun _ _ k3 => keeps_noteSvn k3 (within_trans HM rfl))) (within_trans HM rfl)
  try clear_value d4
  extract_lets +onlyGivenNames d5
  try clear_value d5
  extract_lets +onlyGivenNames d6
  try clear_value d6
  extract_lets +onlyGivenNames d7
  have k4 : Keeps M A d7 := Keeps.ite (fun _ => Keeps.step 40960 k3 (within_trans HM rfl)) (fun _ => k3)
  try clear_value d7
  exact keeps_forAll (keeps_msix k4 (within_trans HM rfl)) (within_trans HM rfl) (fun _ _ k5 => keeps_evalExpected k5 (within_trans HM rfl))

theorem keeps_resetCore {M : Nat} {A d : Dev} {g : Nat} (H : Keeps M A d) (HM : Within 1 M) : Keeps M A (d.resetCore g) :=
  keeps_setCore H HM fun _ => rfl

theorem keeps_stopTest {M : Nat} {A : Dev} {d : Dev} {h : Nat} (H : Keeps M A d) (HM : Within 16777728 M) :
    Keeps M A (Dev.stopTest d h) := by
  unfold Dev.stopTest
  refine Keeps.ite (fun _ => ?_) (fun _ => H)
  split
  · rename_i e
    split
    · rename_i e1
      split
      · rename_i e2
        split
        · rename_i e3
          exact keeps_tgcEnd (Keeps.snd e3 (keeps_draw (Keeps.snd e2 (keeps_draw (Keeps.snd e1 (keeps_draw (Keeps.snd e (keeps_draw H (within_trans HM rfl))) (within_trans HM rfl))) (within_trans HM rfl))) (within_trans HM rfl))) (within_trans HM rfl)

theorem keeps_beginPart {M : Nat} {A : Dev} {d : Dev} {kind idx : Nat} (H : Keeps M A d) (HM : Within 50400779 M) :
    Keeps M A (Dev.beginPart d kind idx) := by
  unfold Dev.beginPart
  split
  · exact keeps_resetCore H (within_trans HM rfl)
  · extract_lets +onlyGivenNames d1
    have k : Keeps M A d1 := keeps_forAll H (within_trans HM rfl) (fun _ _ k => keeps_resetCore k (within_trans HM rfl))
    try clear_value d1
    extract_lets +onlyGivenNames d2
    try clear_value d2
    extract_lets +onlyGivenNames d3
    have k1 : Keeps M A d3 := keeps_updMem k (within_trans HM rfl) (fun _ k1 => hbm_updXch _ _ _ k1)
    try clear_value d3
    exact Keeps.step 2048 k1 (within_trans HM rfl)
  · extract_lets +onlyGivenNames d1
    have k : Keeps M A d1 := keeps_stopTest H (within_trans HM rfl)
    try clear_value d1
    exact keeps_updMem k (within_trans HM rfl) (fun _ k1 => hbm_updChan _ _ _ k1)
  · exact keeps_updLink (keeps_failLink H (within_trans HM rfl)) (within_trans HM rfl)
  · exact keeps_forAll (keeps_updOpt H (within_trans HM rfl)) (within_trans HM rfl) (fun _ _ k => keeps_failLink k (within_trans HM rfl))
  · exact keeps_updApp H (within_trans HM rfl)

theorem keeps_partReset {M : Nat} {A : Dev} {d : Dev} {kind idx : Nat} {a : Agent} (H : Keeps M A d) (HM : Within 52674059 M) :
    Keeps M A (Dev.partReset d kind idx a) := by
  unfold Dev.partReset
  refine keeps_ifExpert H (within_trans HM rfl) (fun _ k => ?_)
  refine Keeps.ite (fun _ => keeps_updRst k (within_trans HM rfl)) (fun _ => ?_)
  extract_lets +onlyGivenNames d1
  have k2 : Keeps M A d1 := keeps_updRst k (within_trans HM rfl)
  try clear_value d1
  refine Keeps.ite (fun _ => keeps_updRst k2 (within_trans HM rfl)) (fun _ => ?_)
  extract_lets +onlyGivenNames free
  try clear_value free
  extract_lets +onlyGivenNames d2
  have k4 : Keeps M A d2 := keeps_updRst k2 (within_trans HM rfl)
  try clear_value d2
  exact Keeps.ite (fun _ => keeps_beginPart k4 (within_trans HM rfl)) (fun _ => k4)

theorem keeps_fxPartResetCore {M : Nat} {A : Dev} {d : Dev} {g : Nat} {a : Agent} (H : Keeps M A d) (HM : Within 52674059 M) :
    Keeps M A (fxPartResetCore d g a) := by
  unfold fxPartResetCore
  exact keeps_partReset H HM

theorem keeps_fxPartResetCluster {M : Nat} {A : Dev} {d : Dev} {c : Nat} {a : Agent} (H : Keeps M A d) (HM : Within 52674059 M) :
    Keeps M A (fxPartResetCluster d c a) := by
  unfold fxPartResetCluster
  exact keeps_partReset H HM

theorem keeps_fxPartResetHbmChannel {M : Nat} {A : Dev} {d : Dev} {h : Nat} {a : Agent} (H : Keeps M A d) (HM : Within 52674059 M) :
    Keeps M A (fxPartResetHbmChannel d h a) := by
  unfold fxPartResetHbmChannel
  exact keeps_partReset H HM

theorem keeps_fxPartResetLink {M : Nat} {A : Dev} {d : Dev} {l : Nat} {a : Agent} (H : Keeps M A d) (HM : Within 52674059 M) :
    Keeps M A (fxPartResetLink d l a) := by
  unfold fxPartResetLink
  exact keeps_partReset H HM

theorem keeps_fxPartResetOptEngine {M : Nat} {A : Dev} {d : Dev} {e : Nat} {a : Agent} (H : Keeps M A d) (HM : Within 52674059 M) :
    Keeps M A (fxPartResetOptEngine d e a) := by
  unfold fxPartResetOptEngine
  exact keeps_partReset H HM

theorem keeps_fxPartResetAppCore {M : Nat} {A : Dev} {d : Dev} {k : Nat} {a : Agent} (H : Keeps M A d) (HM : Within 52674059 M) :
    Keeps M A (fxPartResetAppCore d k a) := by
  unfold fxPartResetAppCore
  exact keeps_partReset H HM

theorem keeps_fxPartResetStart {M : Nat} {A : Dev} {d : Dev} (H : Keeps M A d) (HM : Within 52674059 M) :
    Keeps M A (fxPartResetStart d) := by
  unfold fxPartResetStart
  exact Keeps.ite (fun _ => keeps_beginPart (keeps_updRst H (within_trans HM rfl)) (within_trans HM rfl)) (fun _ => H)

theorem keeps_endPart {M : Nat} {A : Dev} {d : Dev} {kind idx : Nat} {ok : Bool} (H : Keeps M A d) (HM : Within 50404943 M) :
    Keeps M A (Dev.endPart d kind idx ok) := by
  unfold Dev.endPart
  split
  · exact keeps_updCore H (within_trans HM rfl) (fun _ k => k)
  · extract_lets +onlyGivenNames d1
    have k : Keeps M A d1 := keeps_forAll H (within_trans HM rfl) (fun _ _ k => keeps_updCore k (within_trans HM rfl) (fun _ k1 => k1))
    try clear_value d1
    exact Keeps.step 2048 k (within_trans HM rfl)
  · exact keeps_serveHost (keeps_updMem H (within_trans HM rfl) (fun _ k => hbm_updChan _ _ _ k)) (within_trans HM rfl)
  · exact Keeps.ite (fun _ => keeps_startLink H (within_trans HM rfl)) (fun _ => H)
  · exact keeps_forAll (keeps_resumeEngine H (within_trans HM rfl)) (within_trans HM rfl) (fun _ _ k => keeps_startLink k (within_trans HM rfl))
  · exact keeps_updApp H (within_trans HM rfl)

theorem keeps_fxPartialResetDone {M : Nat} {A : Dev} {d : Dev} {ok : Bool} (H : Keeps M A d) (HM : Within 52674127 M) :
    Keeps M A (fxPartialResetDone d ok) := by
  unfold fxPartialResetDone
  extract_lets +onlyGivenNames r
  try clear_value r
  refine Keeps.ite (fun _ => ?_) (fun _ => H)
  extract_lets +onlyGivenNames d1
  have k1 : Keeps M A d1 := keeps_updRst (keeps_endPart H (within_trans HM rfl)) (within_trans HM rfl)
  try clear_value d1
  exact Keeps.ite (fun _ => Keeps.step 32768 k1 (within_trans HM rfl)) (fun _ => k1)

theorem keeps_fxDuskEntry {M : Nat} {A : Dev} {d : Dev} (H : Keeps M A d) (HM : Within 52608587 M) :
    Keeps M A (fxDuskEntry d) := by
  unfold fxDuskEntry
  refine Keeps.ite (fun _ => ?_) (fun _ => H)
  extract_lets +onlyGivenNames d1
  have k1 : Keeps M A d1 := keeps_flushWhere (keeps_flushWhere H (within_trans HM rfl)) (within_trans HM rfl)
  try clear_value d1
  extract_lets +onlyGivenNames d2
  have k2 : Keeps M A d2 := keeps_forAll k1 (within_trans HM rfl) (fun _ _ k2 => keeps_stopTest k2 (within_trans HM rfl))
  try clear_value d2
  extract_lets +onlyGivenNames d3
  have k3 : Keeps M A d3 := keeps_updMem k2 (within_trans HM rfl) (fun _ k3 => k3)
  try clear_value d3
  extract_lets +onlyGivenNames d4
  have k4 : Keeps M A d4 := Keeps.foldl k3 (fun _ _ k4 => Keeps.ite (fun _ => keeps_linkState k4 (within_trans HM rfl)) (fun _ => k4))
  try clear_value d4
  exact Keeps.step 2048 k4 (within_trans HM rfl)

theorem keeps_fxDuskWake {M : Nat} {A : Dev} {d : Dev} (H : Keeps M A d) (HM : Within 6144 M) :
    Keeps M A (fxDuskWake d) := by
  unfold fxDuskWake
  exact keeps_wakeUp H HM

theorem keeps_fxWakeComplete {M : Nat} {A : Dev} {d : Dev} (H : Keeps M A d) (HM : Within 33623753 M) :
    Keeps M A (fxWakeComplete d) := by
  unfold fxWakeComplete
  refine Keeps.ite (fun _ => ?_) (fun _ => H)
  extract_lets +onlyGivenNames d1
  have k1 : Keeps M A d1 := keeps_updMem H (within_trans HM rfl) (fun _ k1 => k1)
  try clear_value d1
  extract_lets +onlyGivenNames d2
  subst d2
  extract_lets +onlyGivenNames d2
  have k2 : Keeps M A d2 := Keeps.step 2048 k1 (within_trans HM rfl)
  try clear_value d2
  extract_lets +onlyGivenNames up
  try clear_value up
  extract_lets +onlyGivenNames d3
  have k3 : Keeps M A d3 := keeps_forAll (keeps_forAll k2 (within_trans HM rfl) (fun _ _ k3 => keeps_linkState k3 (within_trans HM rfl))) (within_trans HM rfl) (fun _ _ k3 => keeps_serve k3 (within_trans HM rfl))
  try clear_value d3
  exact keeps_forAll k3 (within_trans HM rfl) (fun _ _ k4 => keeps_evalExpected k4 (within_trans HM rfl))

theorem keeps_wipeOwner {M : Nat} {A : Dev} {d : Dev} {f : Nat} (H : Keeps M A d) (HM : Within 50467407 M) :
    Keeps M A (Dev.wipeOwner d f) := by
  unfold Dev.wipeOwner
  exact keeps_forAll H (within_trans HM rfl) (fun _ _ k => Keeps.ite (fun _ => keeps_wipeSlot k HM) (fun _ => k))

theorem keeps_fxJobStart {M : Nat} {A : Dev} {d : Dev} {f seq : Nat} (H : Keeps M A d) (HM : Within 50467407 M) :
    Keeps M A (fxJobStart d f seq) := by
  unfold fxJobStart
  extract_lets +onlyGivenNames y
  have k : Keeps M A y := keeps_jobStart H (within_trans HM rfl)
  try clear_value y
  split
  · exact k
  · exact Keeps.ite (fun _ => k) (fun _ => Keeps.foldl k (fun _ _ k2 => keeps_wipeOwner k2 HM))

theorem keeps_drainCore {M : Nat} {A : Dev} {d : Dev} {g : Nat} (H : Keeps M A d) (HM : Within 50336335 M) :
    Keeps M A (Dev.drainCore d g) := by
  unfold Dev.drainCore
  extract_lets +onlyGivenNames d1
  have k : Keeps M A d1 := keeps_leaveBound H (within_trans HM rfl)
  try clear_value d1
  extract_lets +onlyGivenNames d2
  have k1 : Keeps M A d2 := Keeps.foldl k (fun _ _ k1 => keeps_endBinding k1 (within_trans HM rfl))
  try clear_value d2
  extract_lets +onlyGivenNames d3
  have k2 : Keeps M A d3 := keeps_updMem k1 (within_trans HM rfl) (fun _ k2 => hbm_forget _ _ k2)
  try clear_value d3
  exact keeps_updCore k2 (within_trans HM rfl) (fun _ k3 => ls_foldl k3 (fun _ _ k4 => ls_updEng _ _ _ k4))

theorem keeps_abandonLinks {M : Nat} {A : Dev} {d : Dev} {g : Nat} (H : Keeps M A d) (HM : Within 50337359 M) :
    Keeps M A (Dev.abandonLinks d g) := by
  unfold Dev.abandonLinks
  extract_lets +onlyGivenNames mine
  try clear_value mine
  extract_lets +onlyGivenNames d1
  have k : Keeps M A d1 := keeps_updLane H (within_trans HM rfl)
  try clear_value d1
  exact keeps_updCore k (within_trans HM rfl) (fun _ k1 => k1)

theorem keeps_fxJobBoundary {M : Nat} {A : Dev} {d : Dev} {f seq : Nat} (H : Keeps M A d) (HM : Within 50337359 M) :
    Keeps M A (fxJobBoundary d f seq) := by
  unfold fxJobBoundary
  split
  · exact H
  · refine Keeps.ite (fun _ => ?_) (fun _ => H)
    extract_lets +onlyGivenNames d1
    have k1 : Keeps M A d1 := keeps_updJob H (within_trans HM rfl)
    try clear_value d1
    extract_lets +onlyGivenNames d2
    have k2 : Keeps M A d2 := keeps_forAll k1 (within_trans HM rfl) (fun _ _ k2 => keeps_drainCore k2 (within_trans HM rfl))
    try clear_value d2
    extract_lets +onlyGivenNames d3
    have k3 : Keeps M A d3 := Keeps.ite (fun _ => keeps_forAll k2 (within_trans HM rfl) (fun _ _ k4 => keeps_abandonLinks k4 HM)) (fun _ => k2)
    try clear_value d3
    exact Keeps.foldl k3 (fun _ _ k4 => Keeps.ite (fun _ => keeps_closeGroup k4 (within_trans HM rfl)) (fun _ => k4))

theorem keeps_clearGroups {M : Nat} {A : Dev} {d : Dev} {id : Nat} (H : Keeps M A d) (HM : Within 4 M) :
    Keeps M A (Dev.clearGroups d id) := by
  unfold Dev.clearGroups
  exact Keeps.step 4 H HM

theorem keeps_fxJobCompletion {M : Nat} {A : Dev} {d : Dev} {f seq : Nat} (H : Keeps M A d) (HM : Within 50337359 M) :
    Keeps M A (fxJobCompletion d f seq) := by
  unfold fxJobCompletion
  split
  · exact H
  · refine Keeps.ite (fun _ => H) (fun _ => ?_)
    refine Keeps.ite (fun _ => H) (fun _ => ?_)
    extract_lets +onlyGivenNames parts
    try clear_value parts
    extract_lets +onlyGivenNames d1
    have k2 : Keeps M A d1 := keeps_flushWhere (keeps_flushWhere (keeps_clearGroups H (within_trans HM rfl)) (within_trans HM rfl)) (within_trans HM rfl)
    try clear_value d1
    extract_lets +onlyGivenNames d2
    have k3 : Keeps M A d2 := keeps_forAll k2 (within_trans HM rfl) (fun _ _ k3 => keeps_updLane (keeps_updCore k3 (within_trans HM rfl) (fun _ k4 => ls_endJob _ k4)) (within_trans HM rfl))
    try clear_value d2
    extract_lets +onlyGivenNames d3
    try clear_value d3
    extract_lets +onlyGivenNames d4
    have k4 : Keeps M A d4 := keeps_forAll k3 (within_trans HM rfl) (fun _ _ k4 => keeps_updApp k4 (within_trans HM rfl))
    try clear_value d4
    extract_lets +onlyGivenNames d5
    have k5 : Keeps M A d5 := by
      subst d5
      split
      · exact Keeps.ite (fun _ => k4) (fun _ => keeps_complete k4 (within_trans HM rfl))
      · exact k4
    try clear_value d5
    exact keeps_reserveFreed (keeps_dropJob k5 (within_trans HM rfl)) (within_trans HM rfl)

theorem keeps_endJobs {M : Nat} {A : Dev} {d : Dev} {f : Nat} (H : Keeps M A d) (HM : Within 50337359 M) :
    Keeps M A (Dev.endJobs d f) := by
  unfold Dev.endJobs
  extract_lets +onlyGivenNames mine
  try clear_value mine
  extract_lets +onlyGivenNames d1
  have k : Keeps M A d1 := by
    subst d1
    refine Keeps.foldl H (fun _ _ k => ?_)
    split
    · exact keeps_dropJob k (within_trans HM rfl)
    · exact keeps_dropJob k (within_trans HM rfl)
    · exact keeps_forAll (keeps_updJob k (within_trans HM rfl)) (within_trans HM rfl) (fun _ _ k1 => keeps_abandonLinks k1 HM)
    · exact keeps_updJob (keeps_endJob k (within_trans HM rfl)) (within_trans HM rfl)
  try clear_value d1
  exact keeps_reserveFreed k (within_trans HM rfl)

theorem keeps_resetFn {M : Nat} {A d : Dev} {f : Nat} (H : Keeps M A d) (HM : Within 50468463 M) : Keeps M A (d.resetFn f) := by
  unfold Dev.resetFn
  extract_lets d1
  have k : Keeps M A d1 := keeps_updFn (keeps_wipeOwner (keeps_endJobs H (within_trans HM rfl)) (within_trans HM rfl)) (within_trans HM rfl)
  clear_value d1
  exact Keeps.step 35 k (within_trans HM rfl) (hs := fun s => storesOk_map s fun p => by split <;> rfl)

theorem keeps_fxFunctionLevelReset {M : Nat} {A : Dev} {d : Dev} {f : Nat} (H : Keeps M A d) (HM : Within 50468479 M) :
    Keeps M A (fxFunctionLevelReset d f) := by
  unfold fxFunctionLevelReset
  extract_lets +onlyGivenNames d1
  have k : Keeps M A d1 := keeps_resetFn H (within_trans HM rfl)
  try clear_value d1
  refine Keeps.ite (fun _ => ?_) (fun _ => k)
  extract_lets +onlyGivenNames d2
  have k2 : Keeps M A d2 := Keeps.ite (fun _ => Keeps.foldl k (fun _ _ k3 => keeps_resetFn k3 (within_trans HM rfl))) (fun _ => k)
  try clear_value d2
  extract_lets +onlyGivenNames d3
  try clear_value d3
  extract_lets +onlyGivenNames d4
  have k3 : Keeps M A d4 := Keeps.step 16 k2 (within_trans HM rfl)
  try clear_value d4
  exact keeps_updBne k3 (within_trans HM rfl)

theorem keeps_fxKSetGo {M : Nat} {A : Dev} {d : Dev} {sid keys : Nat} (H : Keeps M A d) (HM : Within 33554456 M) :
    Keeps M A (fxKSetGo d sid keys) := by
  unfold fxKSetGo
  exact keeps_spdm H (within_trans HM rfl) (fun _ k => keeps_secured k (within_trans HM rfl) (fun _ k1 => Keeps.ite (fun _ => k1) (fun _ => Keeps.step 16 k1 (within_trans HM rfl))))

theorem keeps_tdiState {M : Nat} {A : Dev} {d : Dev} {f st : Nat} (H : Keeps M A d) (HM : Within 33554440 M) :
    Keeps M A (Dev.tdiState d f st) := by
  unfold Dev.tdiState
  exact keeps_msix (keeps_updFn H (within_trans HM rfl)) HM

theorem keeps_tdiError {M : Nat} {A : Dev} {d : Dev} {f : Nat} (H : Keeps M A d) (HM : Within 50468431 M) :
    Keeps M A (Dev.tdiError d f) := by
  unfold Dev.tdiError
  exact Keeps.ite (fun _ => keeps_tdiState (keeps_wipeOwner (keeps_endJobs H (within_trans HM rfl)) (within_trans HM rfl)) (within_trans HM rfl)) (fun _ => H)

theorem keeps_fxIdeIntegrityFail {M : Nat} {A : Dev} {d : Dev} {sid : Nat} (H : Keeps M A d) (HM : Within 50468431 M) :
    Keeps M A (fxIdeIntegrityFail d sid) := by
  unfold fxIdeIntegrityFail
  exact keeps_forAll H (within_trans HM rfl) (fun _ _ k => Keeps.ite (fun _ => keeps_tdiError k HM) (fun _ => k))

theorem keeps_fxTdiConfigChange {M : Nat} {A : Dev} {d : Dev} {f : Nat} (H : Keeps M A d) (HM : Within 50468431 M) :
    Keeps M A (fxTdiConfigChange d f) := by
  unfold fxTdiConfigChange
  exact keeps_tdiError H HM

theorem keeps_fxLockInterfaceRequest {M : Nat} {A : Dev} {d : Dev} {f stream : Nat} (H : Keeps M A d) (HM : Within 33554440 M) :
    Keeps M A (fxLockInterfaceRequest d f stream) := by
  unfold fxLockInterfaceRequest
  exact keeps_spdm H HM (fun _ k => keeps_secured k (within_trans HM rfl) (fun _ k1 => Keeps.ite (fun _ => keeps_emit k1 (within_trans HM rfl)) (fun _ => Keeps.ite (fun _ => keeps_emit k1 (within_trans HM rfl)) (fun _ => keeps_emit (keeps_tdiState (keeps_updFn k1 (within_trans HM rfl)) HM) (within_trans HM rfl)))))

theorem keeps_fxStartInterfaceRequest {M : Nat} {A : Dev} {d : Dev} {f : Nat} (H : Keeps M A d) (HM : Within 33554632 M) :
    Keeps M A (fxStartInterfaceRequest d f) := by
  unfold fxStartInterfaceRequest
  exact keeps_spdm H (within_trans HM rfl) (fun _ k => keeps_secured k (within_trans HM rfl) (fun _ k1 => Keeps.ite (fun _ => keeps_emit k1 (within_trans HM rfl)) (fun _ => Keeps.ite (fun _ => keeps_emit k1 (within_trans HM rfl)) (fun _ => keeps_emit (keeps_evalExpected (keeps_tdiState k1 (within_trans HM rfl)) (within_trans HM rfl)) (within_trans HM rfl)))))

theorem keeps_fxStopInterface {M : Nat} {A : Dev} {d : Dev} {f : Nat} (H : Keeps M A d) (HM : Within 50337487 M) :
    Keeps M A (fxStopInterface d f) := by
  unfold fxStopInterface
  exact Keeps.ite (fun _ => H) (fun _ => keeps_secured H (within_trans HM rfl) (fun _ k1 => Keeps.ite (fun _ => keeps_emit k1 (within_trans HM rfl)) (fun _ => keeps_evalExpected (keeps_tdiState (keeps_updFn (keeps_endJobs k1 (within_trans HM rfl)) (within_trans HM rfl)) (within_trans HM rfl)) (within_trans HM rfl))))

theorem keeps_fxStopInterfaceWipeDone {M : Nat} {A : Dev} {d : Dev} {f : Nat} (H : Keeps M A d) (HM : Within 33554952 M) :
    Keeps M A (fxStopInterfaceWipeDone d f) := by
  unfold fxStopInterfaceWipeDone
  refine Keeps.ite (fun _ => ?_) (fun _ => H)
  extract_lets +onlyGivenNames d1
  have k1 : Keeps M A d1 := keeps_updMem H (within_trans HM rfl) (fun _ k1 => hbm_foldl k1 (fun _ _ k2 => hbm_zeroPart _ _ k2))
  try clear_value d1
  exact keeps_msix (keeps_emit (keeps_updFn k1 (within_trans HM rfl)) (within_trans HM rfl)) (within_trans HM rfl)

theorem keeps_abortConsumer {M : Nat} {A : Dev} {d : Dev} {code detail : Nat} {place : Nat → Nat} {region : Bool} {y0 : Consumer} (H : Keeps M A d) (HM : Within 50337359 M) :
    Keeps M A (Dev.abortConsumer d code detail place region y0) := by
  unfold Dev.abortConsumer
  split
  · split
    · exact Keeps.ite (fun _ => keeps_lsendSkip H HM) (fun _ => keeps_xferSkip H (within_trans HM rfl))
    · exact H
  · split
    · exact keeps_coreFault (keeps_updCore H (within_trans HM rfl) (fun _ k => k)) (within_trans HM rfl)
    · exact H
  · exact Keeps.ite (fun _ => keeps_failGroup H (within_trans HM rfl)) (fun _ => H)
  · split
    · exact keeps_jobFault H (within_trans HM rfl)
    · exact H
  · exact Keeps.ite (fun _ => keeps_updCore H (within_trans HM rfl) (fun _ k1 => ls_updRing _ _ _ k1)) (fun _ => H)
  · exact keeps_fnFault (keeps_emit H (within_trans HM rfl)) (within_trans HM rfl)
  · exact H

theorem keeps_fxHbmReadReturn {M : Nat} {A : Dev} {d : Dev} {h atom : Nat} {s : AtomState} {who : Consumer} (H : Keeps M A d) (HM : Within 50337359 M) :
    Keeps M A (fxHbmReadReturn d h atom s who) := by
  unfold fxHbmReadReturn
  extract_lets +onlyGivenNames atom1
  try clear_value atom1
  extract_lets +onlyGivenNames r
  subst r
  extract_lets +onlyGivenNames ok
  try clear_value ok
  extract_lets +onlyGivenNames d1
  have k : Keeps M A d1 := Keeps.ite (fun _ => Keeps.step 512 H (within_trans HM rfl) (hh := fun x => by dsimp only; split <;> first | exact hbm_pass _ _ _ _ _ _ x | exact x)) (fun _ => H)
  try clear_value d1
  refine Keeps.ite (fun _ => k) (fun _ => ?_)
  extract_lets +onlyGivenNames f
  try clear_value f
  extract_lets +onlyGivenNames d2
  have k2 : Keeps M A d2 := keeps_updMem k (within_trans HM rfl) (fun _ k2 => hbm_eccRead _ _ _ _ k2)
  try clear_value d2
  split
  · exact keeps_abortConsumer k2 HM
  · exact k2

theorem keeps_fxFabricUncorrectable {M : Nat} {A : Dev} {d : Dev} {die r vc : Nat} {who : Consumer} (H : Keeps M A d) (HM : Within 50337359 M) :
    Keeps M A (fxFabricUncorrectable d die r vc who) := by
  unfold fxFabricUncorrectable
  extract_lets +onlyGivenNames detail
  try clear_value detail
  exact keeps_abortConsumer (keeps_updMem H (within_trans HM rfl) (fun _ k => hbm_countNocUe _ _ k)) HM

theorem keeps_writeRst {M : Nat} {A : Dev} {d : Dev} {a : Agent} {x w v : Nat} {e : Bool} (H : Keeps M A d) (HM : Within 52690943 M) :
    Keeps M A (Dev.writeRst d a x w v e) := by
  unfold Dev.writeRst
  refine Keeps.ite (fun _ => keeps_fxRstCtrlDevice H (within_trans HM rfl)) (fun _ => ?_)
  refine Keeps.ite (fun _ => ?_) (fun _ => H)
  refine keeps_ifExpert H (within_trans HM rfl) (fun _ k2 => ?_)
  refine Keeps.ite (fun _ => keeps_updRst k2 (within_trans HM rfl)) (fun _ => ?_)
  extract_lets +onlyGivenNames d1
  have k4 : Keeps M A d1 := keeps_updRst k2 (within_trans HM rfl)
  try clear_value d1
  exact Keeps.ite (fun _ => keeps_partReset k4 (within_trans HM rfl)) (fun _ => k4)

theorem keeps_cfgGo {M : Nat} {A : Dev} {d : Dev} {a : Agent} (H : Keeps M A d) (HM : Within 50429519 M) :
    Keeps M A (Dev.cfgGo d a) := by
  unfold Dev.cfgGo
  extract_lets +onlyGivenNames v
  try clear_value v
  extract_lets +onlyGivenNames p
  try clear_value p
  split
  · exact keeps_fxCfgCmdPowerLimit H (within_trans HM rfl)
  · exact keeps_fxCfgCmdIdleUs H (within_trans HM rfl)
  · exact keeps_fxCfgCmdDuskEn H (within_trans HM rfl)
  · exact keeps_fxCfgCmdClusterFreq H (within_trans HM rfl)
  · exact keeps_fxCfgCmdSendLimit H (within_trans HM rfl)
  · exact keeps_fxCfgCmdPeerWait H (within_trans HM rfl)
  · exact keeps_fxCfgCmdRetry H (within_trans HM rfl)
  · exact keeps_fxCfgCmdLostWait H (within_trans HM rfl)
  · exact keeps_fxCfgCmdFeedOverride H (within_trans HM rfl)
  · exact Keeps.ite (fun _ => keeps_fxCfgCmdRegulator H (within_trans HM rfl)) (fun _ => Keeps.step 16384 H (within_trans HM rfl))

theorem keeps_writeCfg {M : Nat} {A : Dev} {d : Dev} {a : Agent} {x w v : Nat} (H : Keeps M A d) (HM : Within 50429519 M) :
    Keeps M A (Dev.writeCfg d a x w v) := by
  unfold Dev.writeCfg
  refine Keeps.ite (fun _ => ?_) (fun _ => Keeps.ite (fun _ => keeps_ifExpert H (within_trans HM rfl) (fun _ k2 => Keeps.step 16384 k2 (within_trans HM rfl))) (fun _ => H))
  refine keeps_ifExpert H (within_trans HM rfl) (fun _ k1 => ?_)
  extract_lets +onlyGivenNames d1
  try clear_value d1
  extract_lets +onlyGivenNames d2
  have k2 : Keeps M A d2 := Keeps.step 16384 k1 (within_trans HM rfl)
  try clear_value d2
  exact Keeps.ite (fun _ => keeps_cfgGo k2 HM) (fun _ => k2)

theorem keeps_writeUpd {M : Nat} {A : Dev} {d : Dev} {a : Agent} {x w : Nat} (H : Keeps M A d) (HM : Within 35913727 M) :
    Keeps M A (Dev.writeUpd d a x w) := by
  unfold Dev.writeUpd
  refine Keeps.ite (fun _ => H) (fun _ => ?_)
  refine keeps_ifExpert H (within_trans HM rfl) (fun _ k1 => ?_)
  extract_lets +onlyGivenNames d1
  have k2 : Keeps M A d1 := Keeps.ite (fun _ => keeps_fxUpdApply k1 (within_trans HM rfl)) (fun _ => k1)
  try clear_value d1
  exact Keeps.ite (fun _ => keeps_fxUpdResetNow k2 (within_trans HM rfl)) (fun _ => k2)

theorem keeps_writeSec {M : Nat} {A : Dev} {d : Dev} {a : Agent} {x v : Nat} (H : Keeps M A d) (HM : Within 33685512 M) :
    Keeps M A (Dev.writeSec d a x v) := by
  unfold Dev.writeSec
  exact Keeps.ite (fun _ => keeps_updSec H (within_trans HM rfl)) (fun _ => Keeps.ite (fun _ => keeps_fxSecKcopyGo H (within_trans HM rfl)) (fun _ => H))

theorem keeps_writeBne {M : Nat} {A : Dev} {d : Dev} {x w start : Nat} {b : List Byte} (H : Keeps M A d) (HM : Within 33685512 M) :
    Keeps M A (Dev.writeBne d x w start b) := by
  unfold Dev.writeBne
  refine Keeps.ite (fun _ => ?_) (fun _ => Keeps.ite (fun _ => keeps_updBne H HM) (fun _ => H))
  extract_lets +onlyGivenNames d1
  have k1 : Keeps M A d1 := keeps_updBne H HM
  try clear_value d1
  exact Keeps.ite (fun _ => keeps_fxBneReqPush k1 HM) (fun _ => k1)

theorem keeps_writeMpc {M : Nat} {A : Dev} {d : Dev} {a : Agent} {f x v start : Nat} {b : List Byte} (H : Keeps M A d) (HM : Within 50467407 M) :
    Keeps M A (Dev.writeMpc d a f x v start b) := by
  unfold Dev.writeMpc
  refine Keeps.ite (fun _ => ?_) (fun _ => ?_)
  · extract_lets +onlyGivenNames s
    try clear_value s
    exact Keeps.ite (fun _ => keeps_updFn H (within_trans HM rfl)) (fun _ => Keeps.ite (fun _ => keeps_fxSlotLoad H HM) (fun _ => H))
  · refine Keeps.ite (fun _ => ?_) (fun _ => H)
    extract_lets +onlyGivenNames d1
    have k2 : Keeps M A d1 := keeps_updFn H (within_trans HM rfl)
    try clear_value d1
    exact Keeps.ite (fun _ => keeps_fxPdecPush k2 HM) (fun _ => k2)

theorem keeps_writeHif {M : Nat} {A : Dev} {d : Dev} {f x w v : Nat} (H : Keeps M A d) (HM : Within 33554539 M) :
    Keeps M A (Dev.writeHif d f x w v) := by
  unfold Dev.writeHif
  exact Keeps.ite (fun _ => keeps_updFn H (within_trans HM rfl)) (fun _ => Keeps.ite (fun _ => keeps_fxHifExpertEnWrite H (within_trans HM rfl)) (fun _ => Keeps.ite (fun _ => keeps_updFn H (within_trans HM rfl)) (fun _ => Keeps.ite (fun _ => keeps_updFn H (within_trans HM rfl)) (fun _ => Keeps.ite (fun _ => keeps_fxIntkEn H (within_trans HM rfl)) (fun _ => Keeps.ite (fun _ => keeps_updFn H (within_trans HM rfl)) (fun _ => Keeps.ite (fun _ => keeps_fxIntkCancel H (within_trans HM rfl)) (fun _ => H)))))))

theorem keeps_writeMemc {M : Nat} {A : Dev} {d : Dev} {a : Agent} {die x w v : Nat} {e : Bool} (H : Keeps M A d) (HM : Within 520 M) :
    Keeps M A (Dev.writeMemc d a die x w v e) := by
  unfold Dev.writeMemc
  refine Keeps.ite (fun _ => ?_) (fun _ => Keeps.ite (fun _ => Keeps.ite (fun _ => H) (fun _ => Keeps.ite (fun _ => keeps_fxMaintSet H HM) (fun _ => keeps_fxMaintClear H HM))) (fun _ => keeps_updMem H (within_trans HM rfl) (fun _ k2 => k2)))
  extract_lets +onlyGivenNames h
  try clear_value h
  exact Keeps.ite (fun _ => Keeps.ite (fun _ => keeps_ifExpert H (within_trans HM rfl) (fun _ k3 => keeps_updMem k3 (within_trans HM rfl) (fun _ k4 => hbm_updChan _ _ _ k4))) (fun _ => H)) (fun _ => Keeps.ite (fun _ => keeps_updMem H (within_trans HM rfl) (fun _ k3 => hbm_updChan _ _ _ k3)) (fun _ => Keeps.ite (fun _ => keeps_updMem H (within_trans HM rfl) (fun _ k4 => hbm_updChan _ _ _ k4)) (fun _ => H)))

theorem keeps_writeMreg {M : Nat} {A : Dev} {d : Dev} {a : Agent} {die x v : Nat} (H : Keeps M A d) (HM : Within 520 M) :
    Keeps M A (Dev.writeMreg d a die x v) := by
  unfold Dev.writeMreg
  extract_lets +onlyGivenNames p
  try clear_value p
  exact Keeps.ite (fun _ => keeps_fxMregRateWrite H HM) (fun _ => H)

theorem keeps_writeTgc {M : Nat} {A : Dev} {d : Dev} {a : Agent} {die x w v : Nat} {e : Bool} (H : Keeps M A d) (HM : Within 16777736 M) :
    Keeps M A (Dev.writeTgc d a die x w v e) := by
  unfold Dev.writeTgc
  extract_lets +onlyGivenNames h
  try clear_value h
  refine Keeps.ite (fun _ => keeps_updMem H (within_trans HM rfl) (fun _ k1 => hbm_updChan _ _ _ k1)) (fun _ => ?_)
  refine Keeps.ite (fun _ => H) (fun _ => ?_)
  extract_lets +onlyGivenNames d1
  have k2 : Keeps M A d1 := Keeps.ite (fun _ => keeps_stopTest H (within_trans HM rfl)) (fun _ => H)
  try clear_value d1
  refine Keeps.ite (fun _ => keeps_fxTgcStart k2 (within_trans HM rfl)) (fun _ => ?_)
  extract_lets +onlyGivenNames d2
  have k4 : Keeps M A d2 := keeps_updMem k2 (within_trans HM rfl) (fun _ k4 => hbm_updChan _ _ _ k4)
  try clear_value d2
  exact Keeps.ite (fun _ => keeps_ifExpert k4 (within_trans HM rfl) (fun _ k6 => keeps_updMem k6 (within_trans HM rfl) (fun _ k7 => hbm_updChan _ _ _ k7))) (fun _ => k4)

theorem keeps_writeKst {M : Nat} {A : Dev} {d : Dev} {a : Agent} {die x v : Nat} {e : Bool} (H : Keeps M A d) (HM : Within 525 M) :
    Keeps M A (Dev.writeKst d a die x v e) := by
  unfold Dev.writeKst
  extract_lets +onlyGivenNames n
  try clear_value n
  exact Keeps.ite (fun _ => keeps_updGroup H (within_trans HM rfl)) (fun _ => Keeps.ite (fun _ => keeps_groupCtrl H HM) (fun _ => H))

theorem keeps_writeLnk {M : Nat} {A : Dev} {d : Dev} {a : Agent} {die x w v : Nat} (H : Keeps M A d) (HM : Within 33621001 M) :
    Keeps M A (Dev.writeLnk d a die x w v) := by
  unfold Dev.writeLnk
  refine Keeps.ite (fun _ => ?_) (fun _ => Keeps.ite (fun _ => keeps_ifExpert H (within_trans HM rfl) (fun _ k2 => keeps_updLane k2 (within_trans HM rfl))) (fun _ => H))
  extract_lets +onlyGivenNames l
  try clear_value l
  refine Keeps.ite (fun _ => ?_) (fun _ => H)
  refine keeps_ifExpert H (within_trans HM rfl) (fun _ k2 => ?_)
  extract_lets +onlyGivenNames d1
  have k3 : Keeps M A d1 := Keeps.ite (fun _ => k2) (fun _ => keeps_enableLink k2 HM)
  try clear_value d1
  exact Keeps.ite (fun _ => keeps_retrain k3 HM) (fun _ => k3)

theorem keeps_writeOpt {M : Nat} {A : Dev} {d : Dev} {x w : Nat} (H : Keeps M A d) (HM : Within 33621001 M) :
    Keeps M A (Dev.writeOpt d x w) := by
  unfold Dev.writeOpt
  refine Keeps.ite (fun _ => H) (fun _ => ?_)
  extract_lets +onlyGivenNames c
  try clear_value c
  extract_lets +onlyGivenNames d1
  have k1 : Keeps M A d1 := Keeps.ite (fun _ => keeps_fxCartRelease H HM) (fun _ => H)
  try clear_value d1
  exact Keeps.ite (fun _ => keeps_fxCartRestore k1 (within_trans HM rfl)) (fun _ => k1)

theorem keeps_writeWin {M : Nat} {A : Dev} {d : Dev} {a : Agent} {x w v start : Nat} {b : List Byte} (H : Keeps M A d) (HM : Within 66560 M) :
    Keeps M A (Dev.writeWin d a x w v start b) := by
  unfold Dev.writeWin
  refine Keeps.ite (fun _ => ?_) (fun _ => ?_)
  · extract_lets +onlyGivenNames n
    try clear_value n
    refine Keeps.ite (fun _ => keeps_updWin H (within_trans HM rfl)) (fun _ => ?_)
    refine Keeps.ite (fun _ => keeps_updWin H (within_trans HM rfl)) (fun _ => ?_)
    refine Keeps.ite (fun _ => ?_) (fun _ => H)
    extract_lets +onlyGivenNames d1
    have k4 : Keeps M A d1 := Keeps.ite (fun _ => keeps_fxWinClose H (within_trans HM rfl)) (fun _ => H)
    try clear_value d1
    exact Keeps.ite (fun _ => keeps_fxWinOpen k4 HM) (fun _ => k4)
  · refine Keeps.ite (fun _ => ?_) (fun _ => H)
    extract_lets +onlyGivenNames d1
    have k2 : Keeps M A d1 := keeps_updLane H (within_trans HM rfl)
    try clear_value d1
    exact Keeps.ite (fun _ => keeps_fxWinXferPush k2 (within_trans HM rfl)) (fun _ => k2)

theorem keeps_writePdd {M : Nat} {A : Dev} {d : Dev} {a : Agent} {die x v start : Nat} {b : List Byte} {e : Bool} (H : Keeps M A d) (HM : Within 50402895 M) :
    Keeps M A (Dev.writePdd d a die x v start b e) := by
  unfold Dev.writePdd
  refine Keeps.ite (fun _ => keeps_selftestCtrl H (within_trans HM rfl)) (fun _ => ?_)
  refine Keeps.ite (fun _ => H) (fun _ => ?_)
  refine Keeps.ite (fun _ => Keeps.ite (fun _ => keeps_ifExpert H (within_trans HM rfl) (fun _ k4 => keeps_updPdd k4 (within_trans HM rfl))) (fun _ => H)) (fun _ => ?_)
  refine Keeps.ite (fun _ => keeps_updPdd H (within_trans HM rfl)) (fun _ => ?_)
  refine Keeps.ite (fun _ => ?_) (fun _ => ?_)
  · extract_lets +onlyGivenNames d1
    have k5 : Keeps M A d1 := keeps_updPdd H (within_trans HM rfl)
    try clear_value d1
    exact Keeps.ite (fun _ => keeps_fxPddCommitPush k5 (within_trans HM rfl)) (fun _ => k5)
  · refine Keeps.ite (fun _ => ?_) (fun _ => ?_)
    · extract_lets +onlyGivenNames d1
      have k6 : Keeps M A d1 := keeps_updPdd H (within_trans HM rfl)
      try clear_value d1
      exact Keeps.ite (fun _ => keeps_fxPddDigestPush k6 (within_trans HM rfl)) (fun _ => k6)
    · refine Keeps.ite (fun _ => ?_) (fun _ => H)
      extract_lets +onlyGivenNames j
      try clear_value j
      extract_lets +onlyGivenNames t
      try clear_value t
      exact Keeps.ite (fun _ => keeps_updTap H (within_trans HM rfl)) (fun _ => H)

theorem keeps_writePeer {M : Nat} {A : Dev} {d : Dev} {a : Agent} {x w v : Nat} {e : Bool} (H : Keeps M A d) (HM : Within 33621001 M) :
    Keeps M A (Dev.writePeer d a x w v e) := by
  unfold Dev.writePeer
  refine Keeps.ite (fun _ => ?_) (fun _ => ?_)
  · extract_lets +onlyGivenNames id
    try clear_value id
    split
    · exact keeps_fxPeerAdd H (within_trans HM rfl)
    · exact keeps_fxPeerRemove H HM
    · exact keeps_fxPeerSetOwners H (within_trans HM rfl)
    · exact keeps_updLane H (within_trans HM rfl)
  · refine Keeps.ite (fun _ => keeps_updLane H (within_trans HM rfl)) (fun _ => ?_)
    refine Keeps.ite (fun _ => H) (fun _ => ?_)
    extract_lets +onlyGivenNames j
    try clear_value j
    extract_lets +onlyGivenNames upd
    subst upd
    refine Keeps.ite (fun _ => ?_) (fun _ => ?_)
    · extract_lets +onlyGivenNames d1
      have k4 : Keeps M A d1 := keeps_updLane H (within_trans HM rfl)
      try clear_value d1
      exact Keeps.ite (fun _ => keeps_ifExpert k4 (within_trans HM rfl) (fun _ k6 => keeps_updLane k6 (within_trans HM rfl))) (fun _ => k4)
    · extract_lets +onlyGivenNames i
      try clear_value i
      exact keeps_updLane H (within_trans HM rfl)

theorem keeps_writeCore {M : Nat} {A : Dev} {d : Dev} {a : Agent} {g x w v start : Nat} {b : List Byte} (H : Keeps M A d) (HM : Within 50336335 M) :
    Keeps M A (Dev.writeCore d a g x w v start b) := by
  unfold Dev.writeCore
  exact Keeps.ite (fun _ => keeps_updCore H (within_trans HM rfl) (fun _ k1 => k1)) (fun _ => Keeps.ite (fun _ => keeps_kloadWrite H HM) (fun _ => Keeps.ite (fun _ => keeps_updCore H (within_trans HM rfl) (fun _ k3 => k3)) (fun _ => Keeps.ite (fun _ => keeps_pushWindow H HM) (fun _ => Keeps.ite (fun _ => keeps_updCore H (within_trans HM rfl) (fun _ k5 => k5)) (fun _ => H)))))

theorem keeps_regWrite {M : Nat} {A : Dev} {d : Dev} {a : Agent} {f die x start : Nat} {b : List Byte} (H : Keeps M A d) (HM : Within 53739519 M) :
    Keeps M A (Dev.regWrite d a f die x start b) := by
  unfold Dev.regWrite
  extract_lets +onlyGivenNames w
  try clear_value w
  extract_lets +onlyGivenNames v
  try clear_value v
  extract_lets +onlyGivenNames e
  try clear_value e
  exact Keeps.ite (fun _ => keeps_writeCore H (within_trans HM rfl)) (fun _ => Keeps.ite (fun _ => keeps_writeMemc H (within_trans HM rfl)) (fun _ => Keeps.ite (fun _ => Keeps.ite (fun _ => keeps_writeMreg H (within_trans HM rfl)) (fun _ => H)) (fun _ => Keeps.ite (fun _ => keeps_writeTgc H (within_trans HM rfl)) (fun _ => Keeps.ite (fun _ => Keeps.ite (fun _ => keeps_ifExpert H (within_trans HM rfl) (fun _ k6 => Keeps.ite (fun _ => keeps_fxWcbFlush k6 (within_trans HM rfl)) (fun _ => k6))) (fun _ => H)) (fun _ => Keeps.ite (fun _ => Keeps.ite (fun _ => keeps_ifExpert H (within_trans HM rfl) (fun _ k7 => Keeps.ite (fun _ => keeps_fxD2dRetrain k7 (within_trans HM rfl)) (fun _ => k7))) (fun _ => H)) (fun _ => Keeps.ite (fun _ => keeps_writeKst H (within_trans HM rfl)) (fun _ => Keeps.ite (fun _ => Keeps.ite (fun _ => keeps_writeLnk H (within_trans HM rfl)) (fun _ => H)) (fun _ => Keeps.ite (fun _ => keeps_writeOpt H (within_trans HM rfl)) (fun _ => Keeps.ite (fun _ => keeps_writeWin H (within_trans HM rfl)) (fun _ => Keeps.ite (fun _ => keeps_writePdd H (within_trans HM rfl)) (fun _ => Keeps.ite (fun _ => keeps_writePeer H (within_trans HM rfl)) (fun _ => Keeps.ite (fun _ => keeps_writeRst H (within_trans HM rfl)) (fun _ => Keeps.ite (fun _ => Keeps.ite (fun _ => keeps_fxPwrCtrlWrite H (within_trans HM rfl)) (fun _ => keeps_wakeUp H (within_trans HM rfl))) (fun _ => Keeps.ite (fun _ => Keeps.ite (fun _ => keeps_fxClkClusterWrite H (within_trans HM rfl)) (fun _ => H)) (fun _ => Keeps.ite (fun _ => Keeps.ite (fun _ => keeps_writeCfg H (within_trans HM rfl)) (fun _ => H)) (fun _ => Keeps.ite (fun _ => Keeps.ite (fun _ => keeps_writeUpd H (within_trans HM rfl)) (fun _ => H)) (fun _ => Keeps.ite (fun _ => keeps_writeSec H (within_trans HM rfl)) (fun _ => Keeps.ite (fun _ => keeps_writeBne H (within_trans HM rfl)) (fun _ => Keeps.ite (fun _ => keeps_writeMpc H (within_trans HM rfl)) (fun _ => Keeps.ite (fun _ => Keeps.ite (fun _ => keeps_writeHif H (within_trans HM rfl)) (fun _ => H)) (fun _ => Keeps.ite (fun _ => Keeps.step 1048576 H (within_trans HM rfl)) (fun _ => H))))))))))))))))))))))

theorem keeps_outside {M : Nat} {A : Dev} {d : Dev} {a : Agent} {addr : Nat} (H : Keeps M A d) (HM : Within 33558603 M) :
    Keeps M A (Dev.outside d a addr) := by
  unfold Dev.outside
  split
  · exact keeps_fnFault H (within_trans HM rfl)
  · split
    · exact keeps_jobFault H HM
    · exact H
  · exact keeps_fnFault H (within_trans HM rfl)
  · exact keeps_fnFault H (within_trans HM rfl)

theorem keeps_reportHole {M : Nat} {A : Dev} {d : Dev} {a : Agent} {y0 : Option Nat} (H : Keeps M A d) (HM : Within 33558603 M) :
    Keeps M A (Dev.reportHole d a y0) := by
  unfold Dev.reportHole
  split
  · exact keeps_outside H HM
  · exact H

theorem keeps_regStore {M : Nat} {A : Dev} {d : Dev} {a : Agent} {addr : Nat} {b : List Byte} (H : Keeps M A d) (HM : Within 53739519 M) :
    Keeps M A (Dev.regStore d a addr b) := by
  unfold Dev.regStore
  extract_lets +onlyGivenNames f
  try clear_value f
  extract_lets +onlyGivenNames hole
  try clear_value hole
  extract_lets +onlyGivenNames d1
  have k : Keeps M A d1 := by
    subst d1
    refine Keeps.foldl H (fun _ _ k => ?_)
    split
    · exact Keeps.ite (fun _ => keeps_regWrite k HM) (fun _ => k)
    · exact k
  try clear_value d1
  exact keeps_reportHole k (within_trans HM rfl)

theorem keeps_hostRequest {M : Nat} {A : Dev} {d : Dev} {f : Nat} {stream : Option Nat} {eff : Dev → Dev} (H : Keeps M A d) (HM : Within 52606984 M) (heff : ∀ (e0 : Dev), Keeps M A e0 → Keeps M A (eff e0)) :
    Keeps M A (Dev.hostRequest d f stream eff) := by
  unfold Dev.hostRequest
  exact Keeps.ite (fun _ => H) (fun _ => Keeps.ite (fun _ => keeps_emit H (within_trans HM rfl)) (fun _ => Keeps.ite (fun _ => keeps_emit (keeps_updFn H (within_trans HM rfl)) (within_trans HM rfl)) (fun _ => heff _ (keeps_wakeUp H (within_trans HM rfl)))))

theorem keeps_fxRegisterWrite {M : Nat} {A : Dev} {d : Dev} {a : Agent} {addr : Nat} {b : List Byte} {stream : Option Nat} (H : Keeps M A d) (HM : Within 53739519 M) :
    Keeps M A (fxRegisterWrite d a addr b stream) := by
  unfold fxRegisterWrite
  split
  · split
    · exact H
    · exact Keeps.ite (fun _ => keeps_fxGuestPageFault H (within_trans HM rfl)) (fun _ => Keeps.ite (fun _ => H) (fun _ => keeps_regStore H HM))
  · split
    · exact Keeps.ite (fun _ => keeps_regStore H HM) (fun _ => H)
    · exact H
  · exact Keeps.ite (fun _ => H) (fun _ => keeps_regStore H HM)
  · exact keeps_hostRequest H (within_trans HM rfl) (fun _ k => Keeps.ite (fun _ => k) (fun _ => keeps_regStore k HM))

theorem keeps_fxIntakeSeal {M : Nat} {A : Dev} {d : Dev} {f off : Nat} {data : List Byte} {stream : Option Nat} (H : Keeps M A d) (HM : Within 52607176 M) :
    Keeps M A (fxIntakeSeal d f off data stream) := by
  unfold fxIntakeSeal
  exact keeps_hostRequest H (within_trans HM rfl) (fun _ k => keeps_intakeWrite k (within_trans HM rfl))

theorem keeps_bar0Store {M : Nat} {A : Dev} {d : Dev} {f off : Nat} {b : List Byte} (H : Keeps M A d) (HM : Within 50469615 M) :
    Keeps M A (Dev.bar0Store d f off b) := by
  unfold Dev.bar0Store
  refine Keeps.ite (fun _ => keeps_intakeWrite H (within_trans HM rfl)) (fun _ => ?_)
  refine Keeps.foldl H (fun _ _ k1 => ?_)
  split
  · exact k1
  · extract_lets +onlyGivenNames piece
    try clear_value piece
    extract_lets +onlyGivenNames w
    try clear_value w
    extract_lets +onlyGivenNames v
    try clear_value v
    exact Keeps.ite (fun _ => keeps_writeHif k1 (within_trans HM rfl)) (fun _ => Keeps.ite (fun _ => keeps_writeMpc k1 (within_trans HM rfl)) (fun _ => k1))

theorem keeps_fxBar0Access {M : Nat} {A : Dev} {d : Dev} {f off : Nat} {wr : Option (List Byte)} {len : Nat} {stream : Option Nat} (H : Keeps M A d) (HM : Within 53739519 M) :
    Keeps M A (fxBar0Access d f off wr len stream) := by
  unfold fxBar0Access
  refine keeps_hostRequest H (within_trans HM rfl) (fun _ k => ?_)
  extract_lets +onlyGivenNames y
  try clear_value y
  split
  · exact Keeps.ite (fun _ => keeps_regStore k HM) (fun _ => keeps_bar0Store k (within_trans HM rfl))
  · exact Keeps.ite (fun _ => keeps_reportHole (keeps_emit k (within_trans HM rfl)) (within_trans HM rfl)) (fun _ => keeps_emit k (within_trans HM rfl))

theorem keeps_fxBar2Access {M : Nat} {A : Dev} {d : Dev} {f off : Nat} {wr : Option (List Byte)} {len : Nat} {stream : Option Nat} (H : Keeps M A d) (HM : Within 52607563 M) :
    Keeps M A (fxBar2Access d f off wr len stream) := by
  unfold fxBar2Access
  refine keeps_hostRequest H (within_trans HM rfl) (fun _ k => ?_)
  extract_lets +onlyGivenNames n
  try clear_value n
  extract_lets +onlyGivenNames beyond
  subst beyond
  refine Keeps.ite (fun _ => keeps_emit k (within_trans HM rfl)) (fun _ => ?_)
  split
  · exact Keeps.ite (fun _ => keeps_fnFault k (within_trans HM rfl)) (fun _ => keeps_emit (keeps_fnFault k (within_trans HM rfl)) (within_trans HM rfl))
  · exact keeps_hostAsk k (within_trans HM rfl)

theorem keeps_changeFn {M : Nat} {A : Dev} {d : Dev} {f : Nat} {changed : Bool} {u : Fn → Fn} (H : Keeps M A d) (HM : Within 50468431 M) :
    Keeps M A (Dev.changeFn d f changed u) := by
  unfold Dev.changeFn
  exact keeps_updFn (Keeps.ite (fun _ => keeps_tdiError H HM) (fun _ => H)) (within_trans HM rfl)

theorem keeps_setVfEnable {M : Nat} {A : Dev} {d : Dev} {on : Bool} (H : Keeps M A d) (HM : Within 50468479 M) :
    Keeps M A (Dev.setVfEnable d on) := by
  unfold Dev.setVfEnable
  refine Keeps.ite (fun _ => H) (fun _ => ?_)
  extract_lets +onlyGivenNames d1
  have k1 : Keeps M A d1 := Keeps.foldl H (fun _ _ k1 => keeps_tdiError k1 (within_trans HM rfl))
  try clear_value d1
  extract_lets +onlyGivenNames d2
  have k2 : Keeps M A d2 := Keeps.ite (fun _ => k1) (fun _ => Keeps.foldl k1 (fun _ _ k3 => keeps_resetFn k3 (within_trans HM rfl)))
  try clear_value d2
  exact Keeps.step 16 k2 (within_trans HM rfl)

theorem keeps_configure {M : Nat} {A : Dev} {d : Dev} {y0 : CfgReq} (H : Keeps M A d) (HM : Within 52606591 M) :
    Keeps M A (Dev.configure d y0) := by
  unfold Dev.configure
  split
  · exact H
  · exact keeps_emit H (within_trans HM rfl)
  · exact keeps_emit H (within_trans HM rfl)
  · exact Keeps.ite (fun _ => H) (fun _ => Keeps.step 16 H (within_trans HM rfl))
  · exact Keeps.ite (fun _ => H) (fun _ => keeps_setVfEnable H (within_trans HM rfl))
  · exact keeps_changeFn H (within_trans HM rfl)
  · exact Keeps.ite (fun _ => H) (fun _ => keeps_changeFn H (within_trans HM rfl))
  · exact Keeps.ite (fun _ => H) (fun _ => keeps_changeFn H (within_trans HM rfl))
  · exact Keeps.ite (fun _ => H) (fun _ => keeps_changeFn H (within_trans HM rfl))
  · extract_lets +onlyGivenNames was
    try clear_value was
    extract_lets +onlyGivenNames d1
    have k : Keeps M A d1 := keeps_changeFn H (within_trans HM rfl)
    try clear_value d1
    exact Keeps.ite (fun _ => keeps_sendMsix (keeps_updFn k (within_trans HM rfl)) (within_trans HM rfl)) (fun _ => k)

theorem keeps_fxConfigurationRequest {M : Nat} {A : Dev} {d : Dev} {q : CfgReq} (H : Keeps M A d) (HM : Within 52606591 M) :
    Keeps M A (fxConfigurationRequest d q) := by
  unfold fxConfigurationRequest
  exact Keeps.ite (fun _ => H) (fun _ => Keeps.ite (fun _ => keeps_emit H (within_trans HM rfl)) (fun _ => keeps_emit (keeps_configure H HM) (within_trans HM rfl)))

theorem keeps_i3cOffset {M : Nat} {A : Dev} {d : Dev} {b : List Byte} (H : Keeps M A d) (HM : Within 1048576 M) :
    Keeps M A (Dev.i3cOffset d b) := by
  unfold Dev.i3cOffset
  exact Keeps.step 1048576 H HM

theorem keeps_i3cReport {M : Nat} {A : Dev} {d : Dev} (H : Keeps M A d) (HM : Within 33558603 M) :
    Keeps M A (Dev.i3cReport d) := by
  unfold Dev.i3cReport
  exact Keeps.ite (fun _ => keeps_outside H HM) (fun _ => H)

theorem keeps_fxI3cSetOffset {M : Nat} {A : Dev} {d : Dev} {b : List Byte} (H : Keeps M A d) (HM : Within 1048576 M) :
    Keeps M A (fxI3cSetOffset d b) := by
  unfold fxI3cSetOffset
  exact Keeps.ite (fun _ => keeps_i3cOffset H HM) (fun _ => H)

theorem keeps_fxI3cRegisterWrite {M : Nat} {A : Dev} {d : Dev} {b : List Byte} (H : Keeps M A d) (HM : Within 53739519 M) :
    Keeps M A (fxI3cRegisterWrite d b) := by
  unfold fxI3cRegisterWrite
  refine Keeps.ite (fun _ => ?_) (fun _ => H)
  extract_lets +onlyGivenNames d1
  have k1 : Keeps M A d1 := keeps_i3cOffset H (within_trans HM rfl)
  try clear_value d1
  exact Keeps.ite (fun _ => keeps_regWrite k1 HM) (fun _ => keeps_i3cReport k1 (within_trans HM rfl))

theorem keeps_fxI3cRegisterRead {M : Nat} {A : Dev} {d : Dev} (H : Keeps M A d) (HM : Within 33558603 M) :
    Keeps M A (fxI3cRegisterRead d) := by
  unfold fxI3cRegisterRead
  exact Keeps.ite (fun _ => keeps_i3cReport (keeps_emit H (within_trans HM rfl)) HM) (fun _ => H)

theorem keeps_settle {M : Nat} {A : Dev} {d : Dev} (H : Keeps M A d) (HM : Within 36704264 M) :
    Keeps M A (Dev.settle d) := by
  unfold Dev.settle
  extract_lets +onlyGivenNames d1
  try clear_value d1
  extract_lets +onlyGivenNames d2
  have k : Keeps M A d2 := Keeps.ite (fun _ => H) (fun _ => keeps_emit (Keeps.step 1048576 H (within_trans HM rfl)) (within_trans HM rfl))
  try clear_value d2
  exact Keeps.ite (fun _ => k) (fun _ => Keeps.foldl (Keeps.step 2097152 k (within_trans HM rfl)) (fun _ _ k2 => keeps_faultRing k2 (within_trans HM rfl)))

theorem keeps_aonCycle {M : Nat} {A : Dev} {d : Dev} (H : Keeps M A d) (HM : Within 46205957 M) :
    Keeps M A (Dev.aonCycle d) := by
  unfold Dev.aonCycle
  refine Keeps.ite (fun _ => H) (fun _ => ?_)
  extract_lets +onlyGivenNames d1
  subst d1
  extract_lets +onlyGivenNames d1
  have k1 : Keeps M A d1 := Keeps.step 12584960 H (within_trans HM rfl)
  try clear_value d1
  exact keeps_keepAlive (keeps_noteLost (keeps_noteHolders (keeps_noteStalls k1 (within_trans HM rfl)) (within_trans HM rfl)) (within_trans HM rfl)) (within_trans HM rfl)

end Sys2Proof.Machine
end

