-- ==== Sys2Proof/Laws/Exec.lean ====
section
/-! SUPPORT. What the step of each command keeps: everything outside the parts that it touches, memory and local stores in
canonical form, burnt fuses, violations until power goes, and the range of the power limit. -/

set_option Elab.async false

namespace Sys2Proof.Machine

/-- The bit of a piece in the masks of `Keeps`. -/
def Piece.bit : Piece → Nat
  | .cores => 1
  | .appCores => 2
  | .groups => 4
  | .functions => 8
  | .pcie => 16
  | .expert => 32
  | .jobs => 64
  | .nextJob => 128
  | .grants => 256
  | .memory => 512
  | .starlane => 1024
  | .power => 2048
  | .reset => 4096
  | .nor => 8192
  | .config => 16384
  | .update => 32768
  | .mirror => 65536
  | .security => 131072
  | .fuses => 262144
  | .violations => 524288
  | .module => 1048576
  | .bootLog => 2097152
  | .aon0 => 4194304
  | .aon1 => 8388608
  | .free => 16777216
  | .output => 33554432

/-- The mask of some pieces, with those of every step and bit 26 where violations may be cleared. -/
def pieceMask (l : List Piece) (power : Bool) : Nat :=
  (l ++ afterEffect).foldr (fun p m => Nat.lor p.bit m) (bif power then 67108864 else 0)

/-- The mask of a command. -/
def execMask (c : Instr) : Nat := pieceMask (touches c) (powersOn c)

theorem keeps_lift (M : Nat) (l : List Piece) (b : Bool) {c : Instr} {f : Dev → Dev} {s t : State}
    (h : exec c s = .next t) (he : ∀ s, exec c s = lift f s) (e1 : touches c = l) (e2 : powersOn c = b)
    (e : pieceMask l b = M) (HM : Within 36704264 M) (hf : ∀ d, Keeps M s.dev d → Keeps M s.dev (f d)) :
    Keeps (execMask c) s.dev t.dev := by
  rw [execMask, e1, e2, e]
  rw [he, lift, Host.Outcome.next.injEq] at h
  subst h
  exact keeps_settle (hf _ (Keeps.step 33554432 (Keeps.refl M s.dev) (within_trans HM rfl))) (within_trans HM rfl)

theorem keeps_idle {M : Nat} {s t : State} (h : idleCycle s = .next t) (HM : Within 49355789 M) : Keeps M s.dev t.dev := by
  rw [idleCycle, lift, Host.Outcome.next.injEq] at h
  subst h
  exact keeps_settle (keeps_aonCycle (Keeps.step 33554432 (Keeps.refl M s.dev) (within_trans HM rfl)) (within_trans HM rfl))
    (within_trans HM rfl)

theorem exec_keeps {c : Instr} {s t : State} (h : exec c s = .next t) : Keeps (execMask c) s.dev t.dev := by
  cases c with
  | opOpen _ => exact keeps_lift 53482063 [.cores, .appCores, .groups, .jobs, .memory, .free] false h (exec_opOpen _) rfl rfl rfl rfl fun _ k => keeps_fxOpOpen k rfl
  | opClose _ => exact keeps_lift 53482063 [.cores, .appCores, .groups, .jobs, .memory, .free] false h (exec_opClose _) rfl rfl rfl rfl fun _ k => keeps_fxOpClose k rfl
  | clusterOperationStop _ => exact keeps_lift 53482063 [.cores, .appCores, .groups, .jobs, .memory, .free] false h (exec_clusterOperationStop _) rfl rfl rfl rfl fun _ k => keeps_fxClusterOperationStop k rfl
  | loop _ => exact keeps_lift 53482063 [.cores, .appCores, .groups, .jobs, .memory, .free] false h (exec_loop _) rfl rfl rfl rfl fun _ k => keeps_fxLoop k rfl
  | shapeSet _ => exact keeps_lift 53482063 [.cores, .appCores, .groups, .jobs, .memory, .free] false h (exec_shapeSet _) rfl rfl rfl rfl fun _ k => keeps_fxShapeSet k rfl
  | pxSet _ => exact keeps_lift 53482063 [.cores, .appCores, .groups, .jobs, .memory, .free] false h (exec_pxSet _) rfl rfl rfl rfl fun _ k => keeps_fxPxSet k rfl
  | nttFwd _ _ => exact keeps_lift 53482063 [.cores, .appCores, .groups, .jobs, .memory, .free] false h (exec_nttFwd _ _) rfl rfl rfl rfl fun _ k => keeps_fxNttFwd k rfl
  | nttInv _ => exact keeps_lift 53482063 [.cores, .appCores, .groups, .jobs, .memory, .free] false h (exec_nttInv _) rfl rfl rfl rfl fun _ k => keeps_fxNttInv k rfl
  | nttFwdq _ => exact keeps_lift 53482063 [.cores, .appCores, .groups, .jobs, .memory, .free] false h (exec_nttFwdq _) rfl rfl rfl rfl fun _ k => keeps_fxNttFwdq k rfl
  | nttInvq _ => exact keeps_lift 53482063 [.cores, .appCores, .groups, .jobs, .memory, .free] false h (exec_nttInvq _) rfl rfl rfl rfl fun _ k => keeps_fxNttInvq k rfl
  | bcvLdm _ => exact keeps_lift 53482063 [.cores, .appCores, .groups, .jobs, .memory, .free] false h (exec_bcvLdm _) rfl rfl rfl rfl fun _ k => keeps_fxBcvLdm k rfl
  | bcvExt _ => exact keeps_lift 53482063 [.cores, .appCores, .groups, .jobs, .memory, .free] false h (exec_bcvExt _) rfl rfl rfl rfl fun _ k => keeps_fxBcvExt k rfl
  | bcvMatmul _ => exact keeps_lift 53482063 [.cores, .appCores, .groups, .jobs, .memory, .free] false h (exec_bcvMatmul _) rfl rfl rfl rfl fun _ k => keeps_fxBcvMatmul k rfl
  | ld _ _ => exact keeps_lift 53482063 [.cores, .appCores, .groups, .jobs, .memory, .free] false h (exec_ld _ _) rfl rfl rfl rfl fun _ k => keeps_fxLd k rfl
  | qpop _ => exact keeps_lift 53482063 [.cores, .appCores, .groups, .jobs, .memory, .free] false h (exec_qpop _) rfl rfl rfl rfl fun _ k => keeps_fxQpop k rfl
  | st _ => exact keeps_lift 53482063 [.cores, .appCores, .groups, .jobs, .memory, .free] false h (exec_st _) rfl rfl rfl rfl fun _ k => keeps_fxSt k rfl
  | add _ => exact keeps_lift 53482063 [.cores, .appCores, .groups, .jobs, .memory, .free] false h (exec_add _) rfl rfl rfl rfl fun _ k => keeps_fxAdd k rfl
  | sub _ => exact keeps_lift 53482063 [.cores, .appCores, .groups, .jobs, .memory, .free] false h (exec_sub _) rfl rfl rfl rfl fun _ k => keeps_fxSub k rfl
  | neg _ => exact keeps_lift 53482063 [.cores, .appCores, .groups, .jobs, .memory, .free] false h (exec_neg _) rfl rfl rfl rfl fun _ k => keeps_fxNeg k rfl
  | mul _ => exact keeps_lift 53482063 [.cores, .appCores, .groups, .jobs, .memory, .free] false h (exec_mul _) rfl rfl rfl rfl fun _ k => keeps_fxMul k rfl
  | mac _ => exact keeps_lift 53482063 [.cores, .appCores, .groups, .jobs, .memory, .free] false h (exec_mac _) rfl rfl rfl rfl fun _ k => keeps_fxMac k rfl
  | cmplt _ => exact keeps_lift 53482063 [.cores, .appCores, .groups, .jobs, .memory, .free] false h (exec_cmplt _) rfl rfl rfl rfl fun _ k => keeps_fxCmplt k rfl
  | cmpeq _ => exact keeps_lift 53482063 [.cores, .appCores, .groups, .jobs, .memory, .free] false h (exec_cmpeq _) rfl rfl rfl rfl fun _ k => keeps_fxCmpeq k rfl
  | sel _ => exact keeps_lift 53482063 [.cores, .appCores, .groups, .jobs, .memory, .free] false h (exec_sel _) rfl rfl rfl rfl fun _ k => keeps_fxSel k rfl
  | shuf _ => exact keeps_lift 53482063 [.cores, .appCores, .groups, .jobs, .memory, .free] false h (exec_shuf _) rfl rfl rfl rfl fun _ k => keeps_fxShuf k rfl
  | bcast _ => exact keeps_lift 53482063 [.cores, .appCores, .groups, .jobs, .memory, .free] false h (exec_bcast _) rfl rfl rfl rfl fun _ k => keeps_fxBcast k rfl
  | add64 _ => exact keeps_lift 53482063 [.cores, .appCores, .groups, .jobs, .memory, .free] false h (exec_add64 _) rfl rfl rfl rfl fun _ k => keeps_fxAdd64 k rfl
  | sub64 _ => exact keeps_lift 53482063 [.cores, .appCores, .groups, .jobs, .memory, .free] false h (exec_sub64 _) rfl rfl rfl rfl fun _ k => keeps_fxSub64 k rfl
  | mul64 _ => exact keeps_lift 53482063 [.cores, .appCores, .groups, .jobs, .memory, .free] false h (exec_mul64 _) rfl rfl rfl rfl fun _ k => keeps_fxMul64 k rfl
  | cmplt64 _ => exact keeps_lift 53482063 [.cores, .appCores, .groups, .jobs, .memory, .free] false h (exec_cmplt64 _) rfl rfl rfl rfl fun _ k => keeps_fxCmplt64 k rfl
  | prmAuto _ => exact keeps_lift 53482063 [.cores, .appCores, .groups, .jobs, .memory, .free] false h (exec_prmAuto _) rfl rfl rfl rfl fun _ k => keeps_fxPrmAuto k rfl
  | prmAutoip _ => exact keeps_lift 53482063 [.cores, .appCores, .groups, .jobs, .memory, .free] false h (exec_prmAutoip _) rfl rfl rfl rfl fun _ k => keeps_fxPrmAutoip k rfl
  | prmTrans _ => exact keeps_lift 53482063 [.cores, .appCores, .groups, .jobs, .memory, .free] false h (exec_prmTrans _) rfl rfl rfl rfl fun _ k => keeps_fxPrmTrans k rfl
  | prmTransip _ => exact keeps_lift 53482063 [.cores, .appCores, .groups, .jobs, .memory, .free] false h (exec_prmTransip _) rfl rfl rfl rfl fun _ k => keeps_fxPrmTransip k rfl
  | prmGather _ => exact keeps_lift 53482063 [.cores, .appCores, .groups, .jobs, .memory, .free] false h (exec_prmGather _) rfl rfl rfl rfl fun _ k => keeps_fxPrmGather k rfl
  | prmScatter _ => exact keeps_lift 53482063 [.cores, .appCores, .groups, .jobs, .memory, .free] false h (exec_prmScatter _) rfl rfl rfl rfl fun _ k => keeps_fxPrmScatter k rfl
  | coordListFail _ => exact keeps_lift 53482063 [.cores, .appCores, .groups, .jobs, .memory, .free] false h (exec_coordListFail _) rfl rfl rfl rfl fun _ k => keeps_fxCoordListFail k rfl
  | prmSend _ => exact keeps_lift 53482063 [.cores, .appCores, .groups, .jobs, .memory, .free] false h (exec_prmSend _) rfl rfl rfl rfl fun _ k => keeps_fxPrmSend k rfl
  | kexGen _ => exact keeps_lift 53482063 [.cores, .appCores, .groups, .jobs, .memory, .free] false h (exec_kexGen _) rfl rfl rfl rfl fun _ k => keeps_fxKexGen k rfl
  | kexGenq _ => exact keeps_lift 53482063 [.cores, .appCores, .groups, .jobs, .memory, .free] false h (exec_kexGenq _) rfl rfl rfl rfl fun _ k => keeps_fxKexGenq k rfl
  | strIssue _ => exact keeps_lift 53482063 [.cores, .appCores, .groups, .jobs, .memory, .free] false h (exec_strIssue _) rfl rfl rfl rfl fun _ k => keeps_fxStrIssue k rfl
  | engineWriteLands _ => exact keeps_lift 53482063 [.cores, .appCores, .groups, .jobs, .memory, .free] false h (exec_engineWriteLands _) rfl rfl rfl rfl fun _ k => keeps_fxEngineWriteLands k rfl
  | tileDeposit _ => exact keeps_lift 53482063 [.cores, .appCores, .groups, .jobs, .memory, .free] false h (exec_tileDeposit _) rfl rfl rfl rfl fun _ k => keeps_fxTileDeposit k rfl
  | freezeEnd _ _ => exact keeps_lift 53482063 [.cores, .appCores, .groups, .jobs, .memory, .free] false h (exec_freezeEnd _ _) rfl rfl rfl rfl fun _ k => keeps_fxFreezeEnd k rfl
  | streamTimeout _ _ => exact keeps_lift 53482063 [.cores, .appCores, .groups, .jobs, .memory, .free] false h (exec_streamTimeout _ _) rfl rfl rfl rfl fun _ k => keeps_fxStreamTimeout k rfl
  | auditFreeze _ => exact keeps_lift 53482063 [.cores, .appCores, .groups, .jobs, .memory, .free] false h (exec_auditFreeze _) rfl rfl rfl rfl fun _ k => keeps_fxAuditFreeze k rfl
  | blockDispatch _ => exact keeps_lift 53482063 [.cores, .appCores, .groups, .jobs, .memory, .free] false h (exec_blockDispatch _) rfl rfl rfl rfl fun _ k => keeps_fxBlockDispatch k rfl
  | blockBoundary _ => exact keeps_lift 53482063 [.cores, .appCores, .groups, .jobs, .memory, .free] false h (exec_blockBoundary _) rfl rfl rfl rfl fun _ k => keeps_fxBlockBoundary k rfl
  | seqBqPush _ _ => exact keeps_lift 53482063 [.cores, .appCores, .groups, .jobs, .memory, .free] false h (exec_seqBqPush _ _) rfl rfl rfl rfl fun _ k => keeps_fxSeqBqPush k rfl
  | pushHeldAccept _ => exact keeps_lift 53482063 [.cores, .appCores, .groups, .jobs, .memory, .free] false h (exec_pushHeldAccept _) rfl rfl rfl rfl fun _ k => keeps_fxPushHeldAccept k rfl
  | imageFetchDone _ _ => exact keeps_lift 53482063 [.cores, .appCores, .groups, .jobs, .memory, .free] false h (exec_imageFetchDone _ _) rfl rfl rfl rfl fun _ k => keeps_fxImageFetchDone k rfl
  | lsCorrectionRewrite _ => exact keeps_lift 53482063 [.cores, .appCores, .groups, .jobs, .memory, .free] false h (exec_lsCorrectionRewrite _) rfl rfl rfl rfl fun _ k => keeps_fxLsCorrectionRewrite k rfl
  | lsScrubStep _ _ => exact keeps_lift 53482063 [.cores, .appCores, .groups, .jobs, .memory, .free] false h (exec_lsScrubStep _ _) rfl rfl rfl rfl fun _ k => keeps_fxLsScrubStep k rfl
  | narrowRead _ _ _ _ => exact keeps_lift 36704843 [.cores, .appCores, .jobs, .memory] false h (exec_narrowRead _ _ _ _) rfl rfl rfl rfl fun _ k => keeps_fxNarrowRead k rfl
  | narrowWrite _ _ _ _ _ _ => exact keeps_lift 36704843 [.cores, .appCores, .jobs, .memory] false h (exec_narrowWrite _ _ _ _ _ _) rfl rfl rfl rfl fun _ k => keeps_fxNarrowWrite k rfl
  | lsWipeDone _ => exact keeps_lift 53482063 [.cores, .appCores, .groups, .jobs, .memory, .free] false h (exec_lsWipeDone _) rfl rfl rfl rfl fun _ k => keeps_fxLsWipeDone k rfl
  | exchangeLand _ => exact keeps_lift 36704843 [.cores, .appCores, .jobs, .memory] false h (exec_exchangeLand _) rfl rfl rfl rfl fun _ k => keeps_fxExchangeLand k rfl
  | kloadGo _ _ _ => exact keeps_lift 53482063 [.cores, .appCores, .groups, .jobs, .memory, .free] false h (exec_kloadGo _ _ _) rfl rfl rfl rfl fun _ k => keeps_fxKloadGo k rfl
  | kloadForce _ _ _ => exact keeps_lift 53482063 [.cores, .appCores, .groups, .jobs, .memory, .free] false h (exec_kloadForce _ _ _) rfl rfl rfl rfl fun _ k => keeps_fxKloadForce k rfl
  | kloadDone _ => exact keeps_lift 53482063 [.cores, .appCores, .groups, .jobs, .memory, .free] false h (exec_kloadDone _) rfl rfl rfl rfl fun _ k => keeps_fxKloadDone k rfl
  | getVersion => exact keeps_lift 36835336 [.security] false h (exec_getVersion) rfl rfl rfl rfl fun _ k => keeps_fxGetVersion k rfl
  | getCapabilities => exact keeps_lift 36835336 [.security] false h (exec_getCapabilities) rfl rfl rfl rfl fun _ k => keeps_fxGetCapabilities k rfl
  | negotiateAlgorithms _ => exact keeps_lift 36835336 [.security] false h (exec_negotiateAlgorithms _) rfl rfl rfl rfl fun _ k => keeps_fxNegotiateAlgorithms k rfl
  | keyExchange _ _ => exact keeps_lift 53613135 [.cores, .appCores, .groups, .jobs, .memory, .security, .free] false h (exec_keyExchange _ _) rfl rfl rfl rfl fun _ k => keeps_fxKeyExchange k rfl
  | finish _ _ => exact keeps_lift 36835336 [.security] false h (exec_finish _ _) rfl rfl rfl rfl fun _ k => keeps_fxFinish k rfl
  | getMeasurements _ _ => exact keeps_lift 53481480 [.free] false h (exec_getMeasurements _ _) rfl rfl rfl rfl fun _ k => keeps_fxGetMeasurements k rfl
  | getReport _ => exact keeps_lift 36835336 [.security] false h (exec_getReport _) rfl rfl rfl rfl fun _ k => keeps_fxGetReport k rfl
  | getDeviceCert _ _ => exact keeps_lift 36704264 [] false h (exec_getDeviceCert _ _) rfl rfl rfl rfl fun _ k => keeps_fxGetDeviceCert k rfl
  | bootStage _ _ _ => exact keeps_lift 53882888 [.nor, .security, .fuses, .free] false h (exec_bootStage _ _ _) rfl rfl rfl rfl fun _ k => keeps_fxBootStage k rfl
  | secKcopyGo _ _ => exact keeps_lift 36835336 [.security] false h (exec_secKcopyGo _ _) rfl rfl rfl rfl fun _ k => keeps_fxSecKcopyGo k rfl
  | kcopyDone => exact keeps_lift 36835915 [.cores, .appCores, .jobs, .memory, .security] false h (exec_kcopyDone) rfl rfl rfl rfl fun _ k => keeps_fxKcopyDone k rfl
  | reservationLogWrite _ => exact keeps_lift 36843528 [.nor, .security] false h (exec_reservationLogWrite _) rfl rfl rfl rfl fun _ k => keeps_fxReservationLogWrite k rfl
  | bneReqPush _ => exact keeps_lift 36835336 [.security] false h (exec_bneReqPush _) rfl rfl rfl rfl fun _ k => keeps_fxBneReqPush k rfl
  | bneRequestStart => exact keeps_lift 36835915 [.cores, .appCores, .jobs, .memory, .security] false h (exec_bneRequestStart) rfl rfl rfl rfl fun _ k => keeps_fxBneRequestStart k rfl
  | bneFetchDone _ _ => exact keeps_lift 36835915 [.cores, .appCores, .jobs, .memory, .security] false h (exec_bneFetchDone _ _) rfl rfl rfl rfl fun _ k => keeps_fxBneFetchDone k rfl
  | bneComputeDone _ => exact keeps_lift 54263807 [.cores, .appCores, .groups, .pcie, .expert, .jobs, .nextJob, .grants, .memory, .starlane, .power, .nor, .config, .update, .mirror, .security, .violations, .free] false h (exec_bneComputeDone _) rfl rfl rfl rfl fun _ k => keeps_fxBneComputeDone k rfl
  | bneWipeDone => exact keeps_lift 36835336 [.security] false h (exec_bneWipeDone) rfl rfl rfl rfl fun _ k => keeps_fxBneWipeDone k rfl
  | securityViolation _ => exact keeps_lift 37486591 [.cores, .appCores, .groups, .pcie, .expert, .jobs, .nextJob, .grants, .memory, .starlane, .power, .nor, .config, .update, .mirror, .security, .violations] false h (exec_securityViolation _) rfl rfl rfl rfl fun _ k => keeps_fxSecurityViolation k rfl
  | tokenSignalArrives _ _ => exact keeps_lift 36704265 [.cores] false h (exec_tokenSignalArrives _ _) rfl rfl rfl rfl fun _ k => keeps_fxTokenSignalArrives k rfl
  | run _ _ => exact keeps_lift 36704265 [.cores] false h (exec_run _ _) rfl rfl rfl rfl fun _ k => keeps_unlessRelock k rfl fun _ k => keeps_fxRun k rfl
  | post _ _ => exact keeps_lift 36704331 [.cores, .appCores, .jobs] false h (exec_post _ _) rfl rfl rfl rfl fun _ k => keeps_unlessRelock k rfl fun _ k => keeps_fxPost k rfl
  | kbind _ _ => exact keeps_lift 36704335 [.cores, .appCores, .groups, .jobs] false h (exec_kbind _ _) rfl rfl rfl rfl fun _ k => keeps_unlessRelock k rfl fun _ k => keeps_fxKbind k rfl
  | leave _ _ => exact keeps_lift 36704781 [.cores, .groups, .memory] false h (exec_leave _ _) rfl rfl rfl rfl fun _ k => keeps_unlessRelock k rfl fun _ k => keeps_fxLeave k rfl
  | unpost _ _ => exact keeps_lift 36704331 [.cores, .appCores, .jobs] false h (exec_unpost _ _) rfl rfl rfl rfl fun _ k => keeps_unlessRelock k rfl fun _ k => keeps_fxUnpost k rfl
  | unpostComplete _ _ => exact keeps_lift 36704265 [.cores] false h (exec_unpostComplete _ _) rfl rfl rfl rfl fun _ k => keeps_unlessRelock k rfl fun _ k => keeps_fxUnpostComplete k rfl
  | release _ _ => exact keeps_lift 36704331 [.cores, .appCores, .jobs] false h (exec_release _ _) rfl rfl rfl rfl fun _ k => keeps_unlessRelock k rfl fun _ k => keeps_fxRelease k rfl
  | strEnd _ _ => exact keeps_lift 36704265 [.cores] false h (exec_strEnd _ _) rfl rfl rfl rfl fun _ k => keeps_unlessRelock k rfl fun _ k => keeps_fxStrEnd k rfl
  | seta _ _ => exact keeps_lift 36704265 [.cores] false h (exec_seta _ _) rfl rfl rfl rfl fun _ k => keeps_unlessRelock k rfl fun _ k => keeps_fxSeta k rfl
  | adda _ _ => exact keeps_lift 36704265 [.cores] false h (exec_adda _ _) rfl rfl rfl rfl fun _ k => keeps_unlessRelock k rfl fun _ k => keeps_fxAdda k rfl
  | setl _ _ => exact keeps_lift 36704265 [.cores] false h (exec_setl _ _) rfl rfl rfl rfl fun _ k => keeps_unlessRelock k rfl fun _ k => keeps_fxSetl k rfl
  | addl _ _ => exact keeps_lift 36704265 [.cores] false h (exec_addl _ _) rfl rfl rfl rfl fun _ k => keeps_unlessRelock k rfl fun _ k => keeps_fxAddl k rfl
  | strLoop _ _ => exact keeps_lift 36704265 [.cores] false h (exec_strLoop _ _) rfl rfl rfl rfl fun _ k => keeps_unlessRelock k rfl fun _ k => keeps_fxStrLoop k rfl
  | rd _ _ => exact keeps_lift 53482063 [.cores, .appCores, .groups, .jobs, .memory, .free] false h (exec_rd _ _) rfl rfl rfl rfl fun _ k => keeps_unlessRelock k rfl fun _ k => keeps_fxRd k rfl
  | wr _ _ => exact keeps_lift 53482063 [.cores, .appCores, .groups, .jobs, .memory, .free] false h (exec_wr _ _) rfl rfl rfl rfl fun _ k => keeps_unlessRelock k rfl fun _ k => keeps_fxWr k rfl
  | rrd _ _ => exact keeps_lift 53482063 [.cores, .appCores, .groups, .jobs, .memory, .free] false h (exec_rrd _ _) rfl rfl rfl rfl fun _ k => keeps_unlessRelock k rfl fun _ k => keeps_fxRrd k rfl
  | rwr _ _ => exact keeps_lift 53482063 [.cores, .appCores, .groups, .jobs, .memory, .free] false h (exec_rwr _ _) rfl rfl rfl rfl fun _ k => keeps_unlessRelock k rfl fun _ k => keeps_fxRwr k rfl
  | waitt _ _ => exact keeps_lift 36704265 [.cores] false h (exec_waitt _ _) rfl rfl rfl rfl fun _ k => keeps_unlessRelock k rfl fun _ k => keeps_fxWaitt k rfl
  | waittSatisfied _ _ => exact keeps_lift 36704265 [.cores] false h (exec_waittSatisfied _ _) rfl rfl rfl rfl fun _ k => keeps_unlessRelock k rfl fun _ k => keeps_fxWaittSatisfied k rfl
  | sig _ _ => exact keeps_lift 36704265 [.cores] false h (exec_sig _ _) rfl rfl rfl rfl fun _ k => keeps_unlessRelock k rfl fun _ k => keeps_fxSig k rfl
  | sigSignalled _ _ => exact keeps_lift 36704329 [.cores, .jobs] false h (exec_sigSignalled _ _) rfl rfl rfl rfl fun _ k => keeps_unlessRelock k rfl fun _ k => keeps_fxSigSignalled k rfl
  | fence _ _ => exact keeps_lift 36704265 [.cores] false h (exec_fence _ _) rfl rfl rfl rfl fun _ k => keeps_unlessRelock k rfl fun _ k => keeps_fxFence k rfl
  | fenceComplete _ _ => exact keeps_lift 36704265 [.cores] false h (exec_fenceComplete _ _) rfl rfl rfl rfl fun _ k => keeps_unlessRelock k rfl fun _ k => keeps_fxFenceComplete k rfl
  | ringRowLands _ _ _ => exact keeps_lift 36704843 [.cores, .appCores, .jobs, .memory] false h (exec_ringRowLands _ _ _) rfl rfl rfl rfl fun _ k => keeps_unlessRelock k rfl fun _ k => keeps_fxRingRowLands k rfl
  | lsend _ _ => exact keeps_lift 53482063 [.cores, .appCores, .groups, .jobs, .memory, .free] false h (exec_lsend _ _) rfl rfl rfl rfl fun _ k => keeps_unlessRelock k rfl fun _ k => keeps_fxLsend k rfl
  | transferRequest _ _ _ => exact keeps_lift 53483087 [.cores, .appCores, .groups, .jobs, .memory, .starlane, .free] false h (exec_transferRequest _ _ _) rfl rfl rfl rfl fun _ k => keeps_unlessRelock k rfl fun _ k => keeps_fxTransferRequest k rfl
  | outboundRowDrain _ _ _ => exact keeps_lift 53483087 [.cores, .appCores, .groups, .jobs, .memory, .starlane, .free] false h (exec_outboundRowDrain _ _ _) rfl rfl rfl rfl fun _ k => keeps_unlessRelock k rfl fun _ k => keeps_fxOutboundRowDrain k rfl
  | peerAdd _ => exact keeps_lift 36705288 [.starlane] false h (exec_peerAdd _) rfl rfl rfl rfl fun _ k => keeps_fxPeerAdd k rfl
  | peerRemove _ => exact keeps_lift 36770825 [.cores, .starlane, .mirror] false h (exec_peerRemove _) rfl rfl rfl rfl fun _ k => keeps_fxPeerRemove k rfl
  | peerSetOwners _ _ => exact keeps_lift 36705288 [.starlane] false h (exec_peerSetOwners _ _) rfl rfl rfl rfl fun _ k => keeps_fxPeerSetOwners k rfl
  | peerDrainDone _ => exact keeps_lift 36705288 [.starlane] false h (exec_peerDrainDone _) rfl rfl rfl rfl fun _ k => keeps_fxPeerDrainDone k rfl
  | probe _ => exact keeps_lift 36705288 [.starlane] false h (exec_probe _) rfl rfl rfl rfl fun _ k => keeps_fxProbe k rfl
  | probeAck _ => exact keeps_lift 36770825 [.cores, .starlane, .mirror] false h (exec_probeAck _) rfl rfl rfl rfl fun _ k => keeps_fxProbeAck k rfl
  | probeNak _ => exact keeps_lift 36770825 [.cores, .starlane, .mirror] false h (exec_probeNak _) rfl rfl rfl rfl fun _ k => keeps_fxProbeNak k rfl
  | probeRetry _ => exact keeps_lift 36705288 [.starlane] false h (exec_probeRetry _) rfl rfl rfl rfl fun _ k => keeps_fxProbeRetry k rfl
  | streamMessageReceive _ => exact keeps_lift 53548623 [.cores, .appCores, .groups, .jobs, .memory, .starlane, .mirror, .free] false h (exec_streamMessageReceive _) rfl rfl rfl rfl fun _ k => keeps_fxStreamMessageReceive k rfl
  | mackSend _ _ => exact keeps_lift 36705288 [.starlane] false h (exec_mackSend _ _) rfl rfl rfl rfl fun _ k => keeps_fxMackSend k rfl
  | refuse _ _ _ _ _ => exact keeps_lift 36705355 [.cores, .appCores, .jobs, .starlane] false h (exec_refuse _ _ _ _ _) rfl rfl rfl rfl fun _ k => keeps_fxRefuse k rfl
  | rnr _ _ _ _ => exact keeps_lift 36705288 [.starlane] false h (exec_rnr _ _ _ _) rfl rfl rfl rfl fun _ k => keeps_fxRnr k rfl
  | rnrResend _ _ _ => exact keeps_lift 36705288 [.starlane] false h (exec_rnrResend _ _ _) rfl rfl rfl rfl fun _ k => keeps_fxRnrResend k rfl
  | linkSendTimeout _ _ _ => exact keeps_lift 36705355 [.cores, .appCores, .jobs, .starlane] false h (exec_linkSendTimeout _ _ _) rfl rfl rfl rfl fun _ k => keeps_fxLinkSendTimeout k rfl
  | peerWaitTimeout _ _ => exact keeps_lift 36705355 [.cores, .appCores, .jobs, .starlane] false h (exec_peerWaitTimeout _ _) rfl rfl rfl rfl fun _ k => keeps_fxPeerWaitTimeout k rfl
  | linkGroupMemberDrop _ _ _ _ => exact keeps_lift 36705355 [.cores, .appCores, .jobs, .starlane] false h (exec_linkGroupMemberDrop _ _ _ _) rfl rfl rfl rfl fun _ k => keeps_fxLinkGroupMemberDrop k rfl
  | kstGrpOpen _ _ _ _ => exact keeps_lift 36704781 [.cores, .groups, .memory] false h (exec_kstGrpOpen _ _ _ _) rfl rfl rfl rfl fun _ k => keeps_fxKstGrpOpen k rfl
  | kstGrpClose _ _ _ _ => exact keeps_lift 36704781 [.cores, .groups, .memory] false h (exec_kstGrpClose _ _ _ _) rfl rfl rfl rfl fun _ k => keeps_fxKstGrpClose k rfl
  | groupHeaderRead _ _ => exact keeps_lift 53482063 [.cores, .appCores, .groups, .jobs, .memory, .free] false h (exec_groupHeaderRead _ _) rfl rfl rfl rfl fun _ k => keeps_fxGroupHeaderRead k rfl
  | keyHeaderArrives _ _ _ => exact keeps_lift 53482063 [.cores, .appCores, .groups, .jobs, .memory, .free] false h (exec_keyHeaderArrives _ _ _) rfl rfl rfl rfl fun _ k => keeps_fxKeyHeaderArrives k rfl
  | expectedTagReady _ _ => exact keeps_lift 53482063 [.cores, .appCores, .groups, .jobs, .memory, .free] false h (exec_expectedTagReady _ _) rfl rfl rfl rfl fun _ k => keeps_fxExpectedTagReady k rfl
  | keyChunkArrives _ _ => exact keeps_lift 53482063 [.cores, .appCores, .groups, .jobs, .memory, .free] false h (exec_keyChunkArrives _ _) rfl rfl rfl rfl fun _ k => keeps_fxKeyChunkArrives k rfl
  | multicastRowSend _ _ => exact keeps_lift 53482063 [.cores, .appCores, .groups, .jobs, .memory, .free] false h (exec_multicastRowSend _ _) rfl rfl rfl rfl fun _ k => keeps_fxMulticastRowSend k rfl
  | memberDrop _ _ _ => exact keeps_lift 53482063 [.cores, .appCores, .groups, .jobs, .memory, .free] false h (exec_memberDrop _ _ _) rfl rfl rfl rfl fun _ k => keeps_fxMemberDrop k rfl
  | catchupRead _ _ _ => exact keeps_lift 53482063 [.cores, .appCores, .groups, .jobs, .memory, .free] false h (exec_catchupRead _ _ _) rfl rfl rfl rfl fun _ k => keeps_fxCatchupRead k rfl
  | groupStreamEnd _ _ => exact keeps_lift 53482063 [.cores, .appCores, .groups, .jobs, .memory, .free] false h (exec_groupStreamEnd _ _) rfl rfl rfl rfl fun _ k => keeps_fxGroupStreamEnd k rfl
  | hbmReadReturn _ _ _ _ => exact keeps_lift 53483087 [.cores, .appCores, .groups, .jobs, .memory, .starlane, .free] false h (exec_hbmReadReturn _ _ _ _) rfl rfl rfl rfl fun _ k => keeps_fxHbmReadReturn k rfl
  | fabricUncorrectable _ _ _ _ => exact keeps_lift 53483087 [.cores, .appCores, .groups, .jobs, .memory, .starlane, .free] false h (exec_fabricUncorrectable _ _ _ _) rfl rfl rfl rfl fun _ k => keeps_fxFabricUncorrectable k rfl
  | jobStart _ _ => exact keeps_lift 53613135 [.cores, .appCores, .groups, .jobs, .memory, .security, .free] false h (exec_jobStart _ _) rfl rfl rfl rfl fun _ k => keeps_fxJobStart k rfl
  | jobBoundary _ _ => exact keeps_lift 53483087 [.cores, .appCores, .groups, .jobs, .memory, .starlane, .free] false h (exec_jobBoundary _ _) rfl rfl rfl rfl fun _ k => keeps_fxJobBoundary k rfl
  | jobCompletion _ _ => exact keeps_lift 53483087 [.cores, .appCores, .groups, .jobs, .memory, .starlane, .free] false h (exec_jobCompletion _ _) rfl rfl rfl rfl fun _ k => keeps_fxJobCompletion k rfl
  | functionLevelReset _ => exact keeps_lift 53614207 [.cores, .appCores, .groups, .pcie, .expert, .jobs, .memory, .starlane, .security, .free] false h (exec_functionLevelReset _) rfl rfl rfl rfl fun _ k => keeps_fxFunctionLevelReset k rfl
  | kSetGo _ => exact keeps_lift 36704280 [.pcie] false h (exec_kSetGo _) rfl rfl rfl rfl fun _ k => keeps_fxKSetGo k rfl
  | ideIntegrityFail _ => exact keeps_lift 53614159 [.cores, .appCores, .groups, .jobs, .memory, .starlane, .security, .free] false h (exec_ideIntegrityFail _) rfl rfl rfl rfl fun _ k => keeps_fxIdeIntegrityFail k rfl
  | stopInterface _ => exact keeps_lift 53483215 [.cores, .appCores, .groups, .jobs, .nextJob, .memory, .starlane, .free] false h (exec_stopInterface _) rfl rfl rfl rfl fun _ k => keeps_fxStopInterface k rfl
  | lockInterfaceRequest _ _ => exact keeps_lift 36704264 [] false h (exec_lockInterfaceRequest _ _) rfl rfl rfl rfl fun _ k => keeps_fxLockInterfaceRequest k rfl
  | tdiConfigChange _ => exact keeps_lift 53614159 [.cores, .appCores, .groups, .jobs, .memory, .starlane, .security, .free] false h (exec_tdiConfigChange _) rfl rfl rfl rfl fun _ k => keeps_fxTdiConfigChange k rfl
  | startInterfaceRequest _ => exact keeps_lift 36704456 [.jobs, .nextJob] false h (exec_startInterfaceRequest _) rfl rfl rfl rfl fun _ k => keeps_fxStartInterfaceRequest k rfl
  | stopInterfaceWipeDone _ => exact keeps_lift 36704776 [.memory] false h (exec_stopInterfaceWipeDone _) rfl rfl rfl rfl fun _ k => keeps_fxStopInterfaceWipeDone k rfl
  | smallPathWindow _ => exact keeps_lift 36704843 [.cores, .appCores, .jobs, .memory] false h (exec_smallPathWindow _) rfl rfl rfl rfl fun _ k => keeps_fxSmallPathWindow k rfl
  | wcbPartialWrite _ _ _ _ => exact keeps_lift 36704843 [.cores, .appCores, .jobs, .memory] false h (exec_wcbPartialWrite _ _ _ _) rfl rfl rfl rfl fun _ k => keeps_fxWcbPartialWrite k rfl
  | wcbAgeFlush _ => exact keeps_lift 36704843 [.cores, .appCores, .jobs, .memory] false h (exec_wcbAgeFlush _) rfl rfl rfl rfl fun _ k => keeps_fxWcbAgeFlush k rfl
  | wcbFlush _ _ => exact keeps_lift 36704843 [.cores, .appCores, .jobs, .memory] false h (exec_wcbFlush _ _) rfl rfl rfl rfl fun _ k => keeps_fxWcbFlush k rfl
  | regulatorTick _ => exact keeps_lift 36704776 [.memory] false h (exec_regulatorTick _) rfl rfl rfl rfl fun _ k => keeps_fxRegulatorTick k rfl
  | regulatedIssue _ => exact keeps_lift 36704843 [.cores, .appCores, .jobs, .memory] false h (exec_regulatedIssue _) rfl rfl rfl rfl fun _ k => keeps_fxRegulatedIssue k rfl
  | mregRateWrite _ _ _ => exact keeps_lift 36704776 [.memory] false h (exec_mregRateWrite _ _ _) rfl rfl rfl rfl fun _ k => keeps_fxMregRateWrite k rfl
  | refreshSlot _ _ _ => exact keeps_lift 36704776 [.memory] false h (exec_refreshSlot _ _ _) rfl rfl rfl rfl fun _ k => keeps_fxRefreshSlot k rfl
  | tgcStart _ _ _ => exact keeps_lift 36704776 [.memory] false h (exec_tgcStart _ _ _) rfl rfl rfl rfl fun _ k => keeps_fxTgcStart k rfl
  | tgcStop _ _ _ _ => exact keeps_lift 36704776 [.memory] false h (exec_tgcStop _ _ _ _) rfl rfl rfl rfl fun _ k => keeps_fxTgcStop k rfl
  | tgcTestEnd _ _ _ => exact keeps_lift 36704776 [.memory] false h (exec_tgcTestEnd _ _ _) rfl rfl rfl rfl fun _ k => keeps_fxTgcTestEnd k rfl
  | maintSet _ => exact keeps_lift 36704776 [.memory] false h (exec_maintSet _) rfl rfl rfl rfl fun _ k => keeps_fxMaintSet k rfl
  | maintClear _ => exact keeps_lift 36704776 [.memory] false h (exec_maintClear _) rfl rfl rfl rfl fun _ k => keeps_fxMaintClear k rfl
  | maintWipeDone => exact keeps_lift 36704776 [.memory] false h (exec_maintWipeDone) rfl rfl rfl rfl fun _ k => keeps_fxMaintWipeDone k rfl
  | flitCrcReplay _ _ _ => exact keeps_lift 36704776 [.memory] false h (exec_flitCrcReplay _ _ _) rfl rfl rfl rfl fun _ k => keeps_fxFlitCrcReplay k rfl
  | laneSpareReplace _ _ => exact keeps_lift 36704776 [.memory] false h (exec_laneSpareReplace _ _) rfl rfl rfl rfl fun _ k => keeps_fxLaneSpareReplace k rfl
  | d2dRetrain _ => exact keeps_lift 36704776 [.memory] false h (exec_d2dRetrain _) rfl rfl rfl rfl fun _ k => keeps_fxD2dRetrain k rfl
  | cartridgeFailure _ => exact keeps_lift 36770825 [.cores, .starlane, .mirror] false h (exec_cartridgeFailure _) rfl rfl rfl rfl fun _ k => keeps_fxCartridgeFailure k rfl
  | cartRelease _ => exact keeps_lift 36770825 [.cores, .starlane, .mirror] false h (exec_cartRelease _) rfl rfl rfl rfl fun _ k => keeps_fxCartRelease k rfl
  | cartRestore _ => exact keeps_lift 36705288 [.starlane] false h (exec_cartRestore _) rfl rfl rfl rfl fun _ k => keeps_fxCartRestore k rfl
  | cartridgeInsert _ => exact keeps_lift 36705288 [.starlane] false h (exec_cartridgeInsert _) rfl rfl rfl rfl fun _ k => keeps_fxCartridgeInsert k rfl
  | cartridgeLit _ => exact keeps_lift 36705288 [.starlane] false h (exec_cartridgeLit _) rfl rfl rfl rfl fun _ k => keeps_fxCartridgeLit k rfl
  | cartridgeLeverOpen _ => exact keeps_lift 36770825 [.cores, .starlane, .mirror] false h (exec_cartridgeLeverOpen _) rfl rfl rfl rfl fun _ k => keeps_fxCartridgeLeverOpen k rfl
  | linkLightDetect _ => exact keeps_lift 36705288 [.starlane] false h (exec_linkLightDetect _) rfl rfl rfl rfl fun _ k => keeps_fxLinkLightDetect k rfl
  | linkTrainStep _ => exact keeps_lift 36705288 [.starlane] false h (exec_linkTrainStep _) rfl rfl rfl rfl fun _ k => keeps_fxLinkTrainStep k rfl
  | linkTrainTimeout _ => exact keeps_lift 36770825 [.cores, .starlane, .mirror] false h (exec_linkTrainTimeout _) rfl rfl rfl rfl fun _ k => keeps_fxLinkTrainTimeout k rfl
  | hello _ _ _ _ => exact keeps_lift 36770825 [.cores, .starlane, .mirror] false h (exec_hello _ _ _ _) rfl rfl rfl rfl fun _ k => keeps_fxHello k rfl
  | lossOfLock _ => exact keeps_lift 36705288 [.starlane] false h (exec_lossOfLock _) rfl rfl rfl rfl fun _ k => keeps_fxLossOfLock k rfl
  | fastRetrainDone _ => exact keeps_lift 36770825 [.cores, .starlane, .mirror] false h (exec_fastRetrainDone _) rfl rfl rfl rfl fun _ k => keeps_fxFastRetrainDone k rfl
  | fastRetrainFail _ => exact keeps_lift 36770825 [.cores, .starlane, .mirror] false h (exec_fastRetrainFail _) rfl rfl rfl rfl fun _ k => keeps_fxFastRetrainFail k rfl
  | linkRetryExpiry _ => exact keeps_lift 36705288 [.starlane] false h (exec_linkRetryExpiry _) rfl rfl rfl rfl fun _ k => keeps_fxLinkRetryExpiry k rfl
  | flitReceive _ _ _ => exact keeps_lift 36707336 [.starlane, .power] false h (exec_flitReceive _ _ _) rfl rfl rfl rfl fun _ k => keeps_fxFlitReceive k rfl
  | nakReceive _ _ => exact keeps_lift 36705288 [.starlane] false h (exec_nakReceive _ _) rfl rfl rfl rfl fun _ k => keeps_fxNakReceive k rfl
  | lnkRetrain _ _ => exact keeps_lift 36770825 [.cores, .starlane, .mirror] false h (exec_lnkRetrain _ _) rfl rfl rfl rfl fun _ k => keeps_fxLnkRetrain k rfl
  | mack _ _ _ _ _ => exact keeps_lift 36705867 [.cores, .appCores, .jobs, .memory, .starlane] false h (exec_mack _ _ _ _ _) rfl rfl rfl rfl fun _ k => keeps_fxMack k rfl
  | winOpen _ => exact keeps_lift 36770824 [.starlane, .mirror] false h (exec_winOpen _) rfl rfl rfl rfl fun _ k => keeps_fxWinOpen k rfl
  | winClose _ => exact keeps_lift 36705288 [.starlane] false h (exec_winClose _) rfl rfl rfl rfl fun _ k => keeps_fxWinClose k rfl
  | winClosed _ => exact keeps_lift 36705288 [.starlane] false h (exec_winClosed _) rfl rfl rfl rfl fun _ k => keeps_fxWinClosed k rfl
  | windowWriteReceive _ => exact keeps_lift 36705288 [.starlane] false h (exec_windowWriteReceive _) rfl rfl rfl rfl fun _ k => keeps_fxWindowWriteReceive k rfl
  | windowWriteComplete _ => exact keeps_lift 36705867 [.cores, .appCores, .jobs, .memory, .starlane] false h (exec_windowWriteComplete _) rfl rfl rfl rfl fun _ k => keeps_fxWindowWriteComplete k rfl
  | winXferPush _ _ => exact keeps_lift 36705288 [.starlane] false h (exec_winXferPush _ _) rfl rfl rfl rfl fun _ k => keeps_fxWinXferPush k rfl
  | winXferStart => exact keeps_lift 36705867 [.cores, .appCores, .jobs, .memory, .starlane] false h (exec_winXferStart) rfl rfl rfl rfl fun _ k => keeps_fxWinXferStart k rfl
  | windowClosed _ _ => exact keeps_lift 36705867 [.cores, .appCores, .jobs, .memory, .starlane] false h (exec_windowClosed _ _) rfl rfl rfl rfl fun _ k => keeps_fxWindowClosed k rfl
  | windowRefused _ _ => exact keeps_lift 36771403 [.cores, .appCores, .jobs, .memory, .starlane, .mirror] false h (exec_windowRefused _ _) rfl rfl rfl rfl fun _ k => keeps_fxWindowRefused k rfl
  | slotLoad _ _ _ => exact keeps_lift 53613135 [.cores, .appCores, .groups, .jobs, .memory, .security, .free] false h (exec_slotLoad _ _ _) rfl rfl rfl rfl fun _ k => keeps_fxSlotLoad k rfl
  | slotLoadDone _ => exact keeps_lift 53613135 [.cores, .appCores, .groups, .jobs, .memory, .security, .free] false h (exec_slotLoadDone _) rfl rfl rfl rfl fun _ k => keeps_fxSlotLoadDone k rfl
  | slotRelease _ _ => exact keeps_lift 53613135 [.cores, .appCores, .groups, .jobs, .memory, .security, .free] false h (exec_slotRelease _ _) rfl rfl rfl rfl fun _ k => keeps_fxSlotRelease k rfl
  | slotWipeDone _ => exact keeps_lift 53613135 [.cores, .appCores, .groups, .jobs, .memory, .security, .free] false h (exec_slotWipeDone _) rfl rfl rfl rfl fun _ k => keeps_fxSlotWipeDone k rfl
  | pdecPush _ _ => exact keeps_lift 53613135 [.cores, .appCores, .groups, .jobs, .memory, .security, .free] false h (exec_pdecPush _ _) rfl rfl rfl rfl fun _ k => keeps_fxPdecPush k rfl
  | pdecRequestStart => exact keeps_lift 53613135 [.cores, .appCores, .groups, .jobs, .memory, .security, .free] false h (exec_pdecRequestStart) rfl rfl rfl rfl fun _ k => keeps_fxPdecRequestStart k rfl
  | pdecDone => exact keeps_lift 53613135 [.cores, .appCores, .groups, .jobs, .memory, .security, .free] false h (exec_pdecDone) rfl rfl rfl rfl fun _ k => keeps_fxPdecDone k rfl
  | intakeSeal _ _ _ _ => exact keeps_lift 53655752 [.jobs, .nextJob, .power, .nor, .update, .security, .free] false h (exec_intakeSeal _ _ _ _) rfl rfl rfl rfl fun _ k => keeps_fxIntakeSeal k rfl
  | bar0Access _ _ _ _ _ => exact keeps_lift 53739519 [.cores, .appCores, .groups, .pcie, .expert, .jobs, .nextJob, .grants, .memory, .starlane, .power, .nor, .config, .update, .mirror, .security, .free] false h (exec_bar0Access _ _ _ _ _) rfl rfl rfl rfl fun _ k => keeps_fxBar0Access k rfl
  | bar2Access _ _ _ _ _ => exact keeps_lift 53656139 [.cores, .appCores, .jobs, .memory, .power, .nor, .update, .security, .free] false h (exec_bar2Access _ _ _ _ _) rfl rfl rfl rfl fun _ k => keeps_fxBar2Access k rfl
  | i3cSetOffset _ => exact keeps_lift 36704264 [] false h (exec_i3cSetOffset _) rfl rfl rfl rfl fun _ k => keeps_fxI3cSetOffset k rfl
  | i3cRegisterWrite _ => exact keeps_lift 53739519 [.cores, .appCores, .groups, .pcie, .expert, .jobs, .nextJob, .grants, .memory, .starlane, .power, .nor, .config, .update, .mirror, .security, .free] false h (exec_i3cRegisterWrite _) rfl rfl rfl rfl fun _ k => keeps_fxI3cRegisterWrite k rfl
  | i3cRegisterRead => exact keeps_lift 36704331 [.cores, .appCores, .jobs] false h (exec_i3cRegisterRead) rfl rfl rfl rfl fun _ k => keeps_fxI3cRegisterRead k rfl
  | registerWrite _ _ _ => exact keeps_lift 53739519 [.cores, .appCores, .groups, .pcie, .expert, .jobs, .nextJob, .grants, .memory, .starlane, .power, .nor, .config, .update, .mirror, .security, .free] false h (exec_registerWrite _ _ _) rfl rfl rfl rfl fun _ k => keeps_fxRegisterWrite k rfl
  | configurationRequest _ => exact keeps_lift 53655167 [.cores, .appCores, .groups, .pcie, .expert, .jobs, .memory, .starlane, .nor, .update, .security, .free] false h (exec_configurationRequest _) rfl rfl rfl rfl fun _ k => keeps_fxConfigurationRequest k rfl
  | heldSealEvaluate _ => exact keeps_lift 36704456 [.jobs, .nextJob] false h (exec_heldSealEvaluate _) rfl rfl rfl rfl fun _ k => keeps_fxHeldSealEvaluate k rfl
  | jobCheck _ _ => exact keeps_lift 36704843 [.cores, .appCores, .jobs, .memory] false h (exec_jobCheck _ _) rfl rfl rfl rfl fun _ k => keeps_fxJobCheck k rfl
  | resourceReserve _ _ => exact keeps_lift 36704328 [.jobs] false h (exec_resourceReserve _ _) rfl rfl rfl rfl fun _ k => keeps_fxResourceReserve k rfl
  | jobTimeLimit _ _ => exact keeps_lift 36706379 [.cores, .appCores, .jobs, .power] false h (exec_jobTimeLimit _ _) rfl rfl rfl rfl fun _ k => keeps_fxJobTimeLimit k rfl
  | intkCancel _ _ => exact keeps_lift 36704331 [.cores, .appCores, .jobs] false h (exec_intkCancel _ _) rfl rfl rfl rfl fun _ k => keeps_fxIntkCancel k rfl
  | intkEn _ _ => exact keeps_lift 36704264 [] false h (exec_intkEn _ _) rfl rfl rfl rfl fun _ k => keeps_fxIntkEn k rfl
  | hifExpertEnWrite _ _ => exact keeps_lift 36704296 [.expert] false h (exec_hifExpertEnWrite _ _) rfl rfl rfl rfl fun _ k => keeps_fxHifExpertEnWrite k rfl
  | msixModerationTimer _ _ => exact keeps_lift 36704264 [] false h (exec_msixModerationTimer _ _) rfl rfl rfl rfl fun _ k => keeps_fxMsixModerationTimer k rfl
  | appExit _ _ => exact keeps_lift 36704331 [.cores, .appCores, .jobs] false h (exec_appExit _ _) rfl rfl rfl rfl fun _ k => keeps_fxAppExit k rfl
  | tokenSignal _ _ => exact keeps_lift 36704329 [.cores, .jobs] false h (exec_tokenSignal _ _) rfl rfl rfl rfl fun _ k => keeps_fxTokenSignal k rfl
  | tokenWait _ _ _ _ => exact keeps_lift 36704266 [.appCores] false h (exec_tokenWait _ _ _ _) rfl rfl rfl rfl fun _ k => keeps_fxTokenWait k rfl
  | tokenWaitResume _ => exact keeps_lift 36704266 [.appCores] false h (exec_tokenWaitResume _) rfl rfl rfl rfl fun _ k => keeps_fxTokenWaitResume k rfl
  | tokenRead _ _ => exact keeps_lift 36704264 [] false h (exec_tokenRead _ _) rfl rfl rfl rfl fun _ k => keeps_fxTokenRead k rfl
  | kgroupOpen _ _ _ _ _ => exact keeps_lift 36704268 [.groups] false h (exec_kgroupOpen _ _ _ _ _) rfl rfl rfl rfl fun _ k => keeps_fxKgroupOpen k rfl
  | kgroupClose _ _ _ => exact keeps_lift 36704781 [.cores, .groups, .memory] false h (exec_kgroupClose _ _ _) rfl rfl rfl rfl fun _ k => keeps_fxKgroupClose k rfl
  | kgroupStatus _ _ _ => exact keeps_lift 36704264 [] false h (exec_kgroupStatus _ _ _) rfl rfl rfl rfl fun _ k => keeps_fxKgroupStatus k rfl
  | guestPageFault _ _ => exact keeps_lift 36704331 [.cores, .appCores, .jobs] false h (exec_guestPageFault _ _) rfl rfl rfl rfl fun _ k => keeps_fxGuestPageFault k rfl
  | loadAccessFault _ _ => exact keeps_lift 36704843 [.cores, .appCores, .jobs, .memory] false h (exec_loadAccessFault _ _) rfl rfl rfl rfl fun _ k => keeps_fxLoadAccessFault k rfl
  | ctrlTrap _ _ _ => exact keeps_lift 36704331 [.cores, .appCores, .jobs] false h (exec_ctrlTrap _ _ _) rfl rfl rfl rfl fun _ k => keeps_fxCtrlTrap k rfl
  | coreFail _ _ _ => exact keeps_lift 53555791 [.cores, .appCores, .groups, .jobs, .memory, .nor, .mirror, .free] false h (exec_coreFail _ _ _) rfl rfl rfl rfl fun _ k => keeps_fxCoreFail k rfl
  | spareSubstitution _ => exact keeps_lift 36769801 [.cores, .mirror] false h (exec_spareSubstitution _) rfl rfl rfl rfl fun _ k => keeps_fxSpareSubstitution k rfl
  | pddSelftestGo _ _ _ => exact keeps_lift 36769800 [.mirror] false h (exec_pddSelftestGo _ _ _) rfl rfl rfl rfl fun _ k => keeps_fxPddSelftestGo k rfl
  | selftestStart _ => exact keeps_lift 36769800 [.mirror] false h (exec_selftestStart _) rfl rfl rfl rfl fun _ k => keeps_fxSelftestStart k rfl
  | selftestEnd _ _ => exact keeps_lift 53555791 [.cores, .appCores, .groups, .jobs, .memory, .nor, .mirror, .free] false h (exec_selftestEnd _ _) rfl rfl rfl rfl fun _ k => keeps_fxSelftestEnd k rfl
  | pairingMessage _ _ _ => exact keeps_lift 36770824 [.starlane, .mirror] false h (exec_pairingMessage _ _ _) rfl rfl rfl rfl fun _ k => keeps_fxPairingMessage k rfl
  | pddCommitPush _ _ => exact keeps_lift 36770824 [.starlane, .mirror] false h (exec_pddCommitPush _ _) rfl rfl rfl rfl fun _ k => keeps_fxPddCommitPush k rfl
  | commitReceive _ _ => exact keeps_lift 53548623 [.cores, .appCores, .groups, .jobs, .memory, .starlane, .mirror, .free] false h (exec_commitReceive _ _) rfl rfl rfl rfl fun _ k => keeps_fxCommitReceive k rfl
  | commitAnswer _ _ _ _ => exact keeps_lift 36770379 [.cores, .appCores, .jobs, .memory, .mirror] false h (exec_commitAnswer _ _ _ _) rfl rfl rfl rfl fun _ k => keeps_fxCommitAnswer k rfl
  | pddDigestPush _ _ => exact keeps_lift 36769800 [.mirror] false h (exec_pddDigestPush _ _) rfl rfl rfl rfl fun _ k => keeps_fxPddDigestPush k rfl
  | digestDone => exact keeps_lift 36770379 [.cores, .appCores, .jobs, .memory, .mirror] false h (exec_digestDone) rfl rfl rfl rfl fun _ k => keeps_fxDigestDone k rfl
  | lostWaitExpiry _ => exact keeps_lift 36769800 [.mirror] false h (exec_lostWaitExpiry _) rfl rfl rfl rfl fun _ k => keeps_fxLostWaitExpiry k rfl
  | powerOnReset => exact keeps_lift 117178367 [.cores, .appCores, .groups, .pcie, .expert, .jobs, .nextJob, .grants, .memory, .starlane, .power, .nor, .config, .update, .mirror, .security, .violations, .aon0, .aon1] true h (exec_powerOnReset) rfl rfl rfl rfl fun _ k => keeps_fxPowerOnReset k rfl
  | clockMissing => exact keeps_lift 36704264 [] false h (exec_clockMissing) rfl rfl rfl rfl fun _ k => keeps_fxClockMissing k rfl
  | clockReturn => exact keeps_lift 36962303 [.cores, .appCores, .groups, .pcie, .expert, .jobs, .nextJob, .grants, .memory, .starlane, .power, .nor, .config, .update, .mirror, .security] false h (exec_clockReturn) rfl rfl rfl rfl fun _ k => keeps_fxClockReturn k rfl
  | perstAssert _ _ => exact keeps_lift 36962303 [.cores, .appCores, .groups, .pcie, .expert, .jobs, .nextJob, .grants, .memory, .starlane, .power, .nor, .config, .update, .mirror, .security] false h (exec_perstAssert _ _) rfl rfl rfl rfl fun _ k => keeps_fxPerstAssert k rfl
  | perstDeassert => exact keeps_lift 36704264 [] false h (exec_perstDeassert) rfl rfl rfl rfl fun _ k => keeps_fxPerstDeassert k rfl
  | hotReset => exact keeps_lift 36962303 [.cores, .appCores, .groups, .pcie, .expert, .jobs, .nextJob, .grants, .memory, .starlane, .power, .nor, .config, .update, .mirror, .security] false h (exec_hotReset) rfl rfl rfl rfl fun _ k => keeps_fxHotReset k rfl
  | rstCtrlDevice _ => exact keeps_lift 36962303 [.cores, .appCores, .groups, .pcie, .expert, .jobs, .nextJob, .grants, .memory, .starlane, .power, .nor, .config, .update, .mirror, .security] false h (exec_rstCtrlDevice _) rfl rfl rfl rfl fun _ k => keeps_fxRstCtrlDevice k rfl
  | watchdogExpiry => exact keeps_lift 36962303 [.cores, .appCores, .groups, .pcie, .expert, .jobs, .nextJob, .grants, .memory, .starlane, .power, .nor, .config, .update, .mirror, .security] false h (exec_watchdogExpiry) rfl rfl rfl rfl fun _ k => keeps_fxWatchdogExpiry k rfl
  | thermalTrip _ _ => exact keeps_lift 36962303 [.cores, .appCores, .groups, .pcie, .expert, .jobs, .nextJob, .grants, .memory, .starlane, .power, .nor, .config, .update, .mirror, .security] false h (exec_thermalTrip _ _) rfl rfl rfl rfl fun _ k => keeps_fxThermalTrip k rfl
  | resetRelease _ => exact keeps_lift 36712456 [.nor] false h (exec_resetRelease _) rfl rfl rfl rfl fun _ k => keeps_fxResetRelease k rfl
  | fuseCopyCheck _ => exact keeps_lift 36704264 [] false h (exec_fuseCopyCheck _) rfl rfl rfl rfl fun _ k => keeps_fxFuseCopyCheck k rfl
  | strapSetDone _ => exact keeps_lift 36704264 [] false h (exec_strapSetDone _) rfl rfl rfl rfl fun _ k => keeps_fxStrapSetDone k rfl
  | startTimeout => exact keeps_lift 36962303 [.cores, .appCores, .groups, .pcie, .expert, .jobs, .nextJob, .grants, .memory, .starlane, .power, .nor, .config, .update, .mirror, .security] false h (exec_startTimeout) rfl rfl rfl rfl fun _ k => keeps_fxStartTimeout k rfl
  | startStepDone _ _ _ => exact keeps_lift 53739343 [.cores, .appCores, .groups, .jobs, .grants, .memory, .starlane, .power, .nor, .config, .update, .mirror, .security, .free] false h (exec_startStepDone _ _ _) rfl rfl rfl rfl fun _ k => keeps_fxStartStepDone k rfl
  | startConfirm => exact keeps_lift 53915848 [.jobs, .nextJob, .nor, .update, .security, .fuses, .free] false h (exec_startConfirm) rfl rfl rfl rfl fun _ k => keeps_fxStartConfirm k rfl
  | partResetCore _ _ => exact keeps_lift 53722635 [.cores, .appCores, .memory, .starlane, .power, .nor, .update, .mirror, .security, .free] false h (exec_partResetCore _ _) rfl rfl rfl rfl fun _ k => keeps_fxPartResetCore k rfl
  | partResetCluster _ _ => exact keeps_lift 53722635 [.cores, .appCores, .memory, .starlane, .power, .nor, .update, .mirror, .security, .free] false h (exec_partResetCluster _ _) rfl rfl rfl rfl fun _ k => keeps_fxPartResetCluster k rfl
  | partResetHbmChannel _ _ => exact keeps_lift 53722635 [.cores, .appCores, .memory, .starlane, .power, .nor, .update, .mirror, .security, .free] false h (exec_partResetHbmChannel _ _) rfl rfl rfl rfl fun _ k => keeps_fxPartResetHbmChannel k rfl
  | partResetLink _ _ => exact keeps_lift 53722635 [.cores, .appCores, .memory, .starlane, .power, .nor, .update, .mirror, .security, .free] false h (exec_partResetLink _ _) rfl rfl rfl rfl fun _ k => keeps_fxPartResetLink k rfl
  | partResetOptEngine _ _ => exact keeps_lift 53722635 [.cores, .appCores, .memory, .starlane, .power, .nor, .update, .mirror, .security, .free] false h (exec_partResetOptEngine _ _) rfl rfl rfl rfl fun _ k => keeps_fxPartResetOptEngine k rfl
  | partResetAppCore _ _ => exact keeps_lift 53722635 [.cores, .appCores, .memory, .starlane, .power, .nor, .update, .mirror, .security, .free] false h (exec_partResetAppCore _ _) rfl rfl rfl rfl fun _ k => keeps_fxPartResetAppCore k rfl
  | partResetStart => exact keeps_lift 53722635 [.cores, .appCores, .memory, .starlane, .power, .nor, .update, .mirror, .security, .free] false h (exec_partResetStart) rfl rfl rfl rfl fun _ k => keeps_fxPartResetStart k rfl
  | duskEntry => exact keeps_lift 53657163 [.cores, .appCores, .jobs, .memory, .starlane, .power, .nor, .update, .security, .free] false h (exec_duskEntry) rfl rfl rfl rfl fun _ k => keeps_fxDuskEntry k rfl
  | duskWake => exact keeps_lift 36706312 [.power] false h (exec_duskWake) rfl rfl rfl rfl fun _ k => keeps_fxDuskWake k rfl
  | wakeComplete => exact keeps_lift 36773577 [.cores, .jobs, .nextJob, .memory, .starlane, .power, .mirror] false h (exec_wakeComplete) rfl rfl rfl rfl fun _ k => keeps_fxWakeComplete k rfl
  | partialResetDone _ => exact keeps_lift 53722703 [.cores, .appCores, .groups, .jobs, .memory, .starlane, .power, .nor, .update, .mirror, .security, .free] false h (exec_partialResetDone _) rfl rfl rfl rfl fun _ k => keeps_fxPartialResetDone k rfl
  | powerSample _ => exact keeps_lift 36706312 [.power] false h (exec_powerSample _) rfl rfl rfl rfl fun _ k => keeps_fxPowerSample k rfl
  | gapRatioUpdate => exact keeps_lift 36706312 [.power] false h (exec_gapRatioUpdate) rfl rfl rfl rfl fun _ k => keeps_fxGapRatioUpdate k rfl
  | thermalLevelChange _ _ _ => exact keeps_lift 36706312 [.power] false h (exec_thermalLevelChange _ _ _) rfl rfl rfl rfl fun _ k => keeps_fxThermalLevelChange k rfl
  | throttleStep _ => exact keeps_lift 36706312 [.power] false h (exec_throttleStep _) rfl rfl rfl rfl fun _ k => keeps_fxThrottleStep k rfl
  | freqStep _ => exact keeps_lift 36706312 [.power] false h (exec_freqStep _) rfl rfl rfl rfl fun _ k => keeps_fxFreqStep k rfl
  | clusterRelock _ => exact keeps_lift 36706312 [.power] false h (exec_clusterRelock _) rfl rfl rfl rfl fun _ k => keeps_fxClusterRelock k rfl
  | relockDone _ => exact keeps_lift 36706312 [.power] false h (exec_relockDone _) rfl rfl rfl rfl fun _ k => keeps_fxRelockDone k rfl
  | pwrCtrlWrite _ _ => exact keeps_lift 36706312 [.power] false h (exec_pwrCtrlWrite _ _) rfl rfl rfl rfl fun _ k => keeps_fxPwrCtrlWrite k rfl
  | clkClusterWrite _ _ _ => exact keeps_lift 36706312 [.power] false h (exec_clkClusterWrite _ _ _) rfl rfl rfl rfl fun _ k => keeps_fxClkClusterWrite k rfl
  | cfgCmdPowerLimit _ _ _ _ => exact keeps_lift 36730888 [.power, .nor, .config] false h (exec_cfgCmdPowerLimit _ _ _ _) rfl rfl rfl rfl fun _ k => keeps_fxCfgCmdPowerLimit k rfl
  | cfgCmdIdleUs _ _ _ _ => exact keeps_lift 36730888 [.power, .nor, .config] false h (exec_cfgCmdIdleUs _ _ _ _) rfl rfl rfl rfl fun _ k => keeps_fxCfgCmdIdleUs k rfl
  | cfgCmdDuskEn _ _ _ _ => exact keeps_lift 36730888 [.power, .nor, .config] false h (exec_cfgCmdDuskEn _ _ _ _) rfl rfl rfl rfl fun _ k => keeps_fxCfgCmdDuskEn k rfl
  | cfgCmdClusterFreq _ _ _ _ => exact keeps_lift 36730888 [.power, .nor, .config] false h (exec_cfgCmdClusterFreq _ _ _ _) rfl rfl rfl rfl fun _ k => keeps_fxCfgCmdClusterFreq k rfl
  | cfgCmdSendLimit _ _ _ _ => exact keeps_lift 36729864 [.starlane, .nor, .config] false h (exec_cfgCmdSendLimit _ _ _ _) rfl rfl rfl rfl fun _ k => keeps_fxCfgCmdSendLimit k rfl
  | cfgCmdPeerWait _ _ _ _ => exact keeps_lift 36729864 [.starlane, .nor, .config] false h (exec_cfgCmdPeerWait _ _ _ _) rfl rfl rfl rfl fun _ k => keeps_fxCfgCmdPeerWait k rfl
  | cfgCmdRetry _ _ _ _ => exact keeps_lift 36729864 [.starlane, .nor, .config] false h (exec_cfgCmdRetry _ _ _ _) rfl rfl rfl rfl fun _ k => keeps_fxCfgCmdRetry k rfl
  | cfgCmdLostWait _ _ _ _ => exact keeps_lift 36794376 [.nor, .config, .mirror] false h (exec_cfgCmdLostWait _ _ _ _) rfl rfl rfl rfl fun _ k => keeps_fxCfgCmdLostWait k rfl
  | cfgCmdFeedOverride _ _ _ _ => exact keeps_lift 36794376 [.nor, .config, .mirror] false h (exec_cfgCmdFeedOverride _ _ _ _) rfl rfl rfl rfl fun _ k => keeps_fxCfgCmdFeedOverride k rfl
  | cfgCmdRegulator _ _ _ _ _ => exact keeps_lift 36729352 [.memory, .nor, .config] false h (exec_cfgCmdRegulator _ _ _ _ _) rfl rfl rfl rfl fun _ k => keeps_fxCfgCmdRegulator k rfl
  | updApply _ => exact keeps_lift 36745224 [.nor, .update] false h (exec_updApply _) rfl rfl rfl rfl fun _ k => keeps_fxUpdApply k rfl
  | updResetNow _ => exact keeps_lift 36962303 [.cores, .appCores, .groups, .pcie, .expert, .jobs, .nextJob, .grants, .memory, .starlane, .power, .nor, .config, .update, .mirror, .security] false h (exec_updResetNow _) rfl rfl rfl rfl fun _ k => keeps_fxUpdResetNow k rfl
  | updateStepConfirm => exact keeps_lift 36745224 [.nor, .update] false h (exec_updateStepConfirm) rfl rfl rfl rfl fun _ k => keeps_fxUpdateStepConfirm k rfl
  | updateWindowMiss => exact keeps_lift 36876296 [.nor, .update, .security] false h (exec_updateWindowMiss) rfl rfl rfl rfl fun _ k => keeps_fxUpdateWindowMiss k rfl
  | updateDeviceReset => exact keeps_lift 36962303 [.cores, .appCores, .groups, .pcie, .expert, .jobs, .nextJob, .grants, .memory, .starlane, .power, .nor, .config, .update, .mirror, .security] false h (exec_updateDeviceReset) rfl rfl rfl rfl fun _ k => keeps_fxUpdateDeviceReset k rfl
  | cardInsert _ => exact keeps_lift 36745224 [.nor, .update] false h (exec_cardInsert _) rfl rfl rfl rfl fun _ k => keeps_fxCardInsert k rfl
  | cardRemove => exact keeps_lift 36745224 [.nor, .update] false h (exec_cardRemove) rfl rfl rfl rfl fun _ k => keeps_fxCardRemove k rfl
  | updateImageWritten _ => exact keeps_lift 36962303 [.cores, .appCores, .groups, .pcie, .expert, .jobs, .nextJob, .grants, .memory, .starlane, .power, .nor, .config, .update, .mirror, .security] false h (exec_updateImageWritten _) rfl rfl rfl rfl fun _ k => keeps_fxUpdateImageWritten k rfl
  | vinRise => exact keeps_lift 36704264 [] false h (exec_vinRise) rfl rfl rfl rfl fun _ k => keeps_fxVinRise k rfl
  | vinFall _ => exact keeps_lift 117178367 [.cores, .appCores, .groups, .pcie, .expert, .jobs, .nextJob, .grants, .memory, .starlane, .power, .nor, .config, .update, .mirror, .security, .violations, .aon0, .aon1] true h (exec_vinFall _) rfl rfl rfl rfl fun _ k => keeps_fxVinFall k rfl
  | vinOvervoltage => exact keeps_lift 117178367 [.cores, .appCores, .groups, .pcie, .expert, .jobs, .nextJob, .grants, .memory, .starlane, .power, .nor, .config, .update, .mirror, .security, .violations, .aon0, .aon1] true h (exec_vinOvervoltage) rfl rfl rfl rfl fun _ k => keeps_fxVinOvervoltage k rfl
  | overcurrentTrip => exact keeps_lift 117178367 [.cores, .appCores, .groups, .pcie, .expert, .jobs, .nextJob, .grants, .memory, .starlane, .power, .nor, .config, .update, .mirror, .security, .violations, .aon0, .aon1] true h (exec_overcurrentTrip) rfl rfl rfl rfl fun _ k => keeps_fxOvercurrentTrip k rfl
  | hotswapRetry => exact keeps_lift 36704264 [] false h (exec_hotswapRetry) rfl rfl rfl rfl fun _ k => keeps_fxHotswapRetry k rfl
  | railFault _ _ => exact keeps_lift 117178367 [.cores, .appCores, .groups, .pcie, .expert, .jobs, .nextJob, .grants, .memory, .starlane, .power, .nor, .config, .update, .mirror, .security, .violations, .aon0, .aon1] true h (exec_railFault _ _) rfl rfl rfl rfl fun _ k => keeps_fxRailFault k rfl
  | railRestart => exact keeps_lift 36704264 [] false h (exec_railRestart) rfl rfl rfl rfl fun _ k => keeps_fxRailRestart k rfl
  | setdasa _ _ => exact keeps_lift 36704264 [] false h (exec_setdasa _ _) rfl rfl rfl rfl fun _ k => keeps_fxSetdasa k rfl
  | entdaa _ => exact keeps_lift 36704264 [] false h (exec_entdaa _) rfl rfl rfl rfl fun _ k => keeps_fxEntdaa k rfl
  | pcieLinkReachesL0 => exact keeps_lift 36704264 [] false h (exec_pcieLinkReachesL0) rfl rfl rfl rfl fun _ k => keeps_fxPcieLinkReachesL0 k rfl
  | overvoltageTurnOn => exact keeps_lift 36704264 [] false h (exec_overvoltageTurnOn) rfl rfl rfl rfl fun _ k => keeps_fxOvervoltageTurnOn k rfl

theorem step_keeps {s t : State} (h : step s = .next t) :
    (∃ c rest, s.pending = c :: rest ∧ Keeps (execMask c) s.dev t.dev) ∨ (s.pending = [] ∧ Keeps 49355789 s.dev t.dev) := by
  unfold step at h
  split at h
  · exact .inr ⟨by assumption, keeps_idle h rfl⟩
  · have k := exec_keeps h
    exact .inl ⟨_, _, by assumption, k⟩

theorem pieceMask_testBit {l : List Piece} {b : Bool} {i : Nat} (hi : i ≠ 26) (h : ∀ q ∈ l ++ afterEffect, q.bit.testBit i = false) :
    (pieceMask l b).testBit i = false := by
  unfold pieceMask
  generalize l ++ afterEffect = l' at h
  induction l' with
  | nil =>
    cases b
    · simp
    · exact Nat.testBit_two_pow_of_ne (n := 26) (Ne.symm hi)
  | cons q l' ih =>
    rw [List.foldr_cons]
    refine (Nat.testBit_or _ _ _).trans ?_
    rw [h q (List.mem_cons_self ..), ih fun q hq => h q (List.mem_cons_of_mem _ hq)]
    rfl

/-- The number of the bit of a piece. -/
def Piece.index : Piece → Nat
  | .cores => 0
  | .appCores => 1
  | .groups => 2
  | .functions => 3
  | .pcie => 4
  | .expert => 5
  | .jobs => 6
  | .nextJob => 7
  | .grants => 8
  | .memory => 9
  | .starlane => 10
  | .power => 11
  | .reset => 12
  | .nor => 13
  | .config => 14
  | .update => 15
  | .mirror => 16
  | .security => 17
  | .fuses => 18
  | .violations => 19
  | .module => 20
  | .bootLog => 21
  | .aon0 => 22
  | .aon1 => 23
  | .free => 24
  | .output => 25

theorem Piece.bit_testBit (p q : Piece) : q.bit.testBit p.index = decide (p = q) := by
  cases p <;> cases q <;> rfl

theorem Piece.index_ne (p : Piece) : p.index ≠ 26 := by
  cases p <;> decide

theorem Keeps.same {m : Nat} {a b : Dev} (h : Keeps m a b) {p : Piece} (hp : m.testBit p.index = false) : p.same a b := by
  cases p
  · exact h.cores.resolve_right (by rw [Bool.not_eq_true]; exact hp)
  · exact h.apps.resolve_right (by rw [Bool.not_eq_true]; exact hp)
  · exact h.groups.resolve_right (by rw [Bool.not_eq_true]; exact hp)
  · exact h.fns.resolve_right (by rw [Bool.not_eq_true]; exact hp)
  · exact h.pcie.resolve_right (by rw [Bool.not_eq_true]; exact hp)
  · exact h.expertEn.resolve_right (by rw [Bool.not_eq_true]; exact hp)
  · exact h.jobs.resolve_right (by rw [Bool.not_eq_true]; exact hp)
  · exact h.nextJob.resolve_right (by rw [Bool.not_eq_true]; exact hp)
  · exact h.grants.resolve_right (by rw [Bool.not_eq_true]; exact hp)
  · exact h.mem.resolve_right (by rw [Bool.not_eq_true]; exact hp)
  · exact h.lane.resolve_right (by rw [Bool.not_eq_true]; exact hp)
  · exact h.pwr.resolve_right (by rw [Bool.not_eq_true]; exact hp)
  · exact h.rst.resolve_right (by rw [Bool.not_eq_true]; exact hp)
  · exact h.nor.resolve_right (by rw [Bool.not_eq_true]; exact hp)
  · exact h.cfg.resolve_right (by rw [Bool.not_eq_true]; exact hp)
  · exact h.upd.resolve_right (by rw [Bool.not_eq_true]; exact hp)
  · exact h.pdd.resolve_right (by rw [Bool.not_eq_true]; exact hp)
  · exact h.sec.resolve_right (by rw [Bool.not_eq_true]; exact hp)
  · exact h.fuses.resolve_right (by rw [Bool.not_eq_true]; exact hp)
  · exact h.viol.resolve_right (by rw [Bool.not_eq_true]; exact hp)
  · exact h.hw.resolve_right (by rw [Bool.not_eq_true]; exact hp)
  · exact h.bootLog.resolve_right (by rw [Bool.not_eq_true]; exact hp)
  · exact h.aon0.resolve_right (by rw [Bool.not_eq_true]; exact hp)
  · exact h.aon1.resolve_right (by rw [Bool.not_eq_true]; exact hp)
  · exact h.freeCtr.resolve_right (by rw [Bool.not_eq_true]; exact hp)
  · exact h.out.resolve_right (by rw [Bool.not_eq_true]; exact hp)

end Sys2Proof.Machine
end

