-- ==== Sys2Proof/Laws/State.lean ====
section
/-! SUPPORT. The small lemmas of the device: what each field is after each update, and what is read after a write. -/

set_option Elab.async false

namespace Sys2Proof.Machine

/-! ### updCore -/

@[simp] theorem updCore_apps (d : Dev) (g : Nat) (u : Core → Core) : (d.updCore g u).apps = d.apps := rfl
@[simp] theorem updCore_groups (d : Dev) (g : Nat) (u : Core → Core) : (d.updCore g u).groups = d.groups := rfl
@[simp] theorem updCore_fns (d : Dev) (g : Nat) (u : Core → Core) : (d.updCore g u).fns = d.fns := rfl
@[simp] theorem updCore_pcie (d : Dev) (g : Nat) (u : Core → Core) : (d.updCore g u).pcie = d.pcie := rfl
@[simp] theorem updCore_expertEn (d : Dev) (g : Nat) (u : Core → Core) : (d.updCore g u).expertEn = d.expertEn := rfl
@[simp] theorem updCore_jobs (d : Dev) (g : Nat) (u : Core → Core) : (d.updCore g u).jobs = d.jobs := rfl
@[simp] theorem updCore_nextJob (d : Dev) (g : Nat) (u : Core → Core) : (d.updCore g u).nextJob = d.nextJob := rfl
@[simp] theorem updCore_grants (d : Dev) (g : Nat) (u : Core → Core) : (d.updCore g u).grants = d.grants := rfl
@[simp] theorem updCore_mem (d : Dev) (g : Nat) (u : Core → Core) : (d.updCore g u).mem = d.mem := rfl
@[simp] theorem updCore_lane (d : Dev) (g : Nat) (u : Core → Core) : (d.updCore g u).lane = d.lane := rfl
@[simp] theorem updCore_pwr (d : Dev) (g : Nat) (u : Core → Core) : (d.updCore g u).pwr = d.pwr := rfl
@[simp] theorem updCore_rst (d : Dev) (g : Nat) (u : Core → Core) : (d.updCore g u).rst = d.rst := rfl
@[simp] theorem updCore_nor (d : Dev) (g : Nat) (u : Core → Core) : (d.updCore g u).nor = d.nor := rfl
@[simp] theorem updCore_cfg (d : Dev) (g : Nat) (u : Core → Core) : (d.updCore g u).cfg = d.cfg := rfl
@[simp] theorem updCore_upd (d : Dev) (g : Nat) (u : Core → Core) : (d.updCore g u).upd = d.upd := rfl
@[simp] theorem updCore_pdd (d : Dev) (g : Nat) (u : Core → Core) : (d.updCore g u).pdd = d.pdd := rfl
@[simp] theorem updCore_sec (d : Dev) (g : Nat) (u : Core → Core) : (d.updCore g u).sec = d.sec := rfl
@[simp] theorem updCore_fuses (d : Dev) (g : Nat) (u : Core → Core) : (d.updCore g u).fuses = d.fuses := rfl
@[simp] theorem updCore_viol (d : Dev) (g : Nat) (u : Core → Core) : (d.updCore g u).viol = d.viol := rfl
@[simp] theorem updCore_hw (d : Dev) (g : Nat) (u : Core → Core) : (d.updCore g u).hw = d.hw := rfl
@[simp] theorem updCore_bootLog (d : Dev) (g : Nat) (u : Core → Core) : (d.updCore g u).bootLog = d.bootLog := rfl
@[simp] theorem updCore_aon0 (d : Dev) (g : Nat) (u : Core → Core) : (d.updCore g u).aon0 = d.aon0 := rfl
@[simp] theorem updCore_aon1 (d : Dev) (g : Nat) (u : Core → Core) : (d.updCore g u).aon1 = d.aon1 := rfl
@[simp] theorem updCore_freeCtr (d : Dev) (g : Nat) (u : Core → Core) : (d.updCore g u).freeCtr = d.freeCtr := rfl
@[simp] theorem updCore_out (d : Dev) (g : Nat) (u : Core → Core) : (d.updCore g u).out = d.out := rfl

/-! ### updApp -/

@[simp] theorem updApp_cores (d : Dev) (a : Nat) (u : AppCore → AppCore) : (d.updApp a u).cores = d.cores := rfl
@[simp] theorem updApp_groups (d : Dev) (a : Nat) (u : AppCore → AppCore) : (d.updApp a u).groups = d.groups := rfl
@[simp] theorem updApp_fns (d : Dev) (a : Nat) (u : AppCore → AppCore) : (d.updApp a u).fns = d.fns := rfl
@[simp] theorem updApp_pcie (d : Dev) (a : Nat) (u : AppCore → AppCore) : (d.updApp a u).pcie = d.pcie := rfl
@[simp] theorem updApp_expertEn (d : Dev) (a : Nat) (u : AppCore → AppCore) : (d.updApp a u).expertEn = d.expertEn := rfl
@[simp] theorem updApp_jobs (d : Dev) (a : Nat) (u : AppCore → AppCore) : (d.updApp a u).jobs = d.jobs := rfl
@[simp] theorem updApp_nextJob (d : Dev) (a : Nat) (u : AppCore → AppCore) : (d.updApp a u).nextJob = d.nextJob := rfl
@[simp] theorem updApp_grants (d : Dev) (a : Nat) (u : AppCore → AppCore) : (d.updApp a u).grants = d.grants := rfl
@[simp] theorem updApp_mem (d : Dev) (a : Nat) (u : AppCore → AppCore) : (d.updApp a u).mem = d.mem := rfl
@[simp] theorem updApp_lane (d : Dev) (a : Nat) (u : AppCore → AppCore) : (d.updApp a u).lane = d.lane := rfl
@[simp] theorem updApp_pwr (d : Dev) (a : Nat) (u : AppCore → AppCore) : (d.updApp a u).pwr = d.pwr := rfl
@[simp] theorem updApp_rst (d : Dev) (a : Nat) (u : AppCore → AppCore) : (d.updApp a u).rst = d.rst := rfl
@[simp] theorem updApp_nor (d : Dev) (a : Nat) (u : AppCore → AppCore) : (d.updApp a u).nor = d.nor := rfl
@[simp] theorem updApp_cfg (d : Dev) (a : Nat) (u : AppCore → AppCore) : (d.updApp a u).cfg = d.cfg := rfl
@[simp] theorem updApp_upd (d : Dev) (a : Nat) (u : AppCore → AppCore) : (d.updApp a u).upd = d.upd := rfl
@[simp] theorem updApp_pdd (d : Dev) (a : Nat) (u : AppCore → AppCore) : (d.updApp a u).pdd = d.pdd := rfl
@[simp] theorem updApp_sec (d : Dev) (a : Nat) (u : AppCore → AppCore) : (d.updApp a u).sec = d.sec := rfl
@[simp] theorem updApp_fuses (d : Dev) (a : Nat) (u : AppCore → AppCore) : (d.updApp a u).fuses = d.fuses := rfl
@[simp] theorem updApp_viol (d : Dev) (a : Nat) (u : AppCore → AppCore) : (d.updApp a u).viol = d.viol := rfl
@[simp] theorem updApp_hw (d : Dev) (a : Nat) (u : AppCore → AppCore) : (d.updApp a u).hw = d.hw := rfl
@[simp] theorem updApp_bootLog (d : Dev) (a : Nat) (u : AppCore → AppCore) : (d.updApp a u).bootLog = d.bootLog := rfl
@[simp] theorem updApp_aon0 (d : Dev) (a : Nat) (u : AppCore → AppCore) : (d.updApp a u).aon0 = d.aon0 := rfl
@[simp] theorem updApp_aon1 (d : Dev) (a : Nat) (u : AppCore → AppCore) : (d.updApp a u).aon1 = d.aon1 := rfl
@[simp] theorem updApp_freeCtr (d : Dev) (a : Nat) (u : AppCore → AppCore) : (d.updApp a u).freeCtr = d.freeCtr := rfl
@[simp] theorem updApp_out (d : Dev) (a : Nat) (u : AppCore → AppCore) : (d.updApp a u).out = d.out := rfl

/-! ### updFn -/

@[simp] theorem updFn_cores (d : Dev) (f : Nat) (u : Fn → Fn) : (d.updFn f u).cores = d.cores := rfl
@[simp] theorem updFn_apps (d : Dev) (f : Nat) (u : Fn → Fn) : (d.updFn f u).apps = d.apps := rfl
@[simp] theorem updFn_groups (d : Dev) (f : Nat) (u : Fn → Fn) : (d.updFn f u).groups = d.groups := rfl
@[simp] theorem updFn_pcie (d : Dev) (f : Nat) (u : Fn → Fn) : (d.updFn f u).pcie = d.pcie := rfl
@[simp] theorem updFn_expertEn (d : Dev) (f : Nat) (u : Fn → Fn) : (d.updFn f u).expertEn = d.expertEn := rfl
@[simp] theorem updFn_jobs (d : Dev) (f : Nat) (u : Fn → Fn) : (d.updFn f u).jobs = d.jobs := rfl
@[simp] theorem updFn_nextJob (d : Dev) (f : Nat) (u : Fn → Fn) : (d.updFn f u).nextJob = d.nextJob := rfl
@[simp] theorem updFn_grants (d : Dev) (f : Nat) (u : Fn → Fn) : (d.updFn f u).grants = d.grants := rfl
@[simp] theorem updFn_mem (d : Dev) (f : Nat) (u : Fn → Fn) : (d.updFn f u).mem = d.mem := rfl
@[simp] theorem updFn_lane (d : Dev) (f : Nat) (u : Fn → Fn) : (d.updFn f u).lane = d.lane := rfl
@[simp] theorem updFn_pwr (d : Dev) (f : Nat) (u : Fn → Fn) : (d.updFn f u).pwr = d.pwr := rfl
@[simp] theorem updFn_rst (d : Dev) (f : Nat) (u : Fn → Fn) : (d.updFn f u).rst = d.rst := rfl
@[simp] theorem updFn_nor (d : Dev) (f : Nat) (u : Fn → Fn) : (d.updFn f u).nor = d.nor := rfl
@[simp] theorem updFn_cfg (d : Dev) (f : Nat) (u : Fn → Fn) : (d.updFn f u).cfg = d.cfg := rfl
@[simp] theorem updFn_upd (d : Dev) (f : Nat) (u : Fn → Fn) : (d.updFn f u).upd = d.upd := rfl
@[simp] theorem updFn_pdd (d : Dev) (f : Nat) (u : Fn → Fn) : (d.updFn f u).pdd = d.pdd := rfl
@[simp] theorem updFn_sec (d : Dev) (f : Nat) (u : Fn → Fn) : (d.updFn f u).sec = d.sec := rfl
@[simp] theorem updFn_fuses (d : Dev) (f : Nat) (u : Fn → Fn) : (d.updFn f u).fuses = d.fuses := rfl
@[simp] theorem updFn_viol (d : Dev) (f : Nat) (u : Fn → Fn) : (d.updFn f u).viol = d.viol := rfl
@[simp] theorem updFn_hw (d : Dev) (f : Nat) (u : Fn → Fn) : (d.updFn f u).hw = d.hw := rfl
@[simp] theorem updFn_bootLog (d : Dev) (f : Nat) (u : Fn → Fn) : (d.updFn f u).bootLog = d.bootLog := rfl
@[simp] theorem updFn_aon0 (d : Dev) (f : Nat) (u : Fn → Fn) : (d.updFn f u).aon0 = d.aon0 := rfl
@[simp] theorem updFn_aon1 (d : Dev) (f : Nat) (u : Fn → Fn) : (d.updFn f u).aon1 = d.aon1 := rfl
@[simp] theorem updFn_freeCtr (d : Dev) (f : Nat) (u : Fn → Fn) : (d.updFn f u).freeCtr = d.freeCtr := rfl
@[simp] theorem updFn_out (d : Dev) (f : Nat) (u : Fn → Fn) : (d.updFn f u).out = d.out := rfl

/-! ### updGroup -/

@[simp] theorem updGroup_cores (d : Dev) (e n : Nat) (u : Group → Group) : (d.updGroup e n u).cores = d.cores := rfl
@[simp] theorem updGroup_apps (d : Dev) (e n : Nat) (u : Group → Group) : (d.updGroup e n u).apps = d.apps := rfl
@[simp] theorem updGroup_fns (d : Dev) (e n : Nat) (u : Group → Group) : (d.updGroup e n u).fns = d.fns := rfl
@[simp] theorem updGroup_pcie (d : Dev) (e n : Nat) (u : Group → Group) : (d.updGroup e n u).pcie = d.pcie := rfl
@[simp] theorem updGroup_expertEn (d : Dev) (e n : Nat) (u : Group → Group) : (d.updGroup e n u).expertEn = d.expertEn := rfl
@[simp] theorem updGroup_jobs (d : Dev) (e n : Nat) (u : Group → Group) : (d.updGroup e n u).jobs = d.jobs := rfl
@[simp] theorem updGroup_nextJob (d : Dev) (e n : Nat) (u : Group → Group) : (d.updGroup e n u).nextJob = d.nextJob := rfl
@[simp] theorem updGroup_grants (d : Dev) (e n : Nat) (u : Group → Group) : (d.updGroup e n u).grants = d.grants := rfl
@[simp] theorem updGroup_mem (d : Dev) (e n : Nat) (u : Group → Group) : (d.updGroup e n u).mem = d.mem := rfl
@[simp] theorem updGroup_lane (d : Dev) (e n : Nat) (u : Group → Group) : (d.updGroup e n u).lane = d.lane := rfl
@[simp] theorem updGroup_pwr (d : Dev) (e n : Nat) (u : Group → Group) : (d.updGroup e n u).pwr = d.pwr := rfl
@[simp] theorem updGroup_rst (d : Dev) (e n : Nat) (u : Group → Group) : (d.updGroup e n u).rst = d.rst := rfl
@[simp] theorem updGroup_nor (d : Dev) (e n : Nat) (u : Group → Group) : (d.updGroup e n u).nor = d.nor := rfl
@[simp] theorem updGroup_cfg (d : Dev) (e n : Nat) (u : Group → Group) : (d.updGroup e n u).cfg = d.cfg := rfl
@[simp] theorem updGroup_upd (d : Dev) (e n : Nat) (u : Group → Group) : (d.updGroup e n u).upd = d.upd := rfl
@[simp] theorem updGroup_pdd (d : Dev) (e n : Nat) (u : Group → Group) : (d.updGroup e n u).pdd = d.pdd := rfl
@[simp] theorem updGroup_sec (d : Dev) (e n : Nat) (u : Group → Group) : (d.updGroup e n u).sec = d.sec := rfl
@[simp] theorem updGroup_fuses (d : Dev) (e n : Nat) (u : Group → Group) : (d.updGroup e n u).fuses = d.fuses := rfl
@[simp] theorem updGroup_viol (d : Dev) (e n : Nat) (u : Group → Group) : (d.updGroup e n u).viol = d.viol := rfl
@[simp] theorem updGroup_hw (d : Dev) (e n : Nat) (u : Group → Group) : (d.updGroup e n u).hw = d.hw := rfl
@[simp] theorem updGroup_bootLog (d : Dev) (e n : Nat) (u : Group → Group) : (d.updGroup e n u).bootLog = d.bootLog := rfl
@[simp] theorem updGroup_aon0 (d : Dev) (e n : Nat) (u : Group → Group) : (d.updGroup e n u).aon0 = d.aon0 := rfl
@[simp] theorem updGroup_aon1 (d : Dev) (e n : Nat) (u : Group → Group) : (d.updGroup e n u).aon1 = d.aon1 := rfl
@[simp] theorem updGroup_freeCtr (d : Dev) (e n : Nat) (u : Group → Group) : (d.updGroup e n u).freeCtr = d.freeCtr := rfl
@[simp] theorem updGroup_out (d : Dev) (e n : Nat) (u : Group → Group) : (d.updGroup e n u).out = d.out := rfl

/-! ### updMem -/

@[simp] theorem updMem_cores (d : Dev) (u : Mem → Mem) : (d.updMem u).cores = d.cores := rfl
@[simp] theorem updMem_apps (d : Dev) (u : Mem → Mem) : (d.updMem u).apps = d.apps := rfl
@[simp] theorem updMem_groups (d : Dev) (u : Mem → Mem) : (d.updMem u).groups = d.groups := rfl
@[simp] theorem updMem_fns (d : Dev) (u : Mem → Mem) : (d.updMem u).fns = d.fns := rfl
@[simp] theorem updMem_pcie (d : Dev) (u : Mem → Mem) : (d.updMem u).pcie = d.pcie := rfl
@[simp] theorem updMem_expertEn (d : Dev) (u : Mem → Mem) : (d.updMem u).expertEn = d.expertEn := rfl
@[simp] theorem updMem_jobs (d : Dev) (u : Mem → Mem) : (d.updMem u).jobs = d.jobs := rfl
@[simp] theorem updMem_nextJob (d : Dev) (u : Mem → Mem) : (d.updMem u).nextJob = d.nextJob := rfl
@[simp] theorem updMem_grants (d : Dev) (u : Mem → Mem) : (d.updMem u).grants = d.grants := rfl
@[simp] theorem updMem_mem (d : Dev) (u : Mem → Mem) : (d.updMem u).mem = u d.mem := rfl
@[simp] theorem updMem_lane (d : Dev) (u : Mem → Mem) : (d.updMem u).lane = d.lane := rfl
@[simp] theorem updMem_pwr (d : Dev) (u : Mem → Mem) : (d.updMem u).pwr = d.pwr := rfl
@[simp] theorem updMem_rst (d : Dev) (u : Mem → Mem) : (d.updMem u).rst = d.rst := rfl
@[simp] theorem updMem_nor (d : Dev) (u : Mem → Mem) : (d.updMem u).nor = d.nor := rfl
@[simp] theorem updMem_cfg (d : Dev) (u : Mem → Mem) : (d.updMem u).cfg = d.cfg := rfl
@[simp] theorem updMem_upd (d : Dev) (u : Mem → Mem) : (d.updMem u).upd = d.upd := rfl
@[simp] theorem updMem_pdd (d : Dev) (u : Mem → Mem) : (d.updMem u).pdd = d.pdd := rfl
@[simp] theorem updMem_sec (d : Dev) (u : Mem → Mem) : (d.updMem u).sec = d.sec := rfl
@[simp] theorem updMem_fuses (d : Dev) (u : Mem → Mem) : (d.updMem u).fuses = d.fuses := rfl
@[simp] theorem updMem_viol (d : Dev) (u : Mem → Mem) : (d.updMem u).viol = d.viol := rfl
@[simp] theorem updMem_hw (d : Dev) (u : Mem → Mem) : (d.updMem u).hw = d.hw := rfl
@[simp] theorem updMem_bootLog (d : Dev) (u : Mem → Mem) : (d.updMem u).bootLog = d.bootLog := rfl
@[simp] theorem updMem_aon0 (d : Dev) (u : Mem → Mem) : (d.updMem u).aon0 = d.aon0 := rfl
@[simp] theorem updMem_aon1 (d : Dev) (u : Mem → Mem) : (d.updMem u).aon1 = d.aon1 := rfl
@[simp] theorem updMem_freeCtr (d : Dev) (u : Mem → Mem) : (d.updMem u).freeCtr = d.freeCtr := rfl
@[simp] theorem updMem_out (d : Dev) (u : Mem → Mem) : (d.updMem u).out = d.out := rfl

/-! ### updJob -/

@[simp] theorem updJob_cores (d : Dev) (j : Nat) (u : Job → Job) : (d.updJob j u).cores = d.cores := rfl
@[simp] theorem updJob_apps (d : Dev) (j : Nat) (u : Job → Job) : (d.updJob j u).apps = d.apps := rfl
@[simp] theorem updJob_groups (d : Dev) (j : Nat) (u : Job → Job) : (d.updJob j u).groups = d.groups := rfl
@[simp] theorem updJob_fns (d : Dev) (j : Nat) (u : Job → Job) : (d.updJob j u).fns = d.fns := rfl
@[simp] theorem updJob_pcie (d : Dev) (j : Nat) (u : Job → Job) : (d.updJob j u).pcie = d.pcie := rfl
@[simp] theorem updJob_expertEn (d : Dev) (j : Nat) (u : Job → Job) : (d.updJob j u).expertEn = d.expertEn := rfl
@[simp] theorem updJob_jobs (d : Dev) (j : Nat) (u : Job → Job) : (d.updJob j u).jobs = d.jobs.map fun x => if x.id = j then u x else x := rfl
@[simp] theorem updJob_nextJob (d : Dev) (j : Nat) (u : Job → Job) : (d.updJob j u).nextJob = d.nextJob := rfl
@[simp] theorem updJob_grants (d : Dev) (j : Nat) (u : Job → Job) : (d.updJob j u).grants = d.grants := rfl
@[simp] theorem updJob_mem (d : Dev) (j : Nat) (u : Job → Job) : (d.updJob j u).mem = d.mem := rfl
@[simp] theorem updJob_lane (d : Dev) (j : Nat) (u : Job → Job) : (d.updJob j u).lane = d.lane := rfl
@[simp] theorem updJob_pwr (d : Dev) (j : Nat) (u : Job → Job) : (d.updJob j u).pwr = d.pwr := rfl
@[simp] theorem updJob_rst (d : Dev) (j : Nat) (u : Job → Job) : (d.updJob j u).rst = d.rst := rfl
@[simp] theorem updJob_nor (d : Dev) (j : Nat) (u : Job → Job) : (d.updJob j u).nor = d.nor := rfl
@[simp] theorem updJob_cfg (d : Dev) (j : Nat) (u : Job → Job) : (d.updJob j u).cfg = d.cfg := rfl
@[simp] theorem updJob_upd (d : Dev) (j : Nat) (u : Job → Job) : (d.updJob j u).upd = d.upd := rfl
@[simp] theorem updJob_pdd (d : Dev) (j : Nat) (u : Job → Job) : (d.updJob j u).pdd = d.pdd := rfl
@[simp] theorem updJob_sec (d : Dev) (j : Nat) (u : Job → Job) : (d.updJob j u).sec = d.sec := rfl
@[simp] theorem updJob_fuses (d : Dev) (j : Nat) (u : Job → Job) : (d.updJob j u).fuses = d.fuses := rfl
@[simp] theorem updJob_viol (d : Dev) (j : Nat) (u : Job → Job) : (d.updJob j u).viol = d.viol := rfl
@[simp] theorem updJob_hw (d : Dev) (j : Nat) (u : Job → Job) : (d.updJob j u).hw = d.hw := rfl
@[simp] theorem updJob_bootLog (d : Dev) (j : Nat) (u : Job → Job) : (d.updJob j u).bootLog = d.bootLog := rfl
@[simp] theorem updJob_aon0 (d : Dev) (j : Nat) (u : Job → Job) : (d.updJob j u).aon0 = d.aon0 := rfl
@[simp] theorem updJob_aon1 (d : Dev) (j : Nat) (u : Job → Job) : (d.updJob j u).aon1 = d.aon1 := rfl
@[simp] theorem updJob_freeCtr (d : Dev) (j : Nat) (u : Job → Job) : (d.updJob j u).freeCtr = d.freeCtr := rfl
@[simp] theorem updJob_out (d : Dev) (j : Nat) (u : Job → Job) : (d.updJob j u).out = d.out := rfl

/-! ### updLane -/

@[simp] theorem updLane_cores (d : Dev) (u : Starlane → Starlane) : (d.updLane u).cores = d.cores := rfl
@[simp] theorem updLane_apps (d : Dev) (u : Starlane → Starlane) : (d.updLane u).apps = d.apps := rfl
@[simp] theorem updLane_groups (d : Dev) (u : Starlane → Starlane) : (d.updLane u).groups = d.groups := rfl
@[simp] theorem updLane_fns (d : Dev) (u : Starlane → Starlane) : (d.updLane u).fns = d.fns := rfl
@[simp] theorem updLane_pcie (d : Dev) (u : Starlane → Starlane) : (d.updLane u).pcie = d.pcie := rfl
@[simp] theorem updLane_expertEn (d : Dev) (u : Starlane → Starlane) : (d.updLane u).expertEn = d.expertEn := rfl
@[simp] theorem updLane_jobs (d : Dev) (u : Starlane → Starlane) : (d.updLane u).jobs = d.jobs := rfl
@[simp] theorem updLane_nextJob (d : Dev) (u : Starlane → Starlane) : (d.updLane u).nextJob = d.nextJob := rfl
@[simp] theorem updLane_grants (d : Dev) (u : Starlane → Starlane) : (d.updLane u).grants = d.grants := rfl
@[simp] theorem updLane_mem (d : Dev) (u : Starlane → Starlane) : (d.updLane u).mem = d.mem := rfl
@[simp] theorem updLane_lane (d : Dev) (u : Starlane → Starlane) : (d.updLane u).lane = u d.lane := rfl
@[simp] theorem updLane_pwr (d : Dev) (u : Starlane → Starlane) : (d.updLane u).pwr = d.pwr := rfl
@[simp] theorem updLane_rst (d : Dev) (u : Starlane → Starlane) : (d.updLane u).rst = d.rst := rfl
@[simp] theorem updLane_nor (d : Dev) (u : Starlane → Starlane) : (d.updLane u).nor = d.nor := rfl
@[simp] theorem updLane_cfg (d : Dev) (u : Starlane → Starlane) : (d.updLane u).cfg = d.cfg := rfl
@[simp] theorem updLane_upd (d : Dev) (u : Starlane → Starlane) : (d.updLane u).upd = d.upd := rfl
@[simp] theorem updLane_pdd (d : Dev) (u : Starlane → Starlane) : (d.updLane u).pdd = d.pdd := rfl
@[simp] theorem updLane_sec (d : Dev) (u : Starlane → Starlane) : (d.updLane u).sec = d.sec := rfl
@[simp] theorem updLane_fuses (d : Dev) (u : Starlane → Starlane) : (d.updLane u).fuses = d.fuses := rfl
@[simp] theorem updLane_viol (d : Dev) (u : Starlane → Starlane) : (d.updLane u).viol = d.viol := rfl
@[simp] theorem updLane_hw (d : Dev) (u : Starlane → Starlane) : (d.updLane u).hw = d.hw := rfl
@[simp] theorem updLane_bootLog (d : Dev) (u : Starlane → Starlane) : (d.updLane u).bootLog = d.bootLog := rfl
@[simp] theorem updLane_aon0 (d : Dev) (u : Starlane → Starlane) : (d.updLane u).aon0 = d.aon0 := rfl
@[simp] theorem updLane_aon1 (d : Dev) (u : Starlane → Starlane) : (d.updLane u).aon1 = d.aon1 := rfl
@[simp] theorem updLane_freeCtr (d : Dev) (u : Starlane → Starlane) : (d.updLane u).freeCtr = d.freeCtr := rfl
@[simp] theorem updLane_out (d : Dev) (u : Starlane → Starlane) : (d.updLane u).out = d.out := rfl

/-! ### updRst -/

@[simp] theorem updRst_cores (d : Dev) (u : Rst → Rst) : (d.updRst u).cores = d.cores := rfl
@[simp] theorem updRst_apps (d : Dev) (u : Rst → Rst) : (d.updRst u).apps = d.apps := rfl
@[simp] theorem updRst_groups (d : Dev) (u : Rst → Rst) : (d.updRst u).groups = d.groups := rfl
@[simp] theorem updRst_fns (d : Dev) (u : Rst → Rst) : (d.updRst u).fns = d.fns := rfl
@[simp] theorem updRst_pcie (d : Dev) (u : Rst → Rst) : (d.updRst u).pcie = d.pcie := rfl
@[simp] theorem updRst_expertEn (d : Dev) (u : Rst → Rst) : (d.updRst u).expertEn = d.expertEn := rfl
@[simp] theorem updRst_jobs (d : Dev) (u : Rst → Rst) : (d.updRst u).jobs = d.jobs := rfl
@[simp] theorem updRst_nextJob (d : Dev) (u : Rst → Rst) : (d.updRst u).nextJob = d.nextJob := rfl
@[simp] theorem updRst_grants (d : Dev) (u : Rst → Rst) : (d.updRst u).grants = d.grants := rfl
@[simp] theorem updRst_mem (d : Dev) (u : Rst → Rst) : (d.updRst u).mem = d.mem := rfl
@[simp] theorem updRst_lane (d : Dev) (u : Rst → Rst) : (d.updRst u).lane = d.lane := rfl
@[simp] theorem updRst_pwr (d : Dev) (u : Rst → Rst) : (d.updRst u).pwr = d.pwr := rfl
@[simp] theorem updRst_rst (d : Dev) (u : Rst → Rst) : (d.updRst u).rst = u d.rst := rfl
@[simp] theorem updRst_nor (d : Dev) (u : Rst → Rst) : (d.updRst u).nor = d.nor := rfl
@[simp] theorem updRst_cfg (d : Dev) (u : Rst → Rst) : (d.updRst u).cfg = d.cfg := rfl
@[simp] theorem updRst_upd (d : Dev) (u : Rst → Rst) : (d.updRst u).upd = d.upd := rfl
@[simp] theorem updRst_pdd (d : Dev) (u : Rst → Rst) : (d.updRst u).pdd = d.pdd := rfl
@[simp] theorem updRst_sec (d : Dev) (u : Rst → Rst) : (d.updRst u).sec = d.sec := rfl
@[simp] theorem updRst_fuses (d : Dev) (u : Rst → Rst) : (d.updRst u).fuses = d.fuses := rfl
@[simp] theorem updRst_viol (d : Dev) (u : Rst → Rst) : (d.updRst u).viol = d.viol := rfl
@[simp] theorem updRst_hw (d : Dev) (u : Rst → Rst) : (d.updRst u).hw = d.hw := rfl
@[simp] theorem updRst_bootLog (d : Dev) (u : Rst → Rst) : (d.updRst u).bootLog = d.bootLog := rfl
@[simp] theorem updRst_aon0 (d : Dev) (u : Rst → Rst) : (d.updRst u).aon0 = d.aon0 := rfl
@[simp] theorem updRst_aon1 (d : Dev) (u : Rst → Rst) : (d.updRst u).aon1 = d.aon1 := rfl
@[simp] theorem updRst_freeCtr (d : Dev) (u : Rst → Rst) : (d.updRst u).freeCtr = d.freeCtr := rfl
@[simp] theorem updRst_out (d : Dev) (u : Rst → Rst) : (d.updRst u).out = d.out := rfl

/-! ### emit -/

@[simp] theorem emit_cores (d : Dev) (o : Out) : (d.emit o).cores = d.cores := rfl
@[simp] theorem emit_apps (d : Dev) (o : Out) : (d.emit o).apps = d.apps := rfl
@[simp] theorem emit_groups (d : Dev) (o : Out) : (d.emit o).groups = d.groups := rfl
@[simp] theorem emit_fns (d : Dev) (o : Out) : (d.emit o).fns = d.fns := rfl
@[simp] theorem emit_pcie (d : Dev) (o : Out) : (d.emit o).pcie = d.pcie := rfl
@[simp] theorem emit_expertEn (d : Dev) (o : Out) : (d.emit o).expertEn = d.expertEn := rfl
@[simp] theorem emit_jobs (d : Dev) (o : Out) : (d.emit o).jobs = d.jobs := rfl
@[simp] theorem emit_nextJob (d : Dev) (o : Out) : (d.emit o).nextJob = d.nextJob := rfl
@[simp] theorem emit_grants (d : Dev) (o : Out) : (d.emit o).grants = d.grants := rfl
@[simp] theorem emit_mem (d : Dev) (o : Out) : (d.emit o).mem = d.mem := rfl
@[simp] theorem emit_lane (d : Dev) (o : Out) : (d.emit o).lane = d.lane := rfl
@[simp] theorem emit_pwr (d : Dev) (o : Out) : (d.emit o).pwr = d.pwr := rfl
@[simp] theorem emit_rst (d : Dev) (o : Out) : (d.emit o).rst = d.rst := rfl
@[simp] theorem emit_nor (d : Dev) (o : Out) : (d.emit o).nor = d.nor := rfl
@[simp] theorem emit_cfg (d : Dev) (o : Out) : (d.emit o).cfg = d.cfg := rfl
@[simp] theorem emit_upd (d : Dev) (o : Out) : (d.emit o).upd = d.upd := rfl
@[simp] theorem emit_pdd (d : Dev) (o : Out) : (d.emit o).pdd = d.pdd := rfl
@[simp] theorem emit_sec (d : Dev) (o : Out) : (d.emit o).sec = d.sec := rfl
@[simp] theorem emit_fuses (d : Dev) (o : Out) : (d.emit o).fuses = d.fuses := rfl
@[simp] theorem emit_viol (d : Dev) (o : Out) : (d.emit o).viol = d.viol := rfl
@[simp] theorem emit_hw (d : Dev) (o : Out) : (d.emit o).hw = d.hw := rfl
@[simp] theorem emit_bootLog (d : Dev) (o : Out) : (d.emit o).bootLog = d.bootLog := rfl
@[simp] theorem emit_aon0 (d : Dev) (o : Out) : (d.emit o).aon0 = d.aon0 := rfl
@[simp] theorem emit_aon1 (d : Dev) (o : Out) : (d.emit o).aon1 = d.aon1 := rfl
@[simp] theorem emit_freeCtr (d : Dev) (o : Out) : (d.emit o).freeCtr = d.freeCtr := rfl
@[simp] theorem emit_out (d : Dev) (o : Out) : (d.emit o).out = d.out ++ [o] := rfl

/-! ### Reads after writes -/

@[simp] theorem core_updCore (d : Dev) (g : Nat) (u : Core → Core) : (d.updCore g u).core g = u (d.core g) := by
  simp [Dev.updCore, Dev.setCore, Dev.core]
theorem core_updCore_of_ne (d : Dev) {g k : Nat} (u : Core → Core) (h : g ≠ k) : (d.updCore g u).core k = d.core k :=
  Tab.get_set_of_ne _ _ _ h
theorem updCore_congr (d : Dev) (g : Nat) (u v : Core → Core) (e : u (d.core g) = v (d.core g)) :
    d.updCore g u = d.updCore g v := by
  unfold Dev.updCore; rw [e]
@[simp] theorem app_updApp (d : Dev) (a : Nat) (u : AppCore → AppCore) : (d.updApp a u).app a = u (d.app a) := by
  simp [Dev.updApp, Dev.setApp, Dev.app]
theorem app_updApp_of_ne (d : Dev) {a k : Nat} (u : AppCore → AppCore) (h : a ≠ k) : (d.updApp a u).app k = d.app k :=
  Tab.get_set_of_ne _ _ _ h
@[simp] theorem fn_updFn (d : Dev) (f : Nat) (u : Fn → Fn) : (d.updFn f u).fn f = u (d.fn f) := by
  simp [Dev.updFn, Dev.setFn, Dev.fn]
theorem fn_updFn_of_ne (d : Dev) {f k : Nat} (u : Fn → Fn) (h : f ≠ k) : (d.updFn f u).fn k = d.fn k :=
  Tab.get_set_of_ne _ _ _ h
@[simp] theorem group_updGroup (d : Dev) (e n : Nat) (u : Group → Group) : (d.updGroup e n u).group e n = u (d.group e n) := by
  simp [Dev.updGroup, Dev.setGroup, Dev.group]
@[simp] theorem emit_core (d : Dev) (o : Out) (g : Nat) : (d.emit o).core g = d.core g := rfl
@[simp] theorem emit_fn (d : Dev) (o : Out) (f : Nat) : (d.emit o).fn f = d.fn f := rfl
@[simp] theorem chan_updChan (m : Mem) (h : Nat) (u : Chan → Chan) : (m.updChan h u).chan h = u (m.chan h) := by
  simp [Mem.updChan, Mem.chan]
@[simp] theorem part_updPart (m : Mem) (p : Nat) (u : Part → Part) : (m.updPart p u).part p = u (m.part p) := by
  simp [Mem.updPart, Mem.part]

/-! ### Two updates of one part -/

@[simp] theorem updCore_updCore (d : Dev) (g : Nat) (u v : Core → Core) :
    (d.updCore g u).updCore g v = d.updCore g fun c => v (u c) := by
  simp [Dev.updCore, Dev.setCore, Dev.core]
@[simp] theorem updFn_updFn (d : Dev) (f : Nat) (u v : Fn → Fn) :
    (d.updFn f u).updFn f v = d.updFn f fun x => v (u x) := by
  simp [Dev.updFn, Dev.setFn, Dev.fn]
@[simp] theorem updMem_updMem (d : Dev) (u v : Mem → Mem) : (d.updMem u).updMem v = d.updMem fun m => v (u m) := rfl

end Sys2Proof.Machine
end

