-- ==== Sys2Proof/Laws/Steps.lean ====
section
/-! SUPPORT. How a command's completion follows from its effect, and what the shared first steps of many effects do. -/

set_option Elab.async false

namespace Sys2Proof.Machine

/-- A command whose arm is a lifted effect completes as that effect says where the condition holds. -/
theorem completes_of {c : Instr} {pre : Dev → Prop} {post f : Dev → Dev} (h : ∀ s, exec c s = lift f s)
    (hf : ∀ d, pre d → f d = post d) : Completes c pre post := by
  intro s hs
  rw [h, lift, ← hf _ hs]; rfl

/-- The same for a relation between the device found and the device left. -/
theorem yields_of {c : Instr} {pre : Dev → Prop} {post : Dev → Dev → Prop} {f : Dev → Dev} (h : ∀ s, exec c s = lift f s)
    (hf : ∀ d, pre d → post d (f d)) : Yields c pre post := by
  intro s hs
  exact ⟨f s.found, by rw [h, lift]; rfl, hf _ hs⟩

/-- A request that reaches the device wakes it and acts. -/
theorem hostRequest_open {d : Dev} {f : Nat} {st : Option Nat} (h : d.hostOpen f st) (eff : Dev → Dev) :
    d.hostRequest f st eff = eff d.wakeUp := by
  obtain ⟨h1, h2, h3, h4⟩ := h
  unfold Dev.hostRequest
  rw [if_neg (by simp [h1]), if_neg, if_neg]
  · rintro ⟨a, b⟩; obtain ⟨c1, c2⟩ := h4 a; rcases b with b | b; exacts [c1 b, b c2]
  · simp only [h2, Bool.false_or, Bool.and_eq_true, Bool.not_eq_true', decide_eq_true_eq]
    rintro ⟨a, b⟩; obtain ⟨c1, c2⟩ := h3 a; simp [c1, c2] at b

/-- Nothing is skipped where a slot of the bundle is due. -/
theorem skipEmpty_of_pending {d : Dev} {g s n : Nat} (h : (d.core g).pendingSlot = some s) : d.skipEmpty g (n + 1) = d := by
  unfold Dev.skipEmpty
  simp only [h]
  split <;> simp

/-- The slot that is due is the one reached, where no freeze holds the core. -/
theorem reach_of_pending {d : Dev} {g s op : Nat} (h : (d.core g).pendingSlot = some s)
    (ho : slotOpcode ((d.core g).bundle ((d.core g).seq.cur.getD 0)) s = op) (hf : (d.core g).seq.freeze = none) :
    d.reach g s op = (d, true) := by
  unfold Dev.reach
  simp only [skipEmpty_of_pending (n := 65535) h, h, ho, hf]
  simp

/-- The command that is due finds what the side port wrote in the cycle hidden, where no freeze holds the core. -/
theorem ready_of_pending {d : Dev} {g s op : Nat} (h : (d.core g).pendingSlot = some s)
    (ho : slotOpcode ((d.core g).bundle ((d.core g).seq.cur.getD 0)) s = op) (hf : (d.core g).seq.freeze = none) :
    d.slotReady g s op = (d.updCore g Core.sideHidden, true) := by
  unfold Dev.slotReady
  rw [reach_of_pending h ho hf]

/-- A command of a slot that may issue has its effect there, and the slot has issued. -/
theorem slot_of_ready {d e : Dev} {g s op : Nat} (h : d.slotReady g s op = (e, true)) (u : Dev → Cx → Dev) :
    d.slot g s op u = (u e (e.cxNow g)).updCore g fun c => c.sideShown.issued s := by
  unfold Dev.slotReady at h
  unfold Dev.slot
  rcases hr : d.reach g s op with ⟨x, b⟩
  rw [hr] at h
  obtain ⟨rfl, rfl⟩ := Prod.mk.inj h
  rfl

/-- The slot that a source read belongs to. -/
theorem readSlot_of_pending {d : Dev} {g s : Nat} (h : (d.core g).pendingSlot = some s) : d.readSlot g = if s = 4 then 4 else 3 := by
  unfold Dev.readSlot
  simp only [skipEmpty_of_pending (n := 65535) h, h, Option.some.injEq]

/-- An HBM read of a range without an uncorrectable atom. -/
theorem hbmRead_ok {d : Dev} {a n : Nat} (h : (d.flushFor a n).mem.firstBad a n = none) :
    d.hbmRead a n =
      (((d.flushFor a n).updMem fun m => m.eccSweep a n).updMem fun m => m.countRd a n,
       .ok ((((d.flushFor a n).updMem fun m => m.eccSweep a n).updMem fun m => m.countRd a n).mem.bytes a n)) := by
  unfold Dev.hbmRead Dev.hbmTouch
  simp only [h]

/-- An HBM read of a range with an uncorrectable atom: no data, and what the check symbols tell is recorded. -/
theorem hbmRead_bad {d : Dev} {a n x : Nat} (h : (d.flushFor a n).mem.firstBad a n = some x) :
    d.hbmRead a n = ((d.flushFor a n).updMem fun m => m.eccSweep a n, .error x) := by
  unfold Dev.hbmRead Dev.hbmTouch
  simp only [h]

/-- A message in a secured session acts, and vector 18 says that its response is ready. -/
theorem spdm_secured {d : Dev} (h : d.secureOpen) (eff : Dev → Dev) : (d.spdm fun d => d.secured eff) = (eff d).msix 0 18 := by
  unfold Dev.spdm Dev.secured
  rw [if_pos ⟨h.1, h.2.1⟩]
  simp only [h.2.2, if_true]

/-- Asking for a transfer leaves the waiting host accesses. -/
theorem ask_hostQ (m : Mem) (w : Waiter) (p : Option Nat) (small write : Bool) (addr len : Nat) : (m.ask w p small write addr len).hostQ = m.hostQ := by
  have hs : ∀ (l : List (Nat × Nat)) (m : Mem),
      (l.foldl (fun m q => m.smallAdmit (chanOf q.1) (5 * (atomBytes q.1 q.2 / 64)) w) m).hostQ = m.hostQ := by
    intro l
    induction l with
    | nil => exact fun _ => rfl
    | cons q l ih =>
      intro m
      refine (ih _).trans ?_
      unfold Mem.smallAdmit
      dsimp only
      split <;> rfl
  have ht : ∀ (m : Mem) p b, (m.askTokens w p b).hostQ = m.hostQ := by
    intro m p b
    unfold Mem.askTokens
    split <;> rfl
  have h1 : (if small then m.askSmall w write addr len else m).hostQ = m.hostQ := by
    split
    · exact hs _ m
    · rfl
  unfold Mem.ask
  cases p with
  | none => exact h1
  | some p => exact (ht _ _ _).trans h1

/-- A host access that nothing holds back is made at once. -/
theorem hostAsk_free {d : Dev} {f p addr len : Nat} {data : Option (List Byte)} (h : d.hostFree p addr len data.isSome) :
    d.hostAsk f p addr data len = (d.hostAsked p addr len data.isSome).hostAccess ⟨d.mem.hostNo, f, p, addr, data, len⟩ := by
  obtain ⟨h1, h2, h3⟩ := h
  have hq : (d.mem.ask (.host d.mem.hostNo) (some p) (decide (len < 512)) data.isSome addr len).hostQ = [] := (ask_hostQ ..).trans h1
  unfold Dev.hostAsked at h2 h3
  simp only [Dev.updMem] at h2 h3
  have hd : ∀ m : Mem, m.holds.contains (.host d.mem.hostNo) = false → m.resetting addr len = false →
      ({ m with hostQ := [⟨d.mem.hostNo, f, p, addr, data, len⟩] } : Mem).hostDue = some ⟨d.mem.hostNo, f, p, addr, data, len⟩ := by
    intro m a b
    have b : ({ m with hostQ := [⟨d.mem.hostNo, f, p, addr, data, len⟩] } : Mem).resetting addr len = false := b
    unfold Mem.hostDue
    simp only [List.zipIdx_cons, List.zipIdx_nil, List.find?_cons, a, b, List.take_zero, List.any_nil, Bool.not_false,
      Bool.and_self, Option.map_some]
  have e := hd { d.mem.ask (.host d.mem.hostNo) (some p) (decide (len < 512)) data.isSome addr len with hostNo := d.mem.hostNo + 1 } h2 h3
  unfold Dev.hostAsk Dev.hostAsked
  simp only [Dev.updMem, hq, List.nil_append, List.length_nil, Nat.zero_add, Dev.serveHost] at e ⊢
  simp only [e, List.filter_cons, ne_eq, not_true_eq_false, decide_false, Bool.false_eq_true, if_false, List.filter_nil]

end Sys2Proof.Machine
end

