-- ==== Sys2Proof/WellFormed.lean ====
section
/-! DEFINITION. The commands that the ports, the bus and the device's own parts can send: operands of the lengths and ranges
that the specification gives, and register accesses by an agent that reaches the block (R5, R407, R552, R553). A command of
another form means nothing to the hardware; `exec` answers it without regard to this file. -/

namespace Sys2Proof

/-- Codewords of a local store: 65,536 rows of four (R205). -/
def upsetsWf (up : List Upset) : Bool := up.all fun u => decide (u.row < 65536) && decide (u.word < 4)

/-- A field of a fixed length. -/
def lengthIs {α : Type} (n : Nat) (l : List α) : Bool := decide (l.length = n)

/-- Blocks of the device window that the physical function and firmware reach (R552). -/
def inDevice : Agent → Bool
  | .fn f => decide (f = 0)
  | .firmware => true
  | .app _ => false
  | .bmc => false

/-- Blocks that an application core reaches as well (R407, R552). -/
def inDeviceOrGuest : Agent → Bool
  | .fn f => decide (f = 0)
  | .firmware => true
  | .app _ => true
  | .bmc => false

/-- The platform blocks, which the management controller reaches over I3C (R553). -/
def onPlatform : Agent → Bool
  | .fn f => decide (f = 0)
  | .firmware => true
  | .app _ => false
  | .bmc => true

/-- A host write carries at most 512 bytes, and a host read asks for at most 4,096 (R371). -/
def hostAccessWf (wr : Option (List Byte)) (len : Nat) : Bool :=
  match wr with
  | some b => decide (0 < b.length) && decide (b.length ≤ 512)
  | none => decide (0 < len) && decide (len ≤ 4096)

/-- A host write within the 1 MiB intake ring that covers byte 0xFF of a slot (R374, R381). -/
def sealWf (off : Nat) (data : List Byte) : Bool :=
  decide (0 < data.length) && decide (data.length ≤ 512) && decide (off + data.length ≤ 2 ^ 20) && decide (off / 256 < (off + data.length) / 256)

/-- A write that lies within one granule of an HBM (R262). -/
def withinGranule (addr : Nat) (data : List Byte) : Bool :=
  decide (0 < data.length) && decide (addr % 256 + data.length ≤ 256)
/-- An address of the two HBM regions (R10). -/
def isHbmAddr (addr : Nat) : Bool := decide (addr < 2 ^ 40)

/-- A register write lies within one register of 64 bits (R550). -/
def registerBytes (addr : Nat) (b : List Byte) : Bool := decide (0 < b.length) && decide (addr % 8 + b.length ≤ 8)

/-- A command that can be sent. -/
def Instr.wf : Instr → Bool
  | .nttFwd _ up | .ld _ up | .lsScrubStep _ up | .ringRowLands _ _ up | .outboundRowDrain _ _ up => upsetsWf up
  | .seqBqPush _ entry => lengthIs 64 entry
  | .imageFetchDone _ image => decide (image.toNat % 64 = 0)
  | .kloadGo _ _ a | .kloadForce _ _ a | .kstGrpOpen _ _ a _ | .kstGrpClose _ _ a _ | .secKcopyGo _ a => inDeviceOrGuest a
  | .tokenSignalArrives _ who => decide (who < 160)
  | .narrowRead _ _ a up | .narrowWrite _ _ _ _ a up => inDeviceOrGuest a && upsetsWf up
  | .hbmReadReturn _ atom _ _ => decide (atom.toNat % 64 = 0)
  | .wcbPartialWrite _ _ addr data => withinGranule addr.toNat data && isHbmAddr addr.toNat
  | .wcbFlush _ a | .mregRateWrite _ _ a | .tgcStart _ _ a | .maintSet a | .maintClear a | .d2dRetrain a
    | .lnkRetrain _ a | .pddSelftestGo _ _ a => inDevice a
  | .refreshSlot _ temp _ => decide (temp < 256)
  | .fabricUncorrectable _ _ vc _ => decide (vc < 4)
  | .flitReceive _ flit fec => lengthIs 514 flit && lengthIs 30 fec && (flit ++ fec).all fun x => decide (x < 1024)
  | .mack _ kind _ _ _ => decide (kind ≤ 2)
  | .winXferPush a rcd => inDeviceOrGuest a && lengthIs 32 rcd
  | .pdecPush _ rcd | .bneReqPush rcd | .commitReceive _ rcd => lengthIs 64 rcd
  | .intakeSeal _ off data _ => sealWf off data
  | .bar0Access _ _ wv len _ | .bar2Access _ _ wv len _ => hostAccessWf wv len
  | .getReport nonce => lengthIs 32 nonce
  | .coreFail _ _ ev => decide (1 ≤ ev) && decide (ev ≤ 4)
  | .pddCommitPush a rcd | .pddDigestPush a rcd => inDeviceOrGuest a && lengthIs 64 rcd
  | .strapSetDone codes => lengthIs 8 codes && (codes.all fun x => decide (x < 256))
  | .startStepDone n _ _ => decide (3 ≤ n) && decide (n ≤ 12)
  | .partResetCore _ a | .partResetCluster _ a | .partResetHbmChannel _ a | .partResetLink _ a
    | .partResetOptEngine _ a | .partResetAppCore _ a | .pwrCtrlWrite _ a | .clkClusterWrite _ _ a
    | .cfgCmdPowerLimit a _ _ _ | .cfgCmdIdleUs a _ _ _ | .cfgCmdDuskEn a _ _ _ | .cfgCmdClusterFreq a _ _ _
    | .cfgCmdSendLimit a _ _ _ | .cfgCmdPeerWait a _ _ _ | .cfgCmdRetry a _ _ _ | .cfgCmdLostWait a _ _ _
    | .cfgCmdFeedOverride a _ _ _ | .cfgCmdRegulator a _ _ _ _ | .updApply a | .updResetNow a => onPlatform a
  | .railFault _ kind => decide (1 ≤ kind) && decide (kind ≤ 3)
  | .i3cSetOffset b => lengthIs 4 b
  | .i3cRegisterWrite b => lengthIs 12 b
  | .registerWrite _ addr b => registerBytes addr.toNat b.bytes
  | .updateImageWritten res => decide (res < 3)
  | .opOpen _ | .opClose _ | .clusterOperationStop _ | .loop _ | .shapeSet _ | .pxSet _ | .nttInv _ | .nttFwdq _
    | .nttInvq _ | .bcvLdm _ | .bcvExt _ | .bcvMatmul _ | .qpop _ | .st _ | .add _ | .sub _ | .neg _ | .mul _
    | .mac _ | .cmplt _ | .cmpeq _ | .sel _ | .shuf _ | .bcast _ | .add64 _ | .sub64 _ | .mul64 _ | .cmplt64 _
    | .prmAuto _ | .prmAutoip _ | .prmTrans _ | .prmTransip _ | .prmGather _ | .prmScatter _ | .coordListFail _
    | .prmSend _ | .kexGen _ | .kexGenq _ | .strIssue _ | .engineWriteLands _ | .tileDeposit _ | .freezeEnd _ _
    | .streamTimeout _ _ | .auditFreeze _ | .lsCorrectionRewrite _ | .blockDispatch _ | .blockBoundary _
    | .pushHeldAccept _ | .kloadDone _ | .lsWipeDone _ | .run _ _ | .post _ _ | .kbind _ _ | .leave _ _
    | .unpost _ _ | .unpostComplete _ _ | .release _ _ | .strEnd _ _ | .seta _ _ | .adda _ _ | .setl _ _
    | .addl _ _ | .strLoop _ _ | .rd _ _ | .wr _ _ | .rrd _ _ | .rwr _ _ | .lsend _ _ | .waitt _ _
    | .waittSatisfied _ _ | .sig _ _ | .sigSignalled _ _ | .fence _ _ | .fenceComplete _ _
    | .transferRequest _ _ _ | .groupHeaderRead _ _ | .keyHeaderArrives _ _ _ | .expectedTagReady _ _
    | .keyChunkArrives _ _ | .multicastRowSend _ _ | .memberDrop _ _ _ | .catchupRead _ _ _
    | .groupStreamEnd _ _ | .smallPathWindow _ | .wcbAgeFlush _ | .regulatorTick _ | .regulatedIssue _
    | .tgcStop _ _ _ _ | .tgcTestEnd _ _ _ | .maintWipeDone | .exchangeLand _ | .flitCrcReplay _ _ _
    | .laneSpareReplace _ _ | .cartridgeFailure _ | .cartRelease _ | .cartRestore _ | .cartridgeInsert _
    | .cartridgeLit _ | .cartridgeLeverOpen _ | .linkLightDetect _ | .linkTrainStep _ | .linkTrainTimeout _
    | .hello _ _ _ _ | .lossOfLock _ | .fastRetrainDone _ | .fastRetrainFail _ | .linkRetryExpiry _
    | .nakReceive _ _ | .peerAdd _ | .peerRemove _ | .peerSetOwners _ _ | .peerDrainDone _ | .probe _
    | .probeAck _ | .probeNak _ | .probeRetry _ | .streamMessageReceive _ | .mackSend _ _ | .refuse _ _ _ _ _
    | .rnr _ _ _ _ | .rnrResend _ _ _ | .linkSendTimeout _ _ _ | .peerWaitTimeout _ _
    | .linkGroupMemberDrop _ _ _ _ | .winOpen _ | .winClose _ | .winClosed _ | .windowWriteReceive _
    | .windowWriteComplete _ | .winXferStart | .windowClosed _ _ | .windowRefused _ _ | .slotLoad _ _ _
    | .slotLoadDone _ | .slotRelease _ _ | .slotWipeDone _ | .pdecRequestStart | .pdecDone | .heldSealEvaluate _
    | .jobCheck _ _ | .jobStart _ _ | .resourceReserve _ _ | .jobTimeLimit _ _ | .intkCancel _ _
    | .jobBoundary _ _ | .jobCompletion _ _ | .intkEn _ _ | .hifExpertEnWrite _ _ | .functionLevelReset _
    | .kSetGo _ | .ideIntegrityFail _ | .stopInterface _ | .lockInterfaceRequest _ _ | .tdiConfigChange _
    | .msixModerationTimer _ _ | .getVersion | .getCapabilities | .negotiateAlgorithms _ | .keyExchange _ _
    | .finish _ _ | .getMeasurements _ _ | .getDeviceCert _ _ | .appExit _ _ | .tokenSignal _ _
    | .tokenWait _ _ _ _ | .tokenWaitResume _ | .tokenRead _ _ | .kgroupOpen _ _ _ _ _ | .kgroupClose _ _ _
    | .kgroupStatus _ _ _ | .guestPageFault _ _ | .loadAccessFault _ _ | .ctrlTrap _ _ _ | .bootStage _ _ _
    | .kcopyDone | .reservationLogWrite _ | .bneRequestStart | .bneFetchDone _ _ | .bneComputeDone _
    | .bneWipeDone | .securityViolation _ | .spareSubstitution _ | .selftestStart _ | .selftestEnd _ _
    | .pairingMessage _ _ _ | .commitAnswer _ _ _ _ | .digestDone | .lostWaitExpiry _ | .powerOnReset
    | .clockMissing | .clockReturn | .perstAssert _ _ | .perstDeassert | .hotReset | .rstCtrlDevice _
    | .watchdogExpiry | .thermalTrip _ _ | .resetRelease _ | .fuseCopyCheck _ | .startConfirm | .startTimeout
    | .partResetStart | .powerSample _ | .gapRatioUpdate | .thermalLevelChange _ _ _ | .throttleStep _
    | .freqStep _ | .clusterRelock _ | .relockDone _ | .duskEntry | .duskWake | .wakeComplete
    | .updateStepConfirm | .updateWindowMiss | .updateDeviceReset | .cardInsert _ | .cardRemove | .vinRise
    | .vinFall _ | .vinOvervoltage | .overcurrentTrip | .hotswapRetry | .railRestart | .i3cRegisterRead
    | .setdasa _ _ | .entdaa _ | .startInterfaceRequest _ | .stopInterfaceWipeDone _ | .configurationRequest _
    | .pcieLinkReachesL0 | .overvoltageTurnOn | .partialResetDone _ => true

end Sys2Proof
end

