-- ==== Sys2Proof/Tests/Slice0.lean ====
section
/-! SUPPORT. Small states for the tests, a witness for the hypotheses of each statement, and the tests: the worked examples
of the chapters, and an ill-formed term for each check of well-formedness. -/

set_option Elab.async false

set_option linter.unusedVariables false

namespace Sys2Proof.Machine

/-! ### Small states -/

/-- Some state meets the condition of a clause. -/
def Admits (pre : Dev → Prop) : Prop := ∃ s : State, pre s.found

/-- A job for the tests. -/
def aJob (p : JobPhase) : Job :=
  { id := 0, fn := 0, seq := 1, rcd := [], phase := p, expert := false, acceptAon := 0, startAon := 0, causeAon := 0,
    endAon := 0, cause := 0, psets := [], tokens := [], faults := 0, first := none, rsvCores := [], rsvApps := [], reserving := false }

/-- A running job on application core 0. -/
def callDev : Dev := { Dev.reset with jobs := [aJob .running], apps := [(0, { AppCore.reset with job := some 0 })] }

/-- Messages and streams of device 5, for the tests. -/
def TXO (a b : Option Nat) : TxMsg := ⟨⟨1, 0, 2, 7, 5, []⟩, 0, 0, 1, a, b, none, a.isSome⟩
def TXW : Dev := { Dev.reset with lane := { Starlane.reset with streams := [⟨5, 0, 2, 0, none, [TXO none none]⟩] } }
def TXR : Dev := { Dev.reset with lane := { Starlane.reset with streams := [⟨5, 0, 2, 0, none, [TXO none (some 0)]⟩] } }
def TXS : Dev := { Dev.reset with lane := { Starlane.reset with streams := [⟨5, 0, 2, 0, none, [TXO (some 0) none]⟩] } }

/-- A package entry of the loader, for the tests. -/
def anEntry : PkgEntry := { comp := 1, copyBoth := false, version := 0, requires := [], image := { version := 0, requires := [], svn := 0, authFail := 0, record := [], commit := false, revoke := none, body := [], signer := 0, digest := 0 } }

/-- A block queue entry of eight bundles at image 0x40, for the tests. -/
def aBlock : BlockEntry :=
  { kernel := false, image := 0x40, kid := 0, entry := 0, index := 5, length := 8, ordered := false, waits := [], signals := [] }

/-- Core 0 with one command record waiting on stream engine 0, for the tests. -/
def recDev (w : List Nat) : Dev :=
  { Dev.reset with cores := [(0, { Core.reset with segState := 255, engs := [(0, { StreamEng.reset with queue := [⟨w, 0, 0⟩] })] })] }

/-- A program of one instruction with A0 to A7 zero, L1 = 64 and the other L registers zero, for the tests. -/
def progOf (i : Nat) : Prog :=
  { instrs := [i], pc := 0, a := List.replicate 8 0, l := [0, 64, 0, 0], loops := [], addr := 0, block := 0, serial := 1 }

/-- A job that holds core 0 and partition 0, for the tests. -/
def coreJob0 : Job := { aJob .running with rcd := List.replicate 16 0 ++ [1] ++ List.replicate 15 0 ++ [1] ++ List.replicate 7 0 }

/-- A ring of engine 0 of a given type over the row with words 64 to 127, for the tests. -/
def aRing (typ : Nat) : Ring :=
  { eng := 0, typ := typ, rel := false, base := 1, rows := 1, land := 0, drain := 0, row := [], releasing := [], rx := [],
    fail := none, keep := 0 }

/-- A transfer of one row on engine 0, for the tests. -/
def aXfer (opc : Nat) (ring : Option Nat) : Transfer :=
  { id := 0, opc := opc, addr := 0, local' := 0, ring := ring, form := 0, unit := false, len := 1, requested := 1, done := 0,
    core := 0, remote := 0, peer := 0, queue := 0, pend := 0, skip := 0, dests := [], buf := [], block := 0, prog := 1 }

/-- Core 0 in a running job, with stream engine 0 running one instruction, for the tests. -/
def progDev (i : Nat) : Dev :=
  { Dev.reset with
    jobs := [coreJob0], mem := { Mem.reset with parts := [(0, { Part.reset with valid := true, base := 0, size := 1 })] },
    cores := [(0, { Core.reset with segState := 255, job := some 0, rings := [(0, aRing 2)],
                                    engs := [(0, { StreamEng.reset with prog := some (progOf i) })] })] }

/-- Core 0 in a running job, with stream engine 0 in a given state, for the tests. -/
def engDev (x : StreamEng) : Dev :=
  { Dev.reset with jobs := [coreJob0], cores := [(0, { Core.reset with segState := 255, job := some 0, engs := [(0, x)], rings := [(0, aRing 0)] })] }

/-- Core 0 running a block of one bundle whose first command is due, for the tests. -/
def bundleDev (b : Nat) : Dev :=
  { Dev.reset with jobs := [coreJob0],
                   cores := [(0, { Core.reset with job := some 0, seq := { Seq.reset with running := some aBlock, code := [b], cur := some 0 } })] }

/-- A FORE parameter set of degree 2^12 with one prime, for the tests. -/
def aPSet : Machine.PSet :=
  { id := 1, logN := 12, scheme := 0, fore := true, reg := 1, spec := 0, dnum := 1, scaleTol := 0, ptMod := 0, noiseMargin := 0,
    ksNoise := 0, msNoise := 0, ptGrowth := 0, primes := [(40961, 3)] }

/-- The header of a FORE key of degree 2^n with one regular prime and a given tag, for the tests. -/
def aKey (n : Nat) (tag : List Byte) : List Byte :=
  [0x48, 0x59, 0x45, 0x4B, 1, 1, 2, BitVec.ofNat 8 n] ++ tag ++ List.replicate 8 0 ++ [1, 0, 0, 0, 0, 0, 0, 0, 1, 1, 1, 0, 20, 0, 0, 0, 1, 0, 0, 0,
    0, 0, 0, 0, 0, 0x90, 0, 0, 0, 0, 0, 0]

/-- A binding of group 0 on ring 0, for the tests. -/
def aBind (hdr : Option (List Byte)) (cat : Option Nat) (pos : Nat) : Binding :=
  { group := 0, slot := 0, sreg := 0, ring := 0, element := 0, aux := none, eng := 0, attached := true, header := hdr, expected := none,
    bad := none, pos := pos, catchup := cat, recheck := none, seen := 0, addr := 0, level := 0, tagsOk := false, ended := false }

/-- An open key-switching operation, for the tests. -/
def anOp : OpSlot :=
  { opcode := 0x0A, dst := 0, results := [], keySwitch := true, elements := 1, level := 0, keysetId := 0, psetId := 1, param := 0, galois := [],
    opened := 0, extStart := 0, extLen := 0, cores := [], dstLimbs := [], inPlace := false, issued := false, serial := 0, closing := 2 ^ 40, residues := [] }

/-- Security firmware with an established session, for the tests. -/
def secureDev : Dev := { Dev.reset with rst := { Rst.reset with pcie := 1 }, sec := { Sec.reset with stage := 3, sessions := [⟨1, true⟩] } }

/-! ### The hypotheses of the statements can be met -/

theorem witness_IdleStep :
    State.reset.pending = [] :=
  rfl

theorem witness_CommandsKeepOtherPieces :
    ∃ t, exec .pdecDone State.reset = .next t ∧ Piece.power ∉ touches .pdecDone ∧ Piece.power ∉ afterEffect :=
  ⟨_, rfl, by decide, by decide⟩

theorem witness_StepKeepsStorageCanonical :
    ∃ t, State.reset.dev.mem.wf = true ∧ StoresOk State.reset.dev.cores ∧ step State.reset = .next t :=
  ⟨_, rfl, fun _ h => (List.not_mem_nil h).elim, rfl⟩

theorem witness_StepOnlyBurnsFuses :
    ∃ t, step State.reset = .next t :=
  ⟨_, rfl⟩

theorem witness_FusesBurnOnlyAtStart :
    ∃ t, step State.reset = .next t ∧ ∀ c rest, State.reset.pending = c :: rest → Piece.fuses ∉ touches c :=
  ⟨_, rfl, fun _ _ h => nomatch h⟩

theorem witness_ViolationsStayUntilPowerOn :
    ∃ t, step { State.reset with dev := { Dev.reset with viol := 1 } } = .next t ∧ bit 1 0 = true :=
  ⟨_, rfl, rfl⟩

theorem witness_PowerLimitStaysInRange :
    ∃ t, LimitOk State.reset.dev.pwr ∧ step State.reset = .next t :=
  ⟨_, .inl rfl, rfl⟩

theorem witness_AlwaysOnCountsKeepTime :
    ∃ t, exec .pdecDone State.reset = .next t ∧ powersOn .pdecDone = false :=
  ⟨_, rfl, rfl⟩

theorem witness_LowestResetCauseStands :
    ∃ d : Dev, d.rst.clkMissing = false ∧ d.rst.hold = false :=
  ⟨{ Dev.reset with rst := { Rst.reset with hold := false } }, rfl, rfl⟩

theorem witness_HbmReadsBack :
    Mem.reset.wf = true :=
  rfl

theorem witness_LocalStoreReadsBack :
    Tab.wf 0 Core.reset.ls = true ∧ 2 ^ 22 - 1 < 2 ^ 22 :=
  by decide

theorem witness_ElementwiseLanes :
    ∃ (q : Nat) (a b d : List Word), 0 < q ∧ q < 2 ^ 36 ∧ (127 : Nat) < 128 ∧ ∀ k, (a.getD k 0).toNat < q ∧
      (b.getD k 0).toNat < q ∧ (d.getD k 0).toNat < q :=
  ⟨40961, [], [], [], by decide, by decide, by decide, fun k => by simp⟩

theorem witness_LanePairs :
    (63 : Nat) < 64 ∧ (1 : Nat) < 2 ∧ (11 : Nat) ≤ 14 ∧ (14 : Nat) ≤ 14 ∧ ∀ k, pairAt [] k = pairAt [] k :=
  ⟨by decide, by decide, by decide, by decide, fun _ => rfl⟩

theorem witness_TokensSaturate :
    ({ Dev.reset with jobs := [aJob .running] } : Dev).job 0 = some (aJob .running) :=
  rfl

theorem witness_EffectiveLimitRange :
    (Dev.reset.strapPower = none ∧ Dev.reset.pwr.thermLimit = none) ∧ (∃ d : Dev, ∃ w, d.strapPower = some w) ∧ ∃ d :
      Dev, ∃ w, d.pwr.thermLimit = some w :=
  ⟨⟨rfl, rfl⟩, ⟨{ Dev.reset with rst := { Rst.reset with strap := 4 } }, 700, rfl⟩, ⟨{ Dev.reset with pwr := { Pwr.reset with thermLimit := some 500 } }, 500, rfl⟩⟩

theorem witness_FaultRecordLayout :
    ∃ r : FaultRec, (r.code < 2 ^ 16 ∧ r.sev < 2 ^ 8 ∧ r.fn < 2 ^ 8 ∧ r.loc < 2 ^ 32 ∧ r.job < 2 ^ 32 ∧ r.block < 2 ^
        32) ∧ r.extStart < 2 ^ 32 ∧ r.extLen < 2 ^ 32 ∧ r.detail < 2 ^ 64 :=
  ⟨plainFault 0xFFFF 1 0 (2 ^ 64 - 1), by decide, by decide, by decide, by decide⟩

theorem witness_FaultRecordsAreRingEntries :
    (plainFault 0x0501 1 0 0).sev < 4 ∧ (Dev.reset.fn 0).faultBase = 0 ∧ ∃ d : Dev, (d.fn 0).faultBase ≠ 0 :=
  ⟨by decide, rfl, { Dev.reset with fns := [(0, { Fn.reset with faultBase := 4096 })] }, by decide⟩

theorem witness_MaskedVectorsPend :
    (∃ d : Dev, (d.fn 0).unmasked.contains 3 = true) ∧ (Dev.reset.fn 0).unmasked.contains 3 = false :=
  ⟨⟨{ Dev.reset with fns := [(0, { Fn.reset with unmasked := [3] })] }, by decide⟩, rfl⟩

theorem witness_InterleaveIsBijection :
    (2 ^ 39 - 1 < 2 ^ 39 ∧ (1 : Nat) < 2) ∧ (127 : Nat) < 128 ∧ 2 ^ 32 - 1 < 2 ^ 32 :=
  by decide

theorem witness_StreamFormsRoundTrip :
    (List.replicate 64 (0 : Word)).length % 8 = 0 :=
  by decide

theorem witness_LimbRoundTrip :
    (List.replicate 8 (1 : Word)).length % 8 = 0 :=
  by decide

theorem witness_BootstrapKeyTable :
    (∃ e b, Dev.reset.hbmRead (aJob .running).args 704 = (e, .ok b) ∧ numAt b 0 8 = 0) ∧ ∃ (d e : Dev)
      (b : List Byte), d.hbmRead (aJob .running).args 704 = (e, .ok b) ∧ ∀ k, k < 88 → numAt b (8 * k) 8 ≠ 0 ∧ isHbm
      (numAt b (8 * k) 8) = true ∧ hbmDie (numAt b (8 * k) 8) = 0 :=
  ⟨⟨_, _, hbmRead_ok (by decide +kernel), by decide +kernel⟩,
    ⟨{ Dev.reset with mem := { Mem.reset with hbm := (List.range 88).map fun i => (8 * i, 1) } }, _, _, hbmRead_ok (by decide +kernel),
      by decide +kernel⟩⟩

theorem witness_ResetCommandsComplete :
    (Admits (fun (d : Dev) => d.hw.porPending = true ∧ d.hw.on = true ∧ d.hw.rails = 0xFFFF ∧ d.rst.clkMissing = false)) ∧
    (Admits (fun (d : Dev) => d.rst.clkMissing = false)) ∧
    ((fun (k : Nat) (t : List Nat) => Admits (fun (d : Dev) => d.rst.clkMissing = true ∧ d.rst.hold = false ∧
            d.rst.latched ++ (if d.rst.perst then [7] else []) = k :: t)) 2 [7]) ∧
    ((fun (n : Nat) (acts : Bool) => Admits (fun (d : Dev) => 25 ≤ n ∧ d.rst.clkMissing = false ∧ d.rst.hold = false))
        25 false) ∧
    ((fun (n : Nat) (acts : Bool) => Admits (fun (_ : Dev) => n < 8)) 7 true) ∧
    (Admits (fun (d : Dev) => d.rst.perst = true)) ∧
    (Admits (fun (d : Dev) => d.rst.pcie ≠ 0 ∧ d.rst.clkMissing = false ∧ d.rst.hold = false)) ∧
    ((fun (v : BitVec 64) => Admits (fun (d : Dev) => bit v.toNat 0 = true ∧ fld v.toNat 16 16 = 0x5254 ∧
            d.rst.clkMissing = false ∧ d.rst.hold = false)) 0x52540001) ∧
    (Admits (fun (d : Dev) => 6 ∈ d.rst.steps ∧ d.rst.clkMissing = false ∧ d.rst.hold = false)) ∧
    ((fun (cls : Fin 3) (t : Nat) => Admits (fun (d : Dev) => tripOf cls.val ≤ t ∧ d.rst.clkMissing = false ∧
            d.rst.hold = false)) 0 115) ∧
    ((fun (t : Nat) => Admits (fun (d : Dev) => d.rst.hold = true ∧ d.rst.clkMissing = false ∧ d.rst.perst = false ∧
            d.pwrGood = true ∧ d.hw.porPending = false ∧ d.rst.holdAon + 25 ≤ d.aon0 ∧ d.rst.perstAon + 8 ≤ d.aon0 ∧
            (d.rst.thermHold = true → t + 10 ≤ 115))) 105) ∧
    ((fun (ok : Bool) => Admits (fun (d : Dev) => ok = true ∧ d.rst.hold = false ∧ d.rst.fuseDone = false ∧
            d.rst.fuseFailed = false)) true) ∧
    ((fun (ok : Bool) => Admits (fun (d : Dev) => ok = false ∧ d.rst.hold = false ∧ d.rst.fuseDone = false ∧
            d.rst.fuseFailed = false)) false) ∧
    ((fun (codes : List Nat) (v : Nat) => Admits (fun (d : Dev) => codes.length = 8 ∧ (∀ x ∈ codes, x % 256 / 16 = v)
            ∧ d.rst.hold = false ∧ d.rst.fuseDone = true ∧ d.rst.strapDone = false))
        [0xF0, 0xF1, 0xF2, 0xF3, 0xF4, 0xF5, 0xF6, 0xFF] 15) ∧
    ((fun (t : Nat) => Admits (fun (d : Dev) => d.rst.secAon = some t ∧ d.rst.confirmed = false ∧ t + 50000000 ≤
            d.aon0 ∧ d.rst.clkMissing = false ∧ d.rst.hold = false)) 7) := by
  refine ⟨?_, ?_, ?_, ?_, ?_, ?_, ?_, ?_, ?_, ?_, ?_, ?_, ?_, ?_, ?_⟩
  · exact ⟨{ State.reset with dev := { Dev.reset with hw := { Hw.reset with porPending := true } } }, by decide⟩
  · exact ⟨{ State.reset with dev := Dev.reset }, by decide⟩
  · exact ⟨{ State.reset with dev := { Dev.reset with rst := { Rst.reset with clkMissing := true, hold := false, latched := [2], perst := true } } }, by decide⟩
  · exact ⟨{ State.reset with dev := { Dev.reset with rst := { Rst.reset with hold := false } } }, by decide⟩
  · exact ⟨{ State.reset with dev := Dev.reset }, by decide⟩
  · exact ⟨{ State.reset with dev := { Dev.reset with rst := { Rst.reset with perst := true } } }, by decide⟩
  · exact ⟨{ State.reset with dev := { Dev.reset with rst := { Rst.reset with pcie := 1, hold := false } } }, by decide⟩
  · exact ⟨{ State.reset with dev := { Dev.reset with rst := { Rst.reset with hold := false } } }, by decide⟩
  · exact ⟨{ State.reset with dev := { Dev.reset with rst := { Rst.reset with steps := [6], hold := false } } }, by decide⟩
  · exact ⟨{ State.reset with dev := { Dev.reset with rst := { Rst.reset with hold := false } } }, by decide⟩
  · exact ⟨{ State.reset with dev := { Dev.reset with aon0 := 25, rst := { Rst.reset with hold := true, thermHold := true } } }, by decide⟩
  · exact ⟨{ State.reset with dev := { Dev.reset with rst := { Rst.reset with hold := false } } }, by decide⟩
  · exact ⟨{ State.reset with dev := { Dev.reset with rst := { Rst.reset with hold := false, fuseReads := 5 } } }, by decide⟩
  · exact ⟨{ State.reset with dev := { Dev.reset with rst := { Rst.reset with hold := false, fuseDone := true } } }, by decide⟩
  · exact ⟨{ State.reset with dev := { Dev.reset with aon0 := 50000007, rst := { Rst.reset with hold := false, secAon := some 7 } } }, by decide⟩

theorem witness_PowerCommandsComplete :
    ((fun (die : DieId) => Admits (fun (d : Dev) => 2 ≤ d.pwr.dieLevel die.val ∧ Tab.get 0 d.pwr.stepAon (2 * die.val)
            + 25000 ≤ d.aon die.val)) 1) ∧
    ((fun (die : DieId) => Admits (fun (d : Dev) => 3 ≤ d.pwr.dieLevel die.val ∧ Tab.get 0 d.pwr.stepAon
            (2 * die.val + 1) + 250000 ≤ d.aon die.val)) 0) ∧
    ((fun (die : DieId) => Admits (fun (d : Dev) => d.pwr.dieLevel die.val < 3 ∧ Tab.get 0 d.pwr.dieMax die.val < 95 ∧
            0 < Tab.get 0 d.pwr.thermStep die.val ∧ Tab.get 0 d.pwr.stepAon (2 * die.val + 1) + 250000 ≤ d.aon die.val))
        0) ∧
    ((fun (i : ClusterId) => Admits (fun (d : Dev) => Tab.get false d.pwr.relocking i.val = true ∧ ∀ g ∈
            coresOfCluster i.val, (d.core g).seq.running = none)) 15) ∧
    ((fun (i : ClusterId) => Admits (fun (d : Dev) => Tab.get false d.pwr.relock i.val = true)) 0) ∧
    ((fun (v : BitVec 64) (a : Agent) => Admits (fun (d : Dev) => d.expert a = true)) 1 .bmc) ∧
    ((fun (i : ClusterId) (v : BitVec 64) (a : Agent) => Admits (fun (d : Dev) => d.expert a = true)) 3 2 .bmc) := by
  refine ⟨?_, ?_, ?_, ?_, ?_, ?_, ?_⟩
  · exact ⟨{ State.reset with dev := { Dev.reset with aon1 := 25000, pwr := { Pwr.reset with level := [(5, 2)] } } }, by decide⟩
  · exact ⟨{ State.reset with dev := { Dev.reset with aon0 := 250000, pwr := { Pwr.reset with level := [(0, 3)] } } }, by decide⟩
  · exact ⟨{ State.reset with dev := { Dev.reset with aon0 := 250000, pwr := { Pwr.reset with thermStep := [(0, 1)], dieMax := [(0, 94)] } } }, by decide⟩
  · exact ⟨{ State.reset with dev := { Dev.reset with pwr := { Pwr.reset with relocking := [(15, true)] } } }, by decide⟩
  · exact ⟨{ State.reset with dev := { Dev.reset with pwr := { Pwr.reset with relock := [(0, true)] } } }, by decide⟩
  · exact ⟨{ State.reset with dev := Dev.reset }, by decide⟩
  · exact ⟨{ State.reset with dev := Dev.reset }, by decide⟩

theorem witness_ModuleCommandsComplete :
    (Admits (fun (d : Dev) => d.hw.on = false)) ∧
    ((fun (us : Nat) => Admits (fun (d : Dev) => 10 ≤ us ∧ d.hw.on = true)) 10) ∧
    ((fun (us : Nat) => Admits (fun (_ : Dev) => us < 10)) 9) ∧
    (Admits (fun (d : Dev) => d.hw.on = true)) ∧
    (Admits (fun (d : Dev) => d.hw.offReason = 2 ∧ d.hw.on = false)) ∧
    (Admits (fun (d : Dev) => d.hw.on = true)) ∧
    (Admits (fun (d : Dev) => d.hw.offReason = 3 ∧ d.hw.on = false)) ∧
    ((fun (rail : Fin 16) (kind : Nat) => Admits (fun (d : Dev) => rail.val < 4 ∧ d.hw.on = true ∧ d.hw.railDead =
            false ∧ d.hw.railOff = none ∧ bit d.hw.rails rail.val = true ∧ 1 ≤ kind ∧ kind ≤ 3)) 3 1) ∧
    ((fun (rail : Fin 16) (kind : Nat) => Admits (fun (d : Dev) => 4 ≤ rail.val ∧ d.hw.on = true ∧ d.hw.railDead =
            false ∧ d.hw.railOff = none ∧ bit d.hw.rails rail.val = true ∧ 1 ≤ kind ∧ kind ≤ 3)) 4 3) ∧
    ((fun (t : Nat) => Admits (fun (d : Dev) => d.hw.railOff = some t ∧ d.hw.railDead = false ∧ d.hw.rails = 0)) 0) ∧
    ((fun (t : Nat) => Admits (fun (d : Dev) => d.hw.railOff = some t ∧ d.hw.railDead = false ∧ d.hw.rails ≠ 0 ∧ t +
            2500000 ≤ d.aon0)) 0) ∧
    ((fun (static dyn : BitVec 7) => Admits (fun (d : Dev) => d.hw.on = true ∧ static.toNat =
            (if d.rst.strap = 0xE then 0x5B else 0x5A))) 0x5B 8) ∧
    ((fun (dyn : BitVec 7) => Admits (fun (d : Dev) => d.hw.on = true ∧ d.hw.i3cAddr = none)) 9) ∧
    (Admits (fun (d : Dev) => 5 ∈ d.rst.steps ∨ d.rst.lodestar = true)) := by
  refine ⟨?_, ?_, ?_, ?_, ?_, ?_, ?_, ?_, ?_, ?_, ?_, ?_, ?_, ?_⟩
  · exact ⟨{ State.reset with dev := { Dev.reset with hw := { Hw.reset with on := false } } }, by decide⟩
  · exact ⟨{ State.reset with dev := Dev.reset }, by decide⟩
  · exact ⟨{ State.reset with dev := Dev.reset }, by decide⟩
  · exact ⟨{ State.reset with dev := Dev.reset }, by decide⟩
  · exact ⟨{ State.reset with dev := { Dev.reset with hw := { Hw.reset with on := false, offReason := 2 } } }, by decide⟩
  · exact ⟨{ State.reset with dev := Dev.reset }, by decide⟩
  · exact ⟨{ State.reset with dev := { Dev.reset with hw := { Hw.reset with on := false, offReason := 3 } } }, by decide⟩
  · exact ⟨{ State.reset with dev := Dev.reset }, by decide⟩
  · exact ⟨{ State.reset with dev := Dev.reset }, by decide⟩
  · exact ⟨{ State.reset with dev := { Dev.reset with hw := { Hw.reset with railOff := some 0, rails := 0 } } }, by decide⟩
  · exact ⟨{ State.reset with dev := { Dev.reset with aon0 := 2500000, hw := { Hw.reset with railOff := some 0, rails := 15 } } }, by decide⟩
  · exact ⟨{ State.reset with dev := { Dev.reset with rst := { Rst.reset with strap := 0xE } } }, by decide⟩
  · exact ⟨{ State.reset with dev := Dev.reset }, by decide⟩
  · exact ⟨{ State.reset with dev := { Dev.reset with rst := { Rst.reset with steps := [5] } } }, by decide⟩

theorem witness_StartCommandsComplete :
    ((fun (n : Nat) (norOk : Bool) (bad : List Nat) => Admits (fun (d : Dev) => n ∈ [3, 5, 11, 12] ∧ d.rst.hold =
            false ∧ d.rst.romHalt = false ∧ d.rst.lodestar = false ∧ d.stepDone n = false ∧
            (∀ m ∈ stepNeeds n, d.stepDone m = true) ∧ d.stepReady n = true ∧ d.upd.offline = false)) 5 true []) ∧
    ((fun (n : Nat) (norOk : Bool) (bad : List Nat) => Admits (fun (d : Dev) => n ∈ [4, 6, 8, 9, 10] ∧ d.rst.hold =
            false ∧ d.rst.romHalt = false ∧ d.rst.lodestar = false ∧ d.stepDone n = false ∧
            (∀ m ∈ stepNeeds n, d.stepDone m = true) ∧ d.stepReady n = true ∧ d.upd.offline = false)) 9 true [127]) ∧
    ((fun (n : Nat) (norOk : Bool) (bad : List Nat) => Admits (fun (d : Dev) => n = 7 ∧ d.rst.hold = false ∧
            d.rst.romHalt = false ∧ d.rst.lodestar = false ∧ d.stepDone 7 = false ∧ d.stepDone 6 = true ∧
            d.upd.offline = false)) 7 true []) ∧
    (Admits (fun (d : Dev) => d.mayConfirm = true)) ∧
    ((fun (g : CoreId) (a : Agent) => Admits (fun (d : Dev) => d.expert a = true ∧ d.rst.partBusy = false ∧ d.partFree
            1 g.val = true)) 127 .bmc) ∧
    ((fun (g : ClusterId) (a : Agent) => Admits (fun (d : Dev) => d.expert a = true ∧ d.rst.partBusy = false ∧
            d.partFree 2 g.val = true)) 15 .bmc) ∧
    ((fun (g : ChanId) (a : Agent) => Admits (fun (d : Dev) => d.expert a = true ∧ d.rst.partBusy = false ∧ d.partFree
            3 g.val = true)) 0 .bmc) ∧
    ((fun (g : LinkId) (a : Agent) => Admits (fun (d : Dev) => d.expert a = true ∧ d.rst.partBusy = false ∧ d.partFree
            4 g.val = true)) 95 .bmc) ∧
    ((fun (g : OptId) (a : Agent) => Admits (fun (d : Dev) => d.expert a = true ∧ d.rst.partBusy = false ∧ d.partFree
            5 g.val = true)) 11 .bmc) ∧
    ((fun (g : AppId) (a : Agent) => Admits (fun (d : Dev) => d.expert a = true ∧ d.rst.partBusy = false ∧ d.partFree
            6 g.val = true)) 31 .bmc) ∧
    (Admits (fun (d : Dev) => d.rst.partBusy = true ∧ d.rst.partWaiting = true ∧ d.partFree d.rst.partKind
          d.rst.partIndex = true)) ∧
    ((fun (ok : Bool) => Admits (fun (d : Dev) => d.rst.partBusy = true ∧ d.rst.partWaiting = false ∧ d.rst.partKind =
            1)) true) ∧
    (Admits (fun (d : Dev) => d.idle = true ∧ d.pwr.state = 0 ∧ d.pwr.duskEn = true ∧ d.rst.strap ≠ 9 ∧
          d.rst.confirmed = true ∧ d.rst.lodestar = false ∧ d.pwr.idleLimit ≤ d.pwr.idleCnt)) ∧
    (Admits (fun (d : Dev) => d.pwr.state = 2)) ∧
    (Admits (fun (d : Dev) => d.pwr.state = 3)) := by
  refine ⟨?_, ?_, ?_, ?_, ?_, ?_, ?_, ?_, ?_, ?_, ?_, ?_, ?_, ?_, ?_⟩
  · exact ⟨{ State.reset with dev := { Dev.reset with rst := { Rst.reset with hold := false, steps := [3, 4] } } }, by decide⟩
  · exact ⟨{ State.reset with dev := { Dev.reset with rst := { Rst.reset with hold := false, steps := [3, 4, 6, 7] }, sec := { Sec.reset with meas := [(7, Meas.reset)] } } }, by decide⟩
  · exact ⟨{ State.reset with dev := { Dev.reset with rst := { Rst.reset with hold := false, steps := [3, 4, 6] } } }, by decide⟩
  · exact ⟨{ State.reset with dev := { Dev.reset with rst := { Rst.reset with hold := false, steps := [3, 4, 5, 6, 7, 8, 9, 10, 11, 12], hbmWiped := true, secAon := some 0 } } }, by decide⟩
  · exact ⟨{ State.reset with dev := Dev.reset }, by decide⟩
  · exact ⟨{ State.reset with dev := Dev.reset }, by decide⟩
  · exact ⟨{ State.reset with dev := Dev.reset }, by decide⟩
  · exact ⟨{ State.reset with dev := Dev.reset }, by decide⟩
  · exact ⟨{ State.reset with dev := Dev.reset }, by decide⟩
  · exact ⟨{ State.reset with dev := Dev.reset }, by decide⟩
  · exact ⟨{ State.reset with dev := { Dev.reset with rst := { Rst.reset with partBusy := true, partWaiting := true, partKind := 1 } } }, by decide⟩
  · exact ⟨{ State.reset with dev := { Dev.reset with rst := { Rst.reset with partBusy := true, partKind := 1 } } }, by decide⟩
  · exact ⟨{ State.reset with dev := { Dev.reset with pwr := { Pwr.reset with duskEn := true, idleUs := 1, idleCnt := 25 }, rst := { Rst.reset with confirmed := true } } }, by decide⟩
  · exact ⟨{ State.reset with dev := { Dev.reset with pwr := { Pwr.reset with state := 2 } } }, by decide⟩
  · exact ⟨{ State.reset with dev := { Dev.reset with pwr := { Pwr.reset with state := 3 } } }, by decide⟩

theorem witness_HostCommandsComplete :
    ((fun (f : FnId) (off : Nat) (data : List Byte) (st : Option Nat) => Admits (fun (d : Dev) => d.hostOpen f.val st))
        0 255 [1] none) ∧
    ((fun (f : FnId) => Admits (fun (d : Dev) => d.intakeOpen f.val = true ∧ d.pwr.state = 0 ∧ (d.fn f.val).seal
            (((d.fn f.val).expect - 1) % 4096) = (d.fn f.val).expect)) 0) ∧
    ((fun (f : FnId) (seq : BitVec 64) (j : Job) (code detail : Nat) => Admits (fun (d : Dev) => d.jobOf f.val
            seq.toNat = some j ∧ j.phase = .accepted ∧ d.jobFail j = some (code, detail))) 0 1 (aJob .accepted) 0x0906
        0) ∧
    (∃ (f : FnId) (seq : BitVec 64) (j : Job) (e : Dev) (recs : List (List Byte)) (sets : List Machine.PSet), Admits
        (fun (d : Dev) => d.jobOf f.val seq.toNat = some j ∧ j.phase = .accepted ∧ d.jobFail j = none ∧
          (((List.range j.psetCount).map j.psetAddr).any fun a => d.mem.resetting a 1216) = false ∧ d.readPSets
          ((List.range j.psetCount).map j.psetAddr) = (e, .ok recs) ∧ checkPSets recs = .ok sets)) ∧
    ((fun (f : FnId) (seq : BitVec 64) (j : Job) => Admits (fun (d : Dev) => d.jobOf f.val seq.toNat = some j ∧
            d.startable j = true ∧ (∀ o ∈ d.jobs, o.id < j.id → d.startable o = false) ∧ d.pwr.state = 0 ∧ ∀ g ∈
            j.cores, (d.core g).lastFn = none ∨ (d.core g).lastFn = some f.val)) 0 1 (aJob .waiting)) ∧
    ((fun (f : FnId) (seq : BitVec 64) (j : Job) => Admits (fun (d : Dev) => d.jobOf f.val seq.toNat = some j ∧
            j.phase = .waiting ∧ j.acceptAon + 25000 ≤ d.aon0)) 0 1 (aJob .waiting)) ∧
    ((fun (f : FnId) (seq : BitVec 64) (j : Job) => Admits (fun (d : Dev) => d.jobOf f.val seq.toNat = some j ∧
            j.phase = .running ∧ j.startAon + 25000 * j.timeLimit ≤ d.aon0)) 0 1 (aJob .running)) ∧
    ((fun (f : FnId) (seq : BitVec 64) => Admits (fun (d : Dev) => d.jobOf f.val seq.toNat = none)) 0 9) ∧
    ((fun (f : FnId) (seq : BitVec 64) (j : Job) => Admits (fun (d : Dev) => d.jobOf f.val seq.toNat = some j ∧
            j.phase = .waiting)) 0 1 (aJob .waiting)) ∧
    ((fun (f : FnId) (seq : BitVec 64) (j : Job) => Admits (fun (d : Dev) => d.jobOf f.val seq.toNat = some j ∧
            j.phase = .running)) 0 1 (aJob .running)) ∧
    ((fun (f : FnId) (seq : BitVec 64) (j : Job) => Admits (fun (d : Dev) => d.jobOf f.val seq.toNat = some j ∧
            j.phase = .boundary)) 0 1 (aJob .boundary)) ∧
    ((fun (f : FnId) (v : BitVec 64) => Admits (fun (d : Dev) => bit v.toNat 0 = true ∧ (d.fn f.val).cmplBase ≠ 0 ∧
            (d.fn f.val).en = false)) 63 1) ∧
    ((fun (f : FnId) (v : BitVec 64) => Admits (fun (d : Dev) => bit v.toNat 0 = true ∧ (d.fn f.val).cmplBase = 0)) 0
        1) ∧
    ((fun (f : FnId) (v : BitVec 64) => Admits (fun (d : Dev) => bit v.toNat 0 = false ∧ d.outstanding f.val = 0)) 0 0) ∧
    ((fun (f : FnId) (v : BitVec 64) => Admits (fun (_ : Dev) => f = 0)) 0 3) ∧
    ((fun (f : FnId) (v : BitVec 64) => Admits (fun (_ : Dev) => f ≠ 0)) 1 3) ∧
    ((fun (f : FnId) (v : Fin 16) (n t : Nat) => Admits (fun (d : Dev) => Tab.get (0, d.aon0) (d.fn f.val).unannounced
            v.val = (n, t) ∧ 0 < n ∧ t + 25 * (d.fn f.val).modUs ≤ d.aon0)) 2 15 1 0) ∧
    ((fun (f : FnId) (off : Nat) (wr : Option (List Byte)) (len : Nat) (st : Option Nat) (b : List Byte) => Admits
          (fun (d : Dev) => d.hostOpen f.val st ∧ wr = some b ∧ inWindow f.val off = false)) 0 0 (some [1]) 0 none [1]) ∧
    ((fun (f : FnId) (off : Nat) (wr : Option (List Byte)) (len : Nat) (st : Option Nat) => Admits
          (fun (d : Dev) => d.hostOpen f.val st ∧ wr = none ∧ inWindow f.val off = false)) 0 0 none 8 none) ∧
    ((fun (f : FnId) (off : Nat) (wr : Option (List Byte)) (len : Nat) (st : Option Nat) (b : List Byte)
          (p addr : Nat) => Admits (fun (d : Dev) => d.hostOpen f.val st ∧ wr = some b ∧ off + b.length ≤ 2 ^
            (d.wakeUp.fn f.val).bar2Log ∧ d.wakeUp.bar2Place f.val off = some (p, addr) ∧ d.wakeUp.mem.inPart p addr
            b.length = true ∧ d.wakeUp.hostFree p addr b.length true)) 0 0 (some [1]) 0 none [1] 3 0) ∧
    ((fun (f : FnId) (off : Nat) (wr : Option (List Byte)) (len : Nat) (st : Option Nat) (p addr : Nat) => Admits
          (fun (d : Dev) => d.hostOpen f.val st ∧ wr = none ∧ off + len ≤ 2 ^ (d.wakeUp.fn f.val).bar2Log ∧
            d.wakeUp.bar2Place f.val off = some (p, addr) ∧ d.wakeUp.mem.inPart p addr len = true ∧ d.wakeUp.hostFree
            p addr len false)) 0 0 none 4 none 3 0) := by
  refine ⟨?_, ?_, ?_, ?_, ?_, ?_, ?_, ?_, ?_, ?_, ?_, ?_, ?_, ?_, ?_, ?_, ?_, ?_, ?_, ?_, ?_⟩
  · exact ⟨{ State.reset with dev := { Dev.reset with rst := { Rst.reset with pcie := 1 } } }, by decide⟩
  · exact ⟨{ State.reset with dev := { Dev.reset with rst := { Rst.reset with confirmed := true }, fns := [(0, { Fn.reset with en := true, expect := 1, intake := [(248, 1)] })] } }, by decide⟩
  · exact ⟨{ State.reset with dev := { Dev.reset with jobs := [aJob .accepted], mem := { Mem.reset with mstate := 1 } } }, by decide⟩
  · exact ⟨0, 1, { aJob .accepted with rcd := ([0x52, 0x42, 0x4F, 0x4A, 1] ++ List.replicate 11 0 ++ [1] ++ List.replicate 15 0 ++ [1] ++ List.replicate 7 0 ++ [1, 0, 0, 0, 0, 0, 1, 0]) }, _, [], [], { State.reset with dev := { Dev.reset with jobs := [{ aJob .accepted with rcd := ([0x52, 0x42, 0x4F, 0x4A, 1] ++ List.replicate 11 0 ++ [1] ++ List.replicate 15 0 ++ [1] ++ List.replicate 7 0 ++ [1, 0, 0, 0, 0, 0, 1, 0]) }], mem := { Mem.reset with parts := [(0, { Part.reset with valid := true, base := 0, size := 1 })] }, grants := [(0, { Grant.none with parts := 1, cores := 1, apps := 1 })] } }, by decide, by decide, by decide +kernel, by decide, rfl, rfl⟩
  · exact ⟨{ State.reset with dev := { Dev.reset with jobs := [aJob .waiting] } }, by decide⟩
  · exact ⟨{ State.reset with dev := { Dev.reset with aon0 := 25000, jobs := [aJob .waiting] } }, by decide⟩
  · exact ⟨{ State.reset with dev := { Dev.reset with aon0 := 250000000, jobs := [aJob .running] } }, by decide⟩
  · exact ⟨{ State.reset with dev := Dev.reset }, by decide⟩
  · exact ⟨{ State.reset with dev := { Dev.reset with jobs := [aJob .waiting] } }, by decide⟩
  · exact ⟨{ State.reset with dev := { Dev.reset with jobs := [aJob .running] } }, by decide⟩
  · exact ⟨{ State.reset with dev := { Dev.reset with jobs := [aJob .boundary] } }, by decide⟩
  · exact ⟨{ State.reset with dev := { Dev.reset with fns := [(63, { Fn.reset with cmplBase := 64 })] } }, by decide⟩
  · exact ⟨{ State.reset with dev := Dev.reset }, by decide⟩
  · exact ⟨{ State.reset with dev := Dev.reset }, by decide⟩
  · exact ⟨{ State.reset with dev := Dev.reset }, by decide⟩
  · exact ⟨{ State.reset with dev := Dev.reset }, by decide⟩
  · exact ⟨{ State.reset with dev := { Dev.reset with aon0 := 50, fns := [(2, { Fn.reset with modUs := 2, unannounced := [(15, (1, 0))] })] } }, by decide⟩
  · exact ⟨{ State.reset with dev := { Dev.reset with rst := { Rst.reset with pcie := 1 } } }, by decide⟩
  · exact ⟨{ State.reset with dev := { Dev.reset with rst := { Rst.reset with pcie := 1 } } }, by decide⟩
  · exact ⟨{ State.reset with dev := { Dev.reset with rst := { Rst.reset with pcie := 1 }, grants := [(0, { Grant.none with parts := 8 })], mem := { Mem.reset with parts := [(3, { Part.reset with valid := true, size := 1, rate := 1, tokens := 1000 })] } } }, by decide⟩
  · exact ⟨{ State.reset with dev := { Dev.reset with rst := { Rst.reset with pcie := 1 }, fns := [(0, { Fn.reset with bar2Log := 30 })], grants := [(0, { Grant.none with parts := 8 })], mem := { Mem.reset with parts := [(3, { Part.reset with valid := true, size := 1, rate := 1, tokens := 1000 })] } } }, by decide⟩

theorem witness_JobCommandsComplete :
    ((fun (f : FnId) (seq : BitVec 64) (j : Job) => Admits (fun (d : Dev) => d.jobOf f.val seq.toNat = some j ∧
            (d.programDone j = true ∨ j.phase = .ending ∧ ∀ g ∈ j.cores, (d.core g).seq.running = none))) 0 1
        (aJob .ending)) ∧
    ((fun (f : FnId) (seq : BitVec 64) (j : Job) => Admits (fun (d : Dev) => d.jobOf f.val seq.toNat = some j ∧
            j.phase = .boundary ∧ ∀ g ∈ j.cores, d.drained g = true)) 0 1 (aJob .boundary)) ∧
    ((fun (f : FnId) => Admits (fun (_ : Dev) => f ≠ 0)) 1) ∧
    ((fun (f : FnId) => Admits (fun (_ : Dev) => f = 0)) 0) ∧
    ((fun (k : KSet) => Admits (fun (d : Dev) => d.secureOpen ∧ k.sid.toNat ≤ 64)) ⟨64, 9⟩) ∧
    ((fun (f : FnId) => Admits (fun (d : Dev) => d.secureOpen ∧ f ≠ 0)) 1) ∧
    ((fun (f : FnId) (st : BitVec 8) => Admits (fun (d : Dev) => d.secureOpen ∧ f ≠ 0 ∧ (d.fn f.val).tdisp = 0 ∧
            d.outstanding f.val = 0)) 63 5) ∧
    ((fun (f : FnId) (st : BitVec 8) => Admits (fun (d : Dev) => d.secureOpen ∧ f ≠ 0 ∧
            ((d.fn f.val).tdisp ≠ 0 ∨ 0 < d.outstanding f.val))) 1 5) ∧
    ((fun (f : FnId) => Admits (fun (d : Dev) => d.secureOpen ∧ f ≠ 0 ∧ (d.fn f.val).tdisp = 1)) 1) ∧
    ((fun (f : FnId) => Admits (fun (d : Dev) => f ≠ 0 ∧ ((d.fn f.val).tdisp = 1 ∨ (d.fn f.val).tdisp = 2))) 1) ∧
    ((fun (f : FnId) => Admits (fun (d : Dev) => (d.fn f.val).stopping = true ∧ ∀ j ∈ d.jobs, ¬
            (j.fn = f.val ∧ j.cause = 1))) 1) := by
  refine ⟨?_, ?_, ?_, ?_, ?_, ?_, ?_, ?_, ?_, ?_, ?_⟩
  · exact ⟨{ State.reset with dev := { Dev.reset with jobs := [aJob .ending] } }, by decide⟩
  · exact ⟨{ State.reset with dev := { Dev.reset with jobs := [aJob .boundary] } }, by decide⟩
  · exact ⟨{ State.reset with dev := Dev.reset }, by decide⟩
  · exact ⟨{ State.reset with dev := Dev.reset }, by decide⟩
  · exact ⟨{ State.reset with dev := secureDev }, by decide⟩
  · exact ⟨{ State.reset with dev := secureDev }, by decide⟩
  · exact ⟨{ State.reset with dev := secureDev }, by decide⟩
  · exact ⟨{ State.reset with dev := { secureDev with fns := [(1, { Fn.reset with tdisp := 2 })] } }, by decide⟩
  · exact ⟨{ State.reset with dev := { secureDev with fns := [(1, { Fn.reset with tdisp := 1 })] } }, by decide⟩
  · exact ⟨{ State.reset with dev := { Dev.reset with fns := [(1, { Fn.reset with tdisp := 2 })] } }, by decide⟩
  · exact ⟨{ State.reset with dev := { Dev.reset with fns := [(1, { Fn.reset with stopping := true })] } }, by decide⟩

theorem witness_AppCoreCommandsComplete :
    ((fun (a : AppId) (code : BitVec 64) (j : Job) => Admits (fun (d : Dev) => d.calling a.val = some j ∧ code = 0)) 0
        0 (aJob .running)) ∧
    ((fun (a : AppId) (code : BitVec 64) (j : Job) => Admits
          (fun (d : Dev) => d.calling a.val = some j ∧ code.toNat ≠ 0)) 0 1 (aJob .running)) ∧
    ((fun (a : AppId) (t : BitVec 64) (j : Job) => Admits
          (fun (d : Dev) => d.calling a.val = some j ∧ t.toNat < j.tokenCount)) 0 0
        { aJob .running with rcd := List.replicate 46 0 ++ [1] }) ∧
    ((fun (a : AppId) (t : BitVec 64) (j : Job) => Admits
          (fun (d : Dev) => d.calling a.val = some j ∧ j.tokenCount ≤ t.toNat)) 0 0 (aJob .running)) ∧
    ((fun (a : AppId) (t th lim : BitVec 64) (j : Job) => Admits (fun (d : Dev) => d.calling a.val = some j ∧ t.toNat
            < j.tokenCount ∧ th.toNat ≤ j.token t.toNat)) 0 0 0 0
        { aJob .running with rcd := List.replicate 46 0 ++ [1] }) ∧
    ((fun (a : AppId) (t th lim : BitVec 64) (j : Job) => Admits (fun (d : Dev) => d.calling a.val = some j ∧ t.toNat
            < j.tokenCount ∧ j.token t.toNat < th.toNat)) 0 0 1 0
        { aJob .running with rcd := List.replicate 46 0 ++ [1] }) ∧
    ((fun (a : AppId) (w : AppWait) (j : Job) => Admits (fun (d : Dev) => (d.app a.val).wait = some w ∧
            (d.app a.val).job.bind d.job = some j ∧ w.threshold ≤ j.token w.token)) 0 ⟨0, 0, 5, 0⟩ (aJob .running)) ∧
    ((fun (a : AppId) (w : AppWait) (j : Job) => Admits (fun (d : Dev) => (d.app a.val).wait = some w ∧
            (d.app a.val).job.bind d.job = some j ∧ j.token w.token < w.threshold ∧ w.since + 25 * w.limit ≤ d.aon
            (dieOfApp a.val))) 0 ⟨0, 1, 2, 0⟩ (aJob .running)) ∧
    ((fun (a : AppId) (t : BitVec 64) (j : Job) => Admits
          (fun (d : Dev) => d.calling a.val = some j ∧ t.toNat < j.tokenCount)) 0 0
        { aJob .running with rcd := List.replicate 46 0 ++ [1] }) ∧
    (∃ (a : AppId) (die hdr members level : BitVec 64) (j : Job) (n : Nat), Admits (fun (d : Dev) => d.calling a.val =
          some j ∧ die.toNat < 2 ∧ (List.range 32).find? (fun n => decide ((d.group die.toNat n).state = 0) || decide
            ((d.group die.toNat n).state = 4)) = some n ∧ d.openErr die.toNat n j.fn hdr.toNat (members.toNat % 256) =
          0)) ∧
    ((fun (a : AppId) (die hdr members level : BitVec 64) (j : Job) => Admits
          (fun (d : Dev) => d.calling a.val = some j ∧ 2 ≤ die.toNat)) 0 2 0 0 0 (aJob .running)) ∧
    ((fun (a : AppId) (die n : BitVec 64) (j : Job) => Admits (fun (d : Dev) => d.calling a.val = some j ∧ d.opened j
            die.toNat n.toNat = true)) 0 1 31 (aJob .running)) ∧
    ((fun (a : AppId) (die n : BitVec 64) (j : Job) => Admits (fun (d : Dev) => d.calling a.val = some j ∧ d.opened j
            die.toNat n.toNat = true)) 0 1 31 (aJob .running)) ∧
    ((fun (a : AppId) (addr : BitVec 52) (j : Job) => Admits (fun (d : Dev) => d.calling a.val = some j ∧ d.guest j
            addr.toNat = false)) 0 0 (aJob .running)) ∧
    (∃ (a : AppId) (addr : BitVec 52) (j : Job), Admits (fun (d : Dev) => d.calling a.val = some j ∧ d.guest j
          addr.toNat = true ∧ isHbm addr.toNat = true)) ∧
    ((fun (a : AppId) (cause pc : BitVec 64) (j : Job) => Admits (fun (d : Dev) => d.calling a.val = some j)) 0 13
        0x1000 (aJob .running)) := by
  refine ⟨?_, ?_, ?_, ?_, ?_, ?_, ?_, ?_, ?_, ?_, ?_, ?_, ?_, ?_, ?_, ?_⟩
  · exact ⟨{ State.reset with dev := callDev }, by decide⟩
  · exact ⟨{ State.reset with dev := callDev }, by decide⟩
  · exact ⟨{ State.reset with dev := { callDev with jobs := [{ aJob .running with rcd := List.replicate 46 0 ++ [1] }] } }, by decide⟩
  · exact ⟨{ State.reset with dev := callDev }, by decide⟩
  · exact ⟨{ State.reset with dev := { callDev with jobs := [{ aJob .running with rcd := List.replicate 46 0 ++ [1] }] } }, by decide⟩
  · exact ⟨{ State.reset with dev := { callDev with jobs := [{ aJob .running with rcd := List.replicate 46 0 ++ [1] }] } }, by decide⟩
  · exact ⟨{ State.reset with dev := { callDev with apps := [(0, { AppCore.reset with job := some 0, wait := some ⟨0, 0, 5, 0⟩ })] } }, by decide⟩
  · exact ⟨{ State.reset with dev := { callDev with aon0 := 50, apps := [(0, { AppCore.reset with job := some 0, wait := some ⟨0, 1, 2, 0⟩ })] } }, by decide⟩
  · exact ⟨{ State.reset with dev := { callDev with jobs := [{ aJob .running with rcd := List.replicate 46 0 ++ [1] }] } }, by decide⟩
  · exact ⟨0, 0, 0, 1, 0, coreJob0, 0, { State.reset with dev := { Dev.reset with apps := [(0, { AppCore.reset with job := some 0 })], jobs := [coreJob0], mem := { Mem.reset with parts := [(0, { Part.reset with valid := true, base := 0, size := 1 })] }, grants := [(0, { Grant.none with parts := 1 })] } }, by decide⟩
  · exact ⟨{ State.reset with dev := callDev }, by decide⟩
  · exact ⟨{ State.reset with dev := { callDev with groups := [(63, { Group.reset with job := some 0 })] } }, by decide⟩
  · exact ⟨{ State.reset with dev := { callDev with groups := [(63, { Group.reset with job := some 0 })] } }, by decide⟩
  · exact ⟨{ State.reset with dev := callDev }, by decide⟩
  · exact ⟨0, 0, coreJob0, { State.reset with dev := { Dev.reset with apps := [(0, { AppCore.reset with job := some 0 })], jobs := [coreJob0], mem := { Mem.reset with parts := [(0, { Part.reset with valid := true, base := 0, size := 1 })] } } }, by decide⟩
  · exact ⟨{ State.reset with dev := callDev }, by decide⟩

theorem witness_AccessCommandsComplete :
    ((fun (b : List Byte) => Admits (fun (d : Dev) => d.hw.on = true ∧ b.length = 4)) [0, 16, 0, 0]) ∧
    ((fun (b : List Byte) => Admits (fun (d : Dev) => d.hw.on = true ∧ b.length = 12 ∧ (d.i3cOffset b).i3cReg.isSome =
            true)) [0, 16, 0, 0, 0, 0, 0, 0, 0, 0, 0, 0]) ∧
    (Admits (fun (d : Dev) => d.hw.on = true ∧ d.i3cReg.isSome = true)) ∧
    (Admits (fun (d : Dev) => d.hw.on = true ∧ d.i3cReg = none ∧ d.hw.i3cOff % 8 = 0 ∧ bmcReach d.hw.i3cOff = true)) ∧
    ((fun (a : Agent) (addr : BitVec 52) (b : RegWrite) (f : FnId) => Admits (fun (d : Dev) => d.hostOpen f.val
            b.stream ∧ a = .fn f ∧ (f = 0 ∨ vfReach f.val addr.toNat = true) ∧ notRegister addr.toNat = false))
        (.fn 0) (BitVec.ofNat 52 (regionBase 0)) ⟨[0], none⟩ 0) ∧
    ((fun (a : Agent) (addr : BitVec 52) (b : RegWrite) (k : AppId) (j : Job) => Admits (fun (d : Dev) => a = .app k ∧
            d.calling k.val = some j ∧ d.guest j addr.toNat = true ∧ notRegister addr.toNat = false)) (.app 0)
        (BitVec.ofNat 52 (regionBase 0 + 0x12400)) ⟨[0], none⟩ 0 (aJob .running)) ∧
    ((fun (a : Agent) (addr : BitVec 52) (b : RegWrite) => Admits
          (fun (_ : Dev) => a = .firmware ∧ notRegister addr.toNat = false)) .firmware
        (BitVec.ofNat 52 (regionBase 0)) ⟨[0], none⟩) ∧
    ((fun (a : Agent) (addr : BitVec 52) (b : RegWrite) (p : Nat × Nat) => Admits
          (fun (_ : Dev) => a = .bmc ∧ regPlace addr.toNat = some p ∧ bmcReach p.2 = true)) .bmc
        (BitVec.ofNat 52 (regionBase 0)) ⟨[0], none⟩ (0, 0)) ∧
    ((fun (q : CfgReq) => Admits (fun (d : Dev) => d.rst.pcie = 1 ∧ d.stepDone 7 = false ∧ d.rst.lodestar = false))
        (.read 0)) ∧
    ((fun (q : CfgReq) => Admits (fun (d : Dev) => d.rst.pcie = 1 ∧ (d.stepDone 7 = true ∨ d.rst.lodestar = true)))
        (.read 0)) := by
  refine ⟨?_, ?_, ?_, ?_, ?_, ?_, ?_, ?_, ?_, ?_⟩
  · exact ⟨{ State.reset with dev := Dev.reset }, by decide⟩
  · exact ⟨{ State.reset with dev := Dev.reset }, by decide⟩
  · exact ⟨{ State.reset with dev := { Dev.reset with hw := { Dev.reset.hw with i3cOff := 0x40 } } }, by decide⟩
  · exact ⟨{ State.reset with dev := { Dev.reset with hw := { Dev.reset.hw with i3cOff := 0 } } }, by decide⟩
  · exact ⟨{ State.reset with dev := { Dev.reset with rst := { Rst.reset with pcie := 1 } } }, by decide⟩
  · exact ⟨{ State.reset with dev := callDev }, by decide⟩
  · exact ⟨{ State.reset with dev := Dev.reset }, by decide⟩
  · exact ⟨{ State.reset with dev := Dev.reset }, by decide⟩
  · exact ⟨{ State.reset with dev := { Dev.reset with rst := { Rst.reset with pcie := 1 } } }, by decide⟩
  · exact ⟨{ State.reset with dev := { Dev.reset with rst := { Rst.reset with pcie := 1, steps := [7] } } }, by decide⟩

theorem witness_LinkCommandsComplete :
    ((fun (k : CartId) => Admits (fun (d : Dev) => (d.lane.cart k.val).state = 2)) 0) ∧
    ((fun (k : CartId) => Admits (fun (d : Dev) => (d.lane.cart k.val).state = 1 ∨ (d.lane.cart k.val).state = 2)) 0) ∧
    ((fun (k : CartId) => Admits (fun (d : Dev) => (d.lane.cart k.val).state = 2)) 0) ∧
    ((fun (k : CartId) => Admits (fun (d : Dev) => (d.lane.cart k.val).present = false)) 5) ∧
    ((fun (k : CartId) => Admits (fun (d : Dev) => (d.lane.cart k.val).state = 1)) 0) ∧
    ((fun (k : CartId) => Admits (fun (d : Dev) => (d.lane.cart k.val).state ≠ 2)) 0) ∧
    ((fun (k : CartId) => Admits (fun (d : Dev) => (d.lane.cart k.val).state = 2)) 0) ∧
    ((fun (l : LinkId) => Admits (fun (d : Dev) => (d.lane.link l.val).state = 1 ∧ (d.lane.opt (l.val / 8)).state = 1))
        0) ∧
    ((fun (l : LinkId) => Admits (fun (d : Dev) => (d.lane.link l.val).state = 2 ∨ (d.lane.link l.val).state = 3)) 0) ∧
    ((fun (l : LinkId) => Admits (fun (d : Dev) => (d.lane.link l.val).state = 4)) 0) ∧
    ((fun (l : LinkId) => Admits (fun (d : Dev) => 2 ≤ (d.lane.link l.val).state ∧ (d.lane.link l.val).state ≤ 5 ∧
            (d.lane.link l.val).since + trainLimit (d.lane.link l.val).state ≤ d.aon (dieOfLink l.val))) 0) ∧
    ((fun (l : LinkId) (id : BitVec 16) (far version : BitVec 8) => Admits
          (fun (d : Dev) => (d.lane.link l.val).state = 5 ∧ id.toNat ≠ d.lane.devId ∧ version.toNat = 1)) 0 1 95 1) ∧
    ((fun (l : LinkId) (id : BitVec 16) (far version : BitVec 8) => Admits
          (fun (d : Dev) => (d.lane.link l.val).state = 5 ∧ id.toNat = d.lane.devId)) 0 0 1 1) ∧
    ((fun (l : LinkId) (id : BitVec 16) (far version : BitVec 8) => Admits
          (fun (d : Dev) => (d.lane.link l.val).state = 5 ∧ id.toNat ≠ d.lane.devId ∧ version.toNat ≠ 1)) 0 1 1 2) ∧
    ((fun (l : LinkId) => Admits (fun (d : Dev) => (d.lane.link l.val).state = 6)) 0) ∧
    ((fun (l : LinkId) => Admits (fun (d : Dev) => d.pwr.state ≠ 2 ∧ d.pwr.state ≠ 3 ∧ (d.lane.link l.val).state = 7 ∧
            d.aon (dieOfLink l.val) ≤ (d.lane.link l.val).since + 750)) 0) ∧
    ((fun (l : LinkId) => Admits (fun (d : Dev) => (d.pwr.state = 2 ∨ d.pwr.state = 3) ∧ (d.lane.link l.val).state = 7
            ∧ d.aon (dieOfLink l.val) ≤ (d.lane.link l.val).since + 750)) 0) ∧
    ((fun (l : LinkId) => Admits (fun (d : Dev) => (d.lane.link l.val).state = 7 ∧ (d.lane.link l.val).since + 750 ≤
            d.aon (dieOfLink l.val))) 0) ∧
    ((fun (l : LinkId) => Admits (fun (d : Dev) => (d.lane.link l.val).state = 8 ∧ (d.lane.link l.val).since +
            25000000 * (if d.lane.retry = 0 then 1 else d.lane.retry) ≤ d.aon (dieOfLink l.val))) 0) ∧
    (∃ (l : LinkId) (flit fec : List Nat), Admits (fun (d : Dev) =>
          ((d.lane.link l.val).state = 6 ∨ (d.lane.link l.val).state = 9) ∧ rsDecode (flit ++ fec) = none)) ∧
    (∃ (l : LinkId) (flit fec data : List Nat) (fixed : Nat), Admits (fun (d : Dev) =>
          ((d.lane.link l.val).state = 6 ∨ (d.lane.link l.val).state = 9) ∧ rsDecode (flit ++ fec) = some
          (data, fixed) ∧ crc64 ((flitOf data).take 0x278) ≠ numAt (flitOf data) 0x278 8)) ∧
    (∃ (l : LinkId) (flit fec data : List Nat) (fixed : Nat), Admits (fun (d : Dev) =>
          ((d.lane.link l.val).state = 6 ∨ (d.lane.link l.val).state = 9) ∧ rsDecode (flit ++ fec) = some
          (data, fixed) ∧ crc64 ((flitOf data).take 0x278) = numAt (flitOf data) 0x278 8 ∧ numAt (flitOf data) 0 2 ≠
          (d.lane.link l.val).rxSeq)) ∧
    (∃ (l : LinkId) (flit fec data : List Nat) (fixed : Nat), Admits (fun (d : Dev) =>
          ((d.lane.link l.val).state = 6 ∨ (d.lane.link l.val).state = 9) ∧ rsDecode (flit ++ fec) = some
          (data, fixed) ∧ crc64 ((flitOf data).take 0x278) = numAt (flitOf data) 0x278 8 ∧ numAt (flitOf data) 0 2 =
          (d.lane.link l.val).rxSeq)) ∧
    ((fun (l : LinkId) (seq : BitVec 16) => Admits (fun (d : Dev) => (d.lane.link l.val).state = 6 ∨
            (d.lane.link l.val).state = 9)) 0 65535) ∧
    ((fun (l : LinkId) (a : Agent) => Admits (fun (d : Dev) => d.expert a = true ∧ (d.lane.link l.val).state = 6)) 0
        .bmc) ∧
    ((fun (l : LinkId) (a : Agent) => Admits (fun (d : Dev) => d.expert a = true ∧ (d.lane.link l.val).state ∈
            [1, 2, 3, 4, 5, 8])) 0 .bmc) := by
  refine ⟨?_, ?_, ?_, ?_, ?_, ?_, ?_, ?_, ?_, ?_, ?_, ?_, ?_, ?_, ?_, ?_, ?_, ?_, ?_, ?_, ?_, ?_, ?_, ?_, ?_, ?_⟩
  · exact ⟨{ State.reset with dev := { Dev.reset with lane := { Starlane.reset with carts := [(0, { Cart.reset with state := 2 })] } } }, by decide⟩
  · exact ⟨{ State.reset with dev := { Dev.reset with lane := { Starlane.reset with carts := [(0, { Cart.reset with state := 1 })] } } }, by decide⟩
  · exact ⟨{ State.reset with dev := { Dev.reset with lane := { Starlane.reset with carts := [(0, { Cart.reset with state := 2 })] } } }, by decide⟩
  · exact ⟨{ State.reset with dev := Dev.reset }, by decide⟩
  · exact ⟨{ State.reset with dev := { Dev.reset with lane := { Starlane.reset with carts := [(0, { Cart.reset with state := 1 })] } } }, by decide⟩
  · exact ⟨{ State.reset with dev := Dev.reset }, by decide⟩
  · exact ⟨{ State.reset with dev := { Dev.reset with lane := { Starlane.reset with carts := [(0, { Cart.reset with state := 2 })] } } }, by decide⟩
  · exact ⟨{ State.reset with dev := { Dev.reset with lane := { Starlane.reset with links := [(0, { Link.reset with state := 1 })], opts := [(0, { OptEng.reset with state := 1 })] } } }, by decide⟩
  · exact ⟨{ State.reset with dev := { Dev.reset with lane := { Starlane.reset with links := [(0, { Link.reset with state := 3 })] } } }, by decide⟩
  · exact ⟨{ State.reset with dev := { Dev.reset with lane := { Starlane.reset with links := [(0, { Link.reset with state := 4 })] } } }, by decide⟩
  · exact ⟨{ State.reset with dev := { Dev.reset with aon0 := 25000, lane := { Starlane.reset with links := [(0, { Link.reset with state := 5 })] } } }, by decide⟩
  · exact ⟨{ State.reset with dev := { Dev.reset with lane := { Starlane.reset with links := [(0, { Link.reset with state := 5 })] } } }, by decide⟩
  · exact ⟨{ State.reset with dev := { Dev.reset with lane := { Starlane.reset with links := [(0, { Link.reset with state := 5 })] } } }, by decide⟩
  · exact ⟨{ State.reset with dev := { Dev.reset with lane := { Starlane.reset with links := [(0, { Link.reset with state := 5 })] } } }, by decide⟩
  · exact ⟨{ State.reset with dev := { Dev.reset with lane := { Starlane.reset with links := [(0, { Link.reset with state := 6 })] } } }, by decide⟩
  · exact ⟨{ State.reset with dev := { Dev.reset with aon0 := 750, lane := { Starlane.reset with links := [(0, { Link.reset with state := 7 })] } } }, by decide⟩
  · exact ⟨{ State.reset with dev := { Dev.reset with pwr := { Pwr.reset with state := 2 }, aon0 := 750, lane := { Starlane.reset with links := [(0, { Link.reset with state := 7 })] } } }, by decide⟩
  · exact ⟨{ State.reset with dev := { Dev.reset with aon0 := 750, lane := { Starlane.reset with links := [(0, { Link.reset with state := 7 })] } } }, by decide⟩
  · exact ⟨{ State.reset with dev := { Dev.reset with aon0 := 25000000, lane := { Starlane.reset with links := [(0, { Link.reset with state := 8 })] } } }, by decide⟩
  · set_option maxRecDepth 100000 in exact ⟨0, [1], [], { State.reset with dev := { Dev.reset with lane := { Starlane.reset with links := [(0, { Link.reset with state := 6 })] } } }, by decide +kernel⟩
  · set_option maxRecDepth 100000 in exact ⟨0, List.replicate 513 0 ++ [1], [575, 552, 187, 230, 552, 1, 108, 565, 282, 249, 593, 132, 94, 720, 495, 385, 942, 503, 883, 361, 788, 610, 193, 392, 127, 185, 158, 128, 834, 523], List.replicate 513 0 ++ [1], 0, { State.reset with dev := { Dev.reset with lane := { Starlane.reset with links := [(0, { Link.reset with state := 6 })] } } }, by decide +kernel⟩
  · set_option maxRecDepth 100000 in exact ⟨0, List.replicate 514 0, List.replicate 30 0, List.replicate 514 0, 0, { State.reset with dev := { Dev.reset with lane := { Starlane.reset with links := [(0, { Link.reset with state := 6, rxSeq := 1 })] } } }, by decide +kernel⟩
  · set_option maxRecDepth 100000 in exact ⟨0, List.replicate 514 0, List.replicate 30 0, List.replicate 514 0, 0, { State.reset with dev := { Dev.reset with lane := { Starlane.reset with links := [(0, { Link.reset with state := 6 })] } } }, by decide +kernel⟩
  · exact ⟨{ State.reset with dev := { Dev.reset with lane := { Starlane.reset with links := [(0, { Link.reset with state := 6 })] } } }, by decide⟩
  · exact ⟨{ State.reset with dev := { Dev.reset with lane := { Starlane.reset with links := [(0, { Link.reset with state := 6 })] } } }, by decide⟩
  · exact ⟨{ State.reset with dev := { Dev.reset with lane := { Starlane.reset with links := [(0, { Link.reset with state := 8 })] } } }, by decide⟩

theorem witness_MemoryCommandsComplete :
    ((fun (h : ChanId) => Admits (fun (d : Dev) => (d.mem.chan h.val).smallQ = [])) 5) ∧
    ((fun (h : ChanId) (r : Nat × List (Nat × Waiter) × List (Nat × Waiter)) => Admits
          (fun (d : Dev) => smallPrefix 0 (d.mem.chan h.val).smallQ = r)) 3 (20, [(20, .flush)], [(20, .flush)])) ∧
    ((fun (n : ChanId) (t : Nat) (found : AtomState) => Admits (fun (d : Dev) =>
            ((d.mem.chan n.val).state = 2 ∨ (d.mem.chan n.val).state = 5) ∧ (d.mem.chan n.val).patrol = false)) 0 86
        .intact) ∧
    ((fun (n : ChanId) (t : Nat) (found : AtomState) => Admits (fun (d : Dev) =>
            ((d.mem.chan n.val).state = 2 ∨ (d.mem.chan n.val).state = 5) ∧ (d.mem.chan n.val).patrol = true)) 0 85
        .corrected) ∧
    ((fun (n : ChanId) (v : BitVec 64) (a : Agent) => Admits (fun (d : Dev) => bit v.toNat 2 = false ∧ d.expert a =
            true ∧ (d.mem.chan n.val).running = false ∧ (d.mem.chan n.val).state ≠ 5 ∧ fld v.toNat 4 4 ≤ 5 ∧ fld
            v.toNat 8 4 ≤ 2)) 127 0x250 .firmware) ∧
    ((fun (n : ChanId) (v : BitVec 64) (a : Agent) => Admits (fun (d : Dev) => bit v.toNat 2 = false ∧ d.expert a =
            false ∧ (d.mem.chan n.val).destruct = false ∧ (d.mem.chan n.val).running = false ∧
            (d.mem.chan n.val).state ≠ 5 ∧ fld v.toNat 4 4 ≤ 5 ∧ fld v.toNat 8 4 ≤ 2)) 127 0x250 (.fn 5)) ∧
    ((fun (h : ChanId) (w k : Nat) (e : TestErrors) => Admits (fun (d : Dev) => (d.mem.chan h.val).running = true)) 0
        0 0 ⟨1, some (true, 5, 3)⟩) ∧
    ((fun (h : ChanId) (errs : Nat) (first : Option (Bool × Nat × Nat)) => Admits
          (fun (d : Dev) => (d.mem.chan h.val).running = true ∧ (d.mem.chan h.val).passes ≠ 0)) 0 0 none) ∧
    ((fun (a : Agent) => Admits (fun (d : Dev) => d.expert a = true ∧ d.jobs = [])) .bmc) ∧
    ((fun (a : Agent) => Admits (fun (d : Dev) => d.expert a = true ∧ d.jobs ≠ [])) .bmc) ∧
    ((fun (a : Agent) => Admits (fun (d : Dev) => d.expert a = true)) .bmc) ∧
    (Admits (fun (d : Dev) => d.mem.mstate = 3)) := by
  refine ⟨?_, ?_, ?_, ?_, ?_, ?_, ?_, ?_, ?_, ?_, ?_, ?_⟩
  · exact ⟨{ State.reset with dev := Dev.reset }, by decide⟩
  · exact ⟨{ State.reset with dev := { Dev.reset with mem := { Mem.reset with chans := [(3, { Chan.reset with smallQ := [(20, .flush), (20, .flush)] })] } } }, by decide⟩
  · exact ⟨{ State.reset with dev := { Dev.reset with mem := { Mem.reset with chans := [(0, { Chan.reset with state := 2, patrol := false })] } } }, by decide⟩
  · exact ⟨{ State.reset with dev := { Dev.reset with mem := { Mem.reset with chans := [(0, { Chan.reset with state := 2 })] } } }, by decide⟩
  · exact ⟨{ State.reset with dev := Dev.reset }, by decide⟩
  · exact ⟨{ State.reset with dev := Dev.reset }, by decide⟩
  · exact ⟨{ State.reset with dev := { Dev.reset with mem := { Mem.reset with chans := [(0, { Chan.reset with running := true })] } } }, by decide⟩
  · exact ⟨{ State.reset with dev := { Dev.reset with mem := { Mem.reset with chans := [(0, { Chan.reset with running := true, passes := 1 })] } } }, by decide⟩
  · exact ⟨{ State.reset with dev := Dev.reset }, by decide⟩
  · exact ⟨{ State.reset with dev := { Dev.reset with jobs := [aJob .waiting] } }, by decide⟩
  · exact ⟨{ State.reset with dev := Dev.reset }, by decide⟩
  · exact ⟨{ State.reset with dev := { Dev.reset with mem := { Mem.reset with mstate := 3 } } }, by decide⟩

theorem witness_WriteBufferAndRegulatorCommandsComplete :
    ((fun (p : PartId) (job : Option Nat) (addr : BitVec 52) (data : List Byte) => Admits
          (fun (_ : Dev) => isHbm addr.toNat = true ∧ 0 < data.length ∧ addr.toNat % 256 + data.length ≤ 256)) 0 none
        255 [1]) ∧
    ((fun (p : PartId) (job : Option Nat) (addr : BitVec 52) (data : List Byte) => Admits
          (fun (d : Dev) => isHbm addr.toNat = true ∧ 0 < data.length ∧ addr.toNat % 256 + data.length ≤ 256 ∧
            data.length < 256 ∧ (d.mem.wcbOf (hbmDie addr.toNat)).entries.find?
            (fun (e : WcbEntry) => decide (e.granule = addr.toNat / 256 * 256)) = none ∧
            (d.mem.wcbOf (hbmDie addr.toNat)).entries.length < 1024)) 63 (some 3) 0x101 [1, 2]) ∧
    ((fun (p : PartId) (job : Option Nat) (addr : BitVec 52) (data : List Byte) (e : WcbEntry) => Admits
          (fun (d : Dev) => isHbm addr.toNat = true ∧ 0 < data.length ∧ addr.toNat % 256 + data.length ≤ 256 ∧
            (d.mem.wcbOf (hbmDie addr.toNat)).entries.find?
            (fun (e : WcbEntry) => decide (e.granule = addr.toNat / 256 * 256)) = some e ∧
            (wcbMerge e.data (addr.toNat % 256) data).length ≠ 256)) 0 none 255 [1] ⟨0, [], 0, none, 0⟩) ∧
    ((fun (die : DieId) (e : WcbEntry) (t : List WcbEntry) => Admits (fun (d : Dev) => (d.mem.wcbOf die.val).entries =
            e :: t ∧ e.since + 50 ≤ d.aon die.val)) 0 ⟨0, [], 0, none, 0⟩ []) ∧
    ((fun (die : DieId) (a : Agent) => Admits (fun (d : Dev) => d.expert a = true)) 1 .bmc) ∧
    ((fun (p : PartId) => Admits (fun (d : Dev) => (d.mem.part p.val).newRate = none)) 63) ∧
    ((fun (p : PartId) (r b : Nat) (mo : Bool) => Admits
          (fun (d : Dev) => (d.mem.part p.val).newRate = some (r, b, mo))) 0 5 1 true) ∧
    ((fun (p : PartId) (bytes : Nat) (w : Waiter) (t : List (Nat × Waiter)) => Admits
          (fun (d : Dev) => (d.mem.part p.val).waiting = (bytes, w) :: t ∧ d.mem.mayIssue p.val = true)) 0 64 .flush
        []) ∧
    ((fun (p : PartId) (bytes g e x : Nat) (t : List (Nat × Waiter)) => Admits (fun (d : Dev) =>
            (d.mem.part p.val).waiting = (bytes, .xfer g e x) :: t ∧ d.mem.mayIssue p.val = true ∧ d.mem.holds =
            [.xfer g e x] ∧ d.mem.hostQ = [])) 0 64 1 2 3 []) ∧
    ((fun (p : PartId) (v : BitVec 64) (a : Agent) => Admits (fun (d : Dev) => d.expert a = true)) 63 5 .bmc) := by
  refine ⟨?_, ?_, ?_, ?_, ?_, ?_, ?_, ?_, ?_, ?_⟩
  · exact ⟨{ State.reset with dev := Dev.reset }, by decide⟩
  · exact ⟨{ State.reset with dev := Dev.reset }, by decide⟩
  · exact ⟨{ State.reset with dev := { Dev.reset with mem := { Mem.reset with wcb := [(0, { Wcb.reset with entries := [⟨0, [], 0, none, 0⟩] })] } } }, by decide⟩
  · exact ⟨{ State.reset with dev := { Dev.reset with aon0 := 50, mem := { Mem.reset with wcb := [(0, { Wcb.reset with entries := [⟨0, [], 0, none, 0⟩] })] } } }, by decide⟩
  · exact ⟨{ State.reset with dev := Dev.reset }, by decide⟩
  · exact ⟨{ State.reset with dev := Dev.reset }, by decide⟩
  · exact ⟨{ State.reset with dev := { Dev.reset with mem := { Mem.reset with parts := [(0, { Part.reset with newRate := some (5, 1, true) })] } } }, by decide⟩
  · exact ⟨{ State.reset with dev := { Dev.reset with mem := { Mem.reset with parts := [(0, { Part.reset with waiting := [(64, .flush)] })] } } }, by decide⟩
  · exact ⟨{ State.reset with dev := { Dev.reset with mem := { Mem.reset with parts := [(0, { Part.reset with waiting := [(64, .xfer 1 2 3)] })], holds := [.xfer 1 2 3] } } }, by decide⟩
  · exact ⟨{ State.reset with dev := Dev.reset }, by decide⟩

theorem witness_FabricCommandsComplete :
    ((fun (die : DieId) (i : Fin 39) (ok : Bool) => Admits (fun (_ : Dev) => i.val < 38 ∧ ok = true)) 0 37 true) ∧
    ((fun (die : DieId) (i : Fin 39) (ok : Bool) => Admits (fun (_ : Dev) => i = 38 ∧ ok = true)) 1 38 true) ∧
    ((fun (die : DieId) (i : Fin 39) (ok : Bool) => Admits (fun (d : Dev) => i.val < 38 ∧ ok = false ∧
            (Tab.get NocLink.reset (d.mem.fab die.val).links i.val).run < 15)) 0 37 false) ∧
    ((fun (die : DieId) (i : Fin 39) (ok : Bool) => Admits (fun (d : Dev) => i.val < 38 ∧ ok = false ∧
            (Tab.get NocLink.reset (d.mem.fab die.val).links i.val).run = 15 ∧
            (Tab.get NocLink.reset (d.mem.fab die.val).links i.val).spare = false)) 0 37 false) ∧
    ((fun (die : DieId) (i : Fin 39) (ok : Bool) => Admits (fun (d : Dev) => i.val < 38 ∧ ok = false ∧
            (Tab.get NocLink.reset (d.mem.fab die.val).links i.val).run = 15 ∧
            (Tab.get NocLink.reset (d.mem.fab die.val).links i.val).spare = true)) 0 0 false) ∧
    ((fun (die : DieId) (i : Fin 39) (ok : Bool) => Admits (fun (d : Dev) => i = 38 ∧ ok = false ∧
            (d.mem.fab die.val).d2dRun = 15 ∧ (d.mem.fab die.val).d2dSpare = false)) 0 38 false) ∧
    ((fun (die : DieId) (i : Fin 39) (ok : Bool) => Admits (fun (d : Dev) => i = 38 ∧ ok = false ∧
            (d.mem.fab die.val).d2dRun = 15 ∧ (d.mem.fab die.val).d2dSpare = true)) 0 38 false) ∧
    ((fun (die : DieId) (i : Fin 39) => Admits (fun (d : Dev) => i.val < 38 ∧
            (Tab.get NocLink.reset (d.mem.fab die.val).links i.val).bad = true)) 0 37) ∧
    ((fun (die : DieId) (i : Fin 39) => Admits (fun (d : Dev) => i.val = 38 ∧ (d.mem.fab die.val).d2dBad = true)) 0 38) ∧
    ((fun (a : Agent) => Admits (fun (d : Dev) => d.expert a = true)) .bmc) := by
  refine ⟨?_, ?_, ?_, ?_, ?_, ?_, ?_, ?_, ?_, ?_⟩
  · exact ⟨{ State.reset with dev := Dev.reset }, by decide⟩
  · exact ⟨{ State.reset with dev := Dev.reset }, by decide⟩
  · exact ⟨{ State.reset with dev := Dev.reset }, by decide⟩
  · exact ⟨{ State.reset with dev := { Dev.reset with mem := { Mem.reset with fabric := [(0, { Fabric.reset with links := [(37, { NocLink.reset with run := 15 })] })] } } }, by decide⟩
  · exact ⟨{ State.reset with dev := { Dev.reset with mem := { Mem.reset with fabric := [(0, { Fabric.reset with links := [(0, { NocLink.reset with run := 15, spare := true })] })] } } }, by decide⟩
  · exact ⟨{ State.reset with dev := { Dev.reset with mem := { Mem.reset with fabric := [(0, { Fabric.reset with d2dRun := 15 })] } } }, by decide⟩
  · exact ⟨{ State.reset with dev := { Dev.reset with mem := { Mem.reset with fabric := [(0, { Fabric.reset with d2dRun := 15, d2dSpare := true })] } } }, by decide⟩
  · exact ⟨{ State.reset with dev := { Dev.reset with mem := { Mem.reset with fabric := [(0, { Fabric.reset with links := [(37, { NocLink.reset with bad := true })] })] } } }, by decide⟩
  · exact ⟨{ State.reset with dev := { Dev.reset with mem := { Mem.reset with fabric := [(0, { Fabric.reset with d2dBad := true })] } } }, by decide⟩
  · exact ⟨{ State.reset with dev := Dev.reset }, by decide⟩

theorem witness_ResilienceCommandsComplete :
    ((fun (i : ClusterId) (p : Fin 9) (ev : Nat) (k : Nat) => Admits (fun (d : Dev) => d.physFailed i.val p.val =
            false ∧ (d.markFailed i.val p.val true).logicalOf i.val p.val = some k ∧
            ((d.markFailed i.val p.val true).core (8 * i.val + k)).job = none)) 0 3 1 3) ∧
    ((fun (i : ClusterId) (p : Fin 9) (ev : Nat) => Admits (fun (d : Dev) => d.physFailed i.val p.val = false ∧
            (d.markFailed i.val p.val true).logicalOf i.val p.val = none)) 15 8 1) ∧
    ((fun (i : ClusterId) (g p : Nat) => Admits (fun (d : Dev) => d.pdd.waiting.find?
            (fun g => decide (g / 8 = i.val) && (d.core g).job.isNone) = some g ∧
            (d.updPdd fun x => { x with waiting := x.waiting.filter fun y => y ≠ g }).spareOf i.val = some p)) 0 3 8) ∧
    ((fun (die : DieId) (v : BitVec 64) (a : Agent) => Admits (fun (d : Dev) => d.expert a = true ∧ bit v.toNat 8 =
            true ∧ (d.selfTest die.val).state = 0 ∧ fld v.toNat 0 4 ≤ 8 ∧ d.physFailed (8 * die.val + fld v.toNat 4 3)
            (fld v.toNat 0 4) = false)) 1 0x178 .bmc) ∧
    (∃ (die : DieId), Admits (fun (d : Dev) => (d.selfTest die.val).state = 1 ∧ ∀ g, d.testedCore die.val = some g →
          (d.core g).job = none)) ∧
    ((fun (die : DieId) (pass : Bool) => Admits (fun (d : Dev) => pass = true ∧ (d.selfTest die.val).state = 2 ∧
            (d.selfTest die.val).again = false)) 0 true) ∧
    ((fun (die : DieId) (pass : Bool) => Admits (fun (d : Dev) => pass = false ∧ (d.selfTest die.val).state = 2)) 0
        false) ∧
    ((fun (l : LinkId) (feed : BitVec 8) (answer : Option Bool) => Admits (fun (d : Dev) => answer = none ∧
            (d.lane.link l.val).state = 6 ∧ (d.lane.link l.val).farId = d.pdd.holder ∧ d.pdd.pair = 1 ∧ feed.toNat =
            d.pdd.feed ∧ d.pdd.override' = false)) 0 7 none) ∧
    ((fun (l : LinkId) (feed : BitVec 8) (answer : Option Bool) => Admits (fun (d : Dev) => answer = none ∧
            (d.lane.link l.val).state = 6 ∧ (d.lane.link l.val).farId = d.pdd.holder ∧ d.pdd.pair = 1 ∧
            (feed.toNat ≠ d.pdd.feed ∨ d.pdd.override' = true))) 0 7 none) ∧
    ((fun (l : LinkId) (feed : BitVec 8) (answer : Option Bool) (ok : Bool) (i : Nat) => Admits
          (fun (d : Dev) => answer = some ok ∧ (d.lane.link l.val).state = 6 ∧ d.slotOf (d.lane.link l.val).farId =
            some i)) 0 0 (some true) true 3) ∧
    ((fun (a : Agent) (rcd : List Byte) (l : Nat) (t : List Nat) => Admits
          (fun (d : Dev) => d.lane.upLinks d.pdd.holder = l :: t)) .bmc [] 0 []) ∧
    ((fun (l : LinkId) (rcd : List Byte) => Admits (fun (d : Dev) => (d.lane.link l.val).state = 6 ∧ d.slotOf
            (d.lane.link l.val).farId = none)) 0 []) ∧
    ((fun (l : LinkId) (rcd : List Byte) (i : Nat) => Admits (fun (d : Dev) => (d.lane.link l.val).state = 6 ∧
            d.slotOf (d.lane.link l.val).farId = some i ∧ (d.mslot i).state ≠ 5 ∧ (d.mslot i).state ≠ 6 ∧
            (d.mslot i).paired = true ∧ (d.mslot i).curStep = none ∧ d.tapsOf i = [])) 0 [] 3) ∧
    ((fun (l : LinkId) (code : BitVec 16) (detail : BitVec 64) (m : Bool) (q : PddReq) (t : List PddReq) => Admits
          (fun (d : Dev) => (d.lane.link l.val).farId = d.pdd.holder ∧ (d.lane.link l.val).state = 6 ∧ d.pdd.commits =
            q :: t ∧ code = 0)) 0 0 0 true ⟨0, none, []⟩ []) ∧
    ((fun (l : LinkId) (code : BitVec 16) (detail : BitVec 64) (m : Bool) (q : PddReq) (t : List PddReq) => Admits
          (fun (d : Dev) => (d.lane.link l.val).farId = d.pdd.holder ∧ (d.lane.link l.val).state = 6 ∧ d.pdd.commits =
            q :: t ∧ code.toNat ≠ 0)) 0 0x0806 1 true ⟨0, none, []⟩ []) ∧
    (∃ (q : PddReq) (t : List PddReq), Admits (fun (d : Dev) => d.pdd.digests = q :: t ∧ d.digestWaits q = false ∧
          numAt q.rcd 8 8 ≠ 0 ∧ (d.updPdd fun x => { x with digests := t }).mem.partFor
          ((d.updPdd fun x => { x with digests := t }).reqParts q) (numAt q.rcd 0 8) (16 * min 256 (numAt q.rcd 8 8))
          = none)) ∧
    (∃ (q : PddReq) (t : List PddReq) (e e' : Dev) (b bytes : List Byte) (p : Nat), Admits
        (fun (d : Dev) => d.pdd.digests = q :: t ∧ d.digestWaits q = false ∧ numAt q.rcd 8 8 ≠ 0 ∧
          (∃ p, (d.updPdd fun x => { x with digests := t }).mem.partFor
            ((d.updPdd fun x => { x with digests := t }).reqParts q) (numAt q.rcd 0 8)
            (16 * min 256 (numAt q.rcd 8 8)) = some p) ∧ (d.updPdd fun x => { x with digests := t }).hbmRead
          (numAt q.rcd 0 8) (16 * min 256 (numAt q.rcd 8 8)) = (e, .ok b) ∧ e.digestRanges q
          ((List.range (min 256 (numAt q.rcd 8 8))).map fun i => (numAt b (16 * i) 8, numAt b (16 * i + 8) 8)) =
          (e', .ok bytes) ∧ e'.mem.partFor (e'.reqParts q) (numAt q.rcd 0x10 8) 40 = some p)) ∧
    ((fun (w : Nat) (t : Nat) => Admits (fun (d : Dev) => w = 4 ∧ d.pdd.lostAon = some t ∧ t + 2500 *
            (if d.pdd.lostWait = 0 then 10 else d.pdd.lostWait) ≤ d.aon0 ∧ d.pdd.pair ≠ 5)) 4 0) := by
  refine ⟨?_, ?_, ?_, ?_, ?_, ?_, ?_, ?_, ?_, ?_, ?_, ?_, ?_, ?_, ?_, ?_, ?_, ?_⟩
  · exact ⟨{ State.reset with dev := Dev.reset }, by decide⟩
  · exact ⟨{ State.reset with dev := Dev.reset }, by decide⟩
  · exact ⟨{ State.reset with dev := { Dev.reset with pdd := { Pdd.reset with waiting := [3], failed := [(0, 8)] } } }, by decide⟩
  · exact ⟨{ State.reset with dev := Dev.reset }, by decide⟩
  · exact ⟨0, { State.reset with dev := { Dev.reset with pdd := { Pdd.reset with tests := [(0, { SelfTest.reset with state := 1 })] } } }, by decide, fun g _ => rfl⟩
  · exact ⟨{ State.reset with dev := { Dev.reset with pdd := { Pdd.reset with tests := [(0, { SelfTest.reset with state := 2 })] } } }, by decide⟩
  · exact ⟨{ State.reset with dev := { Dev.reset with pdd := { Pdd.reset with tests := [(0, { SelfTest.reset with state := 2 })] } } }, by decide⟩
  · exact ⟨{ State.reset with dev := { Dev.reset with lane := { Starlane.reset with links := [(0, { Link.reset with state := 6, farId := 9 })] }, pdd := { Pdd.reset with holder := 9, pair := 1, feed := 7 } } }, by decide⟩
  · exact ⟨{ State.reset with dev := { Dev.reset with lane := { Starlane.reset with links := [(0, { Link.reset with state := 6, farId := 9 })] }, pdd := { Pdd.reset with holder := 9, pair := 1, feed := 8 } } }, by decide⟩
  · exact ⟨{ State.reset with dev := { Dev.reset with lane := { Starlane.reset with links := [(0, { Link.reset with state := 6, farId := 9 })] }, pdd := { Pdd.reset with slots := [(3, { MSlot.reset with source := 9, state := 5 })] } } }, by decide⟩
  · exact ⟨{ State.reset with dev := { Dev.reset with lane := { Starlane.reset with links := [(0, { Link.reset with state := 6, farId := 9 })] }, pdd := { Pdd.reset with holder := 9 } } }, by decide⟩
  · exact ⟨{ State.reset with dev := { Dev.reset with lane := { Starlane.reset with links := [(0, { Link.reset with state := 6 })] } } }, by decide⟩
  · exact ⟨{ State.reset with dev := { Dev.reset with lane := { Starlane.reset with links := [(0, { Link.reset with state := 6, farId := 9 })] }, pdd := { Pdd.reset with slots := [(3, { MSlot.reset with source := 9, state := 2, paired := true })] } } }, by decide⟩
  · exact ⟨{ State.reset with dev := { Dev.reset with lane := { Starlane.reset with links := [(0, { Link.reset with state := 6, farId := 9 })] }, pdd := { Pdd.reset with holder := 9, commits := [⟨0, none, []⟩] } } }, by decide⟩
  · exact ⟨{ State.reset with dev := { Dev.reset with lane := { Starlane.reset with links := [(0, { Link.reset with state := 6, farId := 9 })] }, pdd := { Pdd.reset with holder := 9, commits := [⟨0, none, []⟩] } } }, by decide⟩
  · exact ⟨⟨0, none, List.replicate 8 0 ++ [1]⟩, [], { State.reset with dev := { Dev.reset with pdd := { Pdd.reset with digests := [⟨0, none, List.replicate 8 0 ++ [1]⟩] } } }, rfl, by decide, by decide, rfl⟩
  · exact ⟨⟨0, none, List.replicate 8 0 ++ [1]⟩, [], _, _, _, _, 0, { State.reset with dev := { Dev.reset with mem := { Mem.reset with parts := [(0, { Part.reset with valid := true, base := 0, size := 1 })] }, grants := [(0, { Grant.none with parts := 1 })], pdd := { Pdd.reset with digests := [⟨0, none, List.replicate 8 0 ++ [1]⟩] } } }, rfl, by decide, by decide, ⟨0, rfl⟩, hbmRead_ok (by decide), rfl, rfl⟩
  · exact ⟨{ State.reset with dev := { Dev.reset with pdd := { Pdd.reset with lostAon := some 0 }, aon0 := 25000 } }, by decide⟩

theorem witness_PeerCommandsComplete :
    ((fun (id : BitVec 16) => Admits (fun (_ : Dev) => 0x3FFF < id.toNat)) 0x4000) ∧
    ((fun (id : BitVec 16) (i : Nat) (p : Peer) => Admits (fun (d : Dev) => id.toNat ≤ 0x3FFF ∧ d.lane.peerOf id.toNat
            = some (i, p))) 9 0 ⟨9, 2, 0, 0⟩) ∧
    ((fun (id : BitVec 16) (i : Nat) => Admits (fun (d : Dev) => id.toNat ≤ 0x3FFF ∧ d.lane.peerOf id.toNat = none ∧ i
            < 4096 ∧ (∀ p ∈ d.lane.peers, p.1 = i → p.2.state = 0) ∧ ∀ k < i, ∃ p ∈ d.lane.peers, p.1 = k ∧ p.2.state
            ≠ 0)) 0x3FFF 0) ∧
    ((fun (id : BitVec 16) (i : Nat) (p : Peer) => Admits (fun (d : Dev) => d.lane.peerOf id.toNat = some (i, p))) 9 0
        ⟨9, 2, 0, 0⟩) ∧
    ((fun (id : BitVec 16) => Admits (fun (d : Dev) => id.toNat ≤ 0x3FFF ∧ d.lane.peerOf id.toNat = none)) 8) ∧
    ((fun (id : BitVec 16) (ow : BitVec 64) (i : Nat) (p : Peer) => Admits
          (fun (d : Dev) => d.lane.peerOf id.toNat = some (i, p))) 9 3 0 ⟨9, 2, 0, 0⟩) ∧
    ((fun (id : BitVec 16) (i : Nat) (p : Peer) => Admits (fun (d : Dev) => d.lane.peerOf id.toNat = some (i, p) ∧
            p.state = 4 ∧ d.sendingTo id.toNat = false ∧ d.lane.upLinks id.toNat = [])) 9 0 ⟨9, 4, 0, 0⟩) ∧
    ((fun (id : BitVec 16) (i : Nat) (p : Peer) (l : Nat) (t : List Nat) => Admits (fun (d : Dev) => d.lane.peerOf
            id.toNat = some (i, p) ∧ p.state = 4 ∧ d.sendingTo id.toNat = false ∧ d.lane.upLinks id.toNat = l :: t)) 9
        0 ⟨9, 4, 0, 0⟩ 95 []) ∧
    ((fun (l : LinkId) (i : Nat) (p : Peer) => Admits (fun (d : Dev) => d.lane.peerOf (d.lane.link l.val).farId = some
            (i, p) ∧ 1 ≤ p.state ∧ p.state ≤ 3)) 0 0 ⟨9, 3, 0, 0⟩) ∧
    ((fun (l : LinkId) => Admits (fun (d : Dev) => d.lane.peerOf (d.lane.link l.val).farId = none)) 0) ∧
    ((fun (l : LinkId) (i : Nat) (p : Peer) => Admits (fun (d : Dev) => (d.lane.link l.val).state = 6 ∧ d.lane.peerOf
            (d.lane.link l.val).farId = some (i, p) ∧ (p.state = 1 ∨ p.state = 5))) 0 0 ⟨9, 5, 0, 0⟩) ∧
    ((fun (l : LinkId) (i : Nat) (p : Peer) => Admits (fun (d : Dev) => d.lane.peerOf (d.lane.link l.val).farId = some
            (i, p) ∧ p.state ≠ 4)) 0 0 ⟨9, 1, 0, 0⟩) ∧
    ((fun (id : BitVec 16) (i : Nat) (p : Peer) => Admits (fun (d : Dev) => d.lane.peerOf id.toNat = some (i, p) ∧
            p.state = 5 ∧ p.since + 25000 ≤ d.aon0)) 9 0 ⟨9, 5, 0, 0⟩) := by
  refine ⟨?_, ?_, ?_, ?_, ?_, ?_, ?_, ?_, ?_, ?_, ?_, ?_, ?_⟩
  · exact ⟨{ State.reset with dev := Dev.reset }, by decide⟩
  · exact ⟨{ State.reset with dev := { Dev.reset with lane := { Starlane.reset with peers := [(0, { id := 9, state := 2, owners := 0, since := 0 })] } } }, by decide⟩
  · exact ⟨{ State.reset with dev := Dev.reset }, by decide⟩
  · exact ⟨{ State.reset with dev := { Dev.reset with lane := { Starlane.reset with peers := [(0, { id := 9, state := 2, owners := 0, since := 0 })] } } }, by decide⟩
  · exact ⟨{ State.reset with dev := Dev.reset }, by decide⟩
  · exact ⟨{ State.reset with dev := { Dev.reset with lane := { Starlane.reset with peers := [(0, { id := 9, state := 2, owners := 0, since := 0 })] } } }, by decide⟩
  · exact ⟨{ State.reset with dev := { Dev.reset with lane := { Starlane.reset with peers := [(0, { id := 9, state := 4, owners := 0, since := 0 })] } } }, by decide⟩
  · exact ⟨{ State.reset with dev := { Dev.reset with lane := { Starlane.reset with peers := [(0, { id := 9, state := 4, owners := 0, since := 0 })], links := [(95, { Link.reset with state := 6, farId := 9 })] } } }, by decide⟩
  · exact ⟨{ State.reset with dev := { Dev.reset with lane := { Starlane.reset with peers := [(0, { id := 9, state := 3, owners := 0, since := 0 })], links := [(0, { Link.reset with farId := 9 })] } } }, by decide⟩
  · exact ⟨{ State.reset with dev := Dev.reset }, by decide⟩
  · exact ⟨{ State.reset with dev := { Dev.reset with lane := { Starlane.reset with peers := [(0, { id := 9, state := 5, owners := 0, since := 0 })], links := [(0, { Link.reset with state := 6, farId := 9 })] } } }, by decide⟩
  · exact ⟨{ State.reset with dev := { Dev.reset with lane := { Starlane.reset with peers := [(0, { id := 9, state := 1, owners := 0, since := 0 })], links := [(0, { Link.reset with state := 6, farId := 9 })] } } }, by decide⟩
  · exact ⟨{ State.reset with dev := { Dev.reset with aon0 := 25000, lane := { Starlane.reset with peers := [(0, { id := 9, state := 5, owners := 0, since := 0 })] } } }, by decide⟩

theorem witness_LinkStreamCommandsComplete :
    ((fun (g : CoreId) (e : EngId) => Admits (fun (d : Dev) => Tab.get false d.pwr.relock (g.val / 8) = false ∧
            ((d.core g.val).nextInstr e.val 10) = none ∧
            (((d.core g.val).eng e.val).xfer ((d.core g.val).eng e.val).nextId) = none)) 0 0) ∧
    (∃ (g : CoreId) (e : EngId) (t : Transfer), Admits (fun (d : Dev) => Tab.get false d.pwr.relock (g.val / 8) =
          false ∧ (((d.issueTransfer g.val e.val 10 fun d t => d.lsendFault g.val e.val t).core g.val).eng e.val).xfer
          ((d.core g.val).eng e.val).nextId = some t)) ∧
    (∃ (g : CoreId) (e : EngId) (n : Nat) (t : Transfer), Admits (fun (d : Dev) => Tab.get false d.pwr.relock
          (g.val / 8) = false ∧ ((d.core g.val).eng e.val).xfer n = some t ∧ t.opc ≠ 10)) ∧
    (∃ (g : CoreId) (e : EngId) (n : Nat) (t : Transfer), Admits (fun (d : Dev) => Tab.get false d.pwr.relock
          (g.val / 8) = false ∧ ((d.core g.val).eng e.val).xfer n = some t ∧ t.opc = 10 ∧
          ((d.core g.val).eng e.val).draining = false)) ∧
    (∃ (g : CoreId) (r : RingId) (up : List Upset) (q : Ring) (e : Nat) (t : Transfer), Admits
        (fun (d : Dev) => Tab.get false d.pwr.relock (g.val / 8) = false ∧
          ((d.updCore g.val fun x => (x.strike up).release).core g.val).ring? r.val = some q ∧
          ((d.updCore g.val fun x => (x.strike up).release).core g.val).ringXfer r.val = some (e, t) ∧ q.typ = 1 ∧
          q.state q.drain = .ready ∧ t.drained < t.requested ∧ t.opc ≠ 10)) ∧
    ((fun (l : LinkId) (rm : RxMsg) (why : Nat) => Admits (fun (d : Dev) => d.lane.arrived l.val = some rm ∧
            (rm.msg.kind = 1 ∨ rm.msg.kind = 3) ∧ d.pwr.state = 0 ∧ ((d.handled l.val rm).updCore
              (fld rm.msg.target 4 7) Core.release).refusal l.val (fld rm.msg.target 4 7) (rm.msg.target % 16) rm.msg
            = some why)) 0 ⟨⟨1, 0, 0, 0, 0, []⟩, 1⟩ 1) ∧
    (∃ (l : LinkId) (rm : RxMsg) (q : Ring), Admits (fun (d : Dev) => d.lane.arrived l.val = some rm ∧ rm.msg.kind = 1
          ∧ d.pwr.state = 0 ∧ ((d.handled l.val rm).updCore (fld rm.msg.target 4 7) Core.release).refusal l.val
          (fld rm.msg.target 4 7) (rm.msg.target % 16) rm.msg = none ∧ (
            ((d.handled l.val rm).updCore (fld rm.msg.target 4 7) Core.release).core (fld rm.msg.target 4 7)).ring?
          (rm.msg.target % 16) = some q ∧ (rm.msg.mseq + 65536 - (q.stream
              (((d.handled l.val rm).updCore (fld rm.msg.target 4 7) Core.release).lane.link l.val).farId rm.msg).expected
            % 65536) % 65536 = 0 ∧ cdiv rm.msg.data.length (formBytes rm.msg.form 64) ≤ q.rows ∧ ∀ i < cdiv
          rm.msg.data.length (formBytes rm.msg.form 64), q.state ((q.land + i) % max 1 q.rows) = .free)) ∧
    ((fun (g : CoreId) (r : RingId) (k : Nat × Nat × Nat × Nat × Nat × Nat) => Admits
          (fun (d : Dev) => d.lane.macks.find? (fun k => decide (k.1 = g.val) && decide (k.2.1 = r.val)) = some k))
        127 15 (127, 15, 0, 1, 2, 3)) ∧
    ((fun (l : LinkId) (kind : Nat) (core : CoreId) (queue : BitVec 12) (mseq : BitVec 16) (o : TxMsg) => Admits
          (fun (d : Dev) => kind ≠ 2 ∧ d.lane.outMsg core.val (d.lane.link l.val).farId queue.toNat mseq.toNat = some
            o)) 0 1 5 2 7 ⟨⟨1, 0, 2, 7, 5, []⟩, 0, 0, 1, none, none, none, false⟩) ∧
    (∃ (l : LinkId) (kind : Nat) (core : CoreId) (queue : BitVec 12) (mseq : BitVec 16) (x : WinXfer), Admits
        (fun (d : Dev) => kind = 2 ∧ d.lane.xfer = some x ∧ numAt x.record 0x14 2 = (d.lane.link l.val).farId ∧
          (x.ack mseq.toNat).acked < (x.ack mseq.toNat).len)) ∧
    ((fun (l : LinkId) (core : CoreId) (queue : BitVec 12) (mseq : BitVec 16) (why : BitVec 4) (o : TxMsg) => Admits
          (fun (d : Dev) => d.lane.outMsg core.val (d.lane.link l.val).farId queue.toNat mseq.toNat = some o)) 0 5 2 7
        3 ⟨⟨1, 0, 2, 7, 5, []⟩, 0, 0, 1, none, none, none, false⟩) ∧
    ((fun (g : CoreId) (peer : BitVec 16) (queue : BitVec 12) (t : TxStream) => Admits (fun (d : Dev) =>
            d.lane.streams.find? (fun t => t.is g.val peer.toNat queue.toNat) = some t ∧ fromFirst
            (fun o => o.rnr.any fun a => decide (a + 50 ≤ d.aon (dieOfCore g.val))) t.out ≠ [])) 5 0 2
        ⟨5, 0, 2, 0, none, [⟨⟨1, 0, 2, 7, 5, []⟩, 0, 0, 1, none, some 0, none, false⟩]⟩) ∧
    ((fun (g : CoreId) (peer : BitVec 16) (queue : BitVec 12) (t : TxStream) (o : TxMsg) => Admits
          (fun (d : Dev) => d.lane.streams.find? (fun t => t.is g.val peer.toNat queue.toNat) = some t ∧ t.out.find?
            (fun o => o.sent.any fun a => decide (a + 25000 * (if d.lane.sendLimit = 0 then 5 else d.lane.sendLimit) ≤
                d.aon (dieOfCore g.val))) = some o)) 5 0 2 ⟨5, 0, 2, 0, none,
          [⟨⟨1, 0, 2, 7, 5, []⟩, 0, 0, 1, some 0, none, none, true⟩]⟩
        ⟨⟨1, 0, 2, 7, 5, []⟩, 0, 0, 1, some 0, none, none, true⟩) ∧
    (∃ (g : CoreId) (e : EngId) (t : Transfer) (x : Dest), Admits (fun (d : Dev) =>
          ((d.core g.val).eng e.val).xfers.find? (fun t => decide (t.opc = 10) && t.dests.any fun y =>
            ((y.waiting.any fun a => decide (a + 2500 * (if d.lane.peerWait = 0 then 10 else d.lane.peerWait) ≤ d.aon
                  (dieOfCore g.val))) && decide (y.acked < t.len))) = some t ∧ t.dests.find?
          (fun y => ((y.waiting.any fun a => decide (a + 2500 * (if d.lane.peerWait = 0 then 10 else d.lane.peerWait)
                  ≤ d.aon (dieOfCore g.val))) && decide (y.acked < t.len))) = some x)) ∧
    (∃ (g : CoreId) (e : EngId) (n : Nat) (i : Fin 16) (t : Transfer) (x : Dest) (a : Nat), Admits
        (fun (d : Dev) => ((d.core g.val).eng e.val).xfer n = some t ∧ t.dests[i.val]? = some x ∧ x.stall = some a ∧ a
          + 25 * (if (d.lane.grp (t.peer - 0xFF00)).stall = 0 then 20 else (d.lane.grp (t.peer - 0xFF00)).stall) ≤
          d.aon (dieOfCore g.val) ∧ x.dropped = false ∧ t.opc = 10)) := by
  refine ⟨?_, ?_, ?_, ?_, ?_, ?_, ?_, ?_, ?_, ?_, ?_, ?_, ?_, ?_, ?_⟩
  · exact ⟨{ State.reset with dev := Dev.reset }, by decide⟩
  · exact ⟨0, 0, _, { State.reset with dev := { progDev (10 + 9 * 2 ^ 32) with lane := { Starlane.reset with peers := [(0, { id := 9, state := 2, owners := 1, since := 0 })] } } }, by decide, rfl⟩
  · exact ⟨0, 0, 0, aXfer 6 none, { State.reset with dev := engDev { StreamEng.reset with xfers := [aXfer 6 none] } }, by decide⟩
  · exact ⟨0, 0, 0, aXfer 10 none, { State.reset with dev := engDev { StreamEng.reset with xfers := [aXfer 10 none] } }, by decide⟩
  · exact ⟨0, 0, [], { aRing 1 with row := [(0, .ready)] }, 0, aXfer 7 (some 0), { State.reset with dev := { Dev.reset with cores := [(0, { Core.reset with rings := [(0, { aRing 1 with row := [(0, .ready)] })], engs := [(0, { StreamEng.reset with xfers := [aXfer 7 (some 0)] })] })] } }, by decide⟩
  · exact ⟨{ State.reset with dev := { Dev.reset with lane := { Starlane.reset with links := [(0, { Link.reset with state := 6, rxMsgs := [⟨⟨1, 0, 0, 0, 0, []⟩, 1⟩] })] } } }, by decide⟩
  · exact ⟨0, ⟨⟨1, 0, 0, 0, 0, []⟩, 1⟩, aRing 3, { State.reset with dev := { Dev.reset with jobs := [coreJob0], cores := [(0, { Core.reset with job := some 0, rings := [(0, aRing 3)] })], lane := { Starlane.reset with peers := [(0, { id := 9, state := 2, owners := 1, since := 0 })], links := [(0, { Link.reset with state := 6, farId := 9, rxMsgs := [⟨⟨1, 0, 0, 0, 0, []⟩, 1⟩] })] } } }, by decide⟩
  · exact ⟨{ State.reset with dev := { Dev.reset with lane := { Starlane.reset with macks := [(127, 15, 0, 1, 2, 3)] } } }, by decide⟩
  · exact ⟨{ State.reset with dev := TXW }, by decide⟩
  · exact ⟨0, 2, 0, 0, 7, ⟨List.replicate 16 0 ++ [0, 2, 0, 0] ++ [9, 0], 1, 0, 0, [], some 0⟩, { State.reset with dev := { Dev.reset with lane := { Starlane.reset with xfer := some ⟨List.replicate 16 0 ++ [0, 2, 0, 0] ++ [9, 0], 1, 0, 0, [], some 0⟩, links := [(0, { Link.reset with state := 6, farId := 9 })] } } }, by decide⟩
  · exact ⟨{ State.reset with dev := TXW }, by decide⟩
  · exact ⟨{ State.reset with dev := { TXR with aon0 := 50 } }, by decide⟩
  · exact ⟨{ State.reset with dev := { TXS with aon0 := 125000 } }, by decide⟩
  · exact ⟨0, 0, { aXfer 10 none with dests := [⟨9, false, 0, 0, none, some 0⟩] }, ⟨9, false, 0, 0, none, some 0⟩, { State.reset with dev := { engDev { StreamEng.reset with xfers := [{ aXfer 10 none with dests := [⟨9, false, 0, 0, none, some 0⟩] }] } with aon0 := 25000 } }, by decide⟩
  · exact ⟨0, 0, 0, 0, { aXfer 10 none with dests := [⟨9, false, 0, 0, some 0, none⟩], peer := 0xFF00 }, ⟨9, false, 0, 0, some 0, none⟩, 0, { State.reset with dev := { engDev { StreamEng.reset with xfers := [{ aXfer 10 none with dests := [⟨9, false, 0, 0, some 0, none⟩], peer := 0xFF00 }] } with aon0 := 500 } }, by decide⟩

theorem witness_WindowCommandsComplete :
    ((fun (w : WinId) => Admits (fun (d : Dev) => d.winErr w.val = 0)) 0) ∧
    ((fun (w : WinId) (e : Nat) => Admits (fun (d : Dev) => d.winErr w.val = e ∧ e ≠ 0)) 15 1) ∧
    ((fun (w : WinId) => Admits (fun (d : Dev) => (d.lane.win w.val).state = 1)) 0) ∧
    ((fun (w : WinId) => Admits (fun (d : Dev) => (d.lane.win w.val).state = 2)) 0) ∧
    ((fun (w : WinId) => Admits (fun (d : Dev) => (d.lane.win w.val).state = 2 ∧ (d.lane.win w.val).writes = [])) 0) ∧
    ((fun (l : LinkId) (rm : RxMsg) => Admits (fun (d : Dev) => d.lane.arrived l.val = some rm ∧ rm.msg.kind = 2 ∧
            d.pwr.state = 0 ∧ (d.lane.win (rm.msg.target % 16)).state ≠ 1)) 0 ⟨⟨2, 0, 0, 0, 0, []⟩, 1⟩) ∧
    ((fun (l : LinkId) (rm : RxMsg) => Admits (fun (d : Dev) => d.lane.arrived l.val = some rm ∧ rm.msg.kind = 2 ∧
            d.pwr.state = 0 ∧ (d.lane.win (rm.msg.target % 16)).state = 1 ∧ (d.lane.link l.val).farId =
            (d.lane.win (rm.msg.target % 16)).peer ∧ rm.msg.origin % 64 = 0 ∧ rm.msg.data.length % 64 = 0 ∧
            rm.msg.origin + rm.msg.data.length ≤ (d.lane.win (rm.msg.target % 16)).size * 4096)) 0
        ⟨⟨2, 0, 0, 0, 0, []⟩, 1⟩) ∧
    ((fun (w : WinId) (y : WinWrite) (t : List WinWrite) => Admits (fun (d : Dev) => (d.lane.win w.val).writes = y ::
            t ∧ d.mem.resetting y.addr y.data.length = false)) 0 ⟨0, 7, 64, [], 1⟩ []) ∧
    ((fun (f : Nat) (r : List Byte) (t : List (Nat × List Byte)) => Admits (fun (d : Dev) => d.lane.xfer = none ∧
            d.lane.xfers = (f, r) :: t ∧ d.mem.partFor (d.xferParts f) (
              { record := r, fn := f, sent := 0, acked := 0, out := [], link := none } : WinXfer).src
            ({ record := r, fn := f, sent := 0, acked := 0, out := [], link := none } : WinXfer).len = none)) 1 [] []) ∧
    (∃ (f : Nat) (r : List Byte) (t : List (Nat × List Byte)) (l : Nat), Admits (fun (d : Dev) => d.lane.xfer = none ∧
          d.lane.xfers = (f, r) :: t ∧ d.mem.partFor (d.xferParts f) ({
                record := r, fn := f, sent := 0, acked := 0, out := [], link := none } : WinXfer).src
          ({ record := r, fn := f, sent := 0, acked := 0, out := [], link := none } : WinXfer).len ≠ none ∧
          ((d.lane.peerOf (numAt r 0x14 2)).any fun p => p.2.state == 1 || p.2.state == 2 || p.2.state == 3) = true ∧
          ((d.updLane fun s => { s with
                  xfers := t, xfer := some { record := r, fn := f, sent := 0, acked := 0, out := [], link := none } }).giveWindow.lane.xfer.bind
            WinXfer.link) = some l)) ∧
    ((fun (l : LinkId) (mseq : BitVec 16) (x : WinXfer) => Admits (fun (d : Dev) => d.lane.xfer = some x ∧ x.fn ≠ 64 ∧
            numAt x.record 0x14 2 = (d.lane.link l.val).farId ∧ (∃ m ∈ x.out, m.mseq = mseq.toNat))) 0 7
        ⟨[], 1, 0, 0, [⟨2, 0, 0, 7, 0, []⟩], none⟩) ∧
    ((fun (l : LinkId) (mseq : BitVec 16) (x : WinXfer) => Admits (fun (d : Dev) => d.lane.xfer = some x ∧ x.fn ≠ 64 ∧
            numAt x.record 0x14 2 = (d.lane.link l.val).farId ∧ (∃ m ∈ x.out, m.mseq = mseq.toNat))) 0 7
        ⟨[], 1, 0, 0, [⟨2, 0, 0, 7, 0, []⟩], none⟩) := by
  refine ⟨?_, ?_, ?_, ?_, ?_, ?_, ?_, ?_, ?_, ?_, ?_, ?_⟩
  · exact ⟨{ State.reset with dev := { Dev.reset with mem := { Mem.reset with parts := [(0, { Part.reset with valid := true, size := 1 })] }, lane := { Starlane.reset with wins := [(0, { Window.reset with size := 1, peer := 9 })] } } }, by decide⟩
  · exact ⟨{ State.reset with dev := Dev.reset }, by decide⟩
  · exact ⟨{ State.reset with dev := { Dev.reset with lane := { Starlane.reset with wins := [(0, { Window.reset with state := 1 })] } } }, by decide⟩
  · exact ⟨{ State.reset with dev := { Dev.reset with lane := { Starlane.reset with wins := [(0, { Window.reset with state := 2 })] } } }, by decide⟩
  · exact ⟨{ State.reset with dev := { Dev.reset with lane := { Starlane.reset with wins := [(0, { Window.reset with state := 2 })] } } }, by decide⟩
  · exact ⟨{ State.reset with dev := { Dev.reset with lane := { Starlane.reset with links := [(0, { Link.reset with state := 6, rxMsgs := [⟨⟨2, 0, 0, 0, 0, []⟩, 1⟩] })] } } }, by decide⟩
  · exact ⟨{ State.reset with dev := { Dev.reset with lane := { Starlane.reset with links := [(0, { Link.reset with state := 6, rxMsgs := [⟨⟨2, 0, 0, 0, 0, []⟩, 1⟩] })], wins := [(0, { Window.reset with state := 1 })] } } }, by decide⟩
  · exact ⟨{ State.reset with dev := { Dev.reset with lane := { Starlane.reset with wins := [(0, { Window.reset with state := 1, writes := [⟨0, 7, 64, [], 1⟩] })] } } }, by decide⟩
  · exact ⟨{ State.reset with dev := { Dev.reset with lane := { Starlane.reset with xfers := [(1, [])] } } }, by decide⟩
  · exact ⟨1, (List.replicate 16 0 ++ [0, 2, 0, 0] ++ [9, 0]), [], 0, { State.reset with dev := { Dev.reset with mem := { Mem.reset with parts := [(0, { Part.reset with valid := true, base := 0, size := 1 })] }, grants := [(1, { Grant.none with parts := 1 })], lane := { Starlane.reset with xfers := [(1, (List.replicate 16 0 ++ [0, 2, 0, 0] ++ [9, 0]))], peers := [(0, ⟨9, 2, 0, 0⟩)], links := [(0, { Link.reset with state := 6, farId := 9 })] } } }, by decide⟩
  · exact ⟨{ State.reset with dev := { Dev.reset with lane := { Starlane.reset with xfer := some ⟨[], 1, 0, 0, [⟨2, 0, 0, 7, 0, []⟩], none⟩ } } }, by decide⟩
  · exact ⟨{ State.reset with dev := { Dev.reset with lane := { Starlane.reset with xfer := some ⟨[], 1, 0, 0, [⟨2, 0, 0, 7, 0, []⟩], none⟩ } } }, by decide⟩

theorem witness_ShareCommandsComplete :
    ((fun (f : FnId) (s : ShareId) (v : BitVec 64) => Admits
          (fun (d : Dev) => (d.share s.val).state = 0 ∧ bit v.toNat 0 = true)) 3 7 1) ∧
    ((fun (f : FnId) (s : ShareId) (v : BitVec 64) => Admits (fun (d : Dev) => (d.share s.val).state ≠ 0 ∧
            (d.share s.val).owner ≠ f.val)) 3 7 1) ∧
    ((fun (f : FnId) (s : ShareId) (v : BitVec 64) => Admits (fun (d : Dev) => (d.share s.val).state = 2 ∧
            (d.share s.val).owner = f.val ∧ bit v.toNat 0 = true ∧ bit v.toNat 1 = false)) 3 7 1) ∧
    ((fun (s : ShareId) => Admits (fun (d : Dev) => (d.share s.val).state = 1 ∧ ((d.share s.val).addr % 64 ≠ 0 ∨
              d.mem.partFor (d.grantParts (d.share s.val).owner) (d.share s.val).addr (max 1 (d.share s.val).len) =
              none))) 7) ∧
    (∃ (s : ShareId) (e : Dev) (b : List Byte), Admits (fun (d : Dev) => (d.share s.val).state = 1 ∧
          (d.share s.val).addr % 64 = 0 ∧ d.mem.partFor (d.grantParts (d.share s.val).owner) (d.share s.val).addr
          (max 1 (d.share s.val).len) ≠ none ∧ d.mem.resetting (d.share s.val).addr (d.share s.val).len = false ∧
          d.hbmRead (d.share s.val).addr (d.share s.val).len = (e, .ok b))) ∧
    ((fun (f : FnId) (s : ShareId) => Admits (fun (d : Dev) => ((d.share s.val).state = 1 ∨ (d.share s.val).state = 2)
            ∧ (d.share s.val).owner = f.val)) 3 7) ∧
    ((fun (s : ShareId) => Admits (fun (d : Dev) => (d.share s.val).state = 3)) 7) ∧
    ((fun (a : Agent) (rcd : List Byte) (f : FnId) => Admits (fun (_ : Dev) => a = .fn f)) (.fn 3) [] 3) ∧
    ((fun (q : PdecReq) (rest : List PdecReq) => Admits (fun (d : Dev) => d.sec.mpc.run = none ∧ d.sec.mpc.queue = q
            :: rest ∧ d.pdecWaits q = false)) ⟨1, none, []⟩ []) ∧
    (∃ (r : PdecRun) (e : Dev) (k : Nat), Admits (fun (d : Dev) => d.sec.mpc.run = some r ∧
          (r.limbs.any fun a => d.mem.resetting a (2 ^ (d.share r.slot).logN * 9 / 2)) = false ∧
          (({ d with freeCtr := d.freeCtr + 2 ^ (d.share r.slot).logN } : Dev).updMpc fun m => { m with run := none }).pdecLimbs
          r (d.share r.slot) (floodNoise d.freeCtr (numAt r.req.rcd 1 1)) 0 (r.limbs.zip r.primes) = (e, k, none))) := by
  refine ⟨?_, ?_, ?_, ?_, ?_, ?_, ?_, ?_, ?_, ?_⟩
  · exact ⟨{ State.reset with dev := Dev.reset }, by decide⟩
  · exact ⟨{ State.reset with dev := { Dev.reset with sec := { Sec.reset with mpc := { Mpc.reset with slots := [(7, { Share.reset with state := 2, owner := 4 })] } } } }, by decide⟩
  · exact ⟨{ State.reset with dev := { Dev.reset with sec := { Sec.reset with mpc := { Mpc.reset with slots := [(7, { Share.reset with state := 2, owner := 3 })] } } } }, by decide⟩
  · exact ⟨{ State.reset with dev := { Dev.reset with sec := { Sec.reset with mpc := { Mpc.reset with slots := [(7, { Share.reset with state := 1, addr := 1 })] } } } }, by decide⟩
  · exact ⟨7, _, _, { State.reset with dev := { Dev.reset with mem := { Mem.reset with parts := [(0, { Part.reset with valid := true, base := 0, size := 1 })] }, grants := [(0, { Grant.none with parts := 1 })], sec := { Sec.reset with mpc := { Mpc.reset with slots := [(7, { Share.reset with state := 1 })] } } } }, by decide, by decide, by decide, by decide, hbmRead_ok (by decide)⟩
  · exact ⟨{ State.reset with dev := { Dev.reset with sec := { Sec.reset with mpc := { Mpc.reset with slots := [(7, { Share.reset with state := 2, owner := 3 })] } } } }, by decide⟩
  · exact ⟨{ State.reset with dev := { Dev.reset with sec := { Sec.reset with mpc := { Mpc.reset with slots := [(7, { Share.reset with state := 3 })] } } } }, by decide⟩
  · exact ⟨{ State.reset with dev := Dev.reset }, by decide⟩
  · exact ⟨{ State.reset with dev := { Dev.reset with sec := { Sec.reset with mpc := { Mpc.reset with queue := [⟨1, none, []⟩] } } } }, by decide⟩
  · exact ⟨⟨⟨1, none, []⟩, 0, [], [], []⟩, _, 0, { State.reset with dev := { Dev.reset with sec := { Sec.reset with mpc := { Mpc.reset with run := some ⟨⟨1, none, []⟩, 0, [], [], []⟩ } } } }, rfl, rfl, rfl⟩

theorem witness_UpdateCommandsComplete :
    ((fun (a : Agent) (v : BitVec 64) (persist norOk : Bool) => Admits (fun (d : Dev) => d.expert a = true ∧ keyRange
            1 v.toNat = true ∧ persist = true ∧ norOk = true ∧ d.upd.state = 0 ∧ (d.nor.marks 0x20).trial = false))
        .bmc 400 true true) ∧
    ((fun (a : Agent) (v : BitVec 64) (persist norOk : Bool) => Admits (fun (d : Dev) => d.expert a = true ∧ keyRange
            1 v.toNat = true ∧ persist = false)) .bmc 400 false true) ∧
    ((fun (a : Agent) (v : BitVec 64) (persist norOk : Bool) => Admits (fun (d : Dev) => d.expert a = true ∧ keyRange
            2 v.toNat = true ∧ persist = true ∧ norOk = true ∧ d.upd.state = 0 ∧ (d.nor.marks 0x20).trial = false))
        .bmc 500 true true) ∧
    ((fun (a : Agent) (v : BitVec 64) (persist norOk : Bool) => Admits (fun (d : Dev) => d.expert a = true ∧ keyRange
            2 v.toNat = true ∧ persist = false)) .bmc 500 false true) ∧
    ((fun (a : Agent) (v : BitVec 64) (persist norOk : Bool) => Admits (fun (d : Dev) => d.expert a = true ∧ keyRange
            3 v.toNat = true ∧ persist = true ∧ norOk = true ∧ d.upd.state = 0 ∧ (d.nor.marks 0x20).trial = false))
        .bmc 1 true true) ∧
    ((fun (a : Agent) (v : BitVec 64) (persist norOk : Bool) => Admits (fun (d : Dev) => d.expert a = true ∧ keyRange
            3 v.toNat = true ∧ persist = false)) .bmc 1 false true) ∧
    ((fun (a : Agent) (v : BitVec 64) (persist norOk : Bool) => Admits (fun (d : Dev) => d.expert a = true ∧ keyRange
            4 v.toNat = true ∧ persist = true ∧ norOk = true ∧ d.upd.state = 0 ∧ (d.nor.marks 0x20).trial = false))
        .bmc 2 true true) ∧
    ((fun (a : Agent) (v : BitVec 64) (persist norOk : Bool) => Admits (fun (d : Dev) => d.expert a = true ∧ keyRange
            4 v.toNat = true ∧ persist = false)) .bmc 2 false true) ∧
    ((fun (a : Agent) (v : BitVec 64) (persist norOk : Bool) => Admits (fun (d : Dev) => d.expert a = true ∧ keyRange
            5 v.toNat = true ∧ persist = true ∧ norOk = true ∧ d.upd.state = 0 ∧ (d.nor.marks 0x20).trial = false))
        .bmc 7 true true) ∧
    ((fun (a : Agent) (v : BitVec 64) (persist norOk : Bool) => Admits (fun (d : Dev) => d.expert a = true ∧ keyRange
            5 v.toNat = true ∧ persist = false)) .bmc 7 false true) ∧
    ((fun (a : Agent) (v : BitVec 64) (persist norOk : Bool) => Admits (fun (d : Dev) => d.expert a = true ∧ keyRange
            6 v.toNat = true ∧ persist = true ∧ norOk = true ∧ d.upd.state = 0 ∧ (d.nor.marks 0x20).trial = false))
        .bmc 9 true true) ∧
    ((fun (a : Agent) (v : BitVec 64) (persist norOk : Bool) => Admits (fun (d : Dev) => d.expert a = true ∧ keyRange
            6 v.toNat = true ∧ persist = false)) .bmc 9 false true) ∧
    ((fun (a : Agent) (v : BitVec 64) (persist norOk : Bool) => Admits (fun (d : Dev) => d.expert a = true ∧ keyRange
            7 v.toNat = true ∧ persist = true ∧ norOk = true ∧ d.upd.state = 0 ∧ (d.nor.marks 0x20).trial = false))
        .bmc 8 true true) ∧
    ((fun (a : Agent) (v : BitVec 64) (persist norOk : Bool) => Admits (fun (d : Dev) => d.expert a = true ∧ keyRange
            7 v.toNat = true ∧ persist = false)) .bmc 8 false true) ∧
    ((fun (a : Agent) (v : BitVec 64) (persist norOk : Bool) => Admits (fun (d : Dev) => d.expert a = true ∧ keyRange
            8 v.toNat = true ∧ persist = true ∧ norOk = true ∧ d.upd.state = 0 ∧ (d.nor.marks 0x20).trial = false))
        .bmc 5 true true) ∧
    ((fun (a : Agent) (v : BitVec 64) (persist norOk : Bool) => Admits (fun (d : Dev) => d.expert a = true ∧ keyRange
            8 v.toNat = true ∧ persist = false)) .bmc 5 false true) ∧
    ((fun (a : Agent) (v : BitVec 64) (persist norOk : Bool) => Admits (fun (d : Dev) => d.expert a = true ∧ keyRange
            9 v.toNat = true ∧ persist = true ∧ norOk = true ∧ d.upd.state = 0 ∧ (d.nor.marks 0x20).trial = false))
        .bmc 1 true true) ∧
    ((fun (a : Agent) (v : BitVec 64) (persist norOk : Bool) => Admits (fun (d : Dev) => d.expert a = true ∧ keyRange
            9 v.toNat = true ∧ persist = false)) .bmc 1 false true) ∧
    ((fun (a : Agent) (p : PartId) (v : BitVec 64) (persist norOk : Bool) => Admits (fun (d : Dev) => d.expert a =
            true ∧ keyRange (0x40 + p.val) v.toNat = true ∧ persist = true ∧ norOk = true ∧ d.upd.state = 0 ∧
            (d.nor.marks 0x20).trial = false)) .bmc 31 0x100 true true) ∧
    ((fun (a : Agent) (p : PartId) (v : BitVec 64) (persist norOk : Bool) => Admits
          (fun (d : Dev) => d.expert a = true ∧ keyRange (0x40 + p.val) v.toNat = true ∧ persist = false)) .bmc 31
        0x100 false true) ∧
    ((fun (a : Agent) => Admits (fun (d : Dev) => d.expert a = true ∧ d.upd.state = 0)) .bmc) ∧
    ((fun (a : Agent) => Admits (fun (d : Dev) => d.expert a = true ∧ d.upd.state ≠ 0)) .bmc) ∧
    ((fun (a : Agent) => Admits (fun (d : Dev) => d.expert a = true ∧ d.upd.resetNeeded = true)) .bmc) ∧
    ((fun (st : List PkgEntry) => Admits (fun (d : Dev) => d.upd.state = 4 ∧ d.upd.plan = [st] ∧
            (st.all fun e => d.upd.allConfirmed e.comp) = true)) []) ∧
    ((fun (st next : List PkgEntry) (t : List (List PkgEntry)) => Admits (fun (d : Dev) => d.upd.state = 4 ∧
            d.upd.plan = st :: next :: t ∧ (st.all fun e => d.upd.allConfirmed e.comp) = true)) [] [] []) ∧
    ((fun (st : List PkgEntry) (t : List (List PkgEntry)) => Admits
          (fun (d : Dev) => d.upd.state = 4 ∧ d.upd.plan = st :: t)) [] []) ∧
    (Admits (fun (d : Dev) => d.upd.resetNeeded = true ∧ d.jobs = [])) ∧
    ((fun (p : Option Package) => Admits (fun (d : Dev) => d.hw.card = none ∧ d.rst.lodestar = true ∧ d.upd.state = 0))
        none) ∧
    ((fun (p : Option Package) => Admits (fun (d : Dev) => d.hw.card = none ∧
            (d.rst.lodestar = false ∨ d.upd.state ≠ 0))) none) ∧
    (Admits (fun (d : Dev) => d.upd.state ≠ 1 ∧ d.upd.state ≠ 2 ∧ d.upd.state ≠ 3)) ∧
    ((fun (st : List PkgEntry) (t : List (List PkgEntry)) => Admits
          (fun (d : Dev) => d.upd.state = 3 ∧ d.upd.plan = st :: t)) [] []) ∧
    ((fun (res : Nat) (st rest : List PkgEntry) (t : List (List PkgEntry)) (e : PkgEntry) => Admits
          (fun (d : Dev) => d.upd.state = 3 ∧ d.upd.plan = st :: t ∧ st.drop d.upd.written.length = e :: rest ∧ res ≠
            0)) 1 [anEntry] [] [] anEntry) ∧
    ((fun (res : Nat) (st : List PkgEntry) (e n : PkgEntry) (rest : List PkgEntry) (t : List (List PkgEntry)) =>
          Admits (fun (d : Dev) => d.upd.state = 3 ∧ d.upd.plan = st :: t ∧ st.drop d.upd.written.length = e :: n ::
            rest ∧ res = 0 ∧ d.fuses.imageFail e.comp e.image.signer e.image.svn e.image.authFail = 0)) 0
        [anEntry, anEntry] anEntry anEntry [] []) ∧
    ((fun (res : Nat) (st : List PkgEntry) (e : PkgEntry) (t : List (List PkgEntry)) => Admits
          (fun (d : Dev) => d.upd.state = 3 ∧ d.upd.plan = st :: t ∧ st.drop d.upd.written.length = [e] ∧ res = 0 ∧
            d.fuses.imageFail e.comp e.image.signer e.image.svn e.image.authFail = 0 ∧ d.upd.offline = false ∧
            (st.all fun e => decide (4 ≤ e.comp ∧ e.comp ≤ 8)) = false)) 0 [anEntry] anEntry []) := by
  refine ⟨?_, ?_, ?_, ?_, ?_, ?_, ?_, ?_, ?_, ?_, ?_, ?_, ?_, ?_, ?_, ?_, ?_, ?_, ?_, ?_, ?_, ?_, ?_, ?_, ?_, ?_, ?_, ?_, ?_, ?_, ?_, ?_, ?_, ?_⟩
  · exact ⟨{ State.reset with dev := Dev.reset }, by decide⟩
  · exact ⟨{ State.reset with dev := Dev.reset }, by decide⟩
  · exact ⟨{ State.reset with dev := Dev.reset }, by decide⟩
  · exact ⟨{ State.reset with dev := Dev.reset }, by decide⟩
  · exact ⟨{ State.reset with dev := Dev.reset }, by decide⟩
  · exact ⟨{ State.reset with dev := Dev.reset }, by decide⟩
  · exact ⟨{ State.reset with dev := Dev.reset }, by decide⟩
  · exact ⟨{ State.reset with dev := Dev.reset }, by decide⟩
  · exact ⟨{ State.reset with dev := Dev.reset }, by decide⟩
  · exact ⟨{ State.reset with dev := Dev.reset }, by decide⟩
  · exact ⟨{ State.reset with dev := Dev.reset }, by decide⟩
  · exact ⟨{ State.reset with dev := Dev.reset }, by decide⟩
  · exact ⟨{ State.reset with dev := Dev.reset }, by decide⟩
  · exact ⟨{ State.reset with dev := Dev.reset }, by decide⟩
  · exact ⟨{ State.reset with dev := Dev.reset }, by decide⟩
  · exact ⟨{ State.reset with dev := Dev.reset }, by decide⟩
  · exact ⟨{ State.reset with dev := Dev.reset }, by decide⟩
  · exact ⟨{ State.reset with dev := Dev.reset }, by decide⟩
  · exact ⟨{ State.reset with dev := Dev.reset }, by decide⟩
  · exact ⟨{ State.reset with dev := Dev.reset }, by decide⟩
  · exact ⟨{ State.reset with dev := Dev.reset }, by decide⟩
  · exact ⟨{ State.reset with dev := { Dev.reset with upd := { Upd.reset with state := 3 } } }, by decide⟩
  · exact ⟨{ State.reset with dev := { Dev.reset with upd := { Upd.reset with state := 5, resetNeeded := true } } }, by decide⟩
  · exact ⟨{ State.reset with dev := { Dev.reset with upd := { Upd.reset with state := 4, plan := [[]] } } }, by decide⟩
  · exact ⟨{ State.reset with dev := { Dev.reset with upd := { Upd.reset with state := 4, plan := [[], []] } } }, by decide⟩
  · exact ⟨{ State.reset with dev := { Dev.reset with upd := { Upd.reset with state := 4, plan := [[]] } } }, by decide⟩
  · exact ⟨{ State.reset with dev := { Dev.reset with upd := { Upd.reset with state := 5, resetNeeded := true } } }, by decide⟩
  · exact ⟨{ State.reset with dev := { Dev.reset with rst := { Rst.reset with lodestar := true } } }, by decide⟩
  · exact ⟨{ State.reset with dev := { Dev.reset with rst := { Rst.reset with lodestar := false } } }, by decide⟩
  · exact ⟨{ State.reset with dev := Dev.reset }, by decide⟩
  · exact ⟨{ State.reset with dev := { Dev.reset with upd := { Upd.reset with state := 3, plan := [[]] } } }, by decide⟩
  · exact ⟨{ State.reset with dev := { Dev.reset with upd := { Upd.reset with state := 3, plan := [[anEntry]] } } }, by decide⟩
  · exact ⟨{ State.reset with dev := { Dev.reset with upd := { Upd.reset with state := 3, plan := [[anEntry, anEntry]] } } }, by decide⟩
  · exact ⟨{ State.reset with dev := { Dev.reset with upd := { Upd.reset with state := 3, plan := [[anEntry]] } } }, by decide⟩

theorem witness_SecurityCommandsComplete :
    ((fun (g : CoreId) (v : BitVec 64) (a : Agent) (w : Nat) => Admits (fun (d : Dev) => w = withBit v.toNat 0 true ∧
            bit w 3 = false ∧ bit w 0 = true ∧ fld w 1 1 ≠ (d.core g.val).active ∧ (d.core g.val).load = none ∧
            (d.core g.val).forceWait = none ∧ 0 < fld w 32 12 ∧ fld w 32 12 ≤ 2048 ∧
            (d.mem.partFor (d.agentParts a) (d.core g.val).kloadAddr (64 * fld w 32 12)).isNone = false)) 0
        0x100000003 (.fn 0) 0x100000003) ∧
    ((fun (g : CoreId) (v : BitVec 64) (a : Agent) (w : Nat) => Admits (fun (d : Dev) => w = withBit v.toNat 0 true ∧
            bit w 3 = false ∧ bit w 0 = true ∧ fld w 1 1 = (d.core g.val).active ∧ (d.core g.val).load = none ∧
            (d.core g.val).forceWait = none)) 0 0x100000001 (.fn 0) 0x100000001) ∧
    ((fun (g : CoreId) (v : BitVec 64) (a : Agent) (w : Nat) => Admits (fun (d : Dev) => w = withBit
            (withBit v.toNat 0 true) 3 true ∧ bit w 3 = true ∧ bit w 0 = true ∧ d.expert a = true ∧ fld w 1 1 =
            (d.core g.val).active ∧ (d.core g.val).seq.running = none ∧ (d.core g.val).load = none ∧
            (d.core g.val).forceWait = none ∧ 0 < fld w 32 12 ∧ fld w 32 12 ≤ 2048 ∧
            (d.mem.partFor (d.agentParts a) (d.core g.val).kloadAddr (64 * fld w 32 12)).isNone = false)) 0
        0x100000009 (.fn 0) 0x100000009) ∧
    ((fun (g : CoreId) (v : BitVec 64) (a : Agent) (w : Nat) => Admits (fun (d : Dev) => w = withBit
            (withBit v.toNat 0 true) 3 true ∧ bit w 3 = true ∧ bit w 0 = true ∧ d.expert a = true ∧ fld w 1 1 =
            (d.core g.val).active ∧ (d.core g.val).seq.running ≠ none ∧ (d.core g.val).load = none ∧
            (d.core g.val).forceWait = none ∧ 0 < fld w 32 12 ∧ fld w 32 12 ≤ 2048 ∧
            (d.mem.partFor (d.agentParts a) (d.core g.val).kloadAddr (64 * fld w 32 12)).isNone = false)) 0
        0x100000009 (.fn 0) 0x100000009) ∧
    (∃ (g : CoreId) (l : KLoad) (e : Dev) (b : List Byte) (r : RegEntry), Admits (fun (d : Dev) => (d.core g.val).load
          = some l ∧ d.mem.resetting l.addr l.bytes = false ∧ ((d.updMem fun m => m.updPart
              ((d.mem.partAt l.addr).getD 0) fun q => q.charge l.bytes).hbmRead l.addr l.bytes) = (e, .ok b) ∧
          l.registry.find? (fun x => decide (x.kid = Config.packageKid b % 65536)) = some r ∧ r.bytes.length ≤ l.bytes
          ∧ beNat (sha256 (b.take r.bytes.length)) = r.digest)) ∧
    (∃ (g : CoreId) (l : KLoad) (e : Dev) (b : List Byte), Admits (fun (d : Dev) => (d.core g.val).load = some l ∧
          d.mem.resetting l.addr l.bytes = false ∧ ((d.updMem fun m => m.updPart ((d.mem.partAt l.addr).getD 0) fun q
              => q.charge l.bytes).hbmRead l.addr l.bytes) = (e, .ok b) ∧ l.registry.find?
          (fun x => decide (x.kid = Config.packageKid b % 65536)) = none)) ∧
    (Admits (fun (d : Dev) => 3 ≤ d.sec.stage ∧ d.rst.pcie = 1)) ∧
    (Admits (fun (d : Dev) => 3 ≤ d.sec.stage ∧ d.rst.pcie = 1 ∧ 1 ≤ d.sec.spdm)) ∧
    ((fun (ok : Bool) => Admits (fun (d : Dev) => 3 ≤ d.sec.stage ∧ d.rst.pcie = 1 ∧ 2 ≤ d.sec.spdm ∧ ok = true)) true) ∧
    ((fun (slot hash : Nat) => Admits (fun (d : Dev) => 3 ≤ d.sec.stage ∧ d.rst.pcie = 1 ∧ d.rst.lodestar = false ∧ 3
            ≤ d.sec.spdm ∧ d.sec.spdmKey.isNone = false ∧ slot = 0xFF ∧ d.sec.sessions.length < 4)) 0xFF 7) ∧
    ((fun (sid : Nat) (ok : Bool) => Admits (fun (d : Dev) => 3 ≤ d.sec.stage ∧ d.rst.pcie = 1 ∧
            (d.sec.sessions.any fun s => decide (s.sid = sid) && !s.established) = true ∧ ok = true)) 3 true) ∧
    ((fun (sid hash : Nat) => Admits (fun (d : Dev) => 3 ≤ d.sec.stage ∧ d.rst.pcie = 1 ∧ d.sec.session sid = true)) 3
        7) ∧
    ((fun (nonce : List Byte) => Admits (fun (d : Dev) => 3 ≤ d.sec.stage ∧ d.rst.pcie = 1 ∧ d.exhausted = false ∧
            (d.sec.reports.filter fun t => decide (d.aon0 < t + 25_000_000)).length < 100 ∧ d.sec.logErr = false ∧
            d.sec.nextIndex < 1024 * d.nor.logBlocks)) []) ∧
    ((fun (off len : Nat) => Admits (fun (d : Dev) => 3 ≤ d.sec.stage ∧ d.rst.pcie = 1)) 0 4) ∧
    (∃ (given : List (Nat × Nat)) (loader fw : Option Image) (e : Dev) (s : Nat), Admits (fun (d : Dev) => d.rst.hold
          = false ∧ d.rst.romHalt = false ∧ d.rst.strapDone = true ∧ d.sec.stage = 1 ∧ (d.updSec fun x =>
            { x with
                meas := Tab.set x.meas 1 {
                      comp := 0, svn := 0, slot := 0, version := 0, digest := Config.romDigest % 2 ^ 384 } }).bootComp
          given 1 = (e, some s))) ∧
    (∃ (given : List (Nat × Nat)) (loader fw : Option Image) (e : Dev) (s : Nat), Admits (fun (d : Dev) => d.rst.hold
          = false ∧ d.rst.romHalt = false ∧ d.rst.strapDone = true ∧ d.sec.stage = 2 ∧ d.rst.steps.contains 3 = true ∧
          d.bootComp given 2 = (e, some s))) ∧
    ((fun (given : List (Nat × Nat)) (loader fw : Option Image) => Admits (fun (d : Dev) => d.rst.hold = false ∧
            d.rst.romHalt = false ∧ d.rst.strapDone = true ∧ d.sec.stage = 3 ∧ d.rst.steps.contains 4 = true ∧
            d.rst.lodestar = false)) [] none none) ∧
    ((fun (v : BitVec 64) (a : Agent) (r : RegEntry) => Admits (fun (d : Dev) => bit v.toNat 0 = true ∧ d.sec.kcopy =
            none ∧ d.sec.registry.find? (fun e => decide (e.kid = fld v.toNat 32 16)) = some r ∧
            (d.mem.partFor (d.agentParts a) d.sec.kcopyDst (max 1 r.bytes.length)).isNone = false)) 0x700000001
        (.fn 0) ⟨7, [], 0⟩) ∧
    ((fun (v : BitVec 64) (a : Agent) => Admits (fun (d : Dev) => bit v.toNat 0 = true ∧ d.sec.kcopy = none ∧
            d.sec.registry.find? (fun e => decide (e.kid = fld v.toNat 32 16)) = none)) 0x700000001 (.fn 0)) ∧
    ((fun (k : KCopy) (r : RegEntry) (p : Nat) => Admits (fun (d : Dev) => d.sec.kcopy = some k ∧ d.sec.registry.find?
            (fun e => decide (e.kid = k.kid)) = some r ∧ d.mem.partFor k.parts k.dst (max 1 r.bytes.length) = some p))
        ⟨7, 0, 1⟩ ⟨7, [], 0⟩ 0) ∧
    ((fun (ok : Bool) => Admits (fun (d : Dev) => 3 ≤ d.sec.stage ∧ 1024 * d.nor.logBlocks - d.sec.nextIndex ≤ 256 ∧
            d.nor.logBlocks < 2 ^ 30 ∧ ok = true)) true) ∧
    ((fun (ok : Bool) => Admits (fun (d : Dev) => 3 ≤ d.sec.stage ∧ 1024 * d.nor.logBlocks - d.sec.nextIndex ≤ 256 ∧
            d.nor.logBlocks < 2 ^ 30 ∧ ok = false)) false) ∧
    ((fun (bits : BitVec 5) => Admits (fun (_ : Dev) => bits.toNat ≠ 0)) 16) := by
  refine ⟨?_, ?_, ?_, ?_, ?_, ?_, ?_, ?_, ?_, ?_, ?_, ?_, ?_, ?_, ?_, ?_, ?_, ?_, ?_, ?_, ?_, ?_, ?_⟩
  · exact ⟨{ State.reset with dev := { Dev.reset with expertEn := 1, grants := [(0, { Grant.none with parts := 1 })], mem := { Mem.reset with parts := [(0, { Part.reset with valid := true, base := 0, size := 1 })] } } }, by decide⟩
  · exact ⟨{ State.reset with dev := { Dev.reset with expertEn := 1, grants := [(0, { Grant.none with parts := 1 })], mem := { Mem.reset with parts := [(0, { Part.reset with valid := true, base := 0, size := 1 })] } } }, by decide⟩
  · exact ⟨{ State.reset with dev := { Dev.reset with expertEn := 1, grants := [(0, { Grant.none with parts := 1 })], mem := { Mem.reset with parts := [(0, { Part.reset with valid := true, base := 0, size := 1 })] } } }, by decide⟩
  · exact ⟨{ State.reset with dev := { { Dev.reset with expertEn := 1, grants := [(0, { Grant.none with parts := 1 })], mem := { Mem.reset with parts := [(0, { Part.reset with valid := true, base := 0, size := 1 })] } } with cores := [(0, { Core.reset with seq := { Seq.reset with running := some aBlock } })] } }, by decide⟩
  · refine ⟨0, ⟨0, 0, 64, false, 0, [⟨Config.packageKid (List.replicate 64 0) % 65536, [], beNat (sha256 [])⟩]⟩, _, List.replicate 64 0, ⟨Config.packageKid (List.replicate 64 0) % 65536, [], beNat (sha256 [])⟩, { State.reset with dev := { Dev.reset with cores := [(0, { Core.reset with load := some ⟨0, 0, 64, false, 0, [⟨Config.packageKid (List.replicate 64 0) % 65536, [], beNat (sha256 [])⟩]⟩ })] } }, rfl, by decide, hbmRead_ok (by decide), ?_, Nat.zero_le _, rfl⟩
    simp
  · exact ⟨0, ⟨0, 0, 64, false, 0, []⟩, _, _, { State.reset with dev := { Dev.reset with cores := [(0, { Core.reset with load := some ⟨0, 0, 64, false, 0, []⟩ })] } }, rfl, by decide, hbmRead_ok (by decide), rfl⟩
  · exact ⟨{ State.reset with dev := { Dev.reset with rst := { Rst.reset with pcie := 1 }, sec := { Sec.reset with stage := 4, spdm := 0 } } }, by decide⟩
  · exact ⟨{ State.reset with dev := { Dev.reset with rst := { Rst.reset with pcie := 1 }, sec := { Sec.reset with stage := 4, spdm := 1 } } }, by decide⟩
  · exact ⟨{ State.reset with dev := { Dev.reset with rst := { Rst.reset with pcie := 1 }, sec := { Sec.reset with stage := 4, spdm := 2 } } }, by decide⟩
  · exact ⟨{ State.reset with dev := { Dev.reset with rst := { Rst.reset with pcie := 1 }, sec := { Sec.reset with stage := 4, spdm := 3, spdmKey := some 5 } } }, by decide⟩
  · exact ⟨{ State.reset with dev := { Dev.reset with rst := { Rst.reset with pcie := 1 }, sec := { Sec.reset with stage := 4, sessions := [⟨3, false⟩] } } }, by decide⟩
  · exact ⟨{ State.reset with dev := { Dev.reset with rst := { Rst.reset with pcie := 1 }, sec := { Sec.reset with stage := 4, sessions := [⟨3, true⟩] } } }, by decide⟩
  · exact ⟨{ State.reset with dev := { Dev.reset with rst := { Rst.reset with pcie := 1 }, sec := { Sec.reset with stage := 4, reports := [] }, nor := { Nor.reset with logBlocks := 1 } } }, by decide⟩
  · exact ⟨{ State.reset with dev := { Dev.reset with rst := { Rst.reset with pcie := 1 }, sec := { Sec.reset with stage := 4, spdm := 0 } } }, by decide⟩
  · exact ⟨[], none, none, _, 0, { State.reset with dev := { Dev.reset with rst := { Rst.reset with hold := false, strapDone := true }, nor := { Nor.reset with comps := [(1, { Marks.reset with slotA := { SlotInfo.reset with valid := true } })] }, sec := { Sec.reset with stage := 1 } } }, rfl, rfl, rfl, rfl, rfl⟩
  · exact ⟨[], none, none, _, 0, { State.reset with dev := { Dev.reset with rst := { Rst.reset with hold := false, strapDone := true, steps := [3] }, nor := { Nor.reset with comps := [(2, { Marks.reset with slotA := { SlotInfo.reset with valid := true } })] }, sec := { Sec.reset with stage := 2 } } }, rfl, rfl, rfl, rfl, by decide, rfl⟩
  · exact ⟨{ State.reset with dev := { Dev.reset with rst := { Rst.reset with hold := false, strapDone := true, steps := [4] }, sec := { Sec.reset with stage := 3 } } }, by decide⟩
  · exact ⟨{ State.reset with dev := { { Dev.reset with expertEn := 1, grants := [(0, { Grant.none with parts := 1 })], mem := { Mem.reset with parts := [(0, { Part.reset with valid := true, base := 0, size := 1 })] } } with sec := { Sec.reset with registry := [⟨7, [], 0⟩] } } }, by decide⟩
  · exact ⟨{ State.reset with dev := Dev.reset }, by decide⟩
  · exact ⟨{ State.reset with dev := { { Dev.reset with expertEn := 1, grants := [(0, { Grant.none with parts := 1 })], mem := { Mem.reset with parts := [(0, { Part.reset with valid := true, base := 0, size := 1 })] } } with sec := { Sec.reset with registry := [⟨7, [], 0⟩], kcopy := some ⟨7, 0, 1⟩ } } }, by decide⟩
  · exact ⟨{ State.reset with dev := { Dev.reset with rst := { Rst.reset with pcie := 1 }, sec := { Sec.reset with stage := 4, spdm := 0 } } }, by decide⟩
  · exact ⟨{ State.reset with dev := { Dev.reset with rst := { Rst.reset with pcie := 1 }, sec := { Sec.reset with stage := 4, spdm := 0 } } }, by decide⟩
  · exact ⟨{ State.reset with dev := Dev.reset }, by decide⟩

theorem witness_PublicKeyCommandsComplete :
    ((fun (rcd : List Byte) => Admits (fun (d : Dev) => d.sec.bne.queue.length < 16)) []) ∧
    ((fun (rcd : List Byte) => Admits (fun (d : Dev) => 16 ≤ d.sec.bne.queue.length)) []) ∧
    (∃ (r : List Byte) (rest : List (List Byte)), Admits (fun (d : Dev) => d.sec.bne.queue = r :: rest ∧
          d.sec.bne.state = 0 ∧ bnFormFail r = none ∧ [(numAt r 0x08 8,
              ((bnBlocks (numAt r 0 1) (numAt r 2 2)).getD (0, 0)).1), (numAt r 0x10 8,
              ((bnBlocks (numAt r 0 1) (numAt r 2 2)).getD (0, 0)).2), (numAt r 0x18 8, 8)].find?
          (fun p => !(d.updBne fun b => { b with queue := rest }).bnAddrOk p.1 p.2) = none)) ∧
    ((fun (r : List Byte) (rest : List (List Byte)) (off : Nat) => Admits
          (fun (d : Dev) => d.sec.bne.queue = r :: rest ∧ d.sec.bne.state = 0 ∧ bnFormFail r = some off)) [9] [] 0) ∧
    ((fun (host : List Byte) (bad : Option Nat) (r : BnReq) => Admits (fun (d : Dev) => d.sec.bne.run = some r ∧
            d.sec.bne.state = 1 ∧ bit (numAt r.rcd 0x08 8) 63 = true ∧ bad = none)) [] none
        ⟨[1, 0, 0, 1, 0, 0, 0, 0, 0, 0, 0, 0, 0, 0, 0, 0x80], [], false⟩) ∧
    (∃ (host : List Byte) (bad : Option Nat) (r : BnReq) (e : Dev) (b : List Byte), Admits
        (fun (d : Dev) => d.sec.bne.run = some r ∧ d.sec.bne.state = 1 ∧ bit (numAt r.rcd 0x08 8) 63 = false ∧
          d.mem.resetting (numAt r.rcd 0x08 8) ((bnBlocks (numAt r.rcd 0 1) (numAt r.rcd 2 2)).getD (0, 0)).1 = false
          ∧ d.hbmRead (numAt r.rcd 0x08 8) ((bnBlocks (numAt r.rcd 0 1) (numAt r.rcd 2 2)).getD (0, 0)).1 = (e, .ok b))) ∧
    (∃ (mismatch : Bool) (r : BnReq) (o : List Byte), Admits (fun (d : Dev) => d.sec.bne.run = some r ∧
          d.sec.bne.state = 2 ∧ mismatch = false ∧ r.discard = false ∧ bnResult (numAt r.rcd 0 1) (numAt r.rcd 2 2)
          r.operands d.draw.1 = some o)) ∧
    (Admits (fun (d : Dev) => d.sec.bne.state = 4)) := by
  refine ⟨?_, ?_, ?_, ?_, ?_, ?_, ?_, ?_⟩
  · exact ⟨{ State.reset with dev := Dev.reset }, by decide⟩
  · exact ⟨{ State.reset with dev := { Dev.reset with sec := { Sec.reset with bne := { Bne.reset with queue := List.replicate 16 [] } } } }, by decide⟩
  · exact ⟨([1, 0, 0, 1, 0, 0, 0, 0] ++ [0, 0, 0, 0, 0, 0, 0, 0x80] ++ [0, 1, 0, 0, 0, 0, 0, 0x80] ++ [0, 2, 0, 0, 0, 0, 0, 0x80]), [], { State.reset with dev := { Dev.reset with sec := { Sec.reset with bne := { Bne.reset with queue := [([1, 0, 0, 1, 0, 0, 0, 0] ++ [0, 0, 0, 0, 0, 0, 0, 0x80] ++ [0, 1, 0, 0, 0, 0, 0, 0x80] ++ [0, 2, 0, 0, 0, 0, 0, 0x80])] } } } }, by decide⟩
  · exact ⟨{ State.reset with dev := { Dev.reset with sec := { Sec.reset with bne := { Bne.reset with queue := [[9]] } } } }, by decide⟩
  · exact ⟨{ State.reset with dev := { Dev.reset with sec := { Sec.reset with bne := { Bne.reset with state := 1, run := some ⟨[1, 0, 0, 1, 0, 0, 0, 0, 0, 0, 0, 0, 0, 0, 0, 0x80], [], false⟩ } } } }, by decide⟩
  · exact ⟨[], none, ⟨[1, 0, 0, 1], [], false⟩, _, _, { State.reset with dev := { Dev.reset with sec := { Sec.reset with bne := { Bne.reset with state := 1, run := some ⟨[1, 0, 0, 1], [], false⟩ } } } }, rfl, rfl, by decide, by decide, hbmRead_ok (by decide)⟩
  · exact ⟨false, ⟨[2, 0, 0, 1], List.replicate 31 0 ++ [1], false⟩, _, { State.reset with dev := { Dev.reset with sec := { Sec.reset with bne := { Bne.reset with state := 2, run := some ⟨[2, 0, 0, 1], List.replicate 31 0 ++ [1], false⟩ } } } }, rfl, rfl, rfl, rfl, rfl⟩
  · exact ⟨{ State.reset with dev := { Dev.reset with sec := { Sec.reset with bne := { Bne.reset with state := 4, run := some ⟨[], [], false⟩ } } } }, by decide⟩

theorem witness_LocalStoreCommandsComplete :
    ((fun (g : CoreId) (row : Nat) (t : List Nat) => Admits (fun (d : Dev) => (d.core g.val).rewrite = row :: t)) 5 7
        []) ∧
    ((fun (g : CoreId) (up : List Upset) => Admits (fun (d : Dev) => (d.core g.val).segState = 0)) 5 []) ∧
    ((fun (g : CoreId) (up : List Upset) (row : Nat) => Admits (fun (d : Dev) => ((d.core g.val).strike up).scrubNext
            (((d.core g.val).strike up).scrubRow % 65536) = some row)) 5 [] 0) ∧
    ((fun (g : CoreId) (w : BitVec 22) (a : Agent) (up : List Upset) => Admits (fun (d : Dev) =>
            (d.updCore g.val fun c => c.strike up).narrowFault g.val w.toNat a = none ∧
            (((d.core g.val).strike up).sideRead [w.toNat]).2 = none)) 5 3 (.fn 0) []) ∧
    ((fun (g : CoreId) (w : BitVec 22) (a : Agent) (up : List Upset) (code : Nat) => Admits
          (fun (d : Dev) => (d.updCore g.val fun c => c.strike up).narrowFault g.val w.toNat a = some code)) 5 3
        (.fn 0) [] 0x0502) ∧
    (∃ (g : CoreId) (w : BitVec 22) (v : BitVec 64) (mask : BitVec 8) (a : Agent) (up : List Upset) (x : Core), Admits
        (fun (d : Dev) => (d.updCore g.val fun c => c.strike up).narrowFault g.val w.toNat a = none ∧
          ((d.core g.val).strike up).sideWrite [(w.toNat, BitVec.ofNat 36
              (mergeSlot (((d.core g.val).strike up).word w.toNat).toNat v.toNat mask.toNat))] = (x, none))) ∧
    ((fun (g : CoreId) (w : BitVec 22) (v : BitVec 64) (mask : BitVec 8) (a : Agent) (up : List Upset) (code : Nat) =>
          Admits (fun (d : Dev) => (d.updCore g.val fun c => c.strike up).narrowFault g.val w.toNat a = some code)) 5
        3 1 0xFF (.fn 0) [] 0x0502) ∧
    (∃ (g : CoreId) (x : Nat × Nat), Admits (fun (d : Dev) => nextPort
          (Tab.get 8 (d.mem.xchOf (g.val / 8)).served (d.port g.val)) (d.contenders g.val) = some x ∧
          ((((d.core x.1).egress.takeWhile fun y => decide (y.1 = g.val % 8)).take 56).find? fun y => !d.accepts x.1
            g.val y.2.1) = none)) := by
  refine ⟨?_, ?_, ?_, ?_, ?_, ?_, ?_, ?_⟩
  · exact ⟨{ State.reset with dev := { Dev.reset with cores := [(5, { Core.reset with rewrite := [7] })] } }, by decide⟩
  · exact ⟨{ State.reset with dev := Dev.reset }, by decide⟩
  · exact ⟨{ State.reset with dev := { Dev.reset with cores := [(5, { Core.reset with segState := 1 })] } }, by decide⟩
  · exact ⟨{ State.reset with dev := { Dev.reset with cores := [(5, { Core.reset with segState := 1, job := some 0 })], jobs := [aJob .running] } }, by decide⟩
  · exact ⟨{ State.reset with dev := Dev.reset }, by decide⟩
  · exact ⟨5, 3, 1, 0xFF, .fn 0, [], _, { State.reset with dev := { Dev.reset with cores := [(5, { Core.reset with segState := 1, job := some 0 })], jobs := [aJob .running] } }, by decide, rfl⟩
  · exact ⟨{ State.reset with dev := Dev.reset }, by decide⟩
  · exact ⟨0, (1, 1), { State.reset with dev := { Dev.reset with cores := [(0, { Core.reset with job := some 0, rings := [(0, aRing 2)] }), (1, { Core.reset with job := some 0, egress := [(0, 64, 5)] })] } }, by decide⟩

theorem witness_KeyStreamCommandsComplete :
    ((fun (die : DieId) (n : GroupId) (a : Agent) (v : BitVec 64) (w : Nat) => Admits (fun (d : Dev) => w = withBit
            v.toNat 0 true ∧ bit w 1 = false ∧ d.expert a = true ∧ (d.group die.val n.val).busy = false)) 1 3
        .firmware 0x140000FF01 0x140000FF01) ∧
    ((fun (die : DieId) (n : GroupId) (a : Agent) (v : BitVec 64) (w : Nat) => Admits
          (fun (d : Dev) => w = withBit v.toNat 1 true ∧ bit w 0 = false ∧ d.expert a = true)) 1 3 .firmware
        0x140000FF02 0x140000FF02) ∧
    ((fun (die : DieId) (n : GroupId) (a : Agent) (v : BitVec 64) (w f : Nat) => Admits
          (fun (d : Dev) => w = withBit v.toNat 1 true ∧ bit w 0 = false ∧ d.expert a = false ∧ d.agentFn a = some f))
        1 3 (.fn 5) 0x140000FF02 0x140000FF02 5) ∧
    (∃ (die : DieId) (n : GroupId) (e : Dev), Admits (fun (d : Dev) => (d.group die.val n.val).state = 2 ∧
          (d.group die.val n.val).header = none ∧ d.keyRead (.group die.val n.val) true (d.group die.val n.val).addr
          (d.group die.val n.val).addr 256 = (e, some none))) ∧
    (∃ (die : DieId) (n : GroupId) (e : Dev) (f : Nat × Nat), Admits (fun (d : Dev) => (d.group die.val n.val).state =
          2 ∧ (d.group die.val n.val).header = none ∧ d.keyRead (.group die.val n.val) true
          (d.group die.val n.val).addr (d.group die.val n.val).addr 256 = (e, some (some f)))) ∧
    ((fun (die : DieId) (n : GroupId) (k : Fin 64) (hb : List Byte) => Admits
          (fun (d : Dev) => (d.group die.val n.val).header = some hb)) 1 3 5 []) ∧
    (∃ (g : CoreId) (slot : Fin 4) (b : Binding) (o : OpSlot) (y : List Byte), Admits (fun (d : Dev) =>
          ((d.core g.val).binds.filter fun b => decide (b.slot = slot.val) && b.attached && b.header.isSome &&
            b.expected.isNone) = [b] ∧ (d.core g.val).opOn b = some o ∧ b.header = some y ∧ (keyHdr y).sizeWrong
          (d.psetOf g.val o.psetId) (b.elementOf (some o)) = none ∧ keyTag o.keysetId o.psetId
          (expectedKind o b (keyHdr y).logN).1 (keyHdr y).lo (keyHdr y).hi (expectedKind o b (keyHdr y).logN).2 =
          (keyHdr y).tag ∧ (keyHdr y).lo ≤ o.level ∧ o.level ≤ (keyHdr y).hi ∧ o.level = b.level ∧
          (keyHdr y).seedWrong = none)) ∧
    (∃ (die : DieId) (n : GroupId) (hb : List Byte) (i : Nat) (e : Dev), Admits (fun (d : Dev) =>
          (d.group die.val n.val).header = some hb ∧ (d.group die.val n.val).state = 2 ∧ d.headersLanded die.val n.val
          = true ∧ (d.group die.val n.val).next < (keyHdr hb).rows (d.group die.val n.val).level ∧
          (keyHdr hb).dueChunk (d.group die.val n.val).level (d.group die.val n.val).next
          (d.group die.val n.val).chunkNo = some i ∧ d.keyRead (.group die.val n.val)
          (decide ((keyHdr hb).chunkBytes i < 512)) (d.group die.val n.val).addr
          (chunkAddr (d.group die.val n.val).addr i) ((keyHdr hb).chunkBytes i) = (e, some none) ∧
          (keyHdr hb).headWrong i (e.mem.bytes (chunkAddr (d.group die.val n.val).addr i) 64) = none ∧
          (keyHdr hb).allPassed (d.group die.val n.val).level (i + 1) = false)) ∧
    (∃ (die : DieId) (n : GroupId) (hb : List Byte) (i : Nat) (e : Dev), Admits (fun (d : Dev) =>
          (d.group die.val n.val).header = some hb ∧ (d.group die.val n.val).state = 2 ∧ d.headersLanded die.val n.val
          = true ∧ (d.group die.val n.val).next < (keyHdr hb).rows (d.group die.val n.val).level ∧
          (keyHdr hb).dueChunk (d.group die.val n.val).level (d.group die.val n.val).next
          (d.group die.val n.val).chunkNo = some i ∧ d.keyRead (.group die.val n.val)
          (decide ((keyHdr hb).chunkBytes i < 512)) (d.group die.val n.val).addr
          (chunkAddr (d.group die.val n.val).addr i) ((keyHdr hb).chunkBytes i) = (e, some none) ∧
          (keyHdr hb).headWrong i (e.mem.bytes (chunkAddr (d.group die.val n.val).addr i) 64) = none ∧
          (keyHdr hb).allPassed (d.group die.val n.val).level (i + 1) = true)) ∧
    (∃ (die : DieId) (n : GroupId) (hb : List Byte) (i : Nat) (e : Dev) (detail : Nat), Admits
        (fun (d : Dev) => (d.group die.val n.val).header = some hb ∧ (d.group die.val n.val).state = 2 ∧
          d.headersLanded die.val n.val = true ∧ (d.group die.val n.val).next < (keyHdr hb).rows
          (d.group die.val n.val).level ∧ (keyHdr hb).dueChunk (d.group die.val n.val).level
          (d.group die.val n.val).next (d.group die.val n.val).chunkNo = some i ∧ d.keyRead (.group die.val n.val)
          (decide ((keyHdr hb).chunkBytes i < 512)) (d.group die.val n.val).addr
          (chunkAddr (d.group die.val n.val).addr i) ((keyHdr hb).chunkBytes i) = (e, some none) ∧
          (keyHdr hb).headWrong i (e.mem.bytes (chunkAddr (d.group die.val n.val).addr i) 64) = some detail)) ∧
    (∃ (die : DieId) (n : GroupId) (hb bytes : List Byte) (at' : Nat × Nat), Admits (fun (d : Dev) =>
          (d.group die.val n.val).header = some hb ∧ (d.group die.val n.val).state = 2 ∧ d.headersLanded die.val n.val
          = true ∧ (d.group die.val n.val).next < (keyHdr hb).rows (d.group die.val n.val).level ∧
          (keyHdr hb).dueChunk (d.group die.val n.val).level (d.group die.val n.val).next
          (d.group die.val n.val).chunkNo = none ∧ (bitsOf 8 (d.group die.val n.val).active).all
          (fun m => d.credit die.val n.val m) = true ∧ at' = (keyHdr hb).span (d.group die.val n.val).level
          (d.group die.val n.val).addr (d.group die.val n.val).next ∧ bytes = (keyHdr hb).join
          (d.group die.val n.val).level (d.group die.val n.val).next (d.mem.bytes at'.1 at'.2))) ∧
    ((fun (die : DieId) (n : GroupId) (m : Fin 8) (a : Nat × Nat) => Admits (fun (d : Dev) =>
            (d.group die.val n.val).memberNow m.val = true ∧ (d.group die.val n.val).stalled.find?
            (fun p => decide (p.1 = m.val)) = some a ∧ a.2 + (d.group die.val n.val).stallCounts ≤ d.aon die.val)) 1 3
        2 (2, 0)) ∧
    (∃ (die : DieId) (n : GroupId) (k : Fin 64) (b : Binding) (e : Dev), Admits (fun (d : Dev) =>
          (d.core (64 * die.val + k.val)).binds.find? (fun b => decide (b.group = n.val) && b.catchup.isSome &&
            b.bad.isNone && !b.ended) = some b ∧ Tab.get false d.pwr.relock ((64 * die.val + k.val) / 8) = false ∧
          b.header = none ∧ d.keyRead (.catchup (64 * die.val + k.val) b.sreg) true b.addr b.addr 256 = (e, some none))) ∧
    (∃ (die : DieId) (n : GroupId) (k : Fin 64) (b : Binding) (hb : List Byte) (i : Nat) (e : Dev), Admits
        (fun (d : Dev) => (d.core (64 * die.val + k.val)).binds.find? (fun b => decide (b.group = n.val) &&
            b.catchup.isSome && b.bad.isNone && !b.ended) = some b ∧ Tab.get false d.pwr.relock
          ((64 * die.val + k.val) / 8) = false ∧ b.header = some hb ∧ b.recheck.or (((keyHdr hb).nextRow b.level
              (k.val % 8) b.pos (2 * (keyHdr hb).digits * (keyHdr hb).digitLimbs b.level + 2)).bind fun row =>
            (keyHdr hb).dueChunk b.level row (b.catchup.getD 0)) = some i ∧ d.keyRead
          (.catchup (64 * die.val + k.val) b.sreg) false b.addr (chunkAddr b.addr i) 64 = (e, some none) ∧
          (keyHdr hb).headWrong i (e.mem.bytes (chunkAddr b.addr i) 64) = none)) ∧
    (∃ (die : DieId) (n : GroupId) (k : Fin 64) (b : Binding) (hb : List Byte), Admits (fun (d : Dev) =>
          (d.core (64 * die.val + k.val)).binds.find? (fun b => decide (b.group = n.val) && b.catchup.isSome &&
            b.bad.isNone && !b.ended) = some b ∧ Tab.get false d.pwr.relock ((64 * die.val + k.val) / 8) = false ∧
          b.header = some hb ∧ b.recheck.or (((keyHdr hb).nextRow b.level (k.val % 8) b.pos
              (2 * (keyHdr hb).digits * (keyHdr hb).digitLimbs b.level + 2)).bind fun row => (keyHdr hb).dueChunk
            b.level row (b.catchup.getD 0)) = none ∧ (keyHdr hb).nextRow b.level (k.val % 8) b.pos
          (2 * (keyHdr hb).digits * (keyHdr hb).digitLimbs b.level + 2) = none)) ∧
    (∃ (die : DieId) (n : GroupId) (k : Fin 64) (b : Binding) (hb : List Byte) (row : Nat) (e : Dev), Admits
        (fun (d : Dev) => (d.core (64 * die.val + k.val)).binds.find? (fun b => decide (b.group = n.val) &&
            b.catchup.isSome && b.bad.isNone && !b.ended) = some b ∧ Tab.get false d.pwr.relock
          ((64 * die.val + k.val) / 8) = false ∧ b.header = some hb ∧ b.recheck.or (((keyHdr hb).nextRow b.level
              (k.val % 8) b.pos (2 * (keyHdr hb).digits * (keyHdr hb).digitLimbs b.level + 2)).bind fun row =>
            (keyHdr hb).dueChunk b.level row (b.catchup.getD 0)) = none ∧ (keyHdr hb).nextRow b.level (k.val % 8)
          b.pos (2 * (keyHdr hb).digits * (keyHdr hb).digitLimbs b.level + 2) = some row ∧ d.keyRead
          (.catchup (64 * die.val + k.val) b.sreg) false b.addr ((keyHdr hb).span b.level b.addr row).1
          ((keyHdr hb).span b.level b.addr row).2 = (e, some none) ∧ (keyHdr hb).nextRow b.level (k.val % 8) (row + 1)
          (2 * (keyHdr hb).digits * (keyHdr hb).digitLimbs b.level + 2) ≠ none ∧ b.seen ≤ row ∧
          (d.core (64 * die.val + k.val)).canTake b = true)) ∧
    (∃ (die : DieId) (n : GroupId) (k : Fin 64) (b : Binding) (hb : List Byte) (row : Nat) (e : Dev), Admits
        (fun (d : Dev) => (d.core (64 * die.val + k.val)).binds.find? (fun b => decide (b.group = n.val) &&
            b.catchup.isSome && b.bad.isNone && !b.ended) = some b ∧ Tab.get false d.pwr.relock
          ((64 * die.val + k.val) / 8) = false ∧ b.header = some hb ∧ b.recheck.or (((keyHdr hb).nextRow b.level
              (k.val % 8) b.pos (2 * (keyHdr hb).digits * (keyHdr hb).digitLimbs b.level + 2)).bind fun row =>
            (keyHdr hb).dueChunk b.level row (b.catchup.getD 0)) = none ∧ (keyHdr hb).nextRow b.level (k.val % 8)
          b.pos (2 * (keyHdr hb).digits * (keyHdr hb).digitLimbs b.level + 2) = some row ∧ d.keyRead
          (.catchup (64 * die.val + k.val) b.sreg) false b.addr ((keyHdr hb).span b.level b.addr row).1
          ((keyHdr hb).span b.level b.addr row).2 = (e, some none) ∧ (keyHdr hb).nextRow b.level (k.val % 8) (row + 1)
          (2 * (keyHdr hb).digits * (keyHdr hb).digitLimbs b.level + 2) ≠ none ∧ row < b.seen)) ∧
    ((fun (die : DieId) (n : GroupId) (hb : List Byte) => Admits (fun (d : Dev) => (d.group die.val n.val).header =
            some hb ∧ (d.group die.val n.val).state = 2 ∧ (keyHdr hb).rows (d.group die.val n.val).level ≤
            (d.group die.val n.val).next)) 1 3 []) := by
  refine ⟨?_, ?_, ?_, ?_, ?_, ?_, ?_, ?_, ?_, ?_, ?_, ?_, ?_, ?_, ?_, ?_, ?_, ?_⟩
  · exact ⟨{ State.reset with dev := Dev.reset }, by decide⟩
  · exact ⟨{ State.reset with dev := Dev.reset }, by decide⟩
  · exact ⟨{ State.reset with dev := Dev.reset }, by decide⟩
  · exact ⟨0, 0, _, { State.reset with dev := { Dev.reset with groups := [(0, { Group.reset with state := 2, addr := 0 })], mem := { Mem.reset with parts := [(0, { Part.reset with valid := true, base := 0, size := 1 })] } } }, rfl, rfl, Prod.ext rfl (by decide +kernel)⟩
  · exact ⟨0, 0, _, (0x0501, 64), { State.reset with dev := { Dev.reset with groups := [(0, { Group.reset with state := 2, addr := 0 })], mem := { Mem.reset with parts := [(0, { Part.reset with valid := true, base := 0, size := 1 })], ue := [64] } } }, rfl, rfl, Prod.ext rfl (by decide +kernel)⟩
  · exact ⟨{ State.reset with dev := { Dev.reset with groups := [(35, { Group.reset with header := some [] })] } }, by decide⟩
  · exact ⟨0, 0, aBind (some (aKey 12 [57, 56, 171, 152, 77, 39, 59, 46])) none 0, anOp, aKey 12 [57, 56, 171, 152, 77, 39, 59, 46], { State.reset with dev := { Dev.reset with jobs := [{ coreJob0 with psets := [aPSet] }], cores := [(0, { Core.reset with job := some 0, ops := [(0, anOp)], binds := [aBind (some (aKey 12 [57, 56, 171, 152, 77, 39, 59, 46])) none 0] })] } }, rfl, rfl, rfl, by decide, by decide +kernel, by decide, by decide, rfl, by decide⟩
  · set_option maxRecDepth 40000 in exact ⟨0, 0, (aKey 17 [0, 0, 0, 0, 0, 0, 0, 0]), 0, _, { State.reset with dev := { Dev.reset with groups := [(0, { Group.reset with state := 2, header := some (aKey 17 [0, 0, 0, 0, 0, 0, 0, 0]) })], mem := { Mem.reset with parts := [(0, { Part.reset with valid := true, base := 0, size := 1 })], hbm := [(4096, 10), (4097, 192), (4098, 215), (4099, 25), (4100, 21), (4101, 170), (4102, 199), (4103, 255)] } } }, rfl, rfl, by decide, by decide, by decide, Prod.ext rfl (by decide +kernel), by decide +kernel, by decide⟩
  · set_option maxRecDepth 40000 in exact ⟨0, 0, (aKey 12 [0, 0, 0, 0, 0, 0, 0, 0]), 0, _, { State.reset with dev := { Dev.reset with groups := [(0, { Group.reset with state := 2, header := some (aKey 12 [0, 0, 0, 0, 0, 0, 0, 0]) })], mem := { Mem.reset with parts := [(0, { Part.reset with valid := true, base := 0, size := 1 })], hbm := [(4096, 10), (4097, 192), (4098, 215), (4099, 25), (4100, 21), (4101, 170), (4102, 199), (4103, 255)] } } }, rfl, rfl, by decide, by decide, by decide, Prod.ext rfl (by decide +kernel), by decide +kernel, by decide⟩
  · set_option maxRecDepth 40000 in exact ⟨0, 0, (aKey 12 [0, 0, 0, 0, 0, 0, 0, 0]), 0, _, 0, { State.reset with dev := { Dev.reset with groups := [(0, { Group.reset with state := 2, header := some (aKey 12 [0, 0, 0, 0, 0, 0, 0, 0]) })], mem := { Mem.reset with parts := [(0, { Part.reset with valid := true, base := 0, size := 1 })], hbm := [] } } }, rfl, rfl, by decide, by decide, by decide, Prod.ext rfl (by decide +kernel), by decide +kernel⟩
  · exact ⟨0, 0, (aKey 12 [0, 0, 0, 0, 0, 0, 0, 0]), _, _, { State.reset with dev := { Dev.reset with groups := [(0, { Group.reset with state := 2, header := some (aKey 12 [0, 0, 0, 0, 0, 0, 0, 0]), chunkNo := 1 })], mem := { Mem.reset with parts := [(0, { Part.reset with valid := true, base := 0, size := 1 })], hbm := [] } } }, rfl, rfl, by decide, by decide, by decide, by decide, rfl, rfl⟩
  · exact ⟨{ State.reset with dev := { Dev.reset with aon1 := 10000000000, groups := [(35, { Group.reset with state := 1, members := 4, stalled := [(2, 0)] })] } }, by decide⟩
  · exact ⟨0, 0, 0, aBind none (some 0) 0, _, { State.reset with dev := { Dev.reset with mem := { Mem.reset with parts := [(0, { Part.reset with valid := true, base := 0, size := 1 })], hbm := [] }, cores := [(0, { Core.reset with rings := [(0, aRing 0)], binds := [aBind none (some 0) 0] })] } }, rfl, rfl, rfl, Prod.ext rfl (by decide +kernel)⟩
  · exact ⟨0, 0, 0, (aBind (some (aKey 12 [0, 0, 0, 0, 0, 0, 0, 0])) (some 0) 0), (aKey 12 [0, 0, 0, 0, 0, 0, 0, 0]), 0, _, { State.reset with dev := { Dev.reset with mem := { Mem.reset with parts := [(0, { Part.reset with valid := true, base := 0, size := 1 })], hbm := [(4096, 10), (4097, 192), (4098, 215), (4099, 25), (4100, 21), (4101, 170), (4102, 199), (4103, 255)] }, cores := [(0, { Core.reset with rings := [(0, aRing 0)], binds := [(aBind (some (aKey 12 [0, 0, 0, 0, 0, 0, 0, 0])) (some 0) 0)] })] } }, rfl, rfl, rfl, by decide, Prod.ext rfl (by decide +kernel), by decide +kernel⟩
  · exact ⟨0, 0, 0, (aBind (some (aKey 12 [0, 0, 0, 0, 0, 0, 0, 0])) (some 1) 128), (aKey 12 [0, 0, 0, 0, 0, 0, 0, 0]), { State.reset with dev := { Dev.reset with mem := { Mem.reset with parts := [(0, { Part.reset with valid := true, base := 0, size := 1 })], hbm := [] }, cores := [(0, { Core.reset with rings := [(0, aRing 0)], binds := [(aBind (some (aKey 12 [0, 0, 0, 0, 0, 0, 0, 0])) (some 1) 128)] })] } }, rfl, rfl, rfl, by decide, by decide⟩
  · exact ⟨0, 0, 0, (aBind (some (aKey 12 [0, 0, 0, 0, 0, 0, 0, 0])) (some 1) 0), (aKey 12 [0, 0, 0, 0, 0, 0, 0, 0]), 0, _, { State.reset with dev := { Dev.reset with mem := { Mem.reset with parts := [(0, { Part.reset with valid := true, base := 0, size := 1 })], hbm := [] }, cores := [(0, { Core.reset with rings := [(0, aRing 0)], binds := [(aBind (some (aKey 12 [0, 0, 0, 0, 0, 0, 0, 0])) (some 1) 0)] })] } }, rfl, rfl, rfl, by decide, by decide, Prod.ext rfl (by decide +kernel), by decide, by decide, by decide⟩
  · exact ⟨0, 0, 0, { (aBind (some (aKey 12 [0, 0, 0, 0, 0, 0, 0, 0])) (some 1) 0) with seen := 1 }, (aKey 12 [0, 0, 0, 0, 0, 0, 0, 0]), 0, _, { State.reset with dev := { Dev.reset with mem := { Mem.reset with parts := [(0, { Part.reset with valid := true, base := 0, size := 1 })], hbm := [] }, cores := [(0, { Core.reset with rings := [(0, aRing 0)], binds := [{ (aBind (some (aKey 12 [0, 0, 0, 0, 0, 0, 0, 0])) (some 1) 0) with seen := 1 }] })] } }, rfl, rfl, rfl, by decide, by decide, Prod.ext rfl (by decide +kernel), by decide, by decide⟩
  · exact ⟨{ State.reset with dev := { Dev.reset with groups := [(35, { Group.reset with state := 2, header := some [] })] } }, by decide⟩

theorem witness_StreamRecordCommandsComplete :
    ((fun (g : CoreId) (who : Nat) (s : Nat × Nat) => Admits (fun (d : Dev) => (d.core g.val).sigq.find?
            (fun s => decide (s.2 = who)) = some s)) 0 3 (7, 3)) ∧
    ((fun (g : CoreId) (e : EngId) (q : StrCmd) => Admits (fun (d : Dev) => Tab.get false d.pwr.relock (g.val / 8) =
            false ∧ (d.core g.val).nextRecord e.val 1 = some q)) 0 0 ⟨[1], 0, 0⟩) ∧
    ((fun (g : CoreId) (e : EngId) (q : StrCmd) => Admits (fun (d : Dev) => Tab.get false d.pwr.relock (g.val / 8) =
            false ∧ (d.core g.val).nextRecord e.val 2 = some q ∧ (d.core g.val).postBad (fld (q.words.getD 1 0) 0 16)
            (fld (q.words.getD 2 0) 0 17) (fld (q.words.getD 3 0) 0 4) = false)) 0 0 ⟨[2, 0, 1, 0], 0, 0⟩) ∧
    ((fun (g : CoreId) (e : EngId) (q : StrCmd) (y : Ring) => Admits (fun (d : Dev) => Tab.get false d.pwr.relock
            (g.val / 8) = false ∧ (d.core g.val).nextRecord e.val 3 = some q ∧ d.mem.partFor
            (match d.coreJob g.val with | some j => j.partMask | none => 0)
            (d.group (g.val / 64) (fld (q.words.getD 1 0) 0 5)).addr 4096 ≠ none ∧ bit
            (d.group (g.val / 64) (fld (q.words.getD 1 0) 0 5)).members (g.val / 8 % 8) = true ∧
            ((d.group (g.val / 64) (fld (q.words.getD 1 0) 0 5)).state = 1 ∨
              (d.group (g.val / 64) (fld (q.words.getD 1 0) 0 5)).state = 2) ∧ (d.core g.val).ring?
            (fld (q.words.getD 1 0) 10 4) = some y ∧ y.typ = 0 ∧ y.eng = e.val ∧ y.rel = false ∧
            ((d.core g.val).binds.any fun b => decide (b.sreg = fld (q.words.getD 1 0) 7 3) ||
              (decide (b.slot = fld (q.words.getD 1 0) 5 2) && decide (b.element = fld (q.words.getD 1 0) 14 4))) =
            false ∧ ((d.core g.val).ops.find? (fun p => decide (p.1 = fld (q.words.getD 1 0) 5 2))).all
            (fun p => consumes p.2.opcode (p.2.elements - 1) (fld (q.words.getD 1 0) 14 4)) = true)) 0 0
        ⟨[3, 0], 0, 0⟩ (aRing 0)) ∧
    ((fun (g : CoreId) (e : EngId) (q : StrCmd) => Admits (fun (d : Dev) => Tab.get false d.pwr.relock (g.val / 8) =
            false ∧ (d.core g.val).nextRecord e.val 4 = some q)) 0 0 ⟨[4], 0, 0⟩) ∧
    ((fun (g : CoreId) (e : EngId) (q : StrCmd) (y : Ring) => Admits (fun (d : Dev) => Tab.get false d.pwr.relock
            (g.val / 8) = false ∧ (d.core g.val).nextRecord e.val 5 = some q ∧ (d.core g.val).ring?
            (fld (q.words.getD 1 0) 0 4) = some y ∧ y.eng = e.val)) 0 0 ⟨[5, 0], 0, 0⟩ (aRing 0)) ∧
    ((fun (g : CoreId) (e : EngId) (r : Nat) => Admits (fun (d : Dev) => Tab.get false d.pwr.relock (g.val / 8) =
            false ∧ ((d.core g.val).eng e.val).unpost = some r ∧
            (((d.core g.val).eng e.val).xfers.any fun t => t.ring == some r) = false ∧ ((d.core g.val).ring? r).all
            (fun q => !(decide (q.typ = 2) && d.incoming g.val q)) = true)) 0 0 3) ∧
    ((fun (g : CoreId) (e : EngId) (q : StrCmd) (y : Ring) => Admits (fun (d : Dev) => Tab.get false d.pwr.relock
            (g.val / 8) = false ∧ (d.core g.val).nextRecord e.val 6 = some q ∧ (d.core g.val).ring?
            (fld (q.words.getD 1 0) 0 4) = some y ∧ y.eng = e.val ∧ (y.typ = 0 ∨ y.typ = 3))) 0 0 ⟨[6, 0, 1], 0, 0⟩
        (aRing 0)) := by
  refine ⟨?_, ?_, ?_, ?_, ?_, ?_, ?_, ?_⟩
  · exact ⟨{ State.reset with dev := { Dev.reset with cores := [(0, { Core.reset with sigq := [(7, 3)] })] } }, by decide⟩
  · exact ⟨{ State.reset with dev := recDev [1] }, by decide⟩
  · exact ⟨{ State.reset with dev := recDev [2, 0, 1, 0] }, by decide⟩
  · exact ⟨{ State.reset with dev := { Dev.reset with jobs := [coreJob0], groups := [(0, { Group.reset with state := 1, members := 1 })], mem := { Mem.reset with parts := [(0, { Part.reset with valid := true, base := 0, size := 1 })] }, cores := [(0, { Core.reset with job := some 0, rings := [(0, aRing 0)], engs := [(0, { StreamEng.reset with queue := [⟨[3, 0], 0, 0⟩] })] })] } }, by decide⟩
  · exact ⟨{ State.reset with dev := recDev [4] }, by decide⟩
  · exact ⟨{ State.reset with dev := { Dev.reset with cores := [(0, { Core.reset with rings := [(0, aRing 0)], engs := [(0, { StreamEng.reset with queue := [⟨[5, 0], 0, 0⟩] })] })] } }, by decide⟩
  · exact ⟨{ State.reset with dev := engDev { StreamEng.reset with unpost := some 3 } }, by decide⟩
  · exact ⟨{ State.reset with dev := { Dev.reset with cores := [(0, { Core.reset with rings := [(0, aRing 0)], engs := [(0, { StreamEng.reset with queue := [⟨[6, 0, 1], 0, 0⟩] })] })] } }, by decide⟩

theorem witness_StreamInstructionsComplete :
    ((fun (g : CoreId) (e : EngId) (p : Prog) (i : Nat) => Admits (fun (d : Dev) => Tab.get false d.pwr.relock
            (g.val / 8) = false ∧ (d.core g.val).nextInstr e.val 0 = some (p, i))) 0 0 (progOf 0) 0) ∧
    ((fun (g : CoreId) (e : EngId) (p : Prog) (i : Nat) => Admits (fun (d : Dev) => Tab.get false d.pwr.relock
            (g.val / 8) = false ∧ (d.core g.val).nextInstr e.val 1 = some (p, i))) 0 0 (progOf 1) 1) ∧
    ((fun (g : CoreId) (e : EngId) (p : Prog) (i : Nat) => Admits (fun (d : Dev) => Tab.get false d.pwr.relock
            (g.val / 8) = false ∧ (d.core g.val).nextInstr e.val 2 = some (p, i))) 0 0 (progOf 2) 2) ∧
    ((fun (g : CoreId) (e : EngId) (p : Prog) (i : Nat) => Admits (fun (d : Dev) => Tab.get false d.pwr.relock
            (g.val / 8) = false ∧ (d.core g.val).nextInstr e.val 3 = some (p, i))) 0 0 (progOf 3) 3) ∧
    ((fun (g : CoreId) (e : EngId) (p : Prog) (i : Nat) => Admits (fun (d : Dev) => Tab.get false d.pwr.relock
            (g.val / 8) = false ∧ (d.core g.val).nextInstr e.val 4 = some (p, i))) 0 0 (progOf 4) 4) ∧
    ((fun (g : CoreId) (e : EngId) (p : Prog) (i : Nat) => Admits (fun (d : Dev) => Tab.get false d.pwr.relock
            (g.val / 8) = false ∧ (d.core g.val).nextInstr e.val 5 = some (p, i))) 0 0 (progOf 5) 5) ∧
    ((fun (g : CoreId) (e : EngId) (p : Prog) (i : Nat) => Admits (fun (d : Dev) => Tab.get false d.pwr.relock
            (g.val / 8) = false ∧ (d.core g.val).nextInstr e.val 6 = some (p, i) ∧ d.xferFault g.val e.val p
            (transferOf p i ((d.core g.val).eng e.val).nextId) = none)) 0 0 (progOf 6) 6) ∧
    ((fun (g : CoreId) (e : EngId) (p : Prog) (i : Nat) => Admits (fun (d : Dev) => Tab.get false d.pwr.relock
            (g.val / 8) = false ∧ (d.core g.val).nextInstr e.val 7 = some (p, i) ∧ d.xferFault g.val e.val p
            (transferOf p i ((d.core g.val).eng e.val).nextId) = none)) 0 0 (progOf 7) 7) ∧
    ((fun (g : CoreId) (e : EngId) (p : Prog) (i : Nat) => Admits (fun (d : Dev) => Tab.get false d.pwr.relock
            (g.val / 8) = false ∧ (d.core g.val).nextInstr e.val 8 = some (p, i) ∧ d.xferFault g.val e.val p
            (transferOf p i ((d.core g.val).eng e.val).nextId) = none)) 0 0 (progOf 8) 8) ∧
    ((fun (g : CoreId) (e : EngId) (p : Prog) (i : Nat) => Admits (fun (d : Dev) => Tab.get false d.pwr.relock
            (g.val / 8) = false ∧ (d.core g.val).nextInstr e.val 9 = some (p, i) ∧ d.xferFault g.val e.val p
            (transferOf p i ((d.core g.val).eng e.val).nextId) = none)) 0 0 (progOf 73) 73) ∧
    ((fun (g : CoreId) (e : EngId) (p : Prog) (i : Nat) => Admits (fun (d : Dev) => Tab.get false d.pwr.relock
            (g.val / 8) = false ∧ (d.core g.val).nextInstr e.val 11 = some (p, i) ∧ fld i 32 32 + fld i 18 14 *
            (match p.loops with | (_, _, _, r) :: _ => r | [] => 0) ≤ (d.core g.val).token (fld i 6 12))) 0 0
        (progOf 11) 11) ∧
    ((fun (g : CoreId) (e : EngId) (p : Prog) (i : Nat) => Admits (fun (d : Dev) => Tab.get false d.pwr.relock
            (g.val / 8) = false ∧ (d.core g.val).nextInstr e.val 11 = some (p, i) ∧ (d.core g.val).token (fld i 6 12)
            < fld i 32 32 + fld i 18 14 * (match p.loops with | (_, _, _, r) :: _ => r | [] => 0))) 0 0
        (progOf 0x10000000B) 0x10000000B) ∧
    ((fun (g : CoreId) (e : EngId) (p : Prog) (t : Nat × Nat) => Admits (fun (d : Dev) => Tab.get false d.pwr.relock
            (g.val / 8) = false ∧ ((d.core g.val).eng e.val).waitTok = some t ∧ ((d.core g.val).eng e.val).prog = some
            p ∧ ((d.core g.val).eng e.val).draining = false ∧ t.2 ≤ (d.core g.val).token t.1)) 0 0 (progOf 11) (3, 0)) ∧
    ((fun (g : CoreId) (e : EngId) (p : Prog) (i : Nat) => Admits (fun (d : Dev) => Tab.get false d.pwr.relock
            (g.val / 8) = false ∧ (d.core g.val).nextInstr e.val 12 = some (p, i))) 0 0 (progOf 12) 12) ∧
    ((fun (g : CoreId) (e : EngId) (s : Nat × Nat × Nat) (id : Nat) => Admits (fun (d : Dev) => Tab.get false
            d.pwr.relock (g.val / 8) = false ∧ ((d.core g.val).eng e.val).sigs.find?
            (fun s => ((d.core g.val).eng e.val).doneBefore s.2.1) = some s ∧ (d.core g.val).job = some id)) 0 0
        (5, 0, 1) 0) ∧
    ((fun (g : CoreId) (e : EngId) (p : Prog) (i : Nat) => Admits (fun (d : Dev) => Tab.get false d.pwr.relock
            (g.val / 8) = false ∧ (d.core g.val).nextInstr e.val 13 = some (p, i) ∧ ((d.core g.val).eng e.val).xfers =
            [])) 0 0 (progOf 13) 13) ∧
    ((fun (g : CoreId) (e : EngId) (p : Prog) (i : Nat) => Admits (fun (d : Dev) => Tab.get false d.pwr.relock
            (g.val / 8) = false ∧ (d.core g.val).nextInstr e.val 13 = some (p, i) ∧ ((d.core g.val).eng e.val).xfers ≠
            [])) 0 0 (progOf 13) 13) ∧
    ((fun (g : CoreId) (e : EngId) (p : Prog) (n : Nat) => Admits (fun (d : Dev) => Tab.get false d.pwr.relock
            (g.val / 8) = false ∧ ((d.core g.val).eng e.val).fence = some n ∧ ((d.core g.val).eng e.val).prog = some p
            ∧ ((d.core g.val).eng e.val).draining = false ∧ ((d.core g.val).eng e.val).doneBefore n = true)) 0 0
        (progOf 13) 0) ∧
    ((fun (g : CoreId) (r : RingId) (up : List Upset) (q : Ring) (e : Nat) (t : Transfer) (ws : List Word) => Admits
          (fun (d : Dev) => Tab.get false d.pwr.relock (g.val / 8) = false ∧
            ((d.updCore g.val fun c => (c.strike up).release).core g.val).ring? r.val = some q ∧
            ((d.updCore g.val fun c => (c.strike up).release).core g.val).ringXfer r.val = some (e, t) ∧ q.typ = 0 ∧
            q.state q.land = .free ∧ t.done < t.requested ∧ (d.updCore g.val fun c => (c.strike up).release).rowWaits
            t = false ∧ ((d.updCore g.val fun c => (c.strike up).release).fetchRow g.val e t 0).2 = some ws)) 0 0 []
        (aRing 0) 0 (aXfer 8 (some 0)) (List.replicate 64 0)) := by
  refine ⟨?_, ?_, ?_, ?_, ?_, ?_, ?_, ?_, ?_, ?_, ?_, ?_, ?_, ?_, ?_, ?_, ?_, ?_, ?_⟩
  · exact ⟨{ State.reset with dev := progDev 0 }, by decide⟩
  · exact ⟨{ State.reset with dev := progDev 1 }, by decide⟩
  · exact ⟨{ State.reset with dev := progDev 2 }, by decide⟩
  · exact ⟨{ State.reset with dev := progDev 3 }, by decide⟩
  · exact ⟨{ State.reset with dev := progDev 4 }, by decide⟩
  · exact ⟨{ State.reset with dev := progDev 5 }, by decide⟩
  · exact ⟨{ State.reset with dev := progDev 6 }, by decide⟩
  · exact ⟨{ State.reset with dev := progDev 7 }, by decide⟩
  · exact ⟨{ State.reset with dev := progDev 8 }, by decide⟩
  · exact ⟨{ State.reset with dev := progDev 73 }, by decide⟩
  · exact ⟨{ State.reset with dev := progDev 11 }, by decide⟩
  · exact ⟨{ State.reset with dev := progDev 0x10000000B }, by decide⟩
  · exact ⟨{ State.reset with dev := engDev { StreamEng.reset with prog := some (progOf 11), waitTok := some (3, 0) } }, by decide⟩
  · exact ⟨{ State.reset with dev := progDev 12 }, by decide⟩
  · exact ⟨{ State.reset with dev := engDev { StreamEng.reset with sigs := [(5, 0, 1)] } }, by decide⟩
  · exact ⟨{ State.reset with dev := progDev 13 }, by decide⟩
  · exact ⟨{ State.reset with dev := engDev { StreamEng.reset with prog := some (progOf 13), xfers := [aXfer 6 none] } }, by decide⟩
  · exact ⟨{ State.reset with dev := engDev { StreamEng.reset with prog := some (progOf 13), fence := some 0 } }, by decide⟩
  · set_option maxRecDepth 4000 in exact ⟨{ State.reset with dev := engDev { StreamEng.reset with xfers := [aXfer 8 (some 0)] } }, by decide⟩

theorem witness_SequencerCommandsComplete :
    (∃ (g : CoreId) (e : Dev) (j : Job) (o : OpSlot), Admits (fun (d : Dev) => d.slotReady g.val 0 1 = (e, true) ∧
          e.coreJob g.val = some j ∧ e.bootOpening g.val j = none ∧ e.openOp g.val j
          (openArgs (sclSlot (e.cxNow g.val).bundle)) none (e.cxNow g.val).cycle ((e.core g.val).seq.order + 15) = .ok
          o)) ∧
    (∃ (g : CoreId) (e : Dev) (j : Job) (boot : Option (Bool × Nat)) (f : Nat × Nat), Admits
        (fun (d : Dev) => d.slotReady g.val 0 1 = (e, true) ∧ e.coreJob g.val = some j ∧ e.bootOpening g.val j = boot
          ∧ e.openOp g.val j (openArgs (sclSlot (e.cxNow g.val).bundle)) boot (e.cxNow g.val).cycle
          ((e.core g.val).seq.order + 15) = .error f)) ∧
    (∃ (g : CoreId) (e : Dev) (p : Nat × OpSlot), Admits (fun (d : Dev) => d.slotReady g.val 0 2 = (e, true) ∧
          (e.core g.val).ops.find? (fun p => decide (p.1 = fld (sclSlot (e.cxNow g.val).bundle) 4 2)) = some p ∧
          (e.core g.val).bootDone p.2 = none)) ∧
    (∃ (g : CoreId) (e : Dev) (p : Nat × OpSlot) (b : Boot), Admits (fun (d : Dev) => d.slotReady g.val 0 2 =
          (e, true) ∧ (e.core g.val).ops.find? (fun p => decide (p.1 = fld (sclSlot (e.cxNow g.val).bundle) 4 2)) =
          some p ∧ (e.core g.val).bootDone p.2 = some b)) ∧
    ((fun (g : CoreId) => Admits (fun (d : Dev) => (d.core g.val).seq.stopNext = 1 ∧ (d.core g.val).pendingSlot = none
            ∧ (d.core g.val).seq.next ≠ none)) 0) ∧
    ((fun (g : CoreId) => Admits (fun (d : Dev) => (d.core g.val).seq.stopNext = 2 ∧ (d.core g.val).seq.freeze.isSome
            = true ∧ (d.core g.val).seq.running.isSome = true)) 0) ∧
    ((fun (g : CoreId) (e : Dev) => Admits (fun (d : Dev) => d.slotReady g.val 0 3 = (e, true))) 0 (bundleDev 196608)) ∧
    ((fun (g : CoreId) (e : Dev) => Admits (fun (d : Dev) => d.slotReady g.val 0 4 = (e, true))) 0 (bundleDev 262144)) ∧
    ((fun (g : CoreId) (e : Dev) => Admits (fun (d : Dev) => d.slotReady g.val 0 5 = (e, true))) 0 (bundleDev 327680)) ∧
    ((fun (g : CoreId) (e : Dev) => Admits (fun (d : Dev) => d.slotReady g.val 9 1 = (e, true))) 0
        (bundleDev 0x10000000000000000000000000000000000000000000000000000000000000000000000000000000000000000000000000000000000000000000000000)) := by
  refine ⟨?_, ?_, ?_, ?_, ?_, ?_, ?_, ?_, ?_, ?_⟩
  · exact ⟨0, _, { coreJob0 with psets := [{ aPSet with fore := false }] }, _, { State.reset with dev := { Dev.reset with jobs := [{ coreJob0 with psets := [{ aPSet with fore := false }] }], cores := [(0, { Core.reset with job := some 0, ls := [(0, 0x0201C7D5), (1, 0x2000001), (6, 1), (7, 0x101), (8, 0x80), (9, 0x80000), (16, 4096)], segState := 255, seq := { Seq.reset with running := some aBlock, code := [0x510000], cur := some 0 } })] } }, ready_of_pending (by decide) (by decide) (by decide), rfl, rfl, rfl⟩
  · exact ⟨0, _, _, none, _, { State.reset with dev := bundleDev 0x10000 }, ready_of_pending (by decide) (by decide) (by decide), rfl, rfl, rfl⟩
  · exact ⟨0, _, (0, anOp), { State.reset with dev := { Dev.reset with jobs := [coreJob0], cores := [(0, { Core.reset with job := some 0, ops := [(0, anOp)], seq := { Seq.reset with running := some aBlock, code := [0x20000], cur := some 0 } })] } }, ready_of_pending (by decide) (by decide) (by decide), rfl, rfl⟩
  · exact ⟨0, _, (0, anOp), ⟨false, 0, 0, 0, 0, 0, []⟩, { State.reset with dev := { Dev.reset with jobs := [coreJob0], cores := [(0, { Core.reset with job := some 0, ops := [(0, anOp)], boot := some ⟨false, 0, 0, 0, 0, 0, []⟩, seq := { Seq.reset with running := some { aBlock with kernel := true, kid := 0x0B06 }, code := [0x20000], cur := some 0 } })] } }, ready_of_pending (by decide) (by decide) (by decide), rfl, rfl⟩
  · exact ⟨{ State.reset with dev := { Dev.reset with cores := [(0, { Core.reset with seq := { Seq.reset with stopNext := 1, next := some 0 } })] } }, by decide⟩
  · exact ⟨{ State.reset with dev := { Dev.reset with cores := [(0, { Core.reset with seq := { Seq.reset with stopNext := 2, freeze := some ⟨0, 0, 0, none, 0⟩, running := some aBlock } })] } }, by decide⟩
  · exact ⟨{ State.reset with dev := bundleDev 196608 }, ready_of_pending (by decide) (by decide) (by decide)⟩
  · exact ⟨{ State.reset with dev := bundleDev 262144 }, ready_of_pending (by decide) (by decide) (by decide)⟩
  · exact ⟨{ State.reset with dev := bundleDev 327680 }, ready_of_pending (by decide) (by decide) (by decide)⟩
  · exact ⟨{ State.reset with dev := bundleDev 0x10000000000000000000000000000000000000000000000000000000000000000000000000000000000000000000000000000000000000000000000000 }, ready_of_pending (by decide) (by decide) (by decide)⟩

theorem witness_EngineCommandsComplete :
    ((fun (g : CoreId) (e : Dev) => Admits (fun (d : Dev) => d.slotReady g.val 1 2 = (e, true))) 0
        (bundleDev 0x2000000000000000000000000000000000000)) ∧
    ((fun (g : CoreId) (e : Dev) => Admits (fun (d : Dev) => d.slotReady g.val 1 3 = (e, true))) 0
        (bundleDev 0x3000000000000000000000000000000000000)) ∧
    ((fun (g : CoreId) (e : Dev) => Admits (fun (d : Dev) => d.slotReady g.val 1 4 = (e, true))) 0
        (bundleDev 0x4000000000000000000000000000000000000)) ∧
    ((fun (g : CoreId) (e : Dev) => Admits (fun (d : Dev) => d.slotReady g.val 2 1 = (e, true))) 0
        (bundleDev 0x800000000000000000000000000000000000000000000000000)) ∧
    ((fun (g : CoreId) (e : Dev) => Admits (fun (d : Dev) => d.slotReady g.val 2 2 = (e, true))) 0
        (bundleDev 0x1000000000000000000000000000000000000000000000000000)) ∧
    ((fun (g : CoreId) (e : Dev) => Admits (fun (d : Dev) => d.slotReady g.val 2 3 = (e, true))) 0
        (bundleDev 0x1800000000000000000000000000000000000000000000000000)) ∧
    ((fun (g : CoreId) (e : Dev) => Admits (fun (d : Dev) => d.slotReady g.val 7 1 = (e, true))) 0
        (bundleDev 0x10000000000000000000000000000000000000000000000000000000000000000000000000000000000000000000)) ∧
    ((fun (g : CoreId) (e : Dev) => Admits (fun (d : Dev) => d.slotReady g.val 7 2 = (e, true))) 0
        (bundleDev 0x20000000000000000000000000000000000000000000000000000000000000000000000000000000000000000000)) ∧
    ((fun (g : CoreId) (e : Dev) => Admits (fun (d : Dev) => d.slotReady g.val 7 3 = (e, true))) 0
        (bundleDev 0x30000000000000000000000000000000000000000000000000000000000000000000000000000000000000000000)) ∧
    ((fun (g : CoreId) (e : Dev) => Admits (fun (d : Dev) => d.slotReady g.val 7 4 = (e, true))) 0
        (bundleDev 0x40000000000000000000000000000000000000000000000000000000000000000000000000000000000000000000)) ∧
    ((fun (g : CoreId) (e : Dev) => Admits (fun (d : Dev) => d.slotReady g.val 7 5 = (e, true))) 0
        (bundleDev 0x50000000000000000000000000000000000000000000000000000000000000000000000000000000000000000000)) ∧
    ((fun (g : CoreId) (e : Dev) => Admits (fun (d : Dev) => d.slotReady g.val 7 6 = (e, true))) 0
        (bundleDev 0x60000000000000000000000000000000000000000000000000000000000000000000000000000000000000000000)) ∧
    ((fun (g : CoreId) (e : Dev) => Admits (fun (d : Dev) => d.slotReady g.val 7 7 = (e, true))) 0
        (bundleDev 0x70000000000000000000000000000000000000000000000000000000000000000000000000000000000000000000)) ∧
    ((fun (g : CoreId) (e : Dev) => Admits (fun (d : Dev) => d.slotReady g.val 8 1 = (e, true))) 0
        (bundleDev 0x10000000000000000000000000000000000000000000000000000000000000000000000000000000000000000000000000000000000)) ∧
    ((fun (g : CoreId) (e : Dev) => Admits (fun (d : Dev) => d.slotReady g.val 8 2 = (e, true))) 0
        (bundleDev 0x20000000000000000000000000000000000000000000000000000000000000000000000000000000000000000000000000000000000)) ∧
    ((fun (g : CoreId) (up : List Upset) (e : Dev) => Admits (fun (d : Dev) =>
            (d.updCore g.val fun c => c.strike up).slotReady g.val 1 1 = (e, true))) 0 []
        ((bundleDev 0x1000000000000000000000000000000000000).updCore 0 fun c => c.strike [])) ∧
    (∃ (g : CoreId) (w : Nat), Admits (fun (d : Dev) => ((((d.core g.val).inflight.filterMap fun f => f.op.listEnd.map
                fun n => f.issue + n).filter fun w => decide ((d.core g.val).seq.cycle < w)).min?) = some w ∧
          (d.core g.val).pendingSlot = none ∧ ((d.core g.val).seq.next = none ∨ w ≤ (d.core g.val).seq.due) ∧
          ((d.advance g.val (w - 1) (w - (d.core g.val).seq.cycle)).core g.val).seq.cycle = w - 1 ∧
          (((d.advance g.val (w - 1) (w - (d.core g.val).seq.cycle)).core g.val).listStop w).isSome = true)) := by
  refine ⟨?_, ?_, ?_, ?_, ?_, ?_, ?_, ?_, ?_, ?_, ?_, ?_, ?_, ?_, ?_, ?_, ?_⟩
  · exact ⟨{ State.reset with dev := bundleDev 0x2000000000000000000000000000000000000 }, ready_of_pending (by decide) (by decide) (by decide)⟩
  · exact ⟨{ State.reset with dev := bundleDev 0x3000000000000000000000000000000000000 }, ready_of_pending (by decide) (by decide) (by decide)⟩
  · exact ⟨{ State.reset with dev := bundleDev 0x4000000000000000000000000000000000000 }, ready_of_pending (by decide) (by decide) (by decide)⟩
  · exact ⟨{ State.reset with dev := bundleDev 0x800000000000000000000000000000000000000000000000000 }, ready_of_pending (by decide) (by decide) (by decide)⟩
  · exact ⟨{ State.reset with dev := bundleDev 0x1000000000000000000000000000000000000000000000000000 }, ready_of_pending (by decide) (by decide) (by decide)⟩
  · exact ⟨{ State.reset with dev := bundleDev 0x1800000000000000000000000000000000000000000000000000 }, ready_of_pending (by decide) (by decide) (by decide)⟩
  · exact ⟨{ State.reset with dev := bundleDev 0x10000000000000000000000000000000000000000000000000000000000000000000000000000000000000000000 }, ready_of_pending (by decide) (by decide) (by decide)⟩
  · exact ⟨{ State.reset with dev := bundleDev 0x20000000000000000000000000000000000000000000000000000000000000000000000000000000000000000000 }, ready_of_pending (by decide) (by decide) (by decide)⟩
  · exact ⟨{ State.reset with dev := bundleDev 0x30000000000000000000000000000000000000000000000000000000000000000000000000000000000000000000 }, ready_of_pending (by decide) (by decide) (by decide)⟩
  · exact ⟨{ State.reset with dev := bundleDev 0x40000000000000000000000000000000000000000000000000000000000000000000000000000000000000000000 }, ready_of_pending (by decide) (by decide) (by decide)⟩
  · exact ⟨{ State.reset with dev := bundleDev 0x50000000000000000000000000000000000000000000000000000000000000000000000000000000000000000000 }, ready_of_pending (by decide) (by decide) (by decide)⟩
  · exact ⟨{ State.reset with dev := bundleDev 0x60000000000000000000000000000000000000000000000000000000000000000000000000000000000000000000 }, ready_of_pending (by decide) (by decide) (by decide)⟩
  · exact ⟨{ State.reset with dev := bundleDev 0x70000000000000000000000000000000000000000000000000000000000000000000000000000000000000000000 }, ready_of_pending (by decide) (by decide) (by decide)⟩
  · exact ⟨{ State.reset with dev := bundleDev 0x10000000000000000000000000000000000000000000000000000000000000000000000000000000000000000000000000000000000 }, ready_of_pending (by decide) (by decide) (by decide)⟩
  · exact ⟨{ State.reset with dev := bundleDev 0x20000000000000000000000000000000000000000000000000000000000000000000000000000000000000000000000000000000000 }, ready_of_pending (by decide) (by decide) (by decide)⟩
  · exact ⟨{ State.reset with dev := bundleDev 0x1000000000000000000000000000000000000 }, ready_of_pending (by decide) (by decide) (by decide)⟩
  · exact ⟨0, 2, { State.reset with dev := { Dev.reset with cores := [(0, { Core.reset with inflight := [⟨7, 0, 7, 0, .list false 0 1 0 0 ⟨0, 0, 0, 0, 0, 0, 0⟩ 1, false, []⟩], seq := { Seq.reset with running := some aBlock, cycle := 1 } })] } }, by decide⟩

theorem witness_ElementwiseCommandsComplete :
    ((fun (g : CoreId) (e : Dev) => Admits (fun (d : Dev) => d.slotReady g.val 5 1 = (e, true))) 0
        (bundleDev 0x800000000000000000000000000000000000000000000000000000000000000000)) ∧
    ((fun (g : CoreId) (e : Dev) => Admits (fun (d : Dev) => d.slotReady g.val 5 2 = (e, true))) 0
        (bundleDev 0x1000000000000000000000000000000000000000000000000000000000000000000)) ∧
    ((fun (g : CoreId) (e : Dev) => Admits (fun (d : Dev) => d.slotReady g.val 5 3 = (e, true))) 0
        (bundleDev 0x1800000000000000000000000000000000000000000000000000000000000000000)) ∧
    ((fun (g : CoreId) (e : Dev) => Admits (fun (d : Dev) => d.slotReady g.val 5 4 = (e, true))) 0
        (bundleDev 0x2000000000000000000000000000000000000000000000000000000000000000000)) ∧
    ((fun (g : CoreId) (e : Dev) => Admits (fun (d : Dev) => d.slotReady g.val 5 5 = (e, true))) 0
        (bundleDev 0x2800000000000000000000000000000000000000000000000000000000000000000)) ∧
    ((fun (g : CoreId) (e : Dev) => Admits (fun (d : Dev) => d.slotReady g.val 5 6 = (e, true))) 0
        (bundleDev 0x3000000000000000000000000000000000000000000000000000000000000000000)) ∧
    ((fun (g : CoreId) (e : Dev) => Admits (fun (d : Dev) => d.slotReady g.val 5 7 = (e, true))) 0
        (bundleDev 0x3800000000000000000000000000000000000000000000000000000000000000000)) ∧
    ((fun (g : CoreId) (e : Dev) => Admits (fun (d : Dev) => d.slotReady g.val 5 8 = (e, true))) 0
        (bundleDev 0x4000000000000000000000000000000000000000000000000000000000000000000)) ∧
    ((fun (g : CoreId) (e : Dev) => Admits (fun (d : Dev) => d.slotReady g.val 5 9 = (e, true))) 0
        (bundleDev 0x4800000000000000000000000000000000000000000000000000000000000000000)) ∧
    ((fun (g : CoreId) (e : Dev) => Admits (fun (d : Dev) => d.slotReady g.val 5 10 = (e, true))) 0
        (bundleDev 0x5000000000000000000000000000000000000000000000000000000000000000000)) ∧
    ((fun (g : CoreId) (e : Dev) => Admits (fun (d : Dev) => d.slotReady g.val 5 11 = (e, true))) 0
        (bundleDev 0x5800000000000000000000000000000000000000000000000000000000000000000)) ∧
    ((fun (g : CoreId) (e : Dev) => Admits (fun (d : Dev) => d.slotReady g.val 5 12 = (e, true))) 0
        (bundleDev 0x6000000000000000000000000000000000000000000000000000000000000000000)) ∧
    ((fun (g : CoreId) (e : Dev) => Admits (fun (d : Dev) => d.slotReady g.val 5 13 = (e, true))) 0
        (bundleDev 0x6800000000000000000000000000000000000000000000000000000000000000000)) ∧
    ((fun (g : CoreId) (e : Dev) => Admits (fun (d : Dev) => d.slotReady g.val 5 14 = (e, true))) 0
        (bundleDev 0x7000000000000000000000000000000000000000000000000000000000000000000)) ∧
    ((fun (g : CoreId) (e : Dev) => Admits (fun (d : Dev) => d.slotReady g.val 6 1 = (e, true))) 0
        (bundleDev 0x40000000000000000000000000000000000000000000000000000000000000000000000000000000000000)) ∧
    ((fun (g : CoreId) (up : List Upset) (e : Dev) (s : Nat) => Admits (fun (d : Dev) =>
            ((d.updCore g.val fun c => c.strike up).readSlot g.val) = s ∧
            (d.updCore g.val fun c => c.strike up).slotReady g.val s 1 = (e, true))) 0 []
        ((bundleDev 0x100000000000000000000000000000000000000000000000000000000000000000000000000).updCore 0 fun c =>
          c.strike []) 3) ∧
    ((fun (g : CoreId) (e : Dev) (s : Nat) => Admits (fun (d : Dev) => d.readSlot g.val = s ∧ d.slotReady g.val s 2 =
            (e, true))) 0 (bundleDev 0x200000000000000000000000000000000000000000000000000000000000000000000000000) 3) := by
  refine ⟨?_, ?_, ?_, ?_, ?_, ?_, ?_, ?_, ?_, ?_, ?_, ?_, ?_, ?_, ?_, ?_, ?_⟩
  · exact ⟨{ State.reset with dev := bundleDev 0x800000000000000000000000000000000000000000000000000000000000000000 }, ready_of_pending (by decide) (by decide) (by decide)⟩
  · exact ⟨{ State.reset with dev := bundleDev 0x1000000000000000000000000000000000000000000000000000000000000000000 }, ready_of_pending (by decide) (by decide) (by decide)⟩
  · exact ⟨{ State.reset with dev := bundleDev 0x1800000000000000000000000000000000000000000000000000000000000000000 }, ready_of_pending (by decide) (by decide) (by decide)⟩
  · exact ⟨{ State.reset with dev := bundleDev 0x2000000000000000000000000000000000000000000000000000000000000000000 }, ready_of_pending (by decide) (by decide) (by decide)⟩
  · exact ⟨{ State.reset with dev := bundleDev 0x2800000000000000000000000000000000000000000000000000000000000000000 }, ready_of_pending (by decide) (by decide) (by decide)⟩
  · exact ⟨{ State.reset with dev := bundleDev 0x3000000000000000000000000000000000000000000000000000000000000000000 }, ready_of_pending (by decide) (by decide) (by decide)⟩
  · exact ⟨{ State.reset with dev := bundleDev 0x3800000000000000000000000000000000000000000000000000000000000000000 }, ready_of_pending (by decide) (by decide) (by decide)⟩
  · exact ⟨{ State.reset with dev := bundleDev 0x4000000000000000000000000000000000000000000000000000000000000000000 }, ready_of_pending (by decide) (by decide) (by decide)⟩
  · exact ⟨{ State.reset with dev := bundleDev 0x4800000000000000000000000000000000000000000000000000000000000000000 }, ready_of_pending (by decide) (by decide) (by decide)⟩
  · exact ⟨{ State.reset with dev := bundleDev 0x5000000000000000000000000000000000000000000000000000000000000000000 }, ready_of_pending (by decide) (by decide) (by decide)⟩
  · exact ⟨{ State.reset with dev := bundleDev 0x5800000000000000000000000000000000000000000000000000000000000000000 }, ready_of_pending (by decide) (by decide) (by decide)⟩
  · exact ⟨{ State.reset with dev := bundleDev 0x6000000000000000000000000000000000000000000000000000000000000000000 }, ready_of_pending (by decide) (by decide) (by decide)⟩
  · exact ⟨{ State.reset with dev := bundleDev 0x6800000000000000000000000000000000000000000000000000000000000000000 }, ready_of_pending (by decide) (by decide) (by decide)⟩
  · exact ⟨{ State.reset with dev := bundleDev 0x7000000000000000000000000000000000000000000000000000000000000000000 }, ready_of_pending (by decide) (by decide) (by decide)⟩
  · exact ⟨{ State.reset with dev := bundleDev 0x40000000000000000000000000000000000000000000000000000000000000000000000000000000000000 }, ready_of_pending (by decide) (by decide) (by decide)⟩
  · exact ⟨{ State.reset with dev := bundleDev 0x100000000000000000000000000000000000000000000000000000000000000000000000000 }, ⟨(readSlot_of_pending (s := 3) (by decide)).trans (by decide), ready_of_pending (by decide) (by decide) (by decide)⟩⟩
  · exact ⟨{ State.reset with dev := bundleDev 0x200000000000000000000000000000000000000000000000000000000000000000000000000 }, ⟨(readSlot_of_pending (s := 3) (by decide)).trans (by decide), ready_of_pending (by decide) (by decide) (by decide)⟩⟩

theorem witness_BlockCommandsComplete :
    (∃ (g : CoreId) (e : Dev) (w : Nat), Admits (fun (d : Dev) => d.skipEmpty g.val 65536 = e ∧
          (((e.core g.val).writeCycles.filter fun w => decide ((if (e.core g.val).seq.wrote then
                  (e.core g.val).seq.cycle + 1 else (e.core g.val).seq.cycle) ≤ w)).min?) = some w ∧
          (e.core g.val).pendingSlot = none ∧ (e.core g.val).seq.freeze = none ∧
          ((e.core g.val).seq.next = none ∨ w < (e.core g.val).seq.due) ∧
          ((e.advance g.val w (w - (e.core g.val).seq.cycle)).core g.val).seq.cycle = w)) ∧
    (∃ (g : CoreId) (e : Dev) (w : Nat), Admits (fun (d : Dev) => d.skipEmpty g.val 65536 = e ∧
          (((e.core g.val).tileCycles.filter fun w => decide ((if (e.core g.val).seq.wrote then
                  (e.core g.val).seq.cycle + 1 else (e.core g.val).seq.cycle) ≤ w)).min?) = some w ∧
          (e.core g.val).pendingSlot = none ∧ (e.core g.val).seq.freeze = none ∧
          ((e.core g.val).seq.next = none ∨ w < (e.core g.val).seq.due) ∧
          ((e.advance g.val w (w - (e.core g.val).seq.cycle)).core g.val).seq.cycle = w)) ∧
    ((fun (g : CoreId) (n : Nat) => Admits (fun (d : Dev) => (d.core g.val).seq.freeze.isSome = true ∧
            (d.updCore g.val fun c => { c.release with
                  lateFreezeCyc := satAdd 64 c.lateFreezeCyc n, seq := { c.seq with freeze := none } }).stillWaits
            g.val = false)) 0 7) ∧
    ((fun (g : CoreId) (n : Nat) (f : Freeze) (j : Job) => Admits (fun (d : Dev) => (d.core g.val).seq.freeze = some f
            ∧ d.coreJob g.val = some j ∧ (d.core g.val).seq.freezeAon + 25 *
            (if j.streamLimit = 0 then 50 else j.streamLimit) ≤ d.aon (dieOfCore g.val))) 0 7 ⟨0, 0, 0, none, 0⟩
        coreJob0) ∧
    ((fun (g : CoreId) => Admits (fun (d : Dev) => (d.core g.val).seq.audit = true ∧ 22 ≤ (d.core g.val).seq.auditRun))
        0) ∧
    ((fun (g : CoreId) (x : BlockEntry) (t : List BlockEntry) (p : BlockEntry × Nat) => Admits
          (fun (d : Dev) => d.mayDispatch g.val = true ∧ (d.core g.val).bq = x :: t ∧ (x.kernel = true →
              ((d.core g.val).kernelBank x.kid).isSome = true ∨ d.loading (d.core g.val) x.kid = true) ∧
            (d.core g.val).bq.zipIdx.find? (fun p => (d.core g.val).ready p.2 p.1) = some p ∧ d.argsWait g.val p.1 =
            false)) 0 aBlock [] (aBlock, 0)) ∧
    ((fun (g : CoreId) (x : BlockEntry) (t : List BlockEntry) => Admits (fun (d : Dev) => d.mayDispatch g.val = true ∧
            (d.core g.val).bq = x :: t ∧ x.kernel = true ∧ (d.core g.val).kernelBank x.kid = none ∧ d.loading
            (d.core g.val) x.kid = false)) 0 { aBlock with kernel := true } []) ∧
    (∃ (g : CoreId) (e f : Dev) (b : BlockEntry), Admits (fun (d : Dev) => d.skipEmpty g.val 65536 = e ∧
          (e.core g.val).seq.running ≠ none ∧ (e.core g.val).seq.next = none ∧ (e.core g.val).pendingSlot = none ∧
          (e.core g.val).seq.freeze = none ∧ e.drain g.val ((
              ((e.core g.val).inflight.map fun f => f.issue + f.op.last).foldl max
              (match (e.core g.val).seq.openFault with | some f => f.1 | none => 0)) + 2 - (e.core g.val).seq.cycle) =
          f ∧ (f.core g.val).seq.running = some b ∧ (f.core g.val).inflight = [] ∧ (f.core g.val).seq.openFault = none
          ∧ (f.core g.val).seq.freeze = none)) ∧
    ((fun (g : CoreId) (x : BlockEntry) (t : List BlockEntry) => Admits
          (fun (d : Dev) => (d.core g.val).bqHeld = x :: t ∧ (d.core g.val).queued < 256)) 0 aBlock []) ∧
    (∃ (g : CoreId) (image : BitVec 52) (x : BlockEntry) (m : Mem) (e : Dev) (b : List Byte), Admits
        (fun (d : Dev) => (d.core g.val).bq.find? (fun e => !e.kernel && !(d.core g.val).resident e) = some x ∧
          x.image = image.toNat ∧ (((d.core g.val).icache.filter fun p => (
                (match (d.core g.val).seq.running with | some b => [b.image] | none => []) ++ (d.core g.val).bq.map
                BlockEntry.image).contains p.1).map fun q => q.2.length).sum + x.length ≤ 1024 ∧
          (d.core g.val).partEnded = false ∧ d.mem.pass (.image g.val) (some ((d.mem.partFor
                (match d.coreJob g.val with | some j => j.partMask | none => 0) image.toNat (64 * x.length)).getD 0))
          (decide (64 * x.length < 512)) image.toNat (64 * x.length) = (m, true) ∧ { d with mem := m }.hbmRead
          image.toNat (64 * x.length) = (e, .ok b))) := by
  refine ⟨?_, ?_, ?_, ?_, ?_, ?_, ?_, ?_, ?_, ?_⟩
  · set_option maxRecDepth 20000 in exact ⟨0, _, 1, { State.reset with dev := { Dev.reset with cores := [(0, { Core.reset with inflight := [⟨5, 0, 5, 0, .reg 1 [] 1, false, []⟩], seq := { Seq.reset with running := some aBlock } })] } }, rfl, by decide⟩
  · set_option maxRecDepth 20000 in exact ⟨0, _, 68, { State.reset with dev := { Dev.reset with cores := [(0, { Core.reset with inflight := [⟨8, 0, 8, 0, .kex true [] 0 0 0 0 0 8 0, false, []⟩], seq := { Seq.reset with running := some aBlock, cycle := 67 } })] } }, rfl, by decide⟩
  · exact ⟨{ State.reset with dev := { Dev.reset with aon0 := 0, jobs := [coreJob0], cores := [(0, { Core.reset with job := some 0, seq := { Seq.reset with running := some aBlock, freeze := some ⟨0, 0, 0, none, 0⟩ } })] } }, by decide⟩
  · exact ⟨{ State.reset with dev := { Dev.reset with aon0 := 1250, jobs := [coreJob0], cores := [(0, { Core.reset with job := some 0, seq := { Seq.reset with running := some aBlock, freeze := some ⟨0, 0, 0, none, 0⟩ } })] } }, by decide⟩
  · exact ⟨{ State.reset with dev := { Dev.reset with cores := [(0, { Core.reset with seq := { Seq.reset with audit := true, auditRun := 22 } })] } }, by decide⟩
  · exact ⟨{ State.reset with dev := { Dev.reset with jobs := [coreJob0], pwr := { Pwr.reset with state := 0 }, cores := [(0, { Core.reset with job := some 0, bq := [aBlock], icache := [(0x40, [0, 0, 0, 0, 0, 0, 0, 0])] })] } }, by decide⟩
  · exact ⟨{ State.reset with dev := { Dev.reset with jobs := [coreJob0], pwr := { Pwr.reset with state := 0 }, cores := [(0, { Core.reset with job := some 0, bq := [{ aBlock with kernel := true }] })] } }, by decide⟩
  · exact ⟨0, _, _, aBlock, { State.reset with dev := { Dev.reset with cores := [(0, { Core.reset with seq := { Seq.reset with running := some aBlock } })] } }, rfl, by decide, rfl, rfl, rfl, rfl, rfl, rfl, rfl, rfl⟩
  · exact ⟨{ State.reset with dev := { Dev.reset with cores := [(0, { Core.reset with bqHeld := [aBlock] })] } }, by decide⟩
  · set_option maxRecDepth 20000 in exact ⟨0, 0x40, aBlock, _, _, _, { State.reset with dev := { Dev.reset with cores := [(0, { Core.reset with bq := [aBlock] })] } }, rfl, rfl, by decide, rfl, rfl, hbmRead_ok (by decide)⟩

/-! ### Worked examples of the chapters -/

/-- R257, the example below it: die 1, offset 0x0_1234_5600. -/
theorem test_interleave_example :
    chanOf (hbmAddrOf 1 0x76 0x00246800) = 16 * 6 + 13 ∧ pseudoOf 0x012345600 = 0x76 ∧ localOf 0x012345600 = 0x00246800 ∧
      hbmAddrOf 1 0x76 0x00246800 = 0x008012345600 := by decide

/-- Bundle 0 of the example block of chapter 07. -/
def exampleBundle0 : Nat := 0x000023FFFC040001 + 2 ^ 64 * 0x0000000000080000 + 2 ^ 128 * 0x00000000000001C0
/-- Bundle 1 of the example block of chapter 07. -/
def exampleBundle1 : Nat := 1 + 2 ^ 128 * 0x0008000000010000 + 2 ^ 192 * 0x200

/-- Its SHAPE.SET: five limbs of 65,536 words, prime index 3 and step 8 (R183). -/
theorem test_example_shape_set :
    slotsOf exampleBundle0 = [0] ∧ slotOpcode exampleBundle0 0 = 4 ∧ delayOf exampleBundle0 = 1 ∧
      shapeOf (sclSlot exampleBundle0) =
        { e0 := 65536, e1 := 5, e2 := 1, s1 := 65536, s2 := 0, pstep := 8, pidx := 3 } := by decide

/-- Its NTT.FWD is the only command of bundle 1; its pattern reaches 0x10_0000 to 0x14_FFFF (R182, R187). -/
theorem test_example_ntt :
    slotsOf exampleBundle1 = [1] ∧ slotOpcode exampleBundle1 1 = 1 ∧ delayOf exampleBundle1 = 1 ∧
      (shapeOf (sclSlot exampleBundle0)).range 0x100000 = (0x100000, 0x14FFFF) ∧
      (shapeOf (sclSlot exampleBundle0)).prime 4 = 35 := by decide

/-- R217, the example below it: S2 = 40,960 passes, S2 = 32,768 fails in dimension 2. -/
theorem test_write_alias_example :
    ({ e0 := 8192, e1 := 5, e2 := 8, s1 := 8192, s2 := 40960, pidx := 0, pstep := 0 } : Shape).aliasDim = none ∧
      ({ e0 := 8192, e1 := 5, e2 := 8, s1 := 8192, s2 := 32768, pidx := 0, pstep := 0 } : Shape).aliasDim = some 2 := by
  decide

/-- The source of the same example: based at 0x00_00C0 it spans 0x00_0000 to 0x00_00FF, based at 0x00_0080 it starts at -64. -/
theorem test_negative_stride_example :
    ({ e0 := 64, e1 := 4, e2 := 1, s1 := -64, s2 := 0, pidx := 0, pstep := 0 } : Shape).range 0xC0 = (0, 0xFF) ∧
      (({ e0 := 64, e1 := 4, e2 := 1, s1 := -64, s2 := 0, pidx := 0, pstep := 0 } : Shape).range 0x80).1 = -64 := by decide

/-- R93, the example below it: N = 2^12 and k = 5, destination word 0 takes source word 1,024. -/
theorem test_automorphism_example : autoSource 5 false 12 0 = (1024, false) := by decide

/-- The example of chapter 13: the weights of parties 0 and 2 of a 2-of-3 set modulo 2^32 - 2^20 + 1. -/
theorem test_shamir_example :
    shamirWeight 5 0 4293918721 = 2146959362 ∧ shamirWeight 5 2 4293918721 = 2146959360 := by decide

/-- The example of chapter 21: STR_RING_STATUS(2) of core 77. -/
theorem test_register_address_example :
    regPlace 0xF000007034650 = some (1, 0x100_0000 + 0x4000 * 13 + 0x640 + 8 * 2) := by decide

/-- Chapter 01, the reduction of (q - 1)^2 modulo q: the residue is 1. -/
theorem test_product_example : ((arithVal 4 4293918721 [4293918720] [4293918720] [] [] 0).getD 0 0) = 1 := by decide

/-! ### Ill-formed commands are refused -/

theorem test_wf_refuses_upsets :
    [Instr.nttFwd 0 [⟨65536, 0, true⟩], .ld 0 [⟨0, 4, false⟩], .lsScrubStep 0 [⟨65536, 0, true⟩], .ringRowLands 0 0 [⟨0, 4, true⟩],
      .outboundRowDrain 0 0 [⟨65536, 3, true⟩], .narrowRead 0 0 (.fn 0) [⟨0, 4, true⟩],
      .narrowWrite 0 0 0 0 (.fn 0) [⟨65536, 0, true⟩]].all (fun i => !i.wf) = true := by decide

theorem test_wf_refuses_lengths :
    [Instr.seqBqPush 0 [], .flitReceive 0 [] [], .winXferPush (.fn 0) [], .pdecPush (.fn 0) [], .bneReqPush [], .commitReceive 0 [],
      .getReport [], .pddCommitPush (.fn 0) [], .pddDigestPush (.fn 0) [], .strapSetDone [0, 0, 0, 0, 0, 0, 0], .i3cSetOffset [],
      .i3cRegisterWrite [], .registerWrite .bmc 0 ⟨[], none⟩, .wcbPartialWrite 0 none 0 [], .intakeSeal 0 0xFF [] none,
      .bar0Access 0 0 (some []) 0 none, .bar2Access 0 0 none 4097 none].all (fun i => !i.wf) = true := by decide

set_option maxRecDepth 8000 in
theorem test_wf_refuses_ranges :
    [Instr.imageFetchDone 0 63, .tokenSignalArrives 0 160, .hbmReadReturn 0 1 .intact (.fetch 0), .wcbPartialWrite 0 none 0xFF [0, 0],
      .wcbPartialWrite 0 none (2 ^ 40) [0], .refreshSlot 0 256 .intact, .fabricUncorrectable 0 0 4 (.fetch 0),
      .flitReceive 0 (1024 :: List.replicate 513 0) (List.replicate 30 0), .mack 0 3 0 0 0, .intakeSeal 0 0xFE [0] none, .coreFail 0 0 5, .strapSetDone [256, 0, 0, 0, 0, 0, 0, 0],
      .startStepDone 2 true [], .startStepDone 13 true [], .railFault 0 0, .registerWrite .bmc 7 ⟨[0, 0], none⟩,
      .updateImageWritten 3].all (fun i => !i.wf) = true := by decide

theorem test_wf_refuses_agents :
    [Instr.kloadGo 0 0 (.fn 1), .kloadForce 0 0 .bmc, .kstGrpOpen 0 0 (.fn 1) 0, .kstGrpClose 0 0 .bmc 0, .secKcopyGo 0 .bmc,
      .narrowRead 0 0 .bmc [], .wcbFlush 0 .bmc, .mregRateWrite 0 0 (.app 0), .tgcStart 0 0 (.app 0), .maintSet .bmc, .maintClear (.fn 1),
      .d2dRetrain (.fn 1), .lnkRetrain 0 (.fn 1), .pddSelftestGo 0 0 .bmc, .partResetCore 0 (.fn 1), .partResetCluster 0 (.app 0),
      .pwrCtrlWrite 0 (.fn 1), .clkClusterWrite 0 0 (.app 0), .cfgCmdPowerLimit (.fn 1) 0 false true,
      .cfgCmdRegulator (.app 0) 0 0 false true, .updApply (.fn 1), .updResetNow (.app 0)].all (fun i => !i.wf) = true := by decide

set_option maxRecDepth 8000 in
theorem test_wf_accepts :
    [Instr.seqBqPush 0 (List.replicate 64 0), .flitReceive 0 (List.replicate 514 0) (List.replicate 30 0), .registerWrite .bmc 4 ⟨[0, 0, 0, 0], none⟩, .kloadGo 0 0 (.app 0),
      .pwrCtrlWrite 0 .bmc, .startStepDone 3 true [], .wcbPartialWrite 0 none (2 ^ 40 - 1) [0]].all Instr.wf = true := by decide

/-- The table gives bits to no row: no word spells a command, and a state keeps its queue. -/
theorem test_no_word_spells (n w : Nat) (s : State) : decodeTableWord n w = none ∧ s.withFetchWord n w = s := ⟨rfl, rfl⟩

end Sys2Proof.Machine
end

section
/-! The expert-level bits of HIF_EXPERT_EN (R3, R4): what the resets of a function and a write of the register leave in them.
First the two bit operations of Bits.lean that the model writes the register with, read bit by bit; then the register after
each operation of the device; then the statements. -/

namespace Sys2Proof.Machine

/-! ### Reading numbers that are written bit by bit -/

/-- Taking away the power of a bit that is set clears this bit and no other. -/
theorem testBit_sub_two_pow {n i : Nat} (h : n.testBit i = true) (k : Nat) :
    (n - 2 ^ i).testBit k = (n.testBit k && decide (k ≠ i)) := by
  induction i generalizing n k with
  | zero =>
    rw [Nat.testBit_zero, decide_eq_true_eq] at h
    cases k with
    | zero =>
      have even : (n - 1) % 2 = 0 := by omega
      simp [Nat.testBit_zero, even]
    | succ k =>
      have half : (n - 1) / 2 = n / 2 := by omega
      simp [Nat.testBit_add_one, half]
  | succ i ih =>
    have least : 2 ^ (i + 1) ≤ n := Nat.ge_two_pow_of_testBit h
    rw [Nat.testBit_add_one] at h
    rw [Nat.pow_succ] at least ⊢
    cases k with
    | zero =>
      have parity : (n - 2 ^ i * 2) % 2 = n % 2 := by omega
      simp [Nat.testBit_zero, parity]
    | succ k =>
      have half : (n - 2 ^ i * 2) / 2 = n / 2 - 2 ^ i := by omega
      simp [Nat.testBit_add_one, half, ih h]

theorem bit_zero (k : Nat) : bit 0 k = false := Nat.zero_testBit k

/-- Clearing a bit of a number leaves the others as they were. -/
theorem bit_withBit_false (n i k : Nat) : bit (withBit n i false) k = (bit n k && decide (k ≠ i)) := by
  unfold bit withBit
  by_cases h : n.testBit i = false
  · rw [if_pos h]
    by_cases e : k = i <;> simp [e, h]
  · rw [if_neg h, if_neg Bool.false_ne_true]
    exact testBit_sub_two_pow (by simpa using h) k

theorem maskOf_succ (w : Nat) (f : Nat → Bool) :
    maskOf (w + 1) f = if f w then 2 ^ w + maskOf w f else maskOf w f := by
  unfold maskOf
  cases h : f w <;> simp [List.range_succ, List.filter_append, h, Nat.add_comm]

theorem maskOf_lt (w : Nat) (f : Nat → Bool) : maskOf w f < 2 ^ w := by
  induction w with
  | zero => exact Nat.one_pos
  | succ w ih =>
    rw [maskOf_succ, Nat.pow_succ]
    split <;> omega

/-- A mask has the bits below its width for which its condition holds, and no others. -/
theorem bit_maskOf (w : Nat) (f : Nat → Bool) (k : Nat) : bit (maskOf w f) k = (decide (k < w) && f k) := by
  unfold bit
  induction w with
  | zero => simp [maskOf]
  | succ w ih =>
    have top : (maskOf w f).testBit w = false := Nat.testBit_lt_two_pow (maskOf_lt w f)
    rw [maskOf_succ]
    rcases Nat.lt_trichotomy k w with h | rfl | h
    · have below : k < w + 1 := by omega
      split <;> simp [Nat.testBit_two_pow_add_gt h, ih, h, below]
    · cases hf : f k <;> simp [Nat.testBit_two_pow_add_eq, top]
    · have above : ¬ k < w + 1 := by omega
      have fits : maskOf (w + 1) f < 2 ^ k := (maskOf_lt (w + 1) f).trans_le (Nat.pow_le_pow_right (by decide) h)
      rw [← maskOf_succ, Nat.testBit_lt_two_pow fits]
      simp [above]

/-! ### HIF_EXPERT_EN after each operation that resets a function or writes it -/

@[simp] theorem deviceReset_expertEn (d : Dev) (cause : Nat) : (d.deviceReset cause).expertEn = 0 := rfl
@[simp] theorem powerOn_expertEn (d : Dev) (aonRose : Bool) : (d.powerOn aonRose).expertEn = 0 := rfl
@[simp] theorem unpowered_expertEn (d : Dev) (hw : Hw) : (d.unpowered hw).expertEn = 0 := rfl
@[simp] theorem updBne_expertEn (d : Dev) (u : Bne → Bne) : (d.updBne u).expertEn = d.expertEn := rfl

/-- What follows every effect (R423, R561) leaves HIF_EXPERT_EN. -/
@[simp] theorem settle_expertEn (d : Dev) : d.settle.expertEn = d.expertEn :=
  (keeps_settle (Keeps.refl 36704264 d) rfl).same (p := .expert) rfl

/-- Of all that a reset of a function does, only its last update reaches HIF_EXPERT_EN: it clears the function's bit. -/
theorem resetFn_expertEn (d : Dev) (f : Nat) : (d.resetFn f).expertEn = withBit d.expertEn f false := by
  have kept : ((d.endJobs f).wipeOwner f).expertEn = d.expertEn :=
    (keeps_wipeOwner (keeps_endJobs (Keeps.refl 50468431 d) rfl) rfl).same (p := .expert) rfl
  unfold Dev.resetFn
  dsimp only
  rw [updFn_expertEn, kept]

theorem bit_resetFn_expertEn (d : Dev) (f k : Nat) :
    bit (d.resetFn f).expertEn k = (bit d.expertEn k && decide (k ≠ f)) := by
  rw [resetFn_expertEn, bit_withBit_false]

/-- Resets of further functions set no bit that is clear. -/
theorem bit_foldl_resetFn_expertEn {d : Dev} {k : Nat} (h : bit d.expertEn k = false) (l : List Nat) (g : Nat → Nat) :
    bit (l.foldl (fun d i => d.resetFn (g i)) d).expertEn k = false := by
  induction l generalizing d with
  | nil => exact h
  | cons i l ih =>
    have cleared : bit (d.resetFn (g i)).expertEn k = false := by rw [bit_resetFn_expertEn, h, Bool.false_and]
    rw [List.foldl_cons]
    exact ih cleared

/-- A function-level reset leaves the function's own bit clear, of the physical function after the virtual functions are
reset too (R391). -/
theorem bit_fxFunctionLevelReset_expertEn (d : Dev) (f : Nat) : bit (fxFunctionLevelReset d f).expertEn f = false := by
  have own : bit (d.resetFn f).expertEn f = false := by simp [bit_resetFn_expertEn]
  unfold fxFunctionLevelReset
  by_cases h : f = 0
  · rw [if_pos h, updBne_expertEn]
    dsimp only
    split
    · exact bit_foldl_resetFn_expertEn own _ (· + 1)
    · exact own
  · rw [if_neg h]
    exact own

/-- A write of HIF_EXPERT_EN takes effect from the physical function alone, and sets the written bits that a grant allows. -/
theorem bit_fxHifExpertEnWrite_expertEn (d : Dev) (f v k : Nat) :
    bit (fxHifExpertEnWrite d f v).expertEn k =
      if f = 0 then decide (k < 64) && bit v k && (Tab.get Grant.none d.grants k).expert else bit d.expertEn k := by
  unfold fxHifExpertEnWrite
  split
  · exact (bit_maskOf ..).trans (Bool.and_assoc ..).symm
  · rfl

/-! ### What a command keeps, piece by piece -/

/-- A piece that a command does not touch, and that no step may change, is after the command as it was before. -/
theorem exec_same_of_not_touched {c : Instr} {s t : State} {p : Piece} (h : exec c s = .next t) (hc : p ∉ touches c)
    (ha : p ∉ afterEffect) : p.same s.dev t.dev := by
  refine (exec_keeps h).same (pieceMask_testBit p.index_ne fun q hq => ?_)
  rw [Piece.bit_testBit, decide_eq_false_iff_not]
  rintro rfl
  exact (List.mem_append.mp hq).elim hc ha

/-! ### The statements -/

/-- Settles O12: a device reset, a power-on and a loss of power leave the register zero, and a reset of a function clears one
bit of it. -/
theorem expertBitsClearAtResets : Obligations.ExpertBitsClearAtResets := by
  unfold Obligations.ExpertBitsClearAtResets
  refine ⟨fun d cause f => ?_, fun d rose f => ?_, fun d hw f => ?_, bit_resetFn_expertEn, fun f s => ?_⟩
  · rw [deviceReset_expertEn, bit_zero]
  · rw [powerOn_expertEn, bit_zero]
  · rw [unpowered_expertEn, bit_zero]
  · refine ⟨_, exec_functionLevelReset f s, ?_⟩
    dsimp only
    rw [settle_expertEn]
    exact bit_fxFunctionLevelReset_expertEn _ _

/-- Settles O13: the bits by what the command's effect writes, the rest by the frame of every command. -/
theorem expertWritesNeedGrants : Obligations.ExpertWritesNeedGrants := by
  unfold Obligations.ExpertWritesNeedGrants
  intro f v s
  have run := exec_hifExpertEnWrite f v s
  refine ⟨_, run, fun k => ?_, fun p hp ha => exec_same_of_not_touched run ?_ ha⟩
  · dsimp only
    rw [settle_expertEn]
    exact bit_fxHifExpertEnWrite_expertEn _ _ _ _
  · simpa [touches] using hp

end Sys2Proof.Machine
end

section
/-! The Z_2^64 instructions on lane pairs (R60). First what a value that is laid out on a pair reads back as; then what each of
the four instructions lays out, which is one function of the two 64-bit values it reads; then the statement. -/

namespace Sys2Proof.Machine

/-! ### A value on a lane pair -/

/-- A value that is read from a lane pair has 64 bits. -/
theorem pairAt_lt (v : List Word) (i : Nat) : pairAt v i < 2 ^ 64 := by
  unfold pairAt
  omega

@[simp] theorem length_fromPairs (f : Nat → Nat) : (fromPairs f).length = 128 := by
  simp [fromPairs]

/-- Lane 2i + e holds the 32 bits of value i from bit 32e on. -/
theorem getD_fromPairs (f : Nat → Nat) {i e : Nat} (hi : i < 64) (he : e < 2) :
    (fromPairs f).getD (2 * i + e) 0 = BitVec.ofNat 36 (f i / 2 ^ (32 * e) % 2 ^ 32) := by
  have hl : 2 * i + e < (fromPairs f).length := by rw [length_fromPairs]; omega
  have hpair : (2 * i + e) / 2 = i := by omega
  have hhalf : (2 * i + e) % 2 = e := by omega
  rw [List.getD_eq_getElem _ _ hl]
  simp only [fromPairs, List.getElem_map, List.getElem_range, hpair, hhalf]

/-- A number below 2^32 is kept by a word of 36 bits. -/
theorem toNat_half (n : Nat) : (BitVec.ofNat 36 (n % 2 ^ 32)).toNat = n % 2 ^ 32 := by
  rw [BitVec.toNat_ofNat]
  omega

theorem toNat_lt_of_mem_fromPairs {f : Nat → Nat} {w : Word} (h : w ∈ fromPairs f) : w.toNat < 2 ^ 32 := by
  obtain ⟨l, -, rfl⟩ := List.mem_map.mp h
  rw [toNat_half]
  omega

/-- A 64-bit value that is laid out on a pair is read back from it. -/
theorem pairAt_fromPairs {f : Nat → Nat} {i : Nat} (hi : i < 64) (hf : f i < 2 ^ 64) : pairAt (fromPairs f) i = f i := by
  have even : (fromPairs f).getD (2 * i) 0 = BitVec.ofNat 36 (f i / 2 ^ (32 * 0) % 2 ^ 32) :=
    getD_fromPairs f hi (e := 0) (by decide)
  have odd : (fromPairs f).getD (2 * i + 1) 0 = BitVec.ofNat 36 (f i / 2 ^ (32 * 1) % 2 ^ 32) :=
    getD_fromPairs f hi (e := 1) (by decide)
  rw [pairAt, even, odd, toNat_half, toNat_half]
  omega

/-! ### The four instructions -/

section

variable (q : Nat) (a b d m : List Word) (r : Nat)

theorem arithVal_add64 : arithVal 11 q a b d m r = fromPairs fun i => (pairAt a i + pairAt b i) % 2 ^ 64 := rfl

theorem arithVal_sub64 : arithVal 12 q a b d m r = fromPairs fun i => (pairAt a i + 2 ^ 64 - pairAt b i) % 2 ^ 64 := rfl

theorem arithVal_mul64 : arithVal 13 q a b d m r = fromPairs fun i => pairAt a i * pairAt b i % 2 ^ 64 := rfl

/-- The 64-bit value whose two halves are both the bit that CMPLT64 gives. -/
def cmpltPair (x y : Nat) : Nat := if x < y then 2 ^ 32 + 1 else 0

theorem half_cmpltPair (x y : Nat) {e : Nat} (he : e < 2) :
    cmpltPair x y / 2 ^ (32 * e) % 2 ^ 32 = if x < y then 1 else 0 := by
  unfold cmpltPair
  obtain rfl | rfl : e = 0 ∨ e = 1 := by omega
  · split <;> rfl
  · split <;> rfl

/-- The model gives CMPLT64 lane by lane; pair by pair it lays out the bit twice. -/
theorem arithVal_cmplt64 : arithVal 14 q a b d m r = fromPairs fun i => cmpltPair (pairAt a i) (pairAt b i) := by
  have lanes : arithVal 14 q a b d m r =
      (List.range 128).map fun l => if pairAt a (l / 2) < pairAt b (l / 2) then 1 else 0 := rfl
  rw [lanes, fromPairs]
  refine List.map_congr_left fun l _ => ?_
  rw [half_cmpltPair _ _ (Nat.mod_lt l Nat.two_pos)]
  split <;> rfl

end

/-- Each of the four instructions lays out one function of the two values of each pair, and reads nothing else. -/
theorem arithVal_eq_fromPairs {op : Nat} (hlo : 11 ≤ op) (hhi : op ≤ 14) :
    ∃ f : Nat → Nat → Nat, ∀ (q : Nat) (a b d m : List Word) (r : Nat),
      arithVal op q a b d m r = fromPairs fun i => f (pairAt a i) (pairAt b i) := by
  obtain rfl | rfl | rfl | rfl : op = 11 ∨ op = 12 ∨ op = 13 ∨ op = 14 := by omega
  · exact ⟨fun x y => (x + y) % 2 ^ 64, arithVal_add64⟩
  · exact ⟨fun x y => (x + 2 ^ 64 - y) % 2 ^ 64, arithVal_sub64⟩
  · exact ⟨fun x y => x * y % 2 ^ 64, arithVal_mul64⟩
  · exact ⟨cmpltPair, arithVal_cmplt64⟩

/-! ### The statement -/

/-- Settles O19: the value clauses by what each instruction lays out on pair i, the rest by the shape the four results share. -/
theorem lanePairs : Obligations.LanePairs := by
  unfold Obligations.LanePairs
  intro q q' a b d m r i hi
  have mod_lt (n : Nat) : n % 2 ^ 64 < 2 ^ 64 := Nat.mod_lt n (Nat.two_pow_pos 64)
  refine ⟨?add64, ?sub64, ?mul64, fun e he => ?cmplt64, fun op hlo hhi => ?shape⟩
  case add64 => rw [arithVal_add64, pairAt_fromPairs hi (mod_lt _)]
  case sub64 =>
    rw [arithVal_sub64, pairAt_fromPairs hi (mod_lt _)]
    have hb := pairAt_lt b i
    omega
  case mul64 => rw [arithVal_mul64, pairAt_fromPairs hi (mod_lt _)]
  case cmplt64 =>
    rw [arithVal_cmplt64, getD_fromPairs _ hi he, half_cmpltPair _ _ he]
    split <;> rfl
  case shape =>
    obtain ⟨f, hf⟩ := arithVal_eq_fromPairs hlo hhi
    refine ⟨?_, fun w hw => ?_, fun a' b' ha hb => ?_⟩
    · rw [hf, length_fromPairs]
    · rw [hf] at hw
      exact toNat_lt_of_mem_fromPairs hw
    · simp only [hf, ha, hb]

end Sys2Proof.Machine
end

section
/-! The two forms of a stream transfer (R239). First little-endian bytes and records of one length laid end to end; then each of
the two forms, written and read back; then the statement. -/

namespace Sys2Proof.Machine

/-! ### Little-endian bytes -/

@[simp] theorem length_leBytes (k n : Nat) : (leBytes k n).length = k := by
  induction k generalizing n with
  | zero => rfl
  | succ k ih => rw [leBytes, List.length_cons, ih]

/-- The k bytes of a number read back as what k bytes can hold of it. -/
@[simp] theorem leNat_leBytes (k n : Nat) : leNat (leBytes k n) = n % 256 ^ k := by
  induction k generalizing n with
  | zero => rw [leBytes, leNat, Nat.pow_zero, Nat.mod_one]
  | succ k ih =>
    calc leNat (leBytes (k + 1) n) = n % 256 + 256 * (n / 256 % 256 ^ k) := by
          rw [leBytes, leNat, ih, BitVec.toNat_ofNat]
      _ = n % 256 ^ (k + 1) := by rw [Nat.pow_succ', Nat.mod_mul]

/-- A record at the front is read back whole. -/
theorem bytesAt_append_zero (a b : List Byte) : bytesAt (a ++ b) 0 a.length = a := by
  simp [bytesAt]

/-- A record at the front is skipped by its length. -/
theorem bytesAt_append_add (a b : List Byte) (off len : Nat) : bytesAt (a ++ b) (a.length + off) len = bytesAt b off len := by
  rw [bytesAt, bytesAt, List.drop_length_add_append]

/-- Of numbers written in k bytes each, end to end, the bytes from k · i on read back as number i. -/
theorem numAt_flatMap_leBytes {α : Type} (k : Nat) (f : α → Nat) (l : List α) {i : Nat} (hi : i < l.length) :
    numAt (l.flatMap fun x => leBytes k (f x)) (k * i) k = f l[i] % 256 ^ k := by
  induction l generalizing i with
  | nil => simp at hi
  | cons x xs ih =>
    rw [List.flatMap_cons, numAt]
    cases i with
    | zero =>
      have front := bytesAt_append_zero (leBytes k (f x)) (xs.flatMap fun x => leBytes k (f x))
      rw [length_leBytes] at front
      rw [Nat.mul_zero, front, leNat_leBytes, List.getElem_cons_zero]
    | succ i =>
      have skip := bytesAt_append_add (leBytes k (f x)) (xs.flatMap fun x => leBytes k (f x)) (k * i) k
      rw [length_leBytes] at skip
      rw [Nat.mul_succ, Nat.add_comm, skip, List.getElem_cons_succ]
      exact ih (Nat.lt_of_succ_lt_succ hi)

/-! ### PACKED -/

/-- The words of a run are the digits in base 2^36 of the number whose bytes PACKED sends. -/
theorem packWords_packed (l : List Word) :
    packWords 0 l = leBytes (l.length * 9 / 2) (Nat.ofDigits (2 ^ 36) (l.map (·.toNat))) := by
  rw [Nat.ofDigits_eq_foldr, List.foldr_map]
  rfl

theorem length_packWords_packed (l : List Word) : (packWords 0 l).length = l.length * 9 / 2 := by
  rw [packWords_packed, length_leBytes]

theorem toNat_lt_of_mem_map {l : List Word} {n : Nat} (h : n ∈ l.map (·.toNat)) : n < 2 ^ 36 := by
  obtain ⟨w, -, rfl⟩ := List.mem_map.mp h
  exact w.isLt

/-- The bytes of a run of whole groups of 8 words hold all of its number. -/
theorem leNat_packWords_packed {l : List Word} (h : l.length % 8 = 0) :
    leNat (packWords 0 l) = Nat.ofDigits (2 ^ 36) (l.map (·.toNat)) := by
  have fits : Nat.ofDigits (2 ^ 36) (l.map (·.toNat)) < (2 ^ 36) ^ l.length := by
    simpa only [List.length_map] using
      Nat.ofDigits_lt_base_pow_length (l := l.map (·.toNat)) (by decide : 1 < 2 ^ 36) fun _ => toNat_lt_of_mem_map
  have sizes : (2 ^ 36) ^ l.length = 256 ^ (l.length * 9 / 2) := by
    have bits : 36 * l.length = 8 * (l.length * 9 / 2) := by omega
    rw [← pow_mul, bits, pow_mul]
    rfl
  rw [packWords_packed, leNat_leBytes, Nat.mod_eq_of_lt (sizes ▸ fits)]

/-- Digit i of the number of a run is word i. -/
theorem ofNat_ofDigits_div (l : List Word) {i : Nat} (hi : i < l.length) :
    BitVec.ofNat 36 (Nat.ofDigits (2 ^ 36) (l.map (·.toNat)) / 2 ^ (36 * i)) = l[i] := by
  apply BitVec.eq_of_toNat_eq
  rw [pow_mul, Nat.ofDigits_div_pow_eq_ofDigits_drop i (Nat.two_pow_pos 36) _ fun _ => toNat_lt_of_mem_map, ← List.map_drop,
    List.drop_eq_getElem_cons hi, List.map_cons, Nat.ofDigits_cons, BitVec.toNat_ofNat, Nat.add_mul_mod_self_left,
    Nat.mod_eq_of_lt l[i].isLt]

theorem unpackWords_packWords_packed {l : List Word} (h : l.length % 8 = 0) :
    unpackWords 0 l.length (packWords 0 l) = l := by
  refine List.ext_getElem (by simp [unpackWords]) fun i _ hi => ?_
  simp only [unpackWords, if_true, List.getElem_map, List.getElem_range, leNat_packWords_packed h, ofNat_ofDigits_div l hi]

/-! ### WIDE32 -/

theorem packWords_wide32 (l : List Word) : packWords 1 l = l.flatMap fun w => leBytes 4 (w.toNat % 2 ^ 32) := rfl

theorem length_packWords_wide32 (l : List Word) : (packWords 1 l).length = 4 * l.length := by
  simp [packWords_wide32, List.length_flatMap, Nat.mul_comm]

/-- Bits 31:0 of each word come back, and the 4 bytes of a word hold no more. -/
theorem unpackWords_packWords_wide32 (l : List Word) :
    unpackWords 1 l.length (packWords 1 l) = l.map fun w => BitVec.ofNat 36 (w.toNat % 2 ^ 32) := by
  refine List.ext_getElem (by simp [unpackWords]) fun i _ hi => ?_
  have hl : i < l.length := by rwa [List.length_map] at hi
  have word : numAt (packWords 1 l) (4 * i) 4 = l[i].toNat % 2 ^ 32 := by
    rw [packWords_wide32, numAt_flatMap_leBytes 4 _ l hl]
    exact Nat.mod_mod _ _
  simp only [unpackWords, Nat.one_ne_zero, if_false, List.getElem_map, List.getElem_range, word]

/-! ### The statement -/

/-- Settles O26: PACKED by reading the words as the digits of one number, WIDE32 by reading record i of 4 bytes. -/
theorem streamFormsRoundTrip : Obligations.StreamFormsRoundTrip := by
  unfold Obligations.StreamFormsRoundTrip
  intro l h
  have packedLength : (packWords 0 l).length = 36 * (l.length / 8) := by
    rw [length_packWords_packed]
    omega
  exact ⟨packedLength, rfl, unpackWords_packWords_packed h, length_packWords_wide32 l, rfl, unpackWords_packWords_wide32 l⟩

end Sys2Proof.Machine
end

section
/-! The layout of a fault record (R393). First fields of given sizes laid end to end, each read back at its offset; then the
record as its table of fields; then the statement. -/

namespace Sys2Proof.Machine

/-! ### Fields laid end to end -/

/-- Fields, each a size in bytes and a value, as their little-endian bytes one after another. -/
def layFields (l : List (Nat × Nat)) : List Byte := l.flatMap fun f => leBytes f.1 f.2

/-- The offset of field i: the sizes of the fields before it. -/
def fieldOffset (l : List (Nat × Nat)) (i : Nat) : Nat := ((l.take i).map Prod.fst).sum

theorem layFields_cons (f : Nat × Nat) (l : List (Nat × Nat)) : layFields (f :: l) = leBytes f.1 f.2 ++ layFields l := rfl

theorem length_layFields (l : List (Nat × Nat)) : (layFields l).length = (l.map Prod.fst).sum := by
  simp only [layFields, List.length_flatMap, length_leBytes]

theorem fieldOffset_cons_succ (f : Nat × Nat) (l : List (Nat × Nat)) (i : Nat) :
    fieldOffset (f :: l) (i + 1) = f.1 + fieldOffset l i := by
  simp only [fieldOffset, List.take_succ_cons, List.map_cons, List.sum_cons]

theorem numAt_leBytes_append_zero (k n : Nat) (rest : List Byte) : numAt (leBytes k n ++ rest) 0 k = n % 256 ^ k := by
  have front := bytesAt_append_zero (leBytes k n) rest
  rw [length_leBytes] at front
  rw [numAt, front, leNat_leBytes]

theorem numAt_leBytes_append_add (k n : Nat) (rest : List Byte) (off len : Nat) :
    numAt (leBytes k n ++ rest) (k + off) len = numAt rest off len := by
  have skip := bytesAt_append_add (leBytes k n) rest off len
  rw [length_leBytes] at skip
  rw [numAt, skip, numAt]

/-- At its offset a field reads back as what its bytes can hold of its value. -/
theorem numAt_layFields {l : List (Nat × Nat)} {i k n : Nat} (h : l[i]? = some (k, n)) :
    numAt (layFields l) (fieldOffset l i) k = n % 256 ^ k := by
  induction l generalizing i with
  | nil => simp at h
  | cons f fs ih =>
    rw [layFields_cons]
    cases i with
    | zero =>
      obtain rfl : f = (k, n) := by simpa using h
      exact numAt_leBytes_append_zero k n (layFields fs)
    | succ i =>
      rw [fieldOffset_cons_succ, numAt_leBytes_append_add]
      exact ih (by simpa using h)

/-! ### The record -/

/-- The table of R393: the size in bytes and the value of each field, in ascending offset. -/
def FaultRec.fields (r : FaultRec) : List (Nat × Nat) :=
  [(2, r.code), (1, r.sev), (1, r.fn), (4, r.loc), (4, r.job), (4, r.block), (4, r.extStart), (4, r.extLen), (8, r.detail)]

theorem FaultRec.bytes_eq_layFields (r : FaultRec) : r.bytes = layFields r.fields := by
  simp [FaultRec.bytes, FaultRec.fields, layFields]

theorem FaultRec.length_bytes (r : FaultRec) : r.bytes.length = 32 := by
  rw [FaultRec.bytes_eq_layFields, length_layFields]
  rfl

/-- A field of a fault record that fits its size is read back at the offset the table gives it. -/
theorem FaultRec.numAt_bytes {r : FaultRec} (i : Nat) {off k n : Nat} (h : r.fields[i]? = some (k, n))
    (hoff : fieldOffset r.fields i = off) (fits : n < 2 ^ (8 * k)) : numAt r.bytes off k = n := by
  rw [pow_mul] at fits
  rw [FaultRec.bytes_eq_layFields, ← hoff, numAt_layFields h]
  exact Nat.mod_eq_of_lt fits

/-! ### The statement -/

/-- Settles O22, field by field: the table has the field at that place, and the sizes before it add up to its offset. -/
theorem faultRecordLayout : Obligations.FaultRecordLayout := by
  unfold Obligations.FaultRecordLayout
  intro r hcode hsev hfn hloc hjob hblock hstart hlen hdetail
  refine ⟨r.length_bytes, ?code, ?sev, ?fn, ?loc, ?job, ?block, ?extStart, ?extLen, ?detail⟩
  case code => exact FaultRec.numAt_bytes 0 rfl rfl hcode
  case sev => exact FaultRec.numAt_bytes 1 rfl rfl hsev
  case fn => exact FaultRec.numAt_bytes 2 rfl rfl hfn
  case loc => exact FaultRec.numAt_bytes 3 rfl rfl hloc
  case job => exact FaultRec.numAt_bytes 4 rfl rfl hjob
  case block => exact FaultRec.numAt_bytes 5 rfl rfl hblock
  case extStart => exact FaultRec.numAt_bytes 6 rfl rfl hstart
  case extLen => exact FaultRec.numAt_bytes 7 rfl rfl hlen
  case detail => exact FaultRec.numAt_bytes 8 rfl rfl hdetail

end Sys2Proof.Machine
end

section
/-! What every step keeps: the storage forms, the fuses, the violations, the power limit and the always-on counts. All follow
from what a step keeps (`step_keeps`, `exec_keeps`) by reading the mask of the command. -/

namespace Sys2Proof.Machine

/-! ### Reading the mask of a command -/

theorem Piece.bit_lt (p : Piece) : p.bit < 2 ^ 26 := by
  cases p <;> decide

/-- Bit 26 stands in the mask of the commands with which the power goes or comes, and of no other. -/
theorem pieceMask_false_testBit (l : List Piece) : (pieceMask l false).testBit 26 = false := by
  refine Nat.testBit_lt_two_pow ?_
  unfold pieceMask
  induction l ++ afterEffect with
  | nil => exact Nat.two_pow_pos 26
  | cons p l ih => exact Nat.or_lt_two_pow p.bit_lt ih

/-- A command touches the always-on counts exactly when the power goes or comes with it. -/
theorem touches_contains_aon0 (c : Instr) : (touches c).contains .aon0 = powersOn c := by
  cases c <;> rfl

theorem touches_contains_aon1 (c : Instr) : (touches c).contains .aon1 = powersOn c := by
  cases c <;> rfl

/-! ### What a step keeps, whatever its command -/

/-- What every command and every idle cycle keeps, a step keeps. -/
theorem step_of_keeps {P : Dev → Dev → Prop} (h : ∀ {m : Nat} {a b : Dev}, Keeps m a b → P a b) {s t : State}
    (hst : step s = .next t) : P s.dev t.dev := by
  rcases step_keeps hst with ⟨_, _, _, k⟩ | ⟨_, k⟩
  · exact h k
  · exact h k

/-- Settles O5. -/
theorem stepKeepsStorageCanonical : Obligations.StepKeepsStorageCanonical := by
  unfold Obligations.StepKeepsStorageCanonical
  intro s t hbm stores hst
  have kept : (Tab.wf 0 s.dev.mem.hbm = true → Tab.wf 0 t.dev.mem.hbm = true) ∧ (StoresOk s.dev.cores → StoresOk t.dev.cores) :=
    step_of_keeps (P := fun a b => (Tab.wf 0 a.mem.hbm = true → Tab.wf 0 b.mem.hbm = true) ∧ (StoresOk a.cores → StoresOk b.cores))
      (fun k => ⟨k.hbm, k.stores⟩) hst
  exact ⟨kept.1 hbm, kept.2 stores⟩

/-- Settles O6. -/
theorem stepOnlyBurnsFuses : Obligations.StepOnlyBurnsFuses := by
  unfold Obligations.StepOnlyBurnsFuses
  intro s t hst
  exact step_of_keeps (P := fun a b => FusesBurn a.fuses b.fuses) (fun k => k.burn) hst

/-- Settles O9. -/
theorem powerLimitStaysInRange : Obligations.PowerLimitStaysInRange := by
  unfold Obligations.PowerLimitStaysInRange
  intro s t limit hst
  exact step_of_keeps (P := fun a b => LimitOk a.pwr → LimitOk b.pwr) (fun k => k.limit) hst limit

/-- Settles O8: a step that is not one with which the power goes or comes only adds violations. -/
theorem violationsStayUntilPowerOn : Obligations.ViolationsStayUntilPowerOn := by
  unfold Obligations.ViolationsStayUntilPowerOn
  intro s t hst quiet i hi
  suffices grown : Within s.dev.viol t.dev.viol from within_bit grown hi
  rcases step_keeps hst with ⟨c, rest, front, k⟩ | ⟨_, k⟩
  · have noBit : (execMask c).testBit 26 = false := by rw [execMask, quiet c rest front, pieceMask_false_testBit]
    exact k.grow.resolve_right (Bool.not_eq_true _ ▸ noBit)
  · exact k.grow.resolve_right (by decide)

/-! ### What a command leaves alone -/

/-- Settles O4. -/
theorem commandsKeepOtherPieces : Obligations.CommandsKeepOtherPieces := by
  unfold Obligations.CommandsKeepOtherPieces
  intro c s t p hex untouched outside
  exact exec_same_of_not_touched hex untouched outside

/-- Settles O11: AON_COUNT is a piece that only a loss or a return of power touches. -/
theorem alwaysOnCountsKeepTime : Obligations.AlwaysOnCountsKeepTime := by
  unfold Obligations.AlwaysOnCountsKeepTime
  intro c s t hex quiet
  have untouched0 : Piece.aon0 ∉ touches c := by
    rw [← List.contains_iff_mem, touches_contains_aon0, quiet]
    exact Bool.false_ne_true
  have untouched1 : Piece.aon1 ∉ touches c := by
    rw [← List.contains_iff_mem, touches_contains_aon1, quiet]
    exact Bool.false_ne_true
  exact ⟨exec_same_of_not_touched hex untouched0 (by decide), exec_same_of_not_touched hex untouched1 (by decide)⟩

/-- Settles O7: the fuses are a piece that only BOOT_STAGE and START_CONFIRM touch, and no idle cycle does. -/
theorem fusesBurnOnlyAtStart : Obligations.FusesBurnOnlyAtStart := by
  unfold Obligations.FusesBurnOnlyAtStart
  intro s t hst untouched
  rcases hs : s.pending with _ | ⟨c, rest⟩
  · rw [step, hs] at hst
    exact (keeps_idle (M := 49355789) hst rfl).same (p := .fuses) rfl
  · rw [step, hs] at hst
    exact exec_same_of_not_touched (s := { s with pending := rest }) (p := .fuses) hst (untouched c rest hs) (by decide)

/-- Settles O3: every arm of exec is an effect on the device, made a step. -/
theorem commandsAlwaysAnswer : Obligations.CommandsAlwaysAnswer := by
  unfold Obligations.CommandsAlwaysAnswer
  intro c s
  cases c <;> exact ⟨_, rfl, rfl⟩

/-! ### The step itself -/

/-- Settles O1. -/
theorem stepRunsFront : Obligations.StepRunsFront := by
  unfold Obligations.StepRunsFront
  intro c rest s
  rfl

/-- Settles O10. -/
theorem resetIsCanonical : Obligations.ResetIsCanonical := by
  unfold Obligations.ResetIsCanonical
  refine ⟨rfl, ?_, .inl rfl, rfl⟩
  intro p hp
  exact absurd hp List.not_mem_nil

/-- What follows every effect leaves the always-on counts. -/
theorem settle_aon (d : Dev) : d.settle.aon0 = d.aon0 ∧ d.settle.aon1 = d.aon1 := by
  have kept := keeps_settle (Keeps.refl 36704264 d) rfl
  exact ⟨kept.same (p := .aon0) rfl, kept.same (p := .aon1) rfl⟩

/-- An always-on cycle counts one in each die, unless the clock is missing (R504); what is timed in the cycle leaves the
counts. -/
theorem aonCycle_aon (d : Dev) :
    d.aonCycle.aon0 = (if d.rst.clkMissing then d.aon0 else (d.aon0 + 1) % 2 ^ 64) ∧
      d.aonCycle.aon1 = (if d.rst.clkMissing then d.aon1 else (d.aon1 + 1) % 2 ^ 64) := by
  have timed (e : Dev) : Keeps 33620997 e e.noteStalls.noteHolders.noteLost.keepAlive :=
    keeps_keepAlive (keeps_noteLost (keeps_noteHolders (keeps_noteStalls (Keeps.refl _ e) rfl) rfl) rfl) rfl
  unfold Dev.aonCycle
  split
  · exact ⟨rfl, rfl⟩
  · exact ⟨(timed _).same (p := .aon0) rfl, (timed _).same (p := .aon1) rfl⟩

/-- The pieces that an idle cycle can change. -/
theorem idleCycle_same {s t : State} {p : Piece} (h : idleCycle s = .next t)
    (hp : p ∉ [.cores, .groups, .starlane, .power, .mirror, .aon0, .aon1]) (ha : p ∉ afterEffect) : p.same s.dev t.dev := by
  have mask : pieceMask [.cores, .groups, .starlane, .power, .mirror, .aon0, .aon1] false = 49355789 := rfl
  refine (keeps_idle (M := 49355789) h rfl).same ?_
  rw [← mask]
  refine pieceMask_testBit p.index_ne fun q hq => ?_
  rw [Piece.bit_testBit, decide_eq_false_iff_not]
  rintro rfl
  exact (List.mem_append.mp hq).elim hp ha

/-- Settles O2: the counts by the always-on cycle, the rest by what it keeps. -/
theorem idleStep : Obligations.IdleStep := by
  unfold Obligations.IdleStep
  intro s empty
  have run : step s = idleCycle s := by
    unfold step
    rw [empty]
  refine ⟨_, run, empty, ?_, ?_, fun p hp ha => idleCycle_same rfl hp ha⟩
  · exact (settle_aon _).1.trans (aonCycle_aon s.found).1
  · exact (settle_aon _).2.trans (aonCycle_aon s.found).2

end Sys2Proof.Machine
end

section
/-! Resets, power limits, signals of vectors and tokens: what the shared operations of the device compute. -/

namespace Sys2Proof.Machine

/-! ### Resets -/

/-- Settles O14. -/
theorem deviceResetClearsAndKeeps : Obligations.DeviceResetClearsAndKeeps := by
  unfold Obligations.DeviceResetClearsAndKeeps
  intro d cause
  refine ⟨rfl, rfl, rfl, rfl, rfl, rfl, rfl, rfl, rfl, rfl, rfl, rfl, rfl, rfl, rfl, rfl, rfl, rfl⟩

/-- Settles O28. -/
theorem resetRegisters : Obligations.ResetRegisters := by
  unfold Obligations.ResetRegisters
  refine ⟨rfl, fun f => ⟨rfl, rfl, rfl, rfl, rfl, rfl⟩, fun h => ⟨rfl, rfl, rfl, rfl, rfl⟩, fun die n => ⟨rfl, rfl⟩,
    fun l => rfl, fun n => rfl, rfl, rfl, rfl, rfl⟩

/-- A request while no reset is held starts one, with its own cause (R480). -/
theorem requestReset_of_released {d : Dev} (clock : d.rst.clkMissing = false) (released : d.rst.hold = false) (cause : Nat) :
    d.requestReset cause = d.deviceReset cause := by
  unfold Dev.requestReset
  rw [if_neg (by simp [clock]), if_neg (by simp [released])]

/-- A request while a reset is held leaves the lower of the two causes (R484). -/
theorem requestReset_of_held {d : Dev} (clock : d.rst.clkMissing = false) (held : d.rst.hold = true) (cause : Nat) :
    (d.requestReset cause).rst.cause = min d.rst.cause cause := by
  unfold Dev.requestReset
  rw [if_neg (by simp [clock]), if_pos held]

theorem requestReset_twice_cause {d : Dev} (clock : d.rst.clkMissing = false) (released : d.rst.hold = false) (a b : Nat) :
    ((d.requestReset a).requestReset b).rst.cause = min a b := by
  rw [requestReset_of_released clock released, requestReset_of_held (d := d.deviceReset a) clock rfl]
  rfl

/-- Settles O15: the second request finds the hold of the first, so it leaves the lower cause. -/
theorem lowestResetCauseStands : Obligations.LowestResetCauseStands := by
  unfold Obligations.LowestResetCauseStands
  intro d a b clock released
  rw [requestReset_twice_cause clock released, requestReset_twice_cause clock released]
  exact ⟨rfl, Nat.min_comm a b⟩

/-! ### The power limit -/

/-- Settles O21. -/
theorem effectiveLimitRange : Obligations.EffectiveLimitRange := by
  unfold Obligations.EffectiveLimitRange
  intro d
  unfold Dev.effLimit clampLimit
  refine ⟨by omega, by omega, by omega, fun strap therm => ?_, fun w strap => ?_, fun w therm => ?_⟩
  · rw [strap, therm, Option.getD_none]
    omega
  · rw [strap, Option.getD_some]
    omega
  · rw [therm, Option.getD_some]
    omega

/-! ### Vectors -/

theorem msix_of_unmasked {d : Dev} {f v : Nat} (h : (d.fn f).unmasked.contains v = true) : d.msix f v = d.sendMsix f v := by
  rw [Dev.msix, if_pos h]

/-- A masked vector is noted in the function's Pending Bits, once. -/
theorem msix_of_masked {d : Dev} {f v : Nat} (h : (d.fn f).unmasked.contains v = false) : d.msix f v = d.updFn f fun x =>
    { x with pendingBits := if x.pendingBits.contains v then x.pendingBits else x.pendingBits ++ [v] } := by
  rw [Dev.msix, if_neg (by rw [h]; exact Bool.false_ne_true)]

/-- Settles O24. -/
theorem maskedVectorsPend : Obligations.MaskedVectorsPend := by
  unfold Obligations.MaskedVectorsPend
  intro d f v
  refine ⟨msix_of_unmasked, fun masked => ?_⟩
  rw [msix_of_masked masked, fn_updFn]
  refine ⟨updFn_out .., ?_, fun u hu => ?_, fun g hg => fn_updFn_of_ne d _ (Ne.symm hg)⟩
  · dsimp only
    split
    · next listed => exact List.contains_iff_mem.mp listed
    · exact List.mem_append_right _ (List.mem_singleton_self v)
  · dsimp only at hu
    split at hu
    · exact .inr hu
    · exact (List.mem_append.mp hu).symm.imp_left List.eq_of_mem_singleton

/-! ### Tokens -/

theorem token_see (c : Core) (t u : Nat) : (c.see t).token u = if u = t then min (c.token t + 1) 0xFFFFFFFF else c.token u := by
  unfold Core.see Core.token
  by_cases h : u = t
  · rw [if_pos h, h, Tab.get_set_self]
    rfl
  · rw [if_neg h, Tab.get_set_of_ne _ _ _ (Ne.symm h)]

theorem token_counted (j : Job) (t u : Nat) : ({ j with tokens := Tab.set j.tokens t (satAdd 32 (j.token t) 1) } : Job).token u =
    if u = t then min (j.token t + 1) 0xFFFFFFFF else j.token u := by
  unfold Job.token
  by_cases h : u = t
  · rw [if_pos h, h, Tab.get_set_self]
    rfl
  · rw [if_neg h, Tab.get_set_of_ne _ _ _ (Ne.symm h)]

theorem job_eq_of_jobs {d e : Dev} (h : e.jobs = d.jobs) (id : Nat) : e.job id = d.job id := by
  rw [Dev.job, Dev.job, h]

/-- An update of a job that keeps acceptance numbers is read back at its number. -/
theorem job_updJob {d : Dev} {id : Nat} {j : Job} (h : d.job id = some j) (u : Job → Job) (hu : (u j).id = j.id) :
    (d.updJob id u).job id = some (u j) := by
  rw [Dev.job] at h
  rw [Dev.job, updJob_jobs]
  generalize d.jobs = l at h ⊢
  induction l with
  | nil => simp at h
  | cons x xs ih =>
    rw [List.map_cons, List.find?_cons]
    rw [List.find?_cons] at h
    by_cases hx : x.id = id
    · obtain rfl : x = j := by simpa [hx] using h
      simp [hx, hu]
    · rw [if_neg hx]
      simp only [hx, decide_false] at h ⊢
      exact ih h

/-- Updates of cores leave the jobs. -/
theorem jobs_forAll_updCore (d : Dev) (l : List Nat) (u : Nat → Core → Core) :
    (d.forAll l fun d g => d.updCore g (u g)).jobs = d.jobs := by
  unfold Dev.forAll
  induction l generalizing d with
  | nil => rfl
  | cons g l ih => exact ih (d.updCore g (u g))

theorem job_signal {d : Dev} {id : Nat} {j : Job} (h : d.job id = some j) (t g : Nat) :
    (d.signal id t g).job id = some { j with tokens := Tab.set j.tokens t (satAdd 32 (j.token t) 1) } := by
  unfold Dev.signal
  simp only [h]
  rw [job_eq_of_jobs (jobs_forAll_updCore _ _ _)]
  exact job_updJob h _ rfl

/-- Settles O20: the token of a core by its own count, the token of the job by the update that every signal makes. -/
theorem tokensSaturate : Obligations.TokensSaturate := by
  unfold Obligations.TokensSaturate
  refine ⟨token_see, fun d id t u g j hj => ?_⟩
  rw [job_signal hj, Option.map_some, token_counted]

end Sys2Proof.Machine
end

section
/-! Memories, lanes and layouts: an HBM byte and a local-store word read as last written; the element-wise operations lane by
lane; the HBM interleave and its inverse; a limb's bytes; the bootstrap key table. -/

namespace Sys2Proof.Machine

/-! ### HBM -/

/-- What HBM holds after bytes are stored. -/
theorem byte_store {m : Mem} (h : m.wf = true) (addr a : Nat) (data : List Byte) :
    (m.store addr data).byte a = if addr ≤ a ∧ a < addr + data.length then data.getD (a - addr) 0 else m.byte a := by
  induction data generalizing m addr with
  | nil =>
    rw [if_neg (by simp), Mem.store]
  | cons b t ih =>
    have first : Tab.get 0 (Tab.store 0 m.hbm addr b) a = if a = addr then b else m.byte a := Tab.get_store h addr a b
    rw [Mem.store, ih (m := { m with hbm := Tab.store 0 m.hbm addr b }) (Tab.wf_store h addr b), Mem.byte, first, List.length_cons]
    rcases Nat.lt_trichotomy a addr with before | rfl | after
    · rw [if_neg (by omega), if_neg (by omega), if_neg (by omega)]
    · rw [if_neg (by omega), if_pos rfl, if_pos (by omega), Nat.sub_self, List.getD_cons_zero]
    · have place : a - addr = a - (addr + 1) + 1 := by omega
      rw [if_neg (Nat.ne_of_gt after), place, List.getD_cons_succ]
      refine if_congr ?_ rfl rfl
      omega

/-- Settles O16. -/
theorem hbmReadsBack : Obligations.HbmReadsBack := by
  unfold Obligations.HbmReadsBack
  intro m addr a data h
  exact ⟨byte_store h addr a data, hbm_store m addr data h⟩

/-! ### Local stores -/

/-- Noting a write changes rings alone, not the words. -/
theorem noteWrite_ls (c : Core) (a : Nat) : (c.noteWrite a).ls = c.ls := by
  unfold Core.noteWrite
  split
  · rfl
  · split
    · split
      · rfl
      · split <;> rfl
    · rfl

theorem foldl_noteWrite_ls (l : List (Nat × Word)) (c : Core) : (l.foldl (fun c x => c.noteWrite x.1) c).ls = c.ls := by
  induction l generalizing c with
  | nil => rfl
  | cons x l ih => rw [List.foldl_cons, ih, noteWrite_ls]

/-- What a table in canonical form holds at a key after a list of writes: the last write of the key in the list. -/
theorem get_foldl_store {t : Tab Word} (h : Tab.wf 0 t = true) (l : List (Nat × Word)) (a : Nat) :
    Tab.get 0 (l.foldl (fun t x => Tab.store 0 t x.1 x.2) t) a =
      ((l.reverse.find? fun p => p.1 = a).map Prod.snd).getD (Tab.get 0 t a) := by
  induction l generalizing t with
  | nil => rfl
  | cons x l ih =>
    rw [List.foldl_cons, ih (Tab.wf_store h x.1 x.2), Tab.get_store h, List.reverse_cons, List.find?_append]
    cases l.reverse.find? fun p => p.1 = a with
    | some p => rfl
    | none =>
      by_cases e : x.1 = a
      · simp [e]
      · simp [e, Ne.symm e]

theorem word_store {c : Core} (h : Tab.wf 0 c.ls = true) (l : List (Nat × Word)) {a : Nat} (ha : a < 2 ^ 22) :
    (c.store l).word a = ((l.reverse.find? fun p => p.1 = a).map Prod.snd).getD (c.word a) := by
  unfold Core.word Core.store
  dsimp only
  rw [foldl_noteWrite_ls, Nat.mod_eq_of_lt ha]
  exact get_foldl_store h l a

/-- Settles O17. -/
theorem localStoreReadsBack : Obligations.LocalStoreReadsBack := by
  unfold Obligations.LocalStoreReadsBack
  intro c l a h ha
  rw [word_store h l ha]
  cases l.reverse.find? fun p => p.1 = a <;> rfl

/-! ### Element-wise operations -/

theorem getD_lanes (f : Nat → Word) {i : Nat} (hi : i < 128) : ((List.range 128).map f).getD i 0 = f i := by
  simp [List.getD_eq_getElem?_getD, hi]

/-- A modular lane on residues holds the exact value modulo the prime. -/
theorem toNat_modLane {q : Nat} (pos : 0 < q) (fits : q < 2 ^ 36) (code v : Nat) {ops : List Nat} (h : ∀ x ∈ ops, x < q) :
    (modLane code q ops v).toNat = v % q := by
  have residues : (ops.all fun x => decide (x < q)) = true := List.all_eq_true.mpr fun x hx => decide_eq_true (h x hx)
  rw [modLane, if_pos residues, BitVec.toNat_ofNat]
  exact Nat.mod_eq_of_lt ((Nat.mod_lt v pos).trans fits)

section

variable (q : Nat) (a b d m : List Word) (r : Nat)

theorem arithVal_add : arithVal 1 q a b d m r = (List.range 128).map fun i =>
    modLane 1 q [(a.getD i 0).toNat, (b.getD i 0).toNat] ((a.getD i 0).toNat + (b.getD i 0).toNat) := rfl

theorem arithVal_sub : arithVal 2 q a b d m r = (List.range 128).map fun i =>
    modLane 2 q [(a.getD i 0).toNat, (b.getD i 0).toNat] ((a.getD i 0).toNat + q - (b.getD i 0).toNat) := rfl

theorem arithVal_neg : arithVal 3 q a b d m r = (List.range 128).map fun i =>
    modLane 3 q [(a.getD i 0).toNat] (q - (a.getD i 0).toNat) := rfl

theorem arithVal_mul : arithVal 4 q a b d m r = (List.range 128).map fun i =>
    modLane 4 q [(a.getD i 0).toNat, (b.getD i 0).toNat] ((a.getD i 0).toNat * (b.getD i 0).toNat) := rfl

theorem arithVal_mac : arithVal 5 q a b d m r = (List.range 128).map fun i =>
    modLane 5 q [(a.getD i 0).toNat, (b.getD i 0).toNat, (d.getD i 0).toNat]
      ((d.getD i 0).toNat + (a.getD i 0).toNat * (b.getD i 0).toNat) := rfl

theorem arithVal_cmplt : arithVal 6 q a b d m r = (List.range 128).map fun i =>
    if (a.getD i 0).toNat < (b.getD i 0).toNat then 1 else 0 := rfl

theorem arithVal_cmpeq : arithVal 7 q a b d m r = (List.range 128).map fun i =>
    if (a.getD i 0).toNat = (b.getD i 0).toNat then 1 else 0 := rfl

theorem arithVal_sel : arithVal 8 q a b d m r = (List.range 128).map fun i =>
    if m.getD i 0 ≠ 0 then a.getD i 0 else b.getD i 0 := rfl

theorem arithVal_shuf : arithVal 9 q a b d m r = (List.range 128).map fun i => a.getD ((i + r) % 128) 0 := rfl

theorem arithVal_bcast : arithVal 10 q a b d m r = (List.range 128).map fun _ => a.getD r 0 := rfl

end

/-- Settles O18, each operation by the value it lays out in lane i; SUB and NEG add q once, which the remainder drops. -/
theorem elementwiseLanes : Obligations.ElementwiseLanes := by
  unfold Obligations.ElementwiseLanes
  intro q a b d m r i pos fits hi residues
  rw [arithVal_add, arithVal_sub, arithVal_neg, arithVal_mul, arithVal_mac, arithVal_cmplt, arithVal_cmpeq, arithVal_sel,
    arithVal_shuf, arithVal_bcast]
  simp only [getD_lanes _ hi]
  obtain ⟨ha, hb, hd⟩ := residues i
  have hab : ∀ x ∈ [(a.getD i 0).toNat, (b.getD i 0).toNat], x < q := List.forall_mem_cons.mpr ⟨ha, List.forall_mem_singleton.mpr hb⟩
  have shifted {x : Nat} {y : Int} (h : (x : Int) = y + q) : ((x % q : Nat) : Int) = y % q := by
    rw [Int.natCast_emod, h, Int.add_emod_right]
  refine ⟨toNat_modLane pos fits 1 _ hab, ?sub, ?neg, toNat_modLane pos fits 4 _ hab,
    toNat_modLane pos fits 5 _ (List.forall_mem_cons.mpr ⟨ha, List.forall_mem_cons.mpr ⟨hb, List.forall_mem_singleton.mpr hd⟩⟩), trivial,
    if_congr BitVec.toNat_inj rfl rfl, ite_not .., trivial, trivial⟩
  case sub =>
    rw [toNat_modLane pos fits 2 _ hab]
    exact shifted (by omega)
  case neg =>
    rw [toNat_modLane pos fits 3 _ (List.forall_mem_singleton.mpr ha)]
    exact shifted (by omega)

/-! ### The interleave -/

/-- The pseudo-channel of an offset whose granule index is split off: bits 14:8 under the fold of the index (R257). -/
theorem pseudoOf_eq (o : Nat) : pseudoOf o = (o / 2 ^ 8 % 128) ^^^ granuleFold (o / 2 ^ 15 % 2 ^ 24) := by
  simp [pseudoOf, fld, Nat.shiftRight_eq_div_pow]

theorem granuleFold_eq (g : Nat) :
    granuleFold g = (g % 128) ^^^ (g / 2 ^ 7 % 128) ^^^ (g / 2 ^ 14 % 128) ^^^ (g / 2 ^ 21 % 8) := by
  simp [granuleFold, fld, Nat.shiftRight_eq_div_pow]

theorem granuleFold_lt (g : Nat) : granuleFold g < 128 := by
  rw [granuleFold_eq]
  refine Nat.xor_lt_two_pow (n := 7) (Nat.xor_lt_two_pow (Nat.xor_lt_two_pow ?_ ?_) ?_) ?_ <;> omega

theorem localOf_eq {o : Nat} (h : o < 2 ^ 39) : localOf o = o / 2 ^ 15 * 256 + o % 256 := by
  have index : o / 2 ^ 15 % 2 ^ 24 = o / 2 ^ 15 := Nat.mod_eq_of_lt (by omega)
  simp only [localOf, fld, Nat.shiftRight_eq_div_pow, index]

theorem pseudoOf_lt (o : Nat) : pseudoOf o < 128 := by
  rw [pseudoOf_eq]
  exact Nat.xor_lt_two_pow (n := 7) (Nat.mod_lt _ (by decide)) (granuleFold_lt _)

/-- Folding twice with one granule index takes the fold away. -/
theorem xor_granuleFold_xor {p : Nat} (h : p < 128) (g : Nat) : (p ^^^ granuleFold g) % 128 ^^^ granuleFold g = p := by
  have small : p ^^^ granuleFold g < 128 := Nat.xor_lt_two_pow (n := 7) h (granuleFold_lt g)
  rw [Nat.mod_eq_of_lt small, Nat.xor_assoc, Nat.xor_self, Nat.xor_zero]

/-- The inverse gives an offset back. -/
theorem hbmAddrOf_pseudoOf_localOf {o : Nat} (h : o < 2 ^ 39) (die : Nat) :
    hbmAddrOf die (pseudoOf o) (localOf o) = die * 2 ^ 39 + o := by
  have index : localOf o / 256 = o / 2 ^ 15 := by rw [localOf_eq h]; omega
  have low : localOf o % 256 = o % 256 := by rw [localOf_eq h]; omega
  have middle : (pseudoOf o ^^^ granuleFold (o / 2 ^ 15)) % 128 = o / 2 ^ 8 % 128 := by
    have inRange : o / 2 ^ 15 % 2 ^ 24 = o / 2 ^ 15 := Nat.mod_eq_of_lt (by omega)
    rw [pseudoOf_eq, inRange, Nat.xor_assoc, Nat.xor_self, Nat.xor_zero, Nat.mod_mod]
  rw [hbmAddrOf, index, low, middle]
  omega

/-- The die, the bits 14:8, the granule index and the low byte of the address that the inverse gives. -/
theorem hbmAddrOf_fields {die p l : Nat} (hl : l < 2 ^ 32) :
    hbmDie (hbmAddrOf die p l) = die ∧ hbmOff (hbmAddrOf die p l) / 2 ^ 8 % 128 = (p ^^^ granuleFold (l / 256)) % 128 ∧
      hbmOff (hbmAddrOf die p l) / 2 ^ 15 = l / 256 ∧ hbmOff (hbmAddrOf die p l) % 256 = l % 256 := by
  unfold hbmDie hbmOff hbmAddrOf
  generalize p ^^^ granuleFold (l / 256) = x
  refine ⟨?_, ?_, ?_, ?_⟩ <;> omega

theorem pseudoOf_hbmAddrOf {die p l : Nat} (hp : p < 128) (hl : l < 2 ^ 32) : pseudoOf (hbmOff (hbmAddrOf die p l)) = p := by
  obtain ⟨-, middle, index, -⟩ := hbmAddrOf_fields (die := die) (p := p) hl
  have inRange : l / 256 % 2 ^ 24 = l / 256 := Nat.mod_eq_of_lt (by omega)
  rw [pseudoOf_eq, middle, index, inRange, xor_granuleFold_xor hp]

/-- Settles O25. -/
theorem interleaveIsBijection : Obligations.InterleaveIsBijection := by
  unfold Obligations.InterleaveIsBijection
  refine ⟨fun o ho => ⟨?fold, localOf_eq ho, pseudoOf_lt o, ?size, fun die _ => hbmAddrOf_pseudoOf_localOf ho die⟩,
    fun die p l _ hp hl => ?back⟩
  case fold =>
    have index : o / 2 ^ 15 % 2 ^ 24 = o / 2 ^ 15 := Nat.mod_eq_of_lt (by omega)
    simp only [pseudoOf_eq, index, granuleFold_eq, Nat.div_div_eq_div_mul, ← Nat.pow_add, Nat.xor_assoc]
  case size =>
    rw [localOf_eq ho]
    omega
  case back =>
    obtain ⟨isDie, -, index, low⟩ := hbmAddrOf_fields (die := die) (p := p) hl
    have offset : hbmOff (hbmAddrOf die p l) < 2 ^ 39 := Nat.mod_lt _ (by decide)
    refine ⟨isDie, pseudoOf_hbmAddrOf hp hl, ?_, ?_⟩
    · rw [localOf_eq offset, index, low]
      omega
    · rw [chanOf, isDie, pseudoOf_hbmAddrOf hp hl]
      simp only [fld, Nat.shiftRight_eq_div_pow]
      omega

/-! ### Limbs -/

/-- The words of a group are the digits in base 2^36 of the number that its 36 bytes hold. -/
theorem sum_zipIdx_eq_ofDigits (l : List Word) :
    (l.zipIdx.map fun p => p.1.toNat * 2 ^ (36 * p.2)).sum = Nat.ofDigits (2 ^ 36) (l.map (·.toNat)) := by
  rw [Nat.ofDigits_eq_sum_mapIdx, List.mapIdx_eq_zipIdx_map, List.zipIdx_map, List.map_map]
  simp only [pow_mul]
  rfl

theorem packLimb_eq (l : List Word) : packLimb l = (List.range (l.length / 8)).flatMap fun g =>
    leBytes 36 (Nat.ofDigits (2 ^ 36) (((l.drop (8 * g)).take 8).map (·.toNat))) := by
  simp only [packLimb, sum_zipIdx_eq_ofDigits]

/-- The number of a group of at most 8 words fits in 36 bytes. -/
theorem ofDigits_group_lt {l : List Word} (h : l.length ≤ 8) : Nat.ofDigits (2 ^ 36) (l.map (·.toNat)) < 256 ^ 36 := by
  have below : Nat.ofDigits (2 ^ 36) (l.map (·.toNat)) < (2 ^ 36) ^ l.length := by
    simpa only [List.length_map] using
      Nat.ofDigits_lt_base_pow_length (l := l.map (·.toNat)) (by decide : 1 < 2 ^ 36) fun _ => toNat_lt_of_mem_map
  exact below.trans_le (Nat.pow_le_pow_right (by decide : 0 < 2 ^ 36) h)

/-- Word j of a limb is read back from its group. -/
theorem residueAt_packLimb {l : List Word} (h : l.length % 8 = 0) {j : Nat} (hj : j < l.length) :
    residueAt (packLimb l) j = l[j].toNat := by
  have inGroups : j / 8 < (List.range (l.length / 8)).length := by rw [List.length_range]; omega
  have group : numAt (packLimb l) (j / 8 * 36) 36 = Nat.ofDigits (2 ^ 36) (((l.drop (8 * (j / 8))).take 8).map (·.toNat)) := by
    rw [packLimb_eq, Nat.mul_comm, numAt_flatMap_leBytes 36 _ _ inGroups, List.getElem_range]
    exact Nat.mod_eq_of_lt (ofDigits_group_lt (List.length_take_le 8 _))
  have inGroup : j % 8 < ((l.drop (8 * (j / 8))).take 8).length := by
    rw [List.length_take, List.length_drop]
    omega
  have place : 8 * (j / 8) + j % 8 = j := by omega
  have digit := congrArg BitVec.toNat (ofNat_ofDigits_div ((l.drop (8 * (j / 8))).take 8) inGroup)
  rw [BitVec.toNat_ofNat] at digit
  rw [residueAt, group, fld, Nat.shiftRight_eq_div_pow, digit, List.getElem_take, List.getElem_drop]
  simp only [place]

/-- Settles O27: the bytes by the 36 of each group, the words by reading each back from its group. -/
theorem limbRoundTrip : Obligations.LimbRoundTrip := by
  unfold Obligations.LimbRoundTrip
  intro l h
  constructor
  · simp [packLimb_eq, List.length_flatMap, Nat.mul_comm]
  · refine List.ext_getElem (by simp [unpackLimb]) fun j _ hj => ?_
    rw [List.length_map] at hj
    simp only [unpackLimb, List.getElem_map, List.getElem_range, residueAt_packLimb h hj]

/-! ### The bootstrap key table -/

/-- An entry of the bootstrap key table that a core of a die cannot take (R137). -/
def bootKeyFails (b : List Byte) (die i : Nat) : Bool :=
  decide (numAt b (8 * i) 8 = 0) || !isHbm (numAt b (8 * i) 8) || decide (hbmDie (numAt b (8 * i) 8) ≠ die)

theorem bootKeyFails_eq_true {b : List Byte} {die i : Nat} : bootKeyFails b die i = true ↔
    numAt b (8 * i) 8 = 0 ∨ isHbm (numAt b (8 * i) 8) = false ∨ hbmDie (numAt b (8 * i) 8) ≠ die := by
  simp [bootKeyFails, or_assoc]

theorem bootKeyFails_eq_false {b : List Byte} {die i : Nat} : bootKeyFails b die i = false ↔
    numAt b (8 * i) 8 ≠ 0 ∧ isHbm (numAt b (8 * i) 8) = true ∧ hbmDie (numAt b (8 * i) 8) = die := by
  simp [bootKeyFails, and_assoc]

theorem bootKeys_of_read {d e : Dev} {g : Nat} {j : Job} {b : List Byte} (h : d.hbmRead j.args 704 = (e, .ok b)) :
    d.bootKeys g j = (e, ((List.range 88).find? (bootKeyFails b (g / 64))).map fun i => (0x0205, i)) := by
  unfold Dev.bootKeys
  rw [h]
  rfl

/-- Settles O29: the result is the first entry of 88 that fails, if one does. -/
theorem bootstrapKeyTable : Obligations.BootstrapKeyTable := by
  unfold Obligations.BootstrapKeyTable
  intro d e g j b h
  refine ⟨fun i hi fails before => ?_, fun sound => ?_⟩
  · have first : (List.range 88).find? (bootKeyFails b (g / 64)) = some i := by
      rw [List.find?_range_eq_some]
      exact ⟨bootKeyFails_eq_true.mpr fails, List.mem_range.mpr hi, fun k hk => by
        rw [bootKeyFails_eq_false.mpr (before k hk)]; rfl⟩
    rw [bootKeys_of_read h, first]
    rfl
  · have none : (List.range 88).find? (bootKeyFails b (g / 64)) = none := by
      rw [List.find?_eq_none]
      intro k hk
      rw [bootKeyFails_eq_false.mpr (sound k (List.mem_range.mp hk))]
      exact Bool.false_ne_true
    rw [bootKeys_of_read h, none]
    rfl

end Sys2Proof.Machine
end

section
/-! The commands of resets, of power, clocks and temperatures, and of the module hardware complete: each clause by the branch
of the command's effect that its condition selects. -/

namespace Sys2Proof.Machine

/-- Settles O30. -/
theorem resetCommandsComplete : Obligations.ResetCommandsComplete := by
  unfold Obligations.ResetCommandsComplete
  refine ⟨completes_of exec_powerOnReset fun d h => ?powerOnReset,
    completes_of exec_clockMissing fun d h => ?clockMissing,
    fun k t => completes_of exec_clockReturn fun d h => ?clockReturn,
    fun n acts => completes_of (exec_perstAssert n acts) fun d h => ?perstAssert_long,
    fun n acts => completes_of (exec_perstAssert n acts) fun d h => ?perstAssert_short,
    completes_of exec_perstDeassert fun d h => if_pos h,
    completes_of exec_hotReset fun d h => ?hotReset,
    fun v => completes_of (exec_rstCtrlDevice v) fun d h => ?rstCtrlDevice,
    completes_of exec_watchdogExpiry fun d h => ?watchdogExpiry,
    fun cls t => completes_of (exec_thermalTrip cls t) fun d h => ?thermalTrip,
    fun t => completes_of (exec_resetRelease t) fun d h => ?resetRelease,
    fun ok => completes_of (exec_fuseCopyCheck ok) fun d h => ?fuseCopyCheck_pass,
    fun ok => completes_of (exec_fuseCopyCheck ok) fun d h => ?fuseCopyCheck_fail,
    fun codes v => completes_of (exec_strapSetDone codes) fun d h => ?strapSetDone,
    fun t => completes_of exec_startTimeout fun d h => ?startTimeout⟩
  case powerOnReset =>
    obtain ⟨porPending, on, rails, clock⟩ := h
    exact if_pos (by simp [porPending, on, rails, clock])
  case clockMissing => exact if_neg (by simp [h])
  case clockReturn =>
    obtain ⟨clock, released, latched⟩ := h
    rw [fxClockReturn, if_pos clock, latched]
    exact if_neg (by simp [released])
  case perstAssert_long =>
    obtain ⟨long, clock, released⟩ := h
    rw [fxPerstAssert, if_neg (by omega), if_pos (.inl long), if_neg (by simp [clock])]
    exact requestReset_of_released (by exact clock) (by exact released) 7
  case perstAssert_short => exact if_pos h
  case hotReset =>
    obtain ⟨link, clock, released⟩ := h
    rw [fxHotReset, if_neg link, requestReset_of_released clock released]
  case rstCtrlDevice =>
    obtain ⟨device, key, clock, released⟩ := h
    rw [fxRstCtrlDevice, if_pos (by simp [device, key]), requestReset_of_released clock released]
  case watchdogExpiry =>
    obtain ⟨runs, clock, released⟩ := h
    rw [fxWatchdogExpiry, if_pos (List.contains_iff_mem.mpr runs), requestReset_of_released clock released]
  case thermalTrip =>
    obtain ⟨trips, clock, released⟩ := h
    rw [fxThermalTrip, if_pos trips]
    exact requestReset_of_released (by exact clock) (by exact released) 4
  case resetRelease =>
    obtain ⟨hold, clock, perst, good, por, held, high, cool⟩ := h
    rw [Dev.pwrGood, Bool.and_eq_true] at good
    have cooled : (!d.rst.thermHold || decide (t + 10 ≤ tripOf 0)) = true := by
      rw [Bool.or_eq_true, Bool.not_eq_true', decide_eq_true_eq]
      exact (Bool.eq_false_or_eq_true d.rst.thermHold).symm.imp_right cool
    exact if_pos (by simp only [hold, clock, perst, por, good, held, high, cooled, Bool.not_false, decide_true, Bool.and_self, Bool.true_or])
  case fuseCopyCheck_pass =>
    obtain ⟨pass, released, loading, failed⟩ := h
    rw [fxFuseCopyCheck, if_neg (by simp [released, loading, failed]), if_pos pass]
  case fuseCopyCheck_fail =>
    obtain ⟨fail, released, loading, failed⟩ := h
    rw [fxFuseCopyCheck, if_neg (by simp [released, loading, failed]), if_neg (by simp [fail])]
  case strapSetDone =>
    obtain ⟨eight, agree, released, loaded, measuring⟩ := h
    obtain ⟨c, cs, rfl⟩ := List.exists_cons_of_length_eq_add_one eight
    have first : c % 256 / 16 = v := agree c (List.mem_cons_self ..)
    rw [fxStrapSetDone, if_neg (by simpa [released, loaded, measuring] using eight)]
    simp only [List.headD_cons, first]
    exact if_pos (by simpa using agree)
  case startTimeout =>
    obtain ⟨started, unconfirmed, late, clock, released⟩ := h
    simp only [fxStartTimeout, started]
    rw [if_pos (by simp [unconfirmed, released, late]), requestReset_of_released clock released]

theorem ifExpert_of_expert {d : Dev} {a : Agent} (h : d.expert a = true) (eff : Dev → Dev) : d.ifExpert a eff = eff d := if_pos h

/-- Settles O31. -/
theorem powerCommandsComplete : Obligations.PowerCommandsComplete := by
  unfold Obligations.PowerCommandsComplete
  refine ⟨fun w => completes_of (exec_powerSample w) fun d _ => rfl,
    completes_of exec_gapRatioUpdate fun d _ => rfl,
    fun die cls t => completes_of (exec_thermalLevelChange die cls t) fun d _ => rfl,
    fun die => completes_of (exec_throttleStep die) fun d h => if_pos h,
    fun die => completes_of (exec_freqStep die) fun d h => ?freqStep_down,
    fun die => completes_of (exec_freqStep die) fun d h => ?freqStep_up,
    fun i => completes_of (exec_clusterRelock i) fun d h => ?clusterRelock,
    fun i => completes_of (exec_relockDone i) fun d h => if_pos h,
    fun v a => completes_of (exec_pwrCtrlWrite v a) fun d h => ?pwrCtrlWrite,
    fun i v a => completes_of (exec_clkClusterWrite i v a) fun d h => ifExpert_of_expert h _⟩
  case freqStep_down =>
    obtain ⟨hot, due⟩ := h
    rw [fxFreqStep, if_pos due, if_pos hot]
  case freqStep_up =>
    obtain ⟨cool, below, stepped, due⟩ := h
    rw [fxFreqStep, if_pos due, if_neg (by omega), if_pos ⟨below, stepped⟩]
  case clusterRelock =>
    obtain ⟨relocking, idle⟩ := h
    exact if_pos (by simpa [relocking] using idle)
  case pwrCtrlWrite => rw [fxPwrCtrlWrite, ifExpert_of_expert h]; rfl

theorem turnOff_of_on {d : Dev} (h : d.hw.on = true) (reason : Nat) : d.turnOff reason =
    d.unpowered { Hw.reset with on := false, offReason := reason, rails := 0, card := d.hw.card } := if_pos h

theorem turnOn_of_off {d : Dev} (h : d.hw.on = false) : d.turnOn = { d with hw := { Hw.reset with porPending := true, card := d.hw.card } } :=
  if_neg (by simp [h])

/-- Settles O32. -/
theorem moduleCommandsComplete : Obligations.ModuleCommandsComplete := by
  unfold Obligations.ModuleCommandsComplete
  refine ⟨completes_of exec_vinRise fun d h => turnOn_of_off h,
    fun us => completes_of (exec_vinFall us) fun d h => ?vinFall_off,
    fun us => completes_of (exec_vinFall us) fun d h => if_pos h,
    completes_of exec_vinOvervoltage fun d h => turnOff_of_on h 2,
    completes_of exec_overvoltageTurnOn fun d h => (if_pos h.1).trans (turnOn_of_off h.2),
    completes_of exec_overcurrentTrip fun d h => turnOff_of_on h 3,
    completes_of exec_hotswapRetry fun d h => (if_pos h.1).trans (turnOn_of_off h.2),
    fun rail kind => completes_of (exec_railFault rail kind) fun d h => ?railFault_lower,
    fun rail kind => completes_of (exec_railFault rail kind) fun d h => ?railFault_upper,
    fun t => completes_of exec_railRestart fun d h => ?railRestart_all,
    fun t => completes_of exec_railRestart fun d h => ?railRestart_upper,
    fun static dyn => completes_of (exec_setdasa static dyn) fun d h => ?setdasa,
    fun dyn => completes_of (exec_entdaa dyn) fun d h => ?entdaa,
    completes_of exec_pcieLinkReachesL0 fun d h => ?pcieLinkReachesL0⟩
  case vinFall_off =>
    obtain ⟨long, on⟩ := h
    rw [fxVinFall, if_neg (by omega), turnOff_of_on on]
  case railFault_lower =>
    obtain ⟨lower, on, alive, noFault, up, least, most⟩ := h
    rw [fxRailFault, if_neg (by simp [on, alive, noFault, up, railKindOk, least, most]), if_pos lower]
  case railFault_upper =>
    obtain ⟨upper, on, alive, noFault, up, least, most⟩ := h
    rw [fxRailFault, if_neg (by simp [on, alive, noFault, up, railKindOk, least, most]), if_neg (by omega)]
  case railRestart_all =>
    obtain ⟨off, alive, rails⟩ := h
    simp only [fxRailRestart, off]
    rw [if_neg (by simp [alive]), if_pos rails]
  case railRestart_upper =>
    obtain ⟨off, alive, rails, due⟩ := h
    simp only [fxRailRestart, off]
    rw [if_neg (by simp [alive]), if_neg rails, if_pos due]
  case setdasa =>
    obtain ⟨on, static⟩ := h
    exact if_pos (by rw [on, Dev.i3cStatic, decide_eq_true static]; rfl)
  case entdaa =>
    obtain ⟨on, free⟩ := h
    exact if_pos (by simp [on, free])
  case pcieLinkReachesL0 => exact if_pos (by simpa using h)

end Sys2Proof.Machine
end

section
/-! The commands of the start, of partial resets and of Dusk complete. -/

namespace Sys2Proof.Machine

/-- A step of the start that is due is not turned away (R492). -/
theorem startStep_due {d : Dev} {n : Nat} (first : 3 ≤ n) (last : n ≤ 12) (released : d.rst.hold = false)
    (running : d.rst.romHalt = false) (normal : d.rst.lodestar = false) (open' : d.stepDone n = false)
    (needs : ∀ m ∈ stepNeeds n, d.stepDone m = true) (ready : d.stepReady n = true) (online : d.upd.offline = false) :
    ¬ (d.rst.hold || d.rst.romHalt || d.rst.lodestar || d.stepDone n || decide (n < 3) || decide (12 < n) ||
      !((stepNeeds n).all d.stepDone) || !d.stepReady n || (decide (5 ≤ n) && d.upd.offline && decide (d.upd.state = 3))) = true := by
  have early : ¬ n < 3 := by omega
  have late : ¬ 12 < n := by omega
  have met : (stepNeeds n).all d.stepDone = true := List.all_eq_true.mpr needs
  simp [released, running, normal, open', early, late, met, ready, online]

/-- A request for a partial reset of a free part begins it (R485). -/
theorem partReset_of_free {d : Dev} {kind idx : Nat} {a : Agent}
    (h : d.expert a = true ∧ d.rst.partBusy = false ∧ d.partFree kind idx = true) (hkind : kind < 8) (hidx : idx < partCount kind)
    (small : idx < 256) :
    d.partReset kind idx a = ({ d with
        rst := { d.rst with
              partCtrlIndex := idx, partCtrlKind := kind, partIndex := idx, partKind := kind, partResult := 0,
              partBusy := true, partWaiting := false } } : Dev).beginPart kind idx := by
  obtain ⟨expert, ready, free⟩ := h
  rw [Dev.partReset, ifExpert_of_expert expert, if_neg (by simp [ready]), Nat.mod_eq_of_lt hkind, Nat.mod_eq_of_lt small]
  dsimp only
  rw [if_neg (Nat.not_le_of_lt hidx)]
  have stillFree (u : Rst → Rst) : (d.updRst u).partFree kind idx = true := free
  rw [stillFree]
  rfl

/-- Settles O33. -/
theorem startCommandsComplete : Obligations.StartCommandsComplete := by
  unfold Obligations.StartCommandsComplete
  refine ⟨fun n norOk bad => completes_of (exec_startStepDone n norOk bad) fun d h => ?startStepDone_plain,
    fun n norOk bad => completes_of (exec_startStepDone n norOk bad) fun d h => ?startStepDone_acting,
    fun n norOk bad => completes_of (exec_startStepDone n norOk bad) fun d h => ?startStepDone_record,
    completes_of exec_startConfirm fun d h => if_pos h,
    fun g a => completes_of (exec_partResetCore g a) fun d h => partReset_of_free h (by decide) g.isLt (by omega),
    fun g a => completes_of (exec_partResetCluster g a) fun d h => partReset_of_free h (by decide) g.isLt (by omega),
    fun g a => completes_of (exec_partResetHbmChannel g a) fun d h => partReset_of_free h (by decide) g.isLt (by omega),
    fun g a => completes_of (exec_partResetLink g a) fun d h => partReset_of_free h (by decide) g.isLt (by omega),
    fun g a => completes_of (exec_partResetOptEngine g a) fun d h => partReset_of_free h (by decide) g.isLt (by omega),
    fun g a => completes_of (exec_partResetAppCore g a) fun d h => partReset_of_free h (by decide) g.isLt (by omega),
    completes_of exec_partResetStart fun d h => ?partResetStart,
    fun ok => completes_of (exec_partialResetDone ok) fun d h => ?partialResetDone,
    completes_of exec_duskEntry fun d h => ?duskEntry,
    completes_of exec_duskWake fun d h => if_pos h,
    completes_of exec_wakeComplete fun d h => if_pos h⟩
  case startStepDone_plain =>
    obtain ⟨which, released, running, normal, open', needs, ready, online⟩ := h
    have range : ∀ m ∈ [3, 5, 11, 12], 3 ≤ m ∧ m ≤ 12 ∧ m ≠ 7 := by decide
    obtain ⟨first, last, noRecord⟩ := range n which
    rw [fxStartStepDone, if_neg (startStep_due first last released running normal open' needs ready online), if_neg noRecord]
    fin_cases which <;> rfl
  case startStepDone_acting =>
    obtain ⟨which, released, running, normal, open', needs, ready, online⟩ := h
    have range : ∀ m ∈ [4, 6, 8, 9, 10], 3 ≤ m ∧ m ≤ 12 ∧ m ≠ 7 := by decide
    obtain ⟨first, last, noRecord⟩ := range n which
    rw [fxStartStepDone, if_neg (startStep_due first last released running normal open' needs ready online), if_neg noRecord]
    fin_cases which <;> rfl
  case startStepDone_record =>
    obtain ⟨rfl, released, running, normal, open', records, online⟩ := h
    have needs : ∀ m ∈ stepNeeds 7, d.stepDone m = true := List.forall_mem_singleton.mpr records
    rw [fxStartStepDone, if_neg (startStep_due (by decide) (by decide) released running normal open' needs rfl online), if_pos rfl]
  case partResetStart =>
    obtain ⟨busy, waiting, free⟩ := h
    exact if_pos (by simp [busy, waiting, free])
  case partialResetDone =>
    obtain ⟨busy, acting, core⟩ := h
    have resumed : d.endPart d.rst.partKind d.rst.partIndex ok =
        d.updCore d.rst.partIndex fun c => { c with wiping := false, segBusy := 0 } := by rw [core]; rfl
    have image : d.upd.confirm d.rst.partKind d.rst.partIndex = d.upd.confirm 1 d.rst.partIndex := by rw [core]
    rw [fxPartialResetDone]
    dsimp only
    rw [if_pos (by simp [busy, acting]), resumed, ← image]
    cases ok <;> rfl
  case duskEntry =>
    obtain ⟨idle, awake, enabled, strap, confirmed, normal, due⟩ := h
    exact if_pos (by simp [idle, awake, enabled, strap, confirmed, normal, due])

end Sys2Proof.Machine
end

section
/-! The commands of the intake, of jobs and of the host windows complete, and those of job boundaries, function-level resets
and interface security. -/

namespace Sys2Proof.Machine

/-- Two updates of a function that agree on its registers are one. -/
theorem updFn_congr (d : Dev) (f : Nat) {u v : Fn → Fn} (e : u (d.fn f) = v (d.fn f)) : d.updFn f u = d.updFn f v := by
  unfold Dev.updFn
  rw [e]

/-- Functions whose share slots a start wipes: none where the job's cores last ran for the job's own function. -/
theorem displaced_eq_nil {d : Dev} {f : Nat} {l : List Nat} (h : ∀ g ∈ l, (d.core g).lastFn = none ∨ (d.core g).lastFn = some f) :
    (l.filterMap fun g => (d.core g).lastFn).filter (fun o => o ≠ f) = [] := by
  rw [List.filter_eq_nil_iff]
  intro o ho
  obtain ⟨g, hg, last⟩ := List.mem_filterMap.mp ho
  rcases h g hg with none | own
  · simp [none] at last
  · have : o = f := Option.some_injective _ (last.symm.trans own)
    simpa using this

theorem fin_val_ne_zero {n : Nat} [NeZero n] {f : Fin n} (h : f ≠ 0) : f.val ≠ 0 := fun e => h (Fin.ext e)

/-- Settles O34. -/
theorem hostCommandsComplete : Obligations.HostCommandsComplete := by
  unfold Obligations.HostCommandsComplete
  refine ⟨fun f off data st => completes_of (exec_intakeSeal f off data st) fun d h => hostRequest_open h _,
    fun f => completes_of (exec_heldSealEvaluate f) fun d h => ?heldSealEvaluate,
    fun f seq j code detail => completes_of (exec_jobCheck f seq) fun d h => ?jobCheck_refused,
    fun f seq j e recs sets => completes_of (exec_jobCheck f seq) fun d h => ?jobCheck_kept,
    fun f seq j => completes_of (exec_jobStart f seq) fun d h => ?jobStart,
    fun f seq j => completes_of (exec_resourceReserve f seq) fun d h => ?resourceReserve,
    fun f seq j => completes_of (exec_jobTimeLimit f seq) fun d h => ?jobTimeLimit,
    fun f seq => completes_of (exec_intkCancel f seq) fun d h => ?intkCancel_unknown,
    fun f seq j => completes_of (exec_intkCancel f seq) fun d h => ?intkCancel_waiting,
    fun f seq j => completes_of (exec_intkCancel f seq) fun d h => ?intkCancel_running,
    fun f seq j => completes_of (exec_intkCancel f seq) fun d h => ?intkCancel_boundary,
    fun f v => completes_of (exec_intkEn f v) fun d h => ?intkEn_on,
    fun f v => completes_of (exec_intkEn f v) fun d h => ?intkEn_refused,
    fun f v => completes_of (exec_intkEn f v) fun d h => ?intkEn_off,
    fun f v => completes_of (exec_hifExpertEnWrite f v) fun d h => if_pos (congrArg Fin.val h),
    fun f v => completes_of (exec_hifExpertEnWrite f v) fun d h => if_neg (fin_val_ne_zero h),
    fun f v n t => completes_of (exec_msixModerationTimer f v) fun d h => ?msixModerationTimer,
    fun f off wr len st b => completes_of (exec_bar0Access f off wr len st) fun d h => ?bar0Access_write,
    fun f off wr len st => completes_of (exec_bar0Access f off wr len st) fun d h => ?bar0Access_read,
    fun f off wr len st b p addr => completes_of (exec_bar2Access f off wr len st) fun d h => ?bar2Access_write,
    fun f off wr len st p addr => completes_of (exec_bar2Access f off wr len st) fun d h => ?bar2Access_read⟩
  case heldSealEvaluate =>
    obtain ⟨isOpen, awake, sealed⟩ := h
    exact if_pos (by simp [isOpen, awake, sealed])
  case jobCheck_refused =>
    obtain ⟨found, accepted, fails⟩ := h
    simp only [fxJobCheck, found, accepted, fails, ne_eq, not_true_eq_false, if_false]
  case jobCheck_kept =>
    obtain ⟨found, accepted, passes, reachable, read, sound⟩ := h
    simp only [fxJobCheck, found, accepted, passes, reachable, read, sound, ne_eq, not_true_eq_false, Bool.false_eq_true, if_false]
  case jobStart =>
    obtain ⟨found, startable, first, awake, tenant⟩ := h
    have oldest : (d.jobs.any fun o => decide (o.id < j.id) && d.startable o) = false := by
      rw [List.any_eq_false]
      intro o ho
      simpa using first o ho
    have noneDisplaced := displaced_eq_nil tenant
    unfold fxJobStart
    simp only [found, noneDisplaced]
    refine (ite_self _).trans ?_
    simp only [Dev.jobStart, found]
    rw [if_neg (by simp [startable, oldest, awake])]
  case resourceReserve =>
    obtain ⟨found, waiting, late⟩ := h
    simp only [fxResourceReserve, found]
    exact if_pos ⟨waiting, late⟩
  case jobTimeLimit =>
    obtain ⟨found, running, late⟩ := h
    simp only [fxJobTimeLimit, found]
    exact if_pos ⟨.inl running, late⟩
  case intkCancel_unknown => simp only [fxIntkCancel, h]
  case intkCancel_waiting =>
    obtain ⟨found, waiting⟩ := h
    simp only [fxIntkCancel, found, waiting]
  case intkCancel_running =>
    obtain ⟨found, running⟩ := h
    simp only [fxIntkCancel, found, running]
  case intkCancel_boundary =>
    obtain ⟨found, boundary⟩ := h
    simp only [fxIntkCancel, found, boundary]
  case intkEn_on =>
    obtain ⟨enables, ring, off⟩ := h
    rw [fxIntkEn]
    dsimp only
    rw [if_pos enables, if_neg ring]
    exact updFn_congr d _ (if_neg (by simp [off]))
  case intkEn_refused =>
    obtain ⟨enables, noRing⟩ := h
    rw [fxIntkEn]
    dsimp only
    rw [if_pos enables, if_pos noRing]
  case intkEn_off =>
    obtain ⟨disables, noJob⟩ := h
    rw [fxIntkEn]
    dsimp only
    rw [if_neg (by simp [disables]), if_neg (by omega)]
  case msixModerationTimer =>
    obtain ⟨waiting, some, late⟩ := h
    refine if_pos ?_
    rw [waiting]
    exact ⟨some, late⟩
  case bar0Access_write =>
    obtain ⟨reaches, rfl, outside⟩ := h
    rw [fxBar0Access, hostRequest_open reaches]
    exact if_neg (by simp [outside])
  case bar0Access_read =>
    obtain ⟨reaches, rfl, outside⟩ := h
    rw [fxBar0Access, hostRequest_open reaches]
    exact if_neg (by simp [outside])
  case bar2Access_write =>
    obtain ⟨reaches, rfl, fits, place, within, free⟩ := h
    rw [fxBar2Access, hostRequest_open reaches]
    dsimp only
    rw [if_neg (Nat.not_lt.mpr fits), place, Option.filter_some, if_pos within]
    exact hostAsk_free free
  case bar2Access_read =>
    obtain ⟨reaches, rfl, fits, place, within, free⟩ := h
    rw [fxBar2Access, hostRequest_open reaches]
    dsimp only
    rw [if_neg (Nat.not_lt.mpr fits), place, Option.filter_some, if_pos within]
    exact hostAsk_free free

/-- A read that a channel in service returns to anything but an application core is counted as it was found; what is
uncorrectable aborts the consumer. -/
theorem fxHbmReadReturn_of_served {d : Dev} {h atom : Nat} (s : AtomState) {who : Consumer} (hbm : isHbm (atom / 64 * 64) = true)
    (channel : chanOf (atom / 64 * 64) = h) (noCore : ∀ a, who ≠ .app a) (inService : d.mem.resetting (atom / 64 * 64) 64 = false) :
    fxHbmReadReturn d h atom s who =
      if d.mem.finding (atom / 64 * 64) s = .uncorrectable then
        (d.updMem fun m => m.eccRead (atom / 64 * 64) false .uncorrectable).abortConsumer 0x0501 (atom / 64 * 64)
          (fun e => streamAddr e (atom / 64 * 64)) false who
      else d.updMem fun m => m.eccRead (atom / 64 * 64) false (d.mem.finding (atom / 64 * 64) s) := by
  unfold fxHbmReadReturn
  cases who with
  | app a => exact absurd rfl (noCore a)
  | _ =>
    simp only [hbm, channel, inService, decide_true, Bool.and_self, Bool.not_true, Bool.not_false, Bool.or_self, if_true,
      Bool.false_eq_true, if_false]
    cases d.mem.finding (atom / 64 * 64) s <;> rfl

/-- Settles O35. -/
theorem jobCommandsComplete : Obligations.JobCommandsComplete := by
  unfold Obligations.JobCommandsComplete
  refine ⟨fun h atom found who => completes_of (exec_hbmReadReturn h atom found who) fun d h => ?hbmReadReturn_delivered,
    fun h atom found who => completes_of (exec_hbmReadReturn h atom found who) fun d h => ?hbmReadReturn_uncorrectable,
    fun h atom found who a m => completes_of (exec_hbmReadReturn h atom found who) fun d h => ?hbmReadReturn_line,
    fun die r vc who => completes_of (exec_fabricUncorrectable die r vc who) fun d _ => rfl,
    fun f seq j => completes_of (exec_jobBoundary f seq) fun d h => ?jobBoundary,
    fun f seq j => completes_of (exec_jobCompletion f seq) fun d h => ?jobCompletion,
    fun f => completes_of (exec_functionLevelReset f) fun d h => if_neg (fin_val_ne_zero h),
    fun f => completes_of (exec_functionLevelReset f) fun d h => ?functionLevelReset_physical,
    fun k => completes_of (exec_kSetGo k) fun d h => ?kSetGo,
    fun sid => completes_of (exec_ideIntegrityFail sid) fun d _ => rfl,
    fun f => completes_of (exec_stopInterface f) fun d h => ?stopInterface,
    fun f st => completes_of (exec_lockInterfaceRequest f st) fun d h => ?lockInterfaceRequest_locks,
    fun f st => completes_of (exec_lockInterfaceRequest f st) fun d h => ?lockInterfaceRequest_refused,
    fun f => completes_of (exec_startInterfaceRequest f) fun d h => ?startInterfaceRequest,
    fun f => completes_of (exec_tdiConfigChange f) fun d h => if_pos ⟨fin_val_ne_zero h.1, h.2⟩,
    fun f => completes_of (exec_stopInterfaceWipeDone f) fun d h => ?stopInterfaceWipeDone⟩
  case hbmReadReturn_delivered =>
    obtain ⟨hbm, channel, noCore, inService, sound⟩ := h
    rw [fxHbmReadReturn_of_served found hbm channel noCore inService, if_neg sound]
  case hbmReadReturn_uncorrectable =>
    obtain ⟨hbm, channel, noCore, inService, bad⟩ := h
    rw [fxHbmReadReturn_of_served found hbm channel noCore inService, if_pos bad]
  case hbmReadReturn_line =>
    obtain ⟨hbm, channel, rfl, passes, sound⟩ := h
    simp only [fxHbmReadReturn, hbm, channel, passes, decide_true, Bool.and_self, Bool.not_true, Bool.or_self, if_true,
      Bool.false_eq_true, if_false]
    cases state : m.finding (atom.toNat / 64 * 64) found with
    | uncorrectable => exact absurd state sound
    | _ => rfl
  case jobBoundary =>
    obtain ⟨found, ready⟩ := h
    simp only [fxJobBoundary, found]
    rw [if_pos (by simpa using ready)]
  case jobCompletion =>
    obtain ⟨found, boundary, drained⟩ := h
    simp only [fxJobCompletion, found]
    have allDrained : j.cores.all d.drained = true := List.all_eq_true.mpr drained
    rw [if_neg (not_not.mpr boundary)]
    exact if_neg (by rw [allDrained]; exact Bool.false_ne_true)
  case functionLevelReset_physical =>
    have physical : f.val = 0 := congrArg Fin.val h
    rw [physical, fxFunctionLevelReset]
    exact if_pos rfl
  case kSetGo =>
    obtain ⟨isOpen, stream⟩ := h
    rw [fxKSetGo, spdm_secured isOpen, if_neg (by omega)]
  case stopInterface =>
    obtain ⟨⟨runs, link, session⟩, virtual⟩ := h
    rw [fxStopInterface, if_neg (by omega), Dev.secured, if_pos session, if_neg (fin_val_ne_zero virtual)]
    rfl
  case lockInterfaceRequest_locks =>
    obtain ⟨isOpen, virtual, unlocked, noJob⟩ := h
    rw [fxLockInterfaceRequest, spdm_secured isOpen, if_neg (fin_val_ne_zero virtual), if_neg (by omega)]
    rfl
  case lockInterfaceRequest_refused =>
    obtain ⟨isOpen, virtual, busy⟩ := h
    rw [fxLockInterfaceRequest, spdm_secured isOpen, if_neg (fin_val_ne_zero virtual), if_pos busy]
  case startInterfaceRequest =>
    obtain ⟨isOpen, virtual, locked⟩ := h
    rw [fxStartInterfaceRequest, spdm_secured isOpen, if_neg (fin_val_ne_zero virtual), if_neg (by omega)]
    rfl
  case stopInterfaceWipeDone =>
    obtain ⟨stopping, ended⟩ := h
    exact if_pos (by simpa [stopping] using ended)

end Sys2Proof.Machine
end

section
/-! The runtime calls and traps of the application cores complete, and the accesses to registers over the host, over I3C and
by configuration requests. -/

namespace Sys2Proof.Machine

/-- A runtime call of a running control program answers what its function gives (R416). -/
theorem call_of_calling {d : Dev} {a : Nat} {j : Job} (h : d.calling a = some j) (f : Job → Dev × Nat × Nat) :
    d.call a f = (f j).1.emit (.call a (f j).2.1 (f j).2.2) := by
  simp only [Dev.call, h]

/-- Settles O36. -/
theorem appCoreCommandsComplete : Obligations.AppCoreCommandsComplete := by
  unfold Obligations.AppCoreCommandsComplete
  refine ⟨fun a code j => completes_of (exec_appExit a code) fun d h => ?appExit_plain,
    fun a code j => completes_of (exec_appExit a code) fun d h => ?appExit_code,
    fun a t j => completes_of (exec_tokenSignal a t) fun d h => ?tokenSignal_counts,
    fun a t j => completes_of (exec_tokenSignal a t) fun d h => ?tokenSignal_refused,
    fun a t th lim j => completes_of (exec_tokenWait a t th lim) fun d h => ?tokenWait_reached,
    fun a t th lim j => completes_of (exec_tokenWait a t th lim) fun d h => ?tokenWait_sleeps,
    fun a w j => completes_of (exec_tokenWaitResume a) fun d h => ?tokenWaitResume_reached,
    fun a w j => completes_of (exec_tokenWaitResume a) fun d h => ?tokenWaitResume_late,
    fun a t j => completes_of (exec_tokenRead a t) fun d h => ?tokenRead,
    fun a die hdr members level j n => completes_of (exec_kgroupOpen a die hdr members level) fun d h => ?kgroupOpen_granted,
    fun a die hdr members level j => completes_of (exec_kgroupOpen a die hdr members level) fun d h => ?kgroupOpen_noDie,
    fun a die n j => completes_of (exec_kgroupClose a die n) fun d h => ?kgroupClose,
    fun a die n j => completes_of (exec_kgroupStatus a die n) fun d h => ?kgroupStatus,
    fun a addr j => completes_of (exec_guestPageFault a addr) fun d h => ?guestPageFault,
    fun a addr j => completes_of (exec_loadAccessFault a addr) fun d h => ?loadAccessFault,
    fun a cause pc j => completes_of (exec_ctrlTrap a cause pc) fun d h => ?ctrlTrap⟩
  case appExit_plain =>
    obtain ⟨calls, rfl⟩ := h
    simp only [fxAppExit, calls]
    exact if_pos rfl
  case appExit_code =>
    obtain ⟨calls, code⟩ := h
    simp only [fxAppExit, calls]
    exact if_neg code
  case tokenSignal_counts =>
    obtain ⟨calls, known⟩ := h
    rw [fxTokenSignal, call_of_calling calls, if_neg (by omega)]
  case tokenSignal_refused =>
    obtain ⟨calls, unknown⟩ := h
    rw [fxTokenSignal, call_of_calling calls, if_pos unknown]
    rfl
  case tokenWait_reached =>
    obtain ⟨calls, known, reached⟩ := h
    simp only [fxTokenWait, calls]
    rw [if_neg (by omega), if_pos reached]
  case tokenWait_sleeps =>
    obtain ⟨calls, known, below⟩ := h
    simp only [fxTokenWait, calls]
    rw [if_neg (by omega), if_neg (by omega)]
  case tokenWaitResume_reached =>
    obtain ⟨waits, runs, reached⟩ := h
    simp only [fxTokenWaitResume, waits, runs]
    exact if_pos reached
  case tokenWaitResume_late =>
    obtain ⟨waits, runs, below, late⟩ := h
    simp only [fxTokenWaitResume, waits, runs]
    rw [if_neg (by omega), if_pos late]
  case tokenRead =>
    obtain ⟨calls, known⟩ := h
    rw [fxTokenRead, call_of_calling calls, if_neg (by omega)]
  case kgroupOpen_granted =>
    obtain ⟨calls, die, idle, granted⟩ := h
    rw [fxKgroupOpen, call_of_calling calls, if_neg (by omega)]
    simp only [idle, granted]
  case kgroupOpen_noDie =>
    obtain ⟨calls, die⟩ := h
    rw [fxKgroupOpen, call_of_calling calls, if_pos die]
    rfl
  case kgroupClose =>
    obtain ⟨calls, own⟩ := h
    rw [fxKgroupClose, call_of_calling calls, if_pos own]
  case kgroupStatus =>
    obtain ⟨calls, own⟩ := h
    rw [fxKgroupStatus, call_of_calling calls, if_pos own]
  case guestPageFault =>
    obtain ⟨calls, outside⟩ := h
    simp only [fxGuestPageFault, calls]
    exact if_neg (by simp [outside])
  case loadAccessFault =>
    obtain ⟨calls, within, hbm⟩ := h
    simp only [fxLoadAccessFault, calls]
    rw [if_neg (by simp [within]), if_pos hbm]
  case ctrlTrap => simp only [fxCtrlTrap, h]

theorem i3cReg_emit (d : Dev) (o : Out) : (d.emit o).i3cReg = d.i3cReg := rfl

/-- An access over I3C that finds a register is not reported. -/
theorem i3cReport_of_register {d : Dev} (h : d.i3cReg.isSome = true) : d.i3cReport = d := by
  unfold Dev.i3cReport
  refine if_neg ?_
  rintro ⟨-, -, none⟩
  rw [Option.isNone_iff_eq_none] at none
  simp [none] at h

/-- Settles O37. -/
theorem accessCommandsComplete : Obligations.AccessCommandsComplete := by
  unfold Obligations.AccessCommandsComplete
  refine ⟨fun b => completes_of (exec_i3cSetOffset b) fun d h => if_pos h,
    fun b => completes_of (exec_i3cRegisterWrite b) fun d h => ?i3cRegisterWrite,
    completes_of exec_i3cRegisterRead fun d h => ?i3cRegisterRead_found,
    completes_of exec_i3cRegisterRead fun d h => ?i3cRegisterRead_hole,
    fun a addr b f => completes_of (exec_registerWrite a addr b) fun d h => ?registerWrite_function,
    fun a addr b k j => completes_of (exec_registerWrite a addr b) fun d h => ?registerWrite_appCore,
    fun a addr b => completes_of (exec_registerWrite a addr b) fun d h => ?registerWrite_firmware,
    fun a addr b p => completes_of (exec_registerWrite a addr b) fun d h => ?registerWrite_bmc,
    fun q => completes_of (exec_configurationRequest q) fun d h => ?configurationRequest_early,
    fun q => completes_of (exec_configurationRequest q) fun d h => ?configurationRequest_served⟩
  case i3cRegisterWrite =>
    obtain ⟨on, length, found⟩ := h
    rw [fxI3cRegisterWrite, if_pos ⟨on, length⟩]
    exact if_pos found
  case i3cRegisterRead_found =>
    obtain ⟨on, found⟩ := h
    rw [fxI3cRegisterRead, if_pos on, i3cReport_of_register (by rw [i3cReg_emit]; exact found)]
  case i3cRegisterRead_hole =>
    obtain ⟨on, hole, aligned, reached⟩ := h
    rw [fxI3cRegisterRead, if_pos on, hole, Dev.i3cReport, if_pos ⟨aligned, reached, by rw [i3cReg_emit, hole]; rfl⟩]
    rfl
  case registerWrite_function =>
    obtain ⟨reaches, rfl, own, register⟩ := h
    simp only [fxRegisterWrite]
    rw [hostRequest_open reaches, if_neg]
    rintro (⟨virtual, foreign⟩ | memory)
    · rcases own with rfl | within
      · exact virtual rfl
      · simp [within] at foreign
    · simp [register] at memory
  case registerWrite_appCore =>
    obtain ⟨rfl, calls, within, register⟩ := h
    simp only [fxRegisterWrite, calls]
    rw [if_neg (by simp [within]), if_neg (by simp [register])]
  case registerWrite_firmware =>
    obtain ⟨rfl, register⟩ := h
    exact if_neg (by simp [register])
  case registerWrite_bmc =>
    obtain ⟨rfl, place, reached⟩ := h
    simp only [fxRegisterWrite, place]
    exact if_pos reached
  case configurationRequest_early =>
    obtain ⟨link, early, normal⟩ := h
    rw [fxConfigurationRequest, if_neg (not_not.mpr link), if_pos (by simp [early, normal])]
  case configurationRequest_served =>
    obtain ⟨link, served⟩ := h
    rw [fxConfigurationRequest, if_neg (not_not.mpr link), if_neg (by rcases served with step | lodestar <;> simp [*])]

end Sys2Proof.Machine
end

section
/-! The commands of laser cartridges, of link training and of flits complete. -/

namespace Sys2Proof.Machine

/-- The state of a link in service is one of the two of R317 and R323. -/
theorem not_out_of_service {n : Nat} (h : n = 6 ∨ n = 9) : ¬ (n ≠ 6 ∧ n ≠ 9) := by omega

/-- Settles O38. -/
theorem linkCommandsComplete : Obligations.LinkCommandsComplete := by
  unfold Obligations.LinkCommandsComplete
  refine ⟨fun k => completes_of (exec_cartridgeFailure k) fun d h => if_pos h,
    fun k => completes_of (exec_cartRelease k) fun d h => if_pos h.symm,
    fun k => completes_of (exec_cartRestore k) fun d h => if_neg (not_not.mpr h),
    fun k => completes_of (exec_cartridgeInsert k) fun d h => if_neg (by simp [h]),
    fun k => completes_of (exec_cartridgeLit k) fun d h => if_pos h,
    fun k => completes_of (exec_cartridgeLeverOpen k) fun d h => if_neg (by simp [h]),
    fun k => completes_of (exec_cartridgeLeverOpen k) fun d h => if_pos (by simp [h]),
    fun l => completes_of (exec_linkLightDetect l) fun d h => if_pos h,
    fun l => completes_of (exec_linkTrainStep l) fun d h => if_pos h,
    fun l => completes_of (exec_linkTrainStep l) fun d h => ?linkTrainStep_align,
    fun l => completes_of (exec_linkTrainTimeout l) fun d h => if_pos h,
    fun l id far version => completes_of (exec_hello l id far version) fun d h => ?hello_up,
    fun l id far version => completes_of (exec_hello l id far version) fun d h => ?hello_own,
    fun l id far version => completes_of (exec_hello l id far version) fun d h => ?hello_version,
    fun l => completes_of (exec_lossOfLock l) fun d h => if_pos h,
    fun l => completes_of (exec_fastRetrainDone l) fun d h => ?fastRetrainDone_awake,
    fun l => completes_of (exec_fastRetrainDone l) fun d h => ?fastRetrainDone_dusk,
    fun l => completes_of (exec_fastRetrainFail l) fun d h => ?fastRetrainFail,
    fun l => completes_of (exec_linkRetryExpiry l) fun d h => if_pos h,
    fun l flit fec => completes_of (exec_flitReceive l flit fec) fun d h => ?flitReceive_uncorrectable,
    fun l flit fec data fixed => completes_of (exec_flitReceive l flit fec) fun d h => ?flitReceive_crc,
    fun l flit fec data fixed => completes_of (exec_flitReceive l flit fec) fun d h => ?flitReceive_sequence,
    fun l flit fec data fixed => completes_of (exec_flitReceive l flit fec) fun d h => ?flitReceive_taken,
    fun l seq => completes_of (exec_nakReceive l seq) fun d h => if_neg (not_out_of_service h),
    fun l a => completes_of (exec_lnkRetrain l a) fun d h => ?lnkRetrain_up,
    fun l a => completes_of (exec_lnkRetrain l a) fun d h => ?lnkRetrain_enabled⟩
  case linkTrainStep_align =>
    rw [fxLinkTrainStep]
    rw [if_neg (by omega), if_pos h]
    rfl
  case hello_up =>
    obtain ⟨waits, other, version⟩ := h
    rw [fxHello, if_neg (not_not.mpr waits)]
    exact (if_neg other).trans (if_neg (not_not.mpr version))
  case hello_own =>
    obtain ⟨waits, own⟩ := h
    rw [fxHello, if_neg (not_not.mpr waits)]
    exact if_pos own
  case hello_version =>
    obtain ⟨waits, other, version⟩ := h
    rw [fxHello, if_neg (not_not.mpr waits)]
    exact (if_neg other).trans (if_pos version)
  case fastRetrainDone_awake =>
    obtain ⟨notDusk, notWaking, retrains, inTime⟩ := h
    rw [fxFastRetrainDone]
    rw [if_pos ⟨retrains, inTime⟩, Dev.enterUp, if_neg (by omega)]
    rfl
  case fastRetrainDone_dusk =>
    obtain ⟨dusk, retrains, inTime⟩ := h
    rw [fxFastRetrainDone]
    rw [if_pos ⟨retrains, inTime⟩, Dev.enterUp, if_pos dusk]
    rfl
  case fastRetrainFail =>
    obtain ⟨retrains, late⟩ := h
    rw [fxFastRetrainFail]
    rw [if_pos ⟨retrains, late⟩, Dev.failLink, if_neg (by omega)]
  case flitReceive_uncorrectable =>
    obtain ⟨inService, decoded⟩ := h
    rw [fxFlitReceive]
    dsimp only
    rw [if_neg (not_out_of_service inService), decoded]
  case flitReceive_crc =>
    obtain ⟨inService, decoded, crc⟩ := h
    rw [fxFlitReceive]
    dsimp only
    rw [if_neg (not_out_of_service inService), decoded]
    exact if_pos crc
  case flitReceive_sequence =>
    obtain ⟨inService, decoded, crc, sequence⟩ := h
    rw [fxFlitReceive]
    dsimp only
    rw [if_neg (not_out_of_service inService), decoded]
    exact (if_neg (not_not.mpr crc)).trans (if_pos sequence)
  case flitReceive_taken =>
    obtain ⟨inService, decoded, crc, sequence⟩ := h
    rw [fxFlitReceive]
    dsimp only
    rw [if_neg (not_out_of_service inService), decoded]
    exact (if_neg (not_not.mpr crc)).trans (if_neg (not_not.mpr sequence))
  case lnkRetrain_up =>
    obtain ⟨expert, up⟩ := h
    rw [fxLnkRetrain, ifExpert_of_expert expert]
    exact if_pos up
  case lnkRetrain_enabled =>
    obtain ⟨expert, enabled⟩ := h
    have others : ∀ n ∈ [1, 2, 3, 4, 5, 8], n ≠ 6 ∧ ¬ (n = 0 ∨ n = 7 ∨ n = 9) := by decide
    obtain ⟨notUp, trains⟩ := others _ enabled
    rw [fxLnkRetrain, ifExpert_of_expert expert]
    exact (if_neg notUp).trans (if_neg trains)

end Sys2Proof.Machine
end

section
/-! The commands of the HBM controllers, of the write-combining buffers and regulators, and of the fabrics complete. -/

namespace Sys2Proof.Machine

/-! ### Updates of a part of the memory -/

theorem updChan_congr (m : Mem) (h : Nat) {u v : Chan → Chan} (e : u (m.chan h) = v (m.chan h)) : m.updChan h u = m.updChan h v := by
  unfold Mem.updChan
  rw [e]

theorem updChan_updChan (m : Mem) (h : Nat) (u v : Chan → Chan) : (m.updChan h u).updChan h v = m.updChan h fun c => v (u c) := by
  simp [Mem.updChan, Mem.chan]

theorem updPart_congr (m : Mem) (p : Nat) {u v : Part → Part} (e : u (m.part p) = v (m.part p)) : m.updPart p u = m.updPart p v := by
  unfold Mem.updPart
  rw [e]

theorem updMem_congr (d : Dev) {u v : Mem → Mem} (e : u d.mem = v d.mem) : d.updMem u = d.updMem v := by
  unfold Dev.updMem
  rw [e]

theorem wcbOf_updWcb (m : Mem) (die : Nat) (u : Wcb → Wcb) : (m.updWcb die u).wcbOf die = u (m.wcbOf die) := by
  simp [Mem.updWcb, Mem.wcbOf]

/-! ### Channel tests and maintenance -/

theorem deny_mem (d : Dev) (a : Agent) : (d.deny a).mem = d.mem := by
  unfold Dev.deny
  split <;> rfl

/-- A test that is not a destructive one starts where nothing refuses it (R278): the fields of the write are stored, DESTRUCT
stays or becomes 0, and the test runs. -/
theorem tgcStart_inService {d : Dev} {h v : Nat} {a : Agent} (plain : bit v 2 = false)
    (inService : d.expert a = true ∨ (d.mem.chan h).destruct = false) (idle : (d.mem.chan h).running = false)
    (trained : (d.mem.chan h).state ≠ 5) (pattern : fld v 4 4 ≤ 5) (op : fld v 8 4 ≤ 2) :
    fxTgcStart d h v a = (if d.expert a then d else d.deny a).updMem fun m => m.updChan h fun c => { c with
      passes := fld v 32 32, op := fld v 8 4, pattern := fld v 4 4, destruct := false, tstate := 1, reason := 0, errors := 0,
      errPseudo := false, errAtom := 0, dqMask := 0, atoms := 0, running := true, full := false } := by
  have keeps : (if d.expert a = true then false else (d.mem.chan h).destruct) = false := by
    rcases inService with expert | service
    · exact if_pos expert
    · rw [service, ite_self]
  have inRange : ¬ (5 < fld v 4 4 ∨ 2 < fld v 8 4) := by omega
  have mem : (if d.expert a = true then d else d.deny a).mem = d.mem := by
    split
    · rfl
    · exact deny_mem d a
  unfold fxTgcStart
  refine updMem_congr _ ?_
  rw [mem]
  dsimp only
  rw [chan_updChan, updChan_updChan, plain]
  refine updChan_congr _ _ ?_
  simp only [tgcRefusal, keeps, inRange, idle, trained, Bool.or_self, Bool.false_and, Bool.false_eq_true, if_false, ne_eq,
    not_true_eq_false]

theorem tgcEnd_of_running {d : Dev} {h : Nat} (runs : (d.mem.chan h).running = true) (written checked errs : Nat)
    (first : Option (Bool × Nat × Nat)) (stopped : Bool) : d.tgcEnd h written checked errs first stopped = d.updMem fun m =>
      ((if (d.mem.chan h).op = 1 then m else m.fill h (d.mem.chan h).full (d.mem.chan h).pattern (d.mem.chan h).seed written)).updChan h
        fun c => { c with
          running := false, errors := min errs (2 ^ 32 - 1), atoms := min checked (2 ^ 64 - 1),
          tstate := if stopped then 5 else if errs = 0 then 2 else 3,
          errPseudo := (first.map fun f => f.1).getD false, errAtom := (first.map fun f => f.2.1 % 2 ^ 26).getD 0,
          dqMask := (first.map fun f => f.2.2 % 2 ^ 32).getD 0 } :=
  if_neg (by simp [runs])

/-- Settles O39. -/
theorem memoryCommandsComplete : Obligations.MemoryCommandsComplete := by
  unfold Obligations.MemoryCommandsComplete
  refine ⟨fun h => completes_of (exec_smallPathWindow h) fun d empty => ?smallPathWindow_empty,
    fun h r => completes_of (exec_smallPathWindow h) fun d waiting => ?smallPathWindow_waiting,
    fun n t found => completes_of (exec_refreshSlot n t found) fun d h => ?refreshSlot_noPatrol,
    fun n t found => completes_of (exec_refreshSlot n t found) fun d h => ?refreshSlot_patrol,
    fun n v a => completes_of (exec_tgcStart n v a) fun d h => ?tgcStart_expert,
    fun n v a => completes_of (exec_tgcStart n v a) fun d h => ?tgcStart_denied,
    fun h w k e => completes_of (exec_tgcStop h w k e) fun d runs => tgcEnd_of_running runs ..,
    fun h errs first => completes_of (exec_tgcTestEnd h errs first) fun d ends => ?tgcTestEnd,
    fun a => completes_of (exec_maintSet a) fun d h => ?maintSet_idle,
    fun a => completes_of (exec_maintSet a) fun d h => ?maintSet_busy,
    fun a => completes_of (exec_maintClear a) fun d h => ifExpert_of_expert h _,
    completes_of exec_maintWipeDone fun d h => if_pos h⟩
  case smallPathWindow_empty =>
    rw [fxSmallPathWindow, empty]
    rfl
  case smallPathWindow_waiting =>
    rw [fxSmallPathWindow, waiting]
  case refreshSlot_noPatrol =>
    obtain ⟨refreshed, noPatrol⟩ := h
    rw [fxRefreshSlot]
    dsimp only
    rw [if_pos refreshed, if_neg (by simp [noPatrol])]
  case refreshSlot_patrol =>
    obtain ⟨refreshed, patrol⟩ := h
    rw [fxRefreshSlot]
    dsimp only
    rw [if_pos refreshed, if_pos patrol]
    split
    · next bad => rw [if_pos bad, bad]
    · next sound => rw [if_neg sound]
  case tgcStart_expert =>
    obtain ⟨plain, expert, idle, trained, pattern, op⟩ := h
    rw [tgcStart_inService plain (.inl expert) idle trained pattern op, if_pos expert]
  case tgcStart_denied =>
    obtain ⟨plain, noExpert, service, idle, trained, pattern, op⟩ := h
    rw [tgcStart_inService plain (.inr service) idle trained pattern op, if_neg (by simp [noExpert])]
  case tgcTestEnd =>
    obtain ⟨runs, passes⟩ := ends
    exact (if_neg passes).trans (tgcEnd_of_running runs ..)
  case maintSet_idle =>
    obtain ⟨expert, noJob⟩ := h
    rw [fxMaintSet, ifExpert_of_expert expert, if_pos (by simp [noJob])]
    rfl
  case maintSet_busy =>
    obtain ⟨expert, busy⟩ := h
    rw [fxMaintSet, ifExpert_of_expert expert, if_neg (by simpa using busy)]
    rfl

/-! ### Write-combining buffers -/

theorem length_set_le {α : Type} (t : Tab α) (n : Nat) (x : α) : (Tab.set t n x).length ≤ t.length + 1 := by
  induction t with
  | nil => exact Nat.le_refl 1
  | cons p t ih =>
    obtain ⟨k, v⟩ := p
    rw [Tab.set]
    split
    · exact Nat.le_refl _
    · split
      · exact Nat.le_succ _
      · exact Nat.succ_le_succ ih

/-- Bytes merged into an entry fill at most as many of its places. -/
theorem length_wcbMerge_le (t : Tab Byte) (off : Nat) (bytes : List Byte) : (wcbMerge t off bytes).length ≤ t.length + bytes.length := by
  unfold wcbMerge
  induction bytes generalizing t off with
  | nil => exact Nat.le_refl _
  | cons b bytes ih =>
    rw [List.foldl_cons, List.length_cons]
    have grown := length_set_le t off b
    exact (ih (Tab.set t off b) (off + 1)).trans (by omega)

/-- A write to a granule without an entry, of less than a granule, allocates one, which does not flush (R262). -/
theorem wcbWrite_new {d : Dev} {part : Nat} {job : Option Nat} {addr : Nat} {data : List Byte} (partial' : data.length < 256)
    (new : (d.mem.wcbOf (hbmDie addr)).entries.find? (fun (e : WcbEntry) => decide (e.granule = addr / 256 * 256)) = none)
    (room : (d.mem.wcbOf (hbmDie addr)).entries.length < 1024) :
    d.wcbWrite part job addr data = d.updMem fun m => m.updWcb (hbmDie addr) fun w => { w with
      entries := w.entries ++ [⟨addr / 256 * 256, wcbMerge [] (addr % 256) data, part, job, d.aon (hbmDie addr)⟩],
      hwm := max w.hwm (w.entries.length + 1) } := by
  have open' : (wcbMerge [] (addr % 256) data).length ≠ 256 := by
    have merged := length_wcbMerge_le [] (addr % 256) data
    rw [List.length_nil] at merged
    omega
  have roomFor (e : WcbEntry) (t : List WcbEntry) (shape : (d.mem.wcbOf (hbmDie addr)).entries = e :: t) : ¬ 1024 ≤ (e :: t).length := by
    rw [← shape]
    omega
  have found (u : Wcb → Wcb) (x : WcbEntry) (hu : (u (d.mem.wcbOf (hbmDie addr))).entries = (d.mem.wcbOf (hbmDie addr)).entries ++ [x])
      (hx : x.granule = addr / 256 * 256) : ((d.updMem fun m => m.updWcb (hbmDie addr) u).mem.wcbOf (hbmDie addr)).entries.find?
        (fun (e : WcbEntry) => decide (e.granule = addr / 256 * 256)) = some x := by
    rw [updMem_mem, wcbOf_updWcb, hu, List.find?_append, new]
    simp [hx]
  unfold Dev.wcbWrite
  simp only [new, List.length_append, List.length_singleton]
  rcases shape : (d.mem.wcbOf (hbmDie addr)).entries with _ | ⟨e, t⟩
  · dsimp only
    rw [found _ _ rfl rfl]
    exact if_neg open'
  · dsimp only
    rw [if_neg (roomFor e t shape), found _ _ rfl rfl]
    exact if_neg open'

/-- A write to a granule that has an entry merges into it, and does not flush while the entry is not full (R262). -/
theorem wcbWrite_merge {d : Dev} {part : Nat} {job : Option Nat} {addr : Nat} {data : List Byte} {e : WcbEntry}
    (has : (d.mem.wcbOf (hbmDie addr)).entries.find? (fun (e : WcbEntry) => decide (e.granule = addr / 256 * 256)) = some e)
    (open' : (wcbMerge e.data (addr % 256) data).length ≠ 256) :
    d.wcbWrite part job addr data = d.updMem fun m => m.updWcb (hbmDie addr) fun w => { w with
      entries := w.entries.map fun (x : WcbEntry) => if x.granule = addr / 256 * 256 then
        { x with data := wcbMerge x.data (addr % 256) data, job := job, part := part } else x,
      merges := satAdd 64 w.merges 1 } := by
  have granule : e.granule = addr / 256 * 256 := by simpa using List.find?_some has
  have merged (l : List WcbEntry) (u : WcbEntry → WcbEntry) (hu : ∀ x, (u x).granule = x.granule)
      (h : l.find? (fun (e : WcbEntry) => decide (e.granule = addr / 256 * 256)) = some e) :
      (l.map u).find? (fun (e : WcbEntry) => decide (e.granule = addr / 256 * 256)) = some (u e) := by
    have same : (fun (e : WcbEntry) => decide (e.granule = addr / 256 * 256)) ∘ u =
        fun (e : WcbEntry) => decide (e.granule = addr / 256 * 256) := by
      funext x
      simp [hu]
    rw [List.find?_map, same, h]
    rfl
  unfold Dev.wcbWrite
  simp only [has]
  rw [updMem_mem, wcbOf_updWcb]
  dsimp only
  rw [merged _ _ (fun x => by split <;> rfl) has]
  dsimp only
  rw [if_pos granule]
  exact if_neg open'

/-- The last thing that holds a stream's request back goes, and the request issues (R267). -/
theorem letGo_last {d : Dev} {g e x : Nat} (h : d.mem.holds = [.xfer g e x]) : d.letGo (.xfer g e x) =
    (d.updMem fun m => { m with holds := [] }).updCore g fun c =>
      c.updXfer e x fun t => { t with requested := t.requested + t.pend, pend := 0 } := by
  have erased : (d.updMem fun m => { m with holds := m.holds.erase (.xfer g e x) }) = d.updMem fun m => { m with holds := [] } :=
    updMem_congr d (by rw [h, List.erase_cons_head])
  unfold Dev.letGo
  dsimp only
  rw [erased]
  rfl

theorem serveHost_of_noHost {d : Dev} (h : d.mem.hostQ = []) : d.serveHost d.mem.hostQ.length = d := by
  rw [h]
  rfl

/-- Settles O40. -/
theorem writeBufferAndRegulatorCommandsComplete : Obligations.WriteBufferAndRegulatorCommandsComplete := by
  unfold Obligations.WriteBufferAndRegulatorCommandsComplete
  refine ⟨fun p job addr data => completes_of (exec_wcbPartialWrite p job addr data) fun d h => ?wcbPartialWrite_enters,
    fun p job addr data => completes_of (exec_wcbPartialWrite p job addr data) fun d h => ?wcbPartialWrite_new,
    fun p job addr data e => completes_of (exec_wcbPartialWrite p job addr data) fun d h => ?wcbPartialWrite_merge,
    fun die e t => completes_of (exec_wcbAgeFlush die) fun d h => ?wcbAgeFlush,
    fun die a => completes_of (exec_wcbFlush die a) fun d h => ?wcbFlush,
    fun p => completes_of (exec_regulatorTick p) fun d h => ?regulatorTick_same,
    fun p r b mo => completes_of (exec_regulatorTick p) fun d h => ?regulatorTick_rate,
    fun p bytes w t => completes_of (exec_regulatedIssue p) fun d h => ?regulatedIssue_waiter,
    fun p bytes g e x t => completes_of (exec_regulatedIssue p) fun d h => ?regulatedIssue_transfer,
    fun p v a => completes_of (exec_mregRateWrite p v a) fun d h => ifExpert_of_expert h _⟩
  case wcbPartialWrite_enters =>
    obtain ⟨hbm, some, within⟩ := h
    exact if_pos (by simp [hbm, some, within])
  case wcbPartialWrite_new =>
    obtain ⟨hbm, some, within, partial', new, room⟩ := h
    rw [fxWcbPartialWrite, if_pos (by simp [hbm, some, within])]
    exact wcbWrite_new partial' new room
  case wcbPartialWrite_merge =>
    obtain ⟨hbm, some, within, has, open'⟩ := h
    rw [fxWcbPartialWrite, if_pos (by simp [hbm, some, within])]
    exact wcbWrite_merge has open'
  case wcbAgeFlush =>
    obtain ⟨oldest, due⟩ := h
    simp only [fxWcbAgeFlush, oldest]
    exact if_pos due
  case wcbFlush => rw [fxWcbFlush, ifExpert_of_expert h, Dev.flushWhere, List.filter_true]
  case regulatorTick_same => exact updMem_congr d (updPart_congr _ _ (by simp only [Part.tick, h]))
  case regulatorTick_rate => exact updMem_congr d (updPart_congr _ _ (by simp only [Part.tick, h]; rfl))
  case regulatedIssue_waiter =>
    obtain ⟨first, may⟩ := h
    simp only [fxRegulatedIssue, first]
    exact if_pos may
  case regulatedIssue_transfer =>
    obtain ⟨first, may, only, noHost⟩ := h
    simp only [fxRegulatedIssue, first]
    rw [if_pos may, letGo_last (by exact only)]
    exact serveHost_of_noHost noHost

/-! ### Fabrics -/

/-- Settles O41. -/
theorem fabricCommandsComplete : Obligations.FabricCommandsComplete := by
  unfold Obligations.FabricCommandsComplete
  refine ⟨fun die i ok => completes_of (exec_flitCrcReplay die i ok) fun d h => ?flitCrcReplay_link,
    fun die i ok => completes_of (exec_flitCrcReplay die i ok) fun d h => ?flitCrcReplay_bridge,
    fun die i ok => completes_of (exec_flitCrcReplay die i ok) fun d h => ?flitCrcReplay_linkFails,
    fun die i ok => completes_of (exec_flitCrcReplay die i ok) fun d h => ?flitCrcReplay_linkBad,
    fun die i ok => completes_of (exec_flitCrcReplay die i ok) fun d h => ?flitCrcReplay_linkDead,
    fun die i ok => completes_of (exec_flitCrcReplay die i ok) fun d h => ?flitCrcReplay_bridgeBad,
    fun die i ok => completes_of (exec_flitCrcReplay die i ok) fun d h => ?flitCrcReplay_bridgeGroup,
    fun die i => completes_of (exec_laneSpareReplace die i) fun d h => ?laneSpareReplace_link,
    fun die i => completes_of (exec_laneSpareReplace die i) fun d h => ?laneSpareReplace_bridge,
    fun a => completes_of (exec_d2dRetrain a) fun d h => ifExpert_of_expert h _⟩
  case flitCrcReplay_link =>
    obtain ⟨link, rfl⟩ := h
    rw [fxFlitCrcReplay, if_pos link]
    rfl
  case flitCrcReplay_bridge =>
    obtain ⟨rfl, rfl⟩ := h
    rfl
  case flitCrcReplay_linkFails =>
    obtain ⟨link, rfl, few⟩ := h
    rw [fxFlitCrcReplay, if_pos link]
    simp only [Bool.false_eq_true, if_false]
    rw [if_pos (by omega), Nat.mod_eq_of_lt (by omega)]
  case flitCrcReplay_linkBad =>
    obtain ⟨link, rfl, last, fresh⟩ := h
    rw [fxFlitCrcReplay, if_pos link]
    simp only [Bool.false_eq_true, if_false]
    rw [last, if_neg (by omega), if_neg (by simp [fresh])]
  case flitCrcReplay_linkDead =>
    obtain ⟨link, rfl, last, spare⟩ := h
    rw [fxFlitCrcReplay, if_pos link]
    simp only [Bool.false_eq_true, if_false]
    rw [last, if_neg (by omega), if_pos spare]
  case flitCrcReplay_bridgeBad =>
    obtain ⟨rfl, rfl, last, fresh⟩ := h
    rw [fxFlitCrcReplay, if_neg (by decide)]
    simp only [Bool.false_eq_true, if_false]
    rw [last, if_neg (by omega), if_neg (by simp [fresh])]
  case flitCrcReplay_bridgeGroup =>
    obtain ⟨rfl, rfl, last, spare⟩ := h
    rw [fxFlitCrcReplay, if_neg (by decide)]
    simp only [Bool.false_eq_true, if_false]
    rw [last, if_neg (by omega), if_pos spare]
    rfl
  case laneSpareReplace_link =>
    obtain ⟨link, bad⟩ := h
    rw [fxLaneSpareReplace, if_pos link]
    exact if_pos bad
  case laneSpareReplace_bridge =>
    obtain ⟨bridge, bad⟩ := h
    rw [fxLaneSpareReplace, if_neg (by omega), if_pos bad, bridge]

end Sys2Proof.Machine
end

section
/-! The commands of failed cores, self-tests, pairing, commits and digests complete. -/

namespace Sys2Proof.Machine

theorem markFailed_core (d : Dev) (c p : Nat) (on : Bool) (g : Nat) : (d.markFailed c p on).core g = d.core g := rfl

/-- Settles O42. -/
theorem resilienceCommandsComplete : Obligations.ResilienceCommandsComplete := by
  unfold Obligations.ResilienceCommandsComplete
  refine ⟨fun i p ev k => completes_of (exec_coreFail i p ev) fun d h => ?coreFail_idle,
    fun i p ev => completes_of (exec_coreFail i p ev) fun d h => ?coreFail_unmapped,
    fun i g p => completes_of (exec_spareSubstitution i) fun d h => ?spareSubstitution,
    fun die v a => completes_of (exec_pddSelftestGo die v a) fun d h => ?pddSelftestGo,
    fun die => completes_of (exec_selftestStart die) fun d h => ?selftestStart,
    fun die pass => completes_of (exec_selftestEnd die pass) fun d h => ?selftestEnd_pass,
    fun die pass => completes_of (exec_selftestEnd die pass) fun d h => ?selftestEnd_fail,
    fun l feed answer => completes_of (exec_pairingMessage l feed answer) fun d h => ?pairingMessage_sameFeed,
    fun l feed answer => completes_of (exec_pairingMessage l feed answer) fun d h => ?pairingMessage_paired,
    fun l feed answer ok i => completes_of (exec_pairingMessage l feed answer) fun d h => ?pairingMessage_answer,
    fun a rcd l t => completes_of (exec_pddCommitPush a rcd) fun d up => ?pddCommitPush,
    fun l rcd => completes_of (exec_commitReceive l rcd) fun d h => ?commitReceive_noSlot,
    fun l rcd i => completes_of (exec_commitReceive l rcd) fun d h => ?commitReceive_first,
    fun l code detail m q t => completes_of (exec_commitAnswer l code detail m) fun d h => ?commitAnswer_ok,
    fun l code detail m q t => completes_of (exec_commitAnswer l code detail m) fun d h => ?commitAnswer_fault,
    fun a rcd => completes_of (exec_pddDigestPush a rcd) fun d _ => rfl,
    fun q t => completes_of exec_digestDone fun d h => ?digestDone_noList,
    fun q t e e' b bytes p => completes_of exec_digestDone fun d h => ?digestDone_sum,
    fun w t => completes_of (exec_lostWaitExpiry w) fun d h => ?lostWaitExpiry⟩
  case coreFail_idle =>
    obtain ⟨working, holds, idle⟩ := h
    rw [markFailed_core] at idle
    simp only [fxCoreFail, Dev.failCore, holds]
    rw [if_neg (by simp [working])]
    show (match (d.core (8 * i.val + k)).job with | none => _ | some id => _) = _
    rw [idle]
  case coreFail_unmapped =>
    obtain ⟨working, holds⟩ := h
    simp only [fxCoreFail, Dev.failCore, holds]
    exact if_neg (by simp [working])
  case spareSubstitution =>
    obtain ⟨waits, spare⟩ := h
    simp only [fxSpareSubstitution, waits, spare]
  case pddSelftestGo =>
    obtain ⟨expert, go, idle, position, working⟩ := h
    have retest : (bit v.toNat 9 && d.expert a) = bit v.toNat 9 := by rw [expert, Bool.and_true]
    unfold fxPddSelftestGo Dev.selftestCtrl
    dsimp only
    rw [if_pos rfl, ifExpert_of_expert expert, retest, if_neg (by simp [go, idle, position]), if_neg]
    intro both
    rw [Bool.and_eq_true] at both
    exact absurd (working.symm.trans both.1) Bool.false_ne_true
  case selftestStart =>
    obtain ⟨queued, free⟩ := h
    unfold fxSelftestStart
    rw [if_neg (not_not_intro queued)]
    split
    · next g tested => exact if_pos (by rw [free g tested]; rfl)
    · rfl
  case selftestEnd_pass =>
    obtain ⟨rfl, runs, once⟩ := h
    unfold fxSelftestEnd
    rw [if_neg (not_not_intro runs), if_pos rfl]
    exact if_neg (by simp [once])
  case selftestEnd_fail =>
    obtain ⟨rfl, runs⟩ := h
    exact if_neg (not_not_intro runs)
  case pairingMessage_sameFeed =>
    obtain ⟨rfl, up, far, opening, same, noOverride⟩ := h
    simp only [fxPairingMessage, far]
    rw [if_neg (not_not_intro up), if_neg (by simp [opening]), if_pos (by simp [same, Dev.updPdd, noOverride])]
    rfl
  case pairingMessage_paired =>
    obtain ⟨rfl, up, far, opening, differs⟩ := h
    simp only [fxPairingMessage, far]
    rw [if_neg (not_not_intro up), if_neg (by simp [opening]), if_neg]
    · rfl
    · simpa [Dev.updPdd] using fun same => differs.resolve_left (not_not_intro same)
  case pairingMessage_answer =>
    obtain ⟨rfl, up, slot⟩ := h
    simp only [fxPairingMessage, slot]
    exact if_neg (not_not_intro up)
  case pddCommitPush =>
    unfold fxPddCommitPush
    dsimp only
    show (match d.lane.upLinks d.pdd.holder with | l :: _ => _ | [] => _) = _
    rw [up]
    rfl
  case commitReceive_noSlot =>
    obtain ⟨up, noSlot⟩ := h
    simp only [fxCommitReceive, noSlot]
    exact if_neg (not_not_intro up)
  case commitReceive_first =>
    obtain ⟨up, slot, notRebuilt, notVerify, paired, first, noTaps⟩ := h
    simp only [fxCommitReceive, slot, noTaps, first, List.find?_nil]
    rw [if_neg (not_not_intro up), if_neg notVerify, if_neg (by simp [notRebuilt, paired]), if_neg Bool.false_ne_true]
  case commitAnswer_ok =>
    obtain ⟨far, up, oldest, rfl⟩ := h
    simp only [fxCommitAnswer, oldest]
    rw [if_neg (by simp [far, up])]
    exact if_pos rfl
  case commitAnswer_fault =>
    obtain ⟨far, up, oldest, fault⟩ := h
    simp only [fxCommitAnswer, oldest]
    rw [if_neg (by simp [far, up]), if_neg fault]
  case digestDone_noList =>
    obtain ⟨oldest, ready, entries, outside⟩ := h
    simp only [fxDigestDone, oldest]
    rw [if_neg (by simp [ready]), if_pos ⟨by rw [outside]; rfl, by omega⟩]
  case digestDone_sum =>
    obtain ⟨oldest, ready, _, ⟨list, inside⟩, read, ranges, done⟩ := h
    simp only [fxDigestDone, oldest, read, ranges, done]
    rw [if_neg (by simp [ready]), if_neg (by simp [inside])]
  case lostWaitExpiry =>
    obtain ⟨rfl, since, due, stands⟩ := h
    simp only [fxLostWaitExpiry, since]
    rw [if_pos trivial, if_pos]
    · rfl
    · rw [Bool.and_eq_true, decide_eq_true_eq, decide_eq_true_eq]
      exact ⟨due, stands⟩

end Sys2Proof.Machine
end

section
/-! The commands of the peer table and of the streams over the links complete. -/

namespace Sys2Proof.Machine

/-! ### The peer table -/

theorem validId_eq_true {id : Nat} (small : id ≤ 0x3FFF) : validId id = true := decide_eq_true (by omega)

theorem validId_eq_false {id : Nat} (large : 0x3FFF < id) : validId id = false := decide_eq_false (by omega)

/-- The command registers of the peer table leave its entries (R349). -/
theorem peerOf_peerCmdId (d : Dev) (id k : Nat) : (d.updLane fun s => { s with peerCmdId := id }).lane.peerOf k = d.lane.peerOf k := rfl

theorem msix_lane (d : Dev) (f v : Nat) : (d.msix f v).lane = d.lane := by
  unfold Dev.msix
  split <;> rfl

theorem upLinks_peers (s : Starlane) (peers : List (Nat × Peer)) (id : Nat) : { s with peers := peers }.upLinks id = s.upLinks id := rfl

theorem peerOf_peerCmdData (d : Dev) (id v k : Nat) :
    (d.updLane fun s => { s with peerCmdId := id, peerCmdData := v }).lane.peerOf k = d.lane.peerOf k := rfl

theorem find?_range_eq_some {n i : Nat} {p : Nat → Bool} (small : i < n) (this : p i = true) (before : ∀ k < i, p k = false) :
    (List.range n).find? p = some i := by
  rw [List.find?_range_eq_some]
  exact ⟨this, List.mem_range.2 small, fun k hk => by rw [before k hk]; rfl⟩

/-- Settles O43. -/
theorem peerCommandsComplete : Obligations.PeerCommandsComplete := by
  unfold Obligations.PeerCommandsComplete
  refine ⟨fun id => completes_of (exec_peerAdd id) fun d large => ?peerAdd_invalid,
    fun id i p => completes_of (exec_peerAdd id) fun d h => ?peerAdd_known,
    fun id i => completes_of (exec_peerAdd id) fun d h => ?peerAdd_new,
    fun id i p => completes_of (exec_peerRemove id) fun d known => ?peerRemove_known,
    fun id => completes_of (exec_peerRemove id) fun d h => ?peerRemove_unknown,
    fun id ow i p => completes_of (exec_peerSetOwners id ow) fun d known => ?peerSetOwners,
    fun id i p => completes_of (exec_peerDrainDone id) fun d h => ?peerDrainDone_down,
    fun id i p l t => completes_of (exec_peerDrainDone id) fun d h => ?peerDrainDone_up,
    fun l i p => completes_of (exec_probe l) fun d h => ?probe_known,
    fun l => completes_of (exec_probe l) fun d unknown => ?probe_unknown,
    fun l i p => completes_of (exec_probeAck l) fun d h => ?probeAck,
    fun l i p => completes_of (exec_probeNak l) fun d h => ?probeNak,
    fun id i p => completes_of (exec_probeRetry id) fun d h => ?probeRetry⟩
  case peerAdd_invalid => exact if_pos (by rw [validId_eq_false large]; rfl)
  case peerAdd_known =>
    obtain ⟨small, known⟩ := h
    simp only [fxPeerAdd, peerOf_peerCmdId, known]
    exact if_neg (by rw [validId_eq_true small]; exact Bool.false_ne_true)
  case peerAdd_new =>
    obtain ⟨small, unknown, inTable, free, taken⟩ := h
    have lowest : (List.range 4096).find? (fun i =>
        (d.updLane fun s => { s with peerCmdId := id.toNat }).lane.peers.all fun p =>
          decide (p.1 ≠ i) || decide (p.2.state = 0)) = some i := by
      refine find?_range_eq_some inTable ?_ fun k hk => ?_
      · simpa [or_iff_not_imp_left] using free
      · obtain ⟨p, mem, index, used⟩ := taken k hk
        exact List.all_eq_false.2 ⟨p, mem, by simp [index, used]⟩
    unfold fxPeerAdd
    dsimp only
    rw [if_neg (by simp [validId_eq_true small])]
    simp only [peerOf_peerCmdId, unknown, lowest]
    rfl
  case peerRemove_known =>
    simp only [fxPeerRemove, peerOf_peerCmdId, known]
    rfl
  case peerRemove_unknown =>
    obtain ⟨small, unknown⟩ := h
    simp only [fxPeerRemove, peerOf_peerCmdId, unknown, validId_eq_true small]
    rfl
  case peerSetOwners =>
    simp only [fxPeerSetOwners, peerOf_peerCmdData, known]
    rfl
  case peerDrainDone_down =>
    obtain ⟨known, draining, quiet, down⟩ := h
    simp only [fxPeerDrainDone, known]
    rw [if_neg (by simp [draining, quiet])]
    simp only [msix_lane, Dev.updLane, upLinks_peers, down]
  case peerDrainDone_up =>
    obtain ⟨known, draining, quiet, up⟩ := h
    simp only [fxPeerDrainDone, known]
    rw [if_neg (by simp [draining, quiet])]
    simp only [msix_lane, Dev.updLane, upLinks_peers, up]
  case probe_known =>
    obtain ⟨known, first, last⟩ := h
    simp only [fxProbe, known]
    rw [if_pos (by omega)]
  case probe_unknown => simp only [fxProbe, unknown]
  case probeAck =>
    obtain ⟨up, known, probing⟩ := h
    simp only [fxProbeAck, known]
    rw [if_neg (by simp [up]), if_pos probing]
  case probeNak =>
    obtain ⟨known, serving⟩ := h
    simp only [fxProbeNak, known]
    exact if_neg serving
  case probeRetry =>
    obtain ⟨known, refused, due⟩ := h
    simp only [fxProbeRetry, known]
    exact if_pos ⟨refused, due⟩

/-! ### Streams over the links -/

/-- The stream engines of a core run while its cluster's PLL is locked (R507). -/
theorem unlessRelock_of_locked {d : Dev} {g : Nat} (locked : Tab.get false d.pwr.relock (g / 8) = false) (f : Dev → Dev) :
    d.unlessRelock g f = f d :=
  if_neg (by simp [locked])

theorem issueTransfer_of_none {d : Dev} {g e op : Nat} (none' : (d.core g).nextInstr e op = none)
    (extra : Dev → Transfer → Option (Nat × Nat)) : d.issueTransfer g e op extra = d := by
  simp only [Dev.issueTransfer, none']

/-- Settles O44. -/
theorem linkStreamCommandsComplete : Obligations.LinkStreamCommandsComplete := by
  unfold Obligations.LinkStreamCommandsComplete
  refine ⟨fun g e => completes_of (exec_lsend g e) fun d h => ?lsend_notDue,
    fun g e t => completes_of (exec_lsend g e) fun d h => ?lsend_issued,
    fun g e n t => completes_of (exec_transferRequest g e n) fun d h => ?transferRequest_memory,
    fun g e n t => completes_of (exec_transferRequest g e n) fun d h => ?transferRequest_link,
    fun g r up q e t => completes_of (exec_outboundRowDrain g r up) fun d h => ?outboundRowDrain,
    fun l rm why => completes_of (exec_streamMessageReceive l) fun d h => ?streamMessageReceive_refused,
    fun l rm q => completes_of (exec_streamMessageReceive l) fun d h => ?streamMessageReceive_landed,
    fun g r k => completes_of (exec_mackSend g r) fun d oldest => ?mackSend,
    fun l kind core queue mseq o => completes_of (exec_mack l kind core queue mseq) fun d h => ?mack_stream,
    fun l kind core queue mseq x => completes_of (exec_mack l kind core queue mseq) fun d h => ?mack_window,
    fun l core queue mseq why o => completes_of (exec_refuse l core queue mseq why) fun d sent => ?refuse,
    fun l core queue mseq => completes_of (exec_rnr l core queue mseq) fun d _ => rfl,
    fun g peer queue t => completes_of (exec_rnrResend g peer queue) fun d h => ?rnrResend,
    fun g peer queue t o => completes_of (exec_linkSendTimeout g peer queue) fun d h => ?linkSendTimeout,
    fun g e t x => completes_of (exec_peerWaitTimeout g e) fun d h => ?peerWaitTimeout,
    fun g e n i t x a => completes_of (exec_linkGroupMemberDrop g e n i) fun d h => ?linkGroupMemberDrop⟩
  case lsend_notDue =>
    obtain ⟨locked, notDue, noTransfer⟩ := h
    rw [unlessRelock_of_locked locked]
    simp only [fxLsend, issueTransfer_of_none notDue, noTransfer]
  case lsend_issued =>
    obtain ⟨locked, issued⟩ := h
    rw [unlessRelock_of_locked locked]
    simp only [fxLsend, issued]
  case transferRequest_memory =>
    obtain ⟨locked, runs, memory⟩ := h
    rw [unlessRelock_of_locked locked]
    simp only [fxTransferRequest, runs]
    exact if_neg memory
  case transferRequest_link =>
    obtain ⟨locked, runs, link, _⟩ := h
    rw [unlessRelock_of_locked locked]
    simp only [fxTransferRequest, runs]
    exact if_pos link
  case outboundRowDrain =>
    obtain ⟨locked, ring, transfer, outbound, ready, requested, memory⟩ := h
    rw [unlessRelock_of_locked locked]
    simp only [fxOutboundRowDrain, ring, transfer]
    rw [if_neg (by simp [outbound, ready, requested]), if_pos memory]
  case streamMessageReceive_refused =>
    obtain ⟨oldest, stream, awake, refused⟩ := h
    simp only [fxStreamMessageReceive, oldest, refused]
    exact if_neg (by rcases stream with kind | kind <;> simp [kind, awake])
  case streamMessageReceive_landed =>
    obtain ⟨oldest, kind, awake, accepted, ring, next, fits, free⟩ := h
    simp only [fxStreamMessageReceive, oldest, accepted, ring, next]
    rw [if_neg (by simp [kind, awake]), if_neg (by omega), if_neg]
    · have first : decide (rm.msg.kind = 3) = false := by rw [kind]; rfl
      rw [if_neg (by simp [kind])]
      simp only [first, Bool.or_false]
    · rintro (behind | blocked)
      · exact behind rfl
      · obtain ⟨i, row, taken⟩ : ∃ i < _, q.state ((q.land + i) % max 1 q.rows) ≠ .free := by simpa [fits] using blocked
        exact taken (free i row)
  case mackSend => simp only [fxMackSend, oldest]; rfl
  case mack_stream =>
    obtain ⟨stream, sent⟩ := h
    simp only [fxMack, sent]
    exact if_neg stream
  case mack_window =>
    obtain ⟨rfl, runs, far, more⟩ := h
    simp only [fxMack, runs]
    rw [if_pos trivial, if_neg (not_not_intro far), if_neg (not_le.2 more)]
    rfl
  case refuse => simp only [fxRefuse, sent]
  case rnrResend =>
    obtain ⟨stream, due⟩ := h
    simp only [fxRnrResend, stream]
    exact if_neg (by simp [due])
  case linkSendTimeout =>
    obtain ⟨stream, late⟩ := h
    simp only [fxLinkSendTimeout, stream, Option.bind_some, late]
  case peerWaitTimeout =>
    obtain ⟨waits, device⟩ := h
    simp only [fxPeerWaitTimeout, waits, device]
  case linkGroupMemberDrop =>
    obtain ⟨runs, member, stalled, due, inGroup, link⟩ := h
    simp only [fxLinkGroupMemberDrop, runs, member]
    refine if_neg ?_
    rw [stalled, inGroup, Option.any_some, decide_eq_true due]
    simp [link]

end Sys2Proof.Machine
end

section
/-! The commands of the remote windows, of the share slots and of partial decryption complete. -/

namespace Sys2Proof.Machine

/-! ### Remote windows -/

theorem updWin_congr (d : Dev) (w : Nat) {u v : Window → Window} (e : u (d.lane.win w) = v (d.lane.win w)) :
    d.updWin w u = d.updWin w v := by
  unfold Dev.updWin Dev.updLane
  dsimp only
  rw [e]

/-- A refused write of the running transfer stops it (R343). -/
theorem windowStop_of_refused {d : Dev} {l mseq : Nat} {x : WinXfer} (runs : d.lane.xfer = some x)
    (far : numAt x.record 0x14 2 = (d.lane.link l).farId) (write : ∃ m ∈ x.out, m.mseq = mseq) (code : Nat) :
    d.windowStop l mseq code = (d.endXfer x code (mseq * 32)).pump l := by
  simp only [Dev.windowStop, runs]
  exact if_pos ⟨far, by simpa using write⟩

/-- Settles O45. -/
theorem windowCommandsComplete : Obligations.WindowCommandsComplete := by
  unfold Obligations.WindowCommandsComplete
  refine ⟨fun w => completes_of (exec_winOpen w) fun d granted => ?winOpen_granted,
    fun w e => completes_of (exec_winOpen w) fun d h => ?winOpen_refused,
    fun w => completes_of (exec_winClose w) fun d opened => updWin_congr _ _ (if_pos opened),
    fun w => completes_of (exec_winClose w) fun d closing => updWin_congr _ _ ?winClose_closing,
    fun w => completes_of (exec_winClosed w) fun d h => if_pos ⟨h.1, by rw [h.2]; rfl⟩,
    fun l rm => completes_of (exec_windowWriteReceive l) fun d h => ?windowWriteReceive_closed,
    fun l rm => completes_of (exec_windowWriteReceive l) fun d h => ?windowWriteReceive_accepted,
    fun w y t => completes_of (exec_windowWriteComplete w) fun d h => ?windowWriteComplete,
    fun a rcd => completes_of (exec_winXferPush a rcd) fun d _ => rfl,
    fun f r t => completes_of exec_winXferStart fun d h => ?winXferStart_outside,
    fun f r t l => completes_of exec_winXferStart fun d h => ?winXferStart_routed,
    fun l mseq x => completes_of (exec_windowClosed l mseq) fun d h => ?windowClosed,
    fun l mseq x => completes_of (exec_windowRefused l mseq) fun d h => ?windowRefused⟩
  case winOpen_granted => simp only [fxWinOpen, granted]
  case winOpen_refused =>
    obtain ⟨rfl, refused⟩ := h
    unfold fxWinOpen
    split
    · next granted => exact absurd granted refused
    · rfl
  case winClose_closing =>
    rw [if_neg (by simp [closing]), if_pos closing]
  case windowWriteReceive_closed =>
    obtain ⟨oldest, write, awake, closed⟩ := h
    simp only [fxWindowWriteReceive, oldest]
    rw [if_neg (by simp [write, awake]), if_pos closed]
  case windowWriteReceive_accepted =>
    obtain ⟨oldest, write, awake, opened, far, aligned, whole, inside⟩ := h
    simp only [fxWindowWriteReceive, oldest]
    rw [if_neg (by simp [write, awake]), if_neg (not_not_intro opened), if_neg (by simp [far, aligned, whole, inside])]
  case windowWriteComplete =>
    obtain ⟨oldest, ready⟩ := h
    simp only [fxWindowWriteComplete, oldest]
    exact if_neg (by simp [ready])
  case winXferStart_outside =>
    obtain ⟨idle, oldest, outside⟩ := h
    simp only [fxWinXferStart, oldest]
    rw [if_neg (by simp [idle]), if_pos]
    exact Option.isNone_iff_eq_none.2 outside
  case winXferStart_routed =>
    obtain ⟨idle, oldest, inside, reached, _⟩ := h
    simp only [fxWinXferStart, oldest]
    rw [if_neg (by simp [idle]), if_neg]
    · exact if_pos reached
    · exact fun outside => inside (Option.isNone_iff_eq_none.1 outside)
  case windowClosed =>
    obtain ⟨runs, _, far, write⟩ := h
    exact windowStop_of_refused runs far write _
  case windowRefused =>
    obtain ⟨runs, pushed, far, write⟩ := h
    simp only [fxWindowRefused, runs, windowStop_of_refused runs far write]
    exact if_neg (by simp [pushed])

/-! ### Share slots and partial decryption -/

theorem share_updFn (d : Dev) (f s : Nat) (u : Fn → Fn) : (d.updFn f u).share s = d.share s := rfl

/-- Settles O46. -/
theorem shareCommandsComplete : Obligations.ShareCommandsComplete := by
  unfold Obligations.ShareCommandsComplete
  refine ⟨fun f s v => completes_of (exec_slotLoad f s v) fun d h => ?slotLoad_empty,
    fun f s v => completes_of (exec_slotLoad f s v) fun d other => if_pos other,
    fun f s v => completes_of (exec_slotLoad f s v) fun d h => ?slotLoad_loaded,
    fun s => completes_of (exec_slotLoadDone s) fun d h => ?slotLoadDone_outside,
    fun s e b => completes_of (exec_slotLoadDone s) fun d h => ?slotLoadDone_checked,
    fun f s => completes_of (exec_slotRelease f s) fun d owned => if_pos owned,
    fun s => completes_of (exec_slotWipeDone s) fun d wiping => if_pos wiping,
    fun a rcd f => completes_of (exec_pdecPush a rcd) fun d own => ?pdecPush,
    fun q rest => completes_of exec_pdecRequestStart fun d h => ?pdecRequestStart,
    fun r e k => completes_of exec_pdecDone fun d h => ?pdecDone⟩
  case slotLoad_empty =>
    obtain ⟨empty, load⟩ := h
    unfold fxSlotLoad
    have noWipe : ¬ (bit v.toNat 1 = true ∧ ((d.share s.val).state = 1 ∨ (d.share s.val).state = 2)) := by simp [empty]
    dsimp only
    rw [if_neg (by simp [empty]), if_neg (by simp [load]), if_neg noWipe, share_updFn, if_neg (not_not_intro empty)]
  case slotLoad_loaded =>
    obtain ⟨loaded, owned, load, keep⟩ := h
    unfold fxSlotLoad
    have noWipe : ¬ (bit v.toNat 1 = true ∧ ((d.share s.val).state = 1 ∨ (d.share s.val).state = 2)) := by simp [keep]
    dsimp only
    rw [if_neg (by simp [owned]), if_neg (by simp [load]), if_neg noWipe, share_updFn, if_pos (by rw [loaded]; decide)]
  case slotLoadDone_outside =>
    obtain ⟨loading, outside⟩ := h
    unfold fxSlotLoadDone
    dsimp only
    rw [if_neg (not_not_intro loading), if_pos]
    simpa using outside
  case slotLoadDone_checked =>
    obtain ⟨loading, aligned, inside, ready, read⟩ := h
    simp only [fxSlotLoadDone, read]
    rw [if_neg (not_not_intro loading), if_neg (by simp [aligned, inside]), if_neg (by simp [ready])]
    rcases e.blobCheck s.val b with ⟨_ | code, p⟩
    · rfl
    · rfl
  case pdecPush =>
    subst own
    rfl
  case pdecRequestStart =>
    obtain ⟨idle, oldest, ready⟩ := h
    simp only [fxPdecRequestStart, idle, oldest]
    rw [if_neg (by simp [ready])]
    rcases (d.updMpc fun m => { m with queue := rest ++ m.held.take 1, held := m.held.drop 1 }).pdecCheck q with
      ⟨e, ⟨code, detail⟩ | r⟩
    · rfl
    · rfl
  case pdecDone =>
    obtain ⟨runs, ready, limbs⟩ := h
    simp only [fxPdecDone, runs, limbs]
    exact if_neg (by rw [ready]; exact Bool.false_ne_true)

end Sys2Proof.Machine
end

section
/-! The commands of the configuration record, of the updater, of the card and of the images under trial complete. -/

namespace Sys2Proof.Machine

/-! ### Management commands -/

/-- The device with a management command in its registers, taken and not yet refused (R532). -/
def Dev.commanded (d : Dev) (key v : Nat) (persist : Bool) : Dev :=
  { d with cfg := { d.cfg with key := key, persist := persist, value := v, result := 0, dirty := true } }

/-- The device `e` with the record of `d`, changed at a key, in the other slot and ACTIVE moved there (R532). -/
def Dev.recordSaved (d e : Dev) (key v : Nat) : Dev :=
  let r := sealRecord (recordWith d.cfg.record key v)
  let dest := 1 - d.cfg.slot
  let k := d.nor.marks 0x20
  let z := SlotInfo.record (recVersion r)
  { e with
    nor := (d.nor.setCfgSlot dest r).setMarks 0x20 {
      (if dest = 0 then { k with slotA := z } else { k with slotB := z }) with active := dest, trial := false, tried := false },
    cfg := { e.cfg with record := r, slot := dest } }

/-- Without PERSIST a command in range sets the running value only (R532). -/
theorem cfgCommand_running {d : Dev} {a : Agent} {key v : Nat} {persist : Bool} (norOk : Bool) (run : Dev → Dev)
    (h : d.expert a = true ∧ keyRange key v = true ∧ persist = false) :
    d.cfgCommand a key v persist norOk run = run (d.commanded key v false) := by
  obtain ⟨expert, range, rfl⟩ := h
  unfold Dev.cfgCommand
  rw [ifExpert_of_expert expert]
  dsimp only
  rw [if_neg (by simp [range]), if_pos (by simp)]
  rfl

/-- With PERSIST it writes the record too, where no update and no TRIAL holds it (R532). -/
theorem cfgCommand_saved {d : Dev} {a : Agent} {key v : Nat} {persist norOk : Bool} {run : Dev → Dev}
    (h : d.expert a = true ∧ keyRange key v = true ∧ persist = true ∧ norOk = true ∧ d.upd.state = 0 ∧
      (d.nor.marks 0x20).trial = false)
    (keepsNor : (run (d.commanded key v true)).nor = d.nor) (keepsUpd : (run (d.commanded key v true)).upd = d.upd)
    (keepsCfg : (run (d.commanded key v true)).cfg = (d.commanded key v true).cfg) :
    d.cfgCommand a key v persist norOk run = d.recordSaved (run (d.commanded key v true)) key v := by
  obtain ⟨expert, range, rfl, rfl, idle, settled⟩ := h
  have taken : d.commanded key v true =
    { d with cfg := { d.cfg with key := key, persist := true, value := v, result := 0, dirty := true } } := rfl
  have record : (run (d.commanded key v true)).cfg.record = d.cfg.record := by rw [keepsCfg]; rfl
  have slot : (run (d.commanded key v true)).cfg.slot = d.cfg.slot := by rw [keepsCfg]; rfl
  unfold Dev.cfgCommand
  rw [ifExpert_of_expert expert]
  dsimp only
  rw [if_neg (by simp [range]), if_neg (by simp), ← taken, keepsUpd, keepsNor, if_neg (by simp [idle, settled]), if_neg (by simp),
    record, slot]
  unfold Dev.recordSaved
  rw [keepsUpd]

/-! ### Updates -/

/-- Settles O47. -/
theorem updateCommandsComplete : Obligations.UpdateCommandsComplete := by
  unfold Obligations.UpdateCommandsComplete
  refine ⟨
    fun a v persist norOk => completes_of (exec_cfgCmdPowerLimit a v persist norOk) fun d h => cfgCommand_saved h rfl rfl rfl,
    fun a v persist norOk => completes_of (exec_cfgCmdPowerLimit a v persist norOk) fun d h => cfgCommand_running norOk _ h,
    fun a v persist norOk => completes_of (exec_cfgCmdIdleUs a v persist norOk) fun d h => cfgCommand_saved h rfl rfl rfl,
    fun a v persist norOk => completes_of (exec_cfgCmdIdleUs a v persist norOk) fun d h => cfgCommand_running norOk _ h,
    fun a v persist norOk => completes_of (exec_cfgCmdDuskEn a v persist norOk) fun d h => cfgCommand_saved h rfl rfl rfl,
    fun a v persist norOk => completes_of (exec_cfgCmdDuskEn a v persist norOk) fun d h => cfgCommand_running norOk _ h,
    fun a v persist norOk => completes_of (exec_cfgCmdClusterFreq a v persist norOk) fun d h => cfgCommand_saved h rfl rfl rfl,
    fun a v persist norOk => completes_of (exec_cfgCmdClusterFreq a v persist norOk) fun d h => cfgCommand_running norOk _ h,
    fun a v persist norOk => completes_of (exec_cfgCmdSendLimit a v persist norOk) fun d h => cfgCommand_saved h rfl rfl rfl,
    fun a v persist norOk => completes_of (exec_cfgCmdSendLimit a v persist norOk) fun d h => cfgCommand_running norOk _ h,
    fun a v persist norOk => completes_of (exec_cfgCmdPeerWait a v persist norOk) fun d h => cfgCommand_saved h rfl rfl rfl,
    fun a v persist norOk => completes_of (exec_cfgCmdPeerWait a v persist norOk) fun d h => cfgCommand_running norOk _ h,
    fun a v persist norOk => completes_of (exec_cfgCmdRetry a v persist norOk) fun d h => cfgCommand_saved h rfl rfl rfl,
    fun a v persist norOk => completes_of (exec_cfgCmdRetry a v persist norOk) fun d h => cfgCommand_running norOk _ h,
    fun a v persist norOk => completes_of (exec_cfgCmdLostWait a v persist norOk) fun d h => cfgCommand_saved h rfl rfl rfl,
    fun a v persist norOk => completes_of (exec_cfgCmdLostWait a v persist norOk) fun d h => cfgCommand_running norOk _ h,
    fun a v persist norOk => completes_of (exec_cfgCmdFeedOverride a v persist norOk) fun d h => cfgCommand_saved h rfl rfl rfl,
    fun a v persist norOk => completes_of (exec_cfgCmdFeedOverride a v persist norOk) fun d h => cfgCommand_running norOk _ h,
    fun a p v persist norOk => completes_of (exec_cfgCmdRegulator a p v persist norOk) fun d h => cfgCommand_saved h rfl rfl rfl,
    fun a p v persist norOk => completes_of (exec_cfgCmdRegulator a p v persist norOk) fun d h => cfgCommand_running norOk _ h,
    fun a => completes_of (exec_updApply a) fun d h => (ifExpert_of_expert h.1 _).trans (if_neg (not_not_intro h.2)),
    fun a => completes_of (exec_updApply a) fun d h => (ifExpert_of_expert h.1 _).trans (if_pos h.2),
    fun a => completes_of (exec_updResetNow a) fun d h => (ifExpert_of_expert h.1 _).trans (if_pos h.2),
    fun st => completes_of exec_updateStepConfirm fun d h => ?updateStepConfirm_last,
    fun st next t => completes_of exec_updateStepConfirm fun d h => ?updateStepConfirm_next,
    fun st t => completes_of exec_updateWindowMiss fun d h => ?updateWindowMiss,
    completes_of exec_updateDeviceReset fun d h => if_pos (by simp [h.1, h.2]),
    fun p => completes_of (exec_cardInsert p) fun d h => ?cardInsert_package,
    fun p => completes_of (exec_cardInsert p) fun d h => ?cardInsert_only,
    completes_of exec_cardRemove fun d h => if_neg ?cardRemove_idle,
    fun st t => completes_of exec_cardRemove fun d h => ?cardRemove_reading,
    fun res st rest t e => completes_of (exec_updateImageWritten res) fun d h => ?imageWritten_fault,
    fun res st e n rest t => completes_of (exec_updateImageWritten res) fun d h => ?imageWritten_next,
    fun res st e t => completes_of (exec_updateImageWritten res) fun d h => ?imageWritten_last⟩
  case updateStepConfirm_last =>
    obtain ⟨trial, plan, confirmed⟩ := h
    simp only [fxUpdateStepConfirm, plan]
    rw [if_neg (not_not_intro trial), if_pos confirmed]
  case updateStepConfirm_next =>
    obtain ⟨trial, plan, confirmed⟩ := h
    simp only [fxUpdateStepConfirm, plan]
    rw [if_neg (not_not_intro trial), if_pos confirmed]
  case updateWindowMiss =>
    obtain ⟨trial, plan⟩ := h
    simp only [fxUpdateWindowMiss, plan]
    exact if_neg (not_not_intro trial)
  case cardInsert_package =>
    obtain ⟨empty, lodestar, idle⟩ := h
    unfold fxCardInsert
    rw [if_neg (by simp [empty])]
    exact if_pos (by simp [lodestar, idle])
  case cardInsert_only =>
    obtain ⟨empty, other⟩ := h
    unfold fxCardInsert
    rw [if_neg (by simp [empty])]
    refine if_neg fun both => ?_
    rw [Bool.and_eq_true, decide_eq_true_eq] at both
    obtain ⟨lodestar, idle⟩ := both
    exact other.elim (fun no => Bool.false_ne_true (no.symm.trans lodestar)) fun busy => busy idle
  case cardRemove_idle =>
    obtain ⟨one, two, three⟩ := h
    exact not_or.2 ⟨one, not_or.2 ⟨two, three⟩⟩
  case cardRemove_reading =>
    obtain ⟨writing, plan⟩ := h
    simp only [fxCardRemove, plan]
    exact if_pos (.inr (.inr writing))
  case imageWritten_fault =>
    obtain ⟨writing, plan, entry, fault⟩ := h
    simp only [fxUpdateImageWritten, plan, entry]
    rw [if_neg (not_not_intro writing), if_pos fault]
  case imageWritten_next =>
    obtain ⟨writing, plan, entry, ok, verified⟩ := h
    simp only [fxUpdateImageWritten, plan, entry]
    rw [if_neg (not_not_intro writing), if_neg (not_not_intro ok), if_neg (not_not_intro verified)]
    exact if_pos rfl
  case imageWritten_last =>
    obtain ⟨writing, plan, entry, ok, verified, online, device⟩ := h
    simp only [fxUpdateImageWritten, plan, entry]
    rw [if_neg (not_not_intro writing), if_neg (not_not_intro ok), if_neg (not_not_intro verified), if_neg (by simp),
      if_neg (by simp [online]), if_neg (by rw [device]; exact Bool.false_ne_true)]

end Sys2Proof.Machine
end

section
/-! The commands of the boot, of kernel loading, of attestation, of the reservation log and of the public-key engine complete. -/

namespace Sys2Proof.Machine

/-! ### Kernel loads -/

/-- The load that a write of SEQ_KLOAD_CTRL asks for (R156). -/
def Dev.kloadOf (d : Dev) (g v : Nat) (a : Agent) (force : Bool) : KLoad :=
  { bank := fld v 1 1, addr := (d.core g).kloadAddr, bytes := 64 * fld v 32 12, force := force, fn := (d.agentFn a).getD 0,
    registry := d.sec.registry }

/-- A load that passes the checks of R156 begins at once, or with FORCE once the running block has stopped. -/
theorem kloadWrite_accepted {d : Dev} {g v : Nat} {a : Agent} (go : bit v 0 = true) (allowed : bit v 3 = true → d.expert a = true)
    (idle : (d.core g).load = none) (alone : (d.core g).forceWait = none)
    (bank : fld v 1 1 = (d.core g).active → bit v 3 = true) (some' : 0 < fld v 32 12) (fits : fld v 32 12 ≤ 2048)
    (inside : (d.mem.partFor (d.agentParts a) (d.core g).kloadAddr (64 * fld v 32 12)).isNone = false) :
    d.kloadWrite g v a =
      (d.updCore g fun c => { c with kloadLen := fld v 32 12, kloadBank := fld v 1 1 }).updCore g fun c =>
        if (bit v 3 && decide (fld v 1 1 = (d.core g).active)) && c.seq.running.isSome then
          { c with forceWait := some (d.kloadOf g v a (bit v 3 && decide (fld v 1 1 = (d.core g).active))) }
        else c.beginLoad (d.kloadOf g v a (bit v 3 && decide (fld v 1 1 = (d.core g).active))) := by
  have force : (bit v 3 && d.expert a) = bit v 3 := by
    cases flag : bit v 3
    · rfl
    · rw [allowed flag]; rfl
  have noDeny : ¬ (bit v 3 && !d.expert a) = true := by
    cases flag : bit v 3
    · simp
    · simp [allowed flag]
  have noActive : ¬ (fld v 1 1 = (d.core g).active ∧ (!bit v 3) = true) := fun h => by simp [bank h.1] at h
  unfold Dev.kloadWrite
  dsimp only
  rw [if_neg noDeny, force, if_neg (by simp [idle, alone]), if_neg (by simp [go]), if_neg noActive]
  refine if_neg ?_
  rintro (zero | large | outside)
  · omega
  · omega
  · exact Bool.false_ne_true (inside.symm.trans outside)

/-! ### Attestation -/

/-- The responder answers while security firmware runs and the link is up (R379). -/
theorem spdm_of_ready {d : Dev} (stage : 3 ≤ d.sec.stage) (up : d.rst.pcie = 1) (eff : Dev → Dev) :
    d.spdm eff = (eff d).msix 0 18 :=
  if_pos ⟨stage, up⟩

theorem registry_kcopyKid (d : Dev) (kid : Nat) : (d.updSec fun x => { x with kcopyKid := kid }).sec.registry = d.sec.registry := rfl

/-- Settles O48. -/
theorem securityCommandsComplete : Obligations.SecurityCommandsComplete := by
  unfold Obligations.SecurityCommandsComplete
  refine ⟨fun g v a w => completes_of (exec_kloadGo g v a) fun d h => ?kloadGo_begins,
    fun g v a w => completes_of (exec_kloadGo g v a) fun d h => ?kloadGo_active,
    fun g v a w => completes_of (exec_kloadForce g v a) fun d h => ?kloadForce_begins,
    fun g v a w => completes_of (exec_kloadForce g v a) fun d h => ?kloadForce_waits,
    fun g l e b r => completes_of (exec_kloadDone g) fun d h => ?kloadDone_registered,
    fun g l e b => completes_of (exec_kloadDone g) fun d h => ?kloadDone_unknown,
    completes_of exec_getVersion fun d h => spdm_of_ready h.1 h.2 _,
    completes_of exec_getCapabilities fun d h => ?getCapabilities,
    fun ok => completes_of (exec_negotiateAlgorithms ok) fun d h => ?negotiateAlgorithms,
    fun slot hash => completes_of (exec_keyExchange slot hash) fun d h => ?keyExchange,
    fun sid ok => completes_of (exec_finish sid ok) fun d h => ?finish,
    fun sid hash => completes_of (exec_getMeasurements sid hash) fun d h => ?getMeasurements,
    fun nonce => completes_of (exec_getReport nonce) fun d h => ?getReport,
    fun off len => completes_of (exec_getDeviceCert off len) fun d h => spdm_of_ready h.1 h.2 _,
    fun given loader fw e s => completes_of (exec_bootStage given loader fw) fun d h => ?bootStage_loader,
    fun given loader fw e s => completes_of (exec_bootStage given loader fw) fun d h => ?bootStage_firmware,
    fun given loader fw => completes_of (exec_bootStage given loader fw) fun d h => ?bootStage_components,
    fun v a r => completes_of (exec_secKcopyGo v a) fun d h => ?secKcopyGo_begins,
    fun v a => completes_of (exec_secKcopyGo v a) fun d h => ?secKcopyGo_unknown,
    fun k r p => completes_of exec_kcopyDone fun d h => ?kcopyDone,
    fun ok => completes_of (exec_reservationLogWrite ok) fun d h => ?reservationLogWrite_ok,
    fun ok => completes_of (exec_reservationLogWrite ok) fun d h => ?reservationLogWrite_failed,
    fun bits => completes_of (exec_securityViolation bits) fun d some' => ?securityViolation⟩
  case kloadGo_begins =>
    obtain ⟨rfl, plain, go, bank, idle, alone, some', fits, inside⟩ := h
    refine (kloadWrite_accepted go (by simp [plain]) idle alone (fun same => absurd same bank) some' fits inside).trans ?_
    rw [plain]
    rfl
  case kloadGo_active =>
    obtain ⟨rfl, plain, go, bank, idle, alone⟩ := h
    unfold fxKloadGo Dev.kloadWrite
    dsimp only
    have noDeny : ¬ (false && !d.expert a) = true := Bool.false_ne_true
    rw [plain, if_neg noDeny, if_neg (by simp [idle, alone]), if_neg (by simp [go]), if_pos ⟨bank, rfl⟩]
  case kloadForce_begins =>
    obtain ⟨rfl, flag, go, expert, bank, stopped, idle, alone, some', fits, inside⟩ := h
    refine (kloadWrite_accepted go (fun _ => expert) idle alone (fun _ => flag) some' fits inside).trans (updCore_congr _ _ _ _ ?_)
    rw [flag, decide_eq_true bank, core_updCore]
    exact if_neg (by simp [stopped])
  case kloadForce_waits =>
    obtain ⟨rfl, flag, go, expert, bank, runs, idle, alone, some', fits, inside⟩ := h
    refine (kloadWrite_accepted go (fun _ => expert) idle alone (fun _ => flag) some' fits inside).trans (updCore_congr _ _ _ _ ?_)
    rw [flag, decide_eq_true bank, core_updCore]
    exact if_pos (by simpa [Option.isSome_iff_ne_none] using runs)
  case kloadDone_registered =>
    obtain ⟨loads, ready, read, entry, fits, same⟩ := h
    simp only [fxKloadDone, loads, read, entry]
    rw [if_neg (by simp [ready]), if_neg (by simp [fits, same])]
  case kloadDone_unknown =>
    obtain ⟨loads, ready, read, unknown⟩ := h
    simp only [fxKloadDone, loads, read, unknown]
    exact if_neg (by simp [ready])
  case getCapabilities =>
    obtain ⟨stage, up, version⟩ := h
    exact (spdm_of_ready stage up _).trans (by rw [if_neg (by omega)])
  case negotiateAlgorithms =>
    obtain ⟨stage, up, capabilities, rfl⟩ := h
    exact (spdm_of_ready stage up _).trans (by rw [if_neg (by omega), if_neg (by simp)])
  case keyExchange =>
    obtain ⟨stage, up, host, negotiated, key, rfl, room⟩ := h
    refine (spdm_of_ready stage up _).trans ?_
    rw [if_neg (by simp [host, negotiated]), if_neg (by simp [key]), if_neg (by simp), if_neg (by omega)]
  case finish =>
    obtain ⟨stage, up, session, rfl⟩ := h
    exact (spdm_of_ready stage up _).trans (by rw [if_neg (by rw [session]; simp), if_neg (by simp)])
  case getMeasurements =>
    obtain ⟨stage, up, session⟩ := h
    refine (spdm_of_ready stage up _).trans ?_
    rw [if_neg (by simp [session])]
  case getReport =>
    obtain ⟨stage, up, indices, few, logged, inBlock⟩ := h
    refine (spdm_of_ready stage up _).trans ?_
    dsimp only
    rw [if_neg (by simp [indices]), if_neg]
    rintro (many | failed | beyond)
    · omega
    · exact Bool.false_ne_true (logged.symm.trans failed)
    · omega
  case bootStage_loader =>
    obtain ⟨released, runs, strapped, stage, loader⟩ := h
    simp only [fxBootStage, stage, loader]
    exact if_neg (by simp [released, runs, strapped])
  case bootStage_firmware =>
    obtain ⟨released, runs, strapped, stage, step, firmware⟩ := h
    simp only [fxBootStage, stage, firmware]
    rw [if_neg (by simp [released, runs, strapped]), if_neg (by simp only [step]; decide)]
  case bootStage_components =>
    obtain ⟨released, runs, strapped, stage, step, host⟩ := h
    simp only [fxBootStage, stage]
    rw [if_neg (by simp [released, runs, strapped]), if_neg (by simp only [step, host]; decide)]
  case secKcopyGo_begins =>
    obtain ⟨go, idle, entry, inside⟩ := h
    simp only [fxSecKcopyGo, registry_kcopyKid, entry]
    rw [if_neg (by simp [go]), if_neg (by simp [idle])]
    exact if_neg fun outside => Bool.false_ne_true (inside.symm.trans outside)
  case secKcopyGo_unknown =>
    obtain ⟨go, idle, unknown⟩ := h
    simp only [fxSecKcopyGo, registry_kcopyKid, unknown]
    rw [if_neg (by simp [go]), if_neg (by simp [idle])]
  case kcopyDone =>
    obtain ⟨copies, entry, inside⟩ := h
    simp only [fxKcopyDone, copies, entry, inside]
  case reservationLogWrite_ok =>
    obtain ⟨stage, near, room, rfl⟩ := h
    unfold fxReservationLogWrite
    rw [if_neg (by omega), if_pos rfl]
  case reservationLogWrite_failed =>
    obtain ⟨stage, near, room, rfl⟩ := h
    unfold fxReservationLogWrite
    rw [if_neg (by omega), if_neg (by simp)]
  case securityViolation =>
    have bounded : bits.toNat % 32 = bits.toNat := Nat.mod_eq_of_lt bits.isLt
    unfold fxSecurityViolation Dev.violation
    rw [bounded, if_neg some']

/-! ### The public-key engine -/

theorem updBne_congr (d : Dev) {u v : Bne → Bne} (e : u d.sec.bne = v d.sec.bne) : d.updBne u = d.updBne v := by
  unfold Dev.updBne Dev.updSec
  dsimp only
  rw [e]

/-- Settles O49. -/
theorem publicKeyCommandsComplete : Obligations.PublicKeyCommandsComplete := by
  unfold Obligations.PublicKeyCommandsComplete
  refine ⟨fun rcd => completes_of (exec_bneReqPush rcd) fun d room => updBne_congr d (if_pos room),
    fun rcd => completes_of (exec_bneReqPush rcd) fun d full => updBne_congr d (if_neg (not_lt.2 full)),
    fun r rest => completes_of exec_bneRequestStart fun d h => ?bneRequestStart_taken,
    fun r rest off => completes_of exec_bneRequestStart fun d h => ?bneRequestStart_malformed,
    fun host bad r => completes_of (exec_bneFetchDone host bad) fun d h => ?bneFetchDone_host,
    fun host bad r e b => completes_of (exec_bneFetchDone host bad) fun d h => ?bneFetchDone_memory,
    fun mismatch r o => completes_of (exec_bneComputeDone mismatch) fun d h => ?bneComputeDone,
    completes_of exec_bneWipeDone fun d wiping => if_pos wiping⟩
  case bneRequestStart_taken =>
    obtain ⟨oldest, idle, wellFormed, inside⟩ := h
    simp only [fxBneRequestStart, oldest, wellFormed, inside]
    exact if_neg (not_not_intro idle)
  case bneRequestStart_malformed =>
    obtain ⟨oldest, idle, malformed⟩ := h
    simp only [fxBneRequestStart, oldest, malformed]
    exact if_neg (not_not_intro idle)
  case bneFetchDone_host =>
    obtain ⟨runs, fetching, host, rfl⟩ := h
    simp only [fxBneFetchDone, runs]
    rw [if_neg (not_not_intro fetching), if_pos host]
  case bneFetchDone_memory =>
    obtain ⟨runs, fetching, device, ready, read⟩ := h
    simp only [fxBneFetchDone, runs, read]
    rw [if_neg (not_not_intro fetching), if_neg (by simp [device]), if_neg (by simp [ready])]
  case bneComputeDone =>
    obtain ⟨runs, computing, rfl, kept, result⟩ := h
    simp only [fxBneComputeDone, runs, Bool.false_eq_true, if_false, result, Bool.false_and]
    rw [if_neg (not_not_intro computing), if_neg (by simp [kept])]

end Sys2Proof.Machine
end

section
/-! The commands of the local stores complete. -/

namespace Sys2Proof.Machine

/-! ### The scrubber -/

theorem segState_strike (c : Core) (up : List Upset) : (c.strike up).segState = c.segState := rfl

/-- With every segment without power there is no row to scrub (R207). -/
theorem scrubNext_of_unpowered {c : Core} (off : c.segState = 0) (row : Nat) : c.scrubNext row = none := by
  unfold Core.scrubNext
  rw [List.find?_eq_none]
  intro r _
  rw [off]
  simp [bit]

/-! ### The narrow view -/

/-- A narrow read that is performed and finds correctable data (R200). -/
theorem narrowRead_performed {d : Dev} {g w : Nat} {a : Agent} (allowed : d.narrowFault g w a = none)
    (clean : ((d.core g).sideRead [w]).2 = none) :
    d.narrowRead g w a = ((d.setCore g ((d.core g).sideRead [w]).1).updMem fun m => m.bridge (dieOfCore g) (dieOfAgent a) 8,
      some (((d.core g).sideRead [w]).1.word w).toNat) := by
  unfold Dev.narrowRead
  rw [allowed]
  rcases read : (d.core g).sideRead [w] with ⟨c, _ | detail⟩
  · rfl
  · rw [read] at clean
    exact absurd clean (Option.some_ne_none detail)

theorem narrowRead_refused {d : Dev} {g w : Nat} {a : Agent} {code : Nat} (refused : d.narrowFault g w a = some code) :
    d.narrowRead g w a = (d.narrowRefuse g w a code, some 0) := by
  unfold Dev.narrowRead
  rw [refused]

/-- Settles O50. -/
theorem localStoreCommandsComplete : Obligations.LocalStoreCommandsComplete := by
  unfold Obligations.LocalStoreCommandsComplete
  refine ⟨fun g row t => completes_of (exec_lsCorrectionRewrite g) fun d first => updCore_congr _ _ _ _ ?lsCorrectionRewrite,
    fun g up => completes_of (exec_lsScrubStep g up) fun d off => updCore_congr _ _ _ _ ?lsScrubStep_unpowered,
    fun g up row => completes_of (exec_lsScrubStep g up) fun d next => updCore_congr _ _ _ _ ?lsScrubStep_row,
    fun g w a up => completes_of (exec_narrowRead g w a up) fun d h => ?narrowRead_performed,
    fun g w a up code => completes_of (exec_narrowRead g w a up) fun d refused => ?narrowRead_refused,
    fun g w v mask a up x => completes_of (exec_narrowWrite g w v mask a up) fun d h => ?narrowWrite_performed,
    fun g w v mask a up code => completes_of (exec_narrowWrite g w v mask a up) fun d refused => ?narrowWrite_refused,
    fun g => completes_of (exec_lsWipeDone g) fun d _ => rfl,
    fun g x => completes_of (exec_exchangeLand g) fun d h => ?exchangeLand⟩
  case lsCorrectionRewrite => simp only [first]
  case lsScrubStep_unpowered => simp only [scrubNext_of_unpowered ((segState_strike _ up).trans off)]
  case lsScrubStep_row => simp only [next]
  case narrowRead_performed =>
    obtain ⟨allowed, clean⟩ := h
    rw [← core_updCore d g.val fun c => c.strike up] at clean ⊢
    simp only [fxNarrowRead, narrowRead_performed allowed clean]
  case narrowRead_refused => simp only [fxNarrowRead, narrowRead_refused refused]
  case narrowWrite_performed =>
    obtain ⟨allowed, write⟩ := h
    simp only [fxNarrowWrite, Dev.narrowWrite, allowed, core_updCore, write]
  case narrowWrite_refused => simp only [fxNarrowWrite, Dev.narrowWrite, refused]
  case exchangeLand =>
    obtain ⟨due, accepted⟩ := h
    obtain ⟨sender, port⟩ := x
    simp only [fxExchangeLand, Dev.exchangeLand, due]
    generalize refused : List.find? _ _ = word
    obtain rfl : word = none := refused.symm.trans accepted
    rfl

end Sys2Proof.Machine
end

section
/-! The commands of the key-stream groups complete. -/

namespace Sys2Proof.Machine

/-! ### Writes of KST_GRP_CTRL -/

theorem bit_withBit_true_self (n i : Nat) : bit (withBit n i true) i = true := by
  unfold withBit bit
  split
  · assumption
  · next clear =>
    rw [if_pos rfl, Nat.add_comm, Nat.testBit_two_pow_add_eq]
    simpa using clear

theorem agentFn_of_jobs {d e : Dev} (apps : e.apps = d.apps) (jobs : e.jobs = d.jobs) (a : Agent) : e.agentFn a = d.agentFn a := by
  cases a with
  | app k => simp only [Dev.agentFn, Dev.app, apps]; unfold Dev.job; rw [jobs]
  | fn f => rfl
  | bmc => rfl
  | firmware => rfl

theorem expert_of_expertEn {d e : Dev} {a : Agent} (fn : e.agentFn a = d.agentFn a) (en : e.expertEn = d.expertEn) :
    e.expert a = d.expert a := by
  unfold Dev.expert
  rw [fn, en]

theorem closeGroup_agentFn (d : Dev) (die n : Nat) (a : Agent) : (d.closeGroup die n).agentFn a = d.agentFn a := by
  have kept := keeps_closeGroup (die := die) (n := n) (Keeps.refl 517 d) rfl
  exact agentFn_of_jobs (kept.apps.resolve_right (by decide)) (kept.jobs.resolve_right (by decide)) a

theorem closeGroup_expert (d : Dev) (die n : Nat) (a : Agent) : (d.closeGroup die n).expert a = d.expert a := by
  have kept := keeps_closeGroup (die := die) (n := n) (Keeps.refl 517 d) rfl
  exact expert_of_expertEn (closeGroup_agentFn d die n a) (kept.expertEn.resolve_right (by decide))

/-- A refused E-level write of a function marks it (R5). -/
theorem ifExpert_of_denied {d : Dev} {a : Agent} {f : Nat} (no : d.expert a = false) (fn : d.agentFn a = some f) (eff : Dev → Dev) :
    d.ifExpert a eff = d.updFn f fun x => { x with denied := true } := by
  unfold Dev.ifExpert Dev.deny
  rw [if_neg (by simp [no]), fn]

theorem updGroup_updGroup (d : Dev) (die n : Nat) (u v : Group → Group) :
    (d.updGroup die n u).updGroup die n v = d.updGroup die n fun x => v (u x) := by
  simp [Dev.updGroup, Dev.setGroup, Dev.group]

/-! ### Streams of a group -/

theorem bytes_multicast (d : Dev) (die k a n : Nat) : (d.updMem fun m => m.multicast die k).mem.bytes a n = d.mem.bytes a n := rfl

/-- Settles O51. -/
theorem keyStreamCommandsComplete : Obligations.KeyStreamCommandsComplete := by
  unfold Obligations.KeyStreamCommandsComplete
  refine ⟨fun die n a v w => completes_of (exec_kstGrpOpen die n a v) fun d h => ?kstGrpOpen,
    fun die n a v w => completes_of (exec_kstGrpClose die n a v) fun d h => ?kstGrpClose_expert,
    fun die n a v w f => completes_of (exec_kstGrpClose die n a v) fun d h => ?kstGrpClose_denied,
    fun die n e => completes_of (exec_groupHeaderRead die n) fun d h => ?groupHeaderRead_read,
    fun die n e f => completes_of (exec_groupHeaderRead die n) fun d h => ?groupHeaderRead_fault,
    fun die n k hb => completes_of (exec_keyHeaderArrives die n k) fun d read => ?keyHeaderArrives,
    fun g slot b o y => completes_of (exec_expectedTagReady g slot) fun d h => ?expectedTagReady,
    fun die n hb i e => completes_of (exec_keyChunkArrives die n) fun d h => ?keyChunkArrives_more,
    fun die n hb i e => completes_of (exec_keyChunkArrives die n) fun d h => ?keyChunkArrives_last,
    fun die n hb i e detail => completes_of (exec_keyChunkArrives die n) fun d h => ?keyChunkArrives_mismatch,
    fun die n hb bytes at' => completes_of (exec_multicastRowSend die n) fun d h => ?multicastRowSend,
    fun die n m a => completes_of (exec_memberDrop die n m) fun d h => ?memberDrop,
    fun die n k b e => completes_of (exec_catchupRead die n k) fun d h => ?catchupRead_header,
    fun die n k b hb i e => completes_of (exec_catchupRead die n k) fun d h => ?catchupRead_chunk,
    fun die n k b hb => completes_of (exec_catchupRead die n k) fun d h => ?catchupRead_ended,
    fun die n k b hb row e => completes_of (exec_catchupRead die n k) fun d h => ?catchupRead_fresh,
    fun die n k b hb row e => completes_of (exec_catchupRead die n k) fun d h => ?catchupRead_discarded,
    fun die n hb => completes_of (exec_groupStreamEnd die n) fun d h => ?groupStreamEnd⟩
  case kstGrpOpen =>
    obtain ⟨rfl, noClose, expert, idle⟩ := h
    unfold fxKstGrpOpen Dev.groupCtrl
    dsimp only
    rw [noClose, if_neg Bool.false_ne_true, if_pos rfl, ifExpert_of_expert expert, if_pos (bit_withBit_true_self ..),
      if_neg (by simp [idle]), group_updGroup]
    rfl
  case kstGrpClose_expert =>
    obtain ⟨rfl, noOpen, expert⟩ := h
    unfold fxKstGrpClose Dev.groupCtrl
    dsimp only
    rw [noOpen, if_pos (bit_withBit_true_self ..), if_pos rfl, ifExpert_of_expert ((closeGroup_expert ..).trans expert), if_neg Bool.false_ne_true,
      Bool.false_and, if_neg Bool.false_ne_true, updGroup_updGroup]
  case kstGrpClose_denied =>
    obtain ⟨rfl, noOpen, denied, fn⟩ := h
    unfold fxKstGrpClose Dev.groupCtrl
    dsimp only
    rw [noOpen, if_pos (bit_withBit_true_self ..), if_pos rfl,
      ifExpert_of_denied ((closeGroup_expert ..).trans denied) ((closeGroup_agentFn ..).trans fn), if_neg Bool.false_ne_true]
  case groupHeaderRead_read =>
    obtain ⟨streams, unread, read⟩ := h
    simp only [fxGroupHeaderRead, read]
    exact if_neg (by simp [streams, unread])
  case groupHeaderRead_fault =>
    obtain ⟨streams, unread, read⟩ := h
    simp only [fxGroupHeaderRead, read]
    exact if_neg (by simp [streams, unread])
  case keyHeaderArrives => simp only [fxKeyHeaderArrives, read]
  case expectedTagReady =>
    obtain ⟨bindings, operation, header, size, tag, low, high, level, seed⟩ := h
    have inRange : ¬ (o.level < (keyHdr y).lo ∨ (keyHdr y).hi < o.level ∨ o.level ≠ b.level) := by omega
    simp only [fxExpectedTagReady, bindings, List.foldl_cons, List.foldl_nil, operation, header, size, tag, ne_eq,
      not_true_eq_false, if_false, if_neg inRange, Option.or_none, seed]
  case keyChunkArrives_more =>
    obtain ⟨header, streams, landed, rows, due, read, head, more⟩ := h
    simp only [fxKeyChunkArrives, header, due, read]
    rw [if_neg (by simp [streams, landed, rows]), bytes_multicast, head]
    exact if_neg (by simp [more])
  case keyChunkArrives_last =>
    obtain ⟨header, streams, landed, rows, due, read, head, last⟩ := h
    simp only [fxKeyChunkArrives, header, due, read]
    rw [if_neg (by simp [streams, landed, rows]), bytes_multicast, head]
    exact if_pos last
  case keyChunkArrives_mismatch =>
    obtain ⟨header, streams, landed, rows, due, read, wrong⟩ := h
    simp only [fxKeyChunkArrives, header, due, read]
    rw [if_neg (by simp [streams, landed, rows]), bytes_multicast, wrong]
  case multicastRowSend =>
    obtain ⟨header, streams, landed, rows, checked, credit, rfl, rfl⟩ := h
    simp only [fxMulticastRowSend, header]
    refine if_neg ?_
    simp only [streams, landed, checked, credit, not_le.2 rows]
    simp
  case memberDrop =>
    obtain ⟨member, stalled, due⟩ := h
    simp only [fxMemberDrop, stalled]
    exact if_neg (by simp [due, member])
  case catchupRead_header =>
    obtain ⟨binding, locked, header, read⟩ := h
    simp only [fxCatchupRead, binding, header, read]
    exact if_neg (by simp [locked])
  case catchupRead_chunk =>
    obtain ⟨binding, locked, header, chunk, read, head⟩ := h
    simp only [fxCatchupRead, binding, header, chunk, read, head]
    exact if_neg (by simp [locked])
  case catchupRead_ended =>
    obtain ⟨binding, locked, header, noChunk, noRow⟩ := h
    rw [noRow, Option.bind_none, Option.or_none] at noChunk
    simp only [fxCatchupRead, binding, header, noRow, Option.bind_none, Option.or_none, noChunk]
    exact if_neg (by simp [locked])
  case catchupRead_fresh =>
    obtain ⟨binding, locked, header, noChunk, nextRow, read, more, new, room⟩ := h
    rw [nextRow, Option.bind_some] at noChunk
    simp only [fxCatchupRead, binding, header, nextRow, Option.bind_some, noChunk, read]
    rw [if_neg (by simp [locked]), if_neg (by simp [room]), if_neg fun last => more (Option.isNone_iff_eq_none.1 last),
      if_pos (decide_eq_true new)]
  case catchupRead_discarded =>
    obtain ⟨binding, locked, header, noChunk, nextRow, read, more, old⟩ := h
    rw [nextRow, Option.bind_some] at noChunk
    simp only [fxCatchupRead, binding, header, nextRow, Option.bind_some, noChunk, read]
    rw [if_neg (by simp [locked]), if_neg (by simp [old]), if_neg fun last => more (Option.isNone_iff_eq_none.1 last),
      if_neg (by simp [old])]
  case groupStreamEnd =>
    obtain ⟨header, streams, ended⟩ := h
    simp only [fxGroupStreamEnd, header]
    exact if_neg (by simp [streams, ended])

end Sys2Proof.Machine
end

section
/-! The stream records and the instructions of stream programs complete. -/

namespace Sys2Proof.Machine

/-! ### Stream records -/

/-- Settles O52. -/
theorem streamRecordCommandsComplete : Obligations.StreamRecordCommandsComplete := by
  unfold Obligations.StreamRecordCommandsComplete
  refine ⟨fun g who s => completes_of (exec_tokenSignalArrives g who) fun d oldest => updCore_congr _ _ _ _ ?tokenSignalArrives,
    fun g e q => completes_of (exec_run g e) fun d h => ?run,
    fun g e q => completes_of (exec_post g e) fun d h => ?post,
    fun g e q y => completes_of (exec_kbind g e) fun d h => ?kbind,
    fun g e q => completes_of (exec_leave g e) fun d h => ?leave,
    fun g e q y => completes_of (exec_unpost g e) fun d h => ?unpost,
    fun g e r => completes_of (exec_unpostComplete g e) fun d h => ?unpostComplete,
    fun g e q y => completes_of (exec_release g e) fun d h => ?release⟩
  case tokenSignalArrives => simp only [oldest]
  case run =>
    obtain ⟨locked, record⟩ := h
    rw [unlessRelock_of_locked locked]
    simp only [fxRun, record]
  case post =>
    obtain ⟨locked, record, good⟩ := h
    rw [unlessRelock_of_locked locked]
    simp only [fxPost, record]
    exact if_neg (by rw [good]; exact Bool.false_ne_true)
  case kbind =>
    obtain ⟨locked, record, inside, member, opened, ring, landing, own, held, free, fits⟩ := h
    have live : (decide ((d.group (g.val / 64) (fld (q.words.getD 1 0) 0 5)).state ≠ 1) &&
        decide ((d.group (g.val / 64) (fld (q.words.getD 1 0) 0 5)).state ≠ 2)) = false := by
      rcases opened with state | state <;> rw [state] <;> rfl
    rw [unlessRelock_of_locked locked]
    simp only [fxKbind, record, ring]
    rw [if_neg, if_neg, Option.isSome_map]
    · rfl
    · rw [free, live, decide_eq_true landing, decide_eq_true own, held]
      cases operation : (d.core g.val).ops.find? fun p => decide (p.1 = fld (q.words.getD 1 0) 5 2) with
      | none => exact Bool.false_ne_true
      | some p =>
        rw [operation, Option.all_some] at fits
        simp only [Option.map_some, fits]
        exact Bool.false_ne_true
    · rw [member, Bool.not_true, Bool.or_false]
      exact fun outside => inside (Option.isNone_iff_eq_none.1 outside)
  case leave =>
    obtain ⟨locked, record⟩ := h
    rw [unlessRelock_of_locked locked]
    simp only [fxLeave, record]
    rfl
  case unpost =>
    obtain ⟨locked, record, ring, own⟩ := h
    rw [unlessRelock_of_locked locked]
    simp only [fxUnpost, record, ring]
    exact if_pos own
  case unpostComplete =>
    obtain ⟨locked, waits, quiet, calm⟩ := h
    rw [unlessRelock_of_locked locked]
    simp only [fxUnpostComplete, waits]
    refine if_neg ?_
    rw [quiet, Bool.false_or]
    cases ring : (d.core g.val).ring? r with
    | none => exact Bool.false_ne_true
    | some q =>
      rw [ring, Option.all_some] at calm
      rw [Bool.not_eq_true'] at calm
      exact fun busy => Bool.false_ne_true (calm.symm.trans busy)
  case release =>
    obtain ⟨locked, record, ring, own, inbound⟩ := h
    rw [unlessRelock_of_locked locked]
    simp only [fxRelease, record, ring]
    exact if_pos ⟨own, inbound⟩

/-! ### Instructions of a stream program -/

theorem simpleInstr_of_next {d : Dev} {g e op i : Nat} {p : Prog} (due : (d.core g).nextInstr e op = some (p, i))
    (u : Prog → Nat → Prog) : d.simpleInstr g e op u = d.updCore g fun c => c.stepProg e (u p i) := by
  simp only [Dev.simpleInstr, due]

/-- A transfer instruction that its checks let pass issues (R240). -/
theorem issueTransfer_of_next {d : Dev} {g e op i : Nat} {p : Prog} (due : (d.core g).nextInstr e op = some (p, i))
    (fine : d.xferFault g e p (transferOf p i ((d.core g).eng e).nextId) = none) :
    (d.issueTransfer g e op fun _ _ => none) = d.updCore g fun c =>
      ((if (transferOf p i ((d.core g).eng e).nextId).len * (transferOf p i ((d.core g).eng e).nextId).bytes < 512 then
          { c with strSmall := satAdd 64 c.strSmall 1 } else c).updEng e fun x =>
        { x with nextId := x.nextId + 1, xfers := x.xfers ++ [transferOf p i ((d.core g).eng e).nextId] }).stepProg e
          (p.advance i (transferOf p i ((d.core g).eng e).nextId)) := by
  simp only [Dev.issueTransfer, due, fine, Option.or_none]

/-- Settles O53. -/
theorem streamInstructionsComplete : Obligations.StreamInstructionsComplete := by
  unfold Obligations.StreamInstructionsComplete
  refine ⟨fun g e p i => completes_of (exec_strEnd g e) fun d h => (unlessRelock_of_locked h.1 _).trans ?strEnd,
    fun g e p i => completes_of (exec_seta g e) fun d h => (unlessRelock_of_locked h.1 _).trans (simpleInstr_of_next h.2 _),
    fun g e p i => completes_of (exec_adda g e) fun d h => (unlessRelock_of_locked h.1 _).trans (simpleInstr_of_next h.2 _),
    fun g e p i => completes_of (exec_setl g e) fun d h => (unlessRelock_of_locked h.1 _).trans (simpleInstr_of_next h.2 _),
    fun g e p i => completes_of (exec_addl g e) fun d h => (unlessRelock_of_locked h.1 _).trans (simpleInstr_of_next h.2 _),
    fun g e p i => completes_of (exec_strLoop g e) fun d h => (unlessRelock_of_locked h.1 _).trans ?strLoop,
    fun g e p i => completes_of (exec_rd g e) fun d h => (unlessRelock_of_locked h.1 _).trans (issueTransfer_of_next h.2.1 h.2.2),
    fun g e p i => completes_of (exec_wr g e) fun d h => (unlessRelock_of_locked h.1 _).trans (issueTransfer_of_next h.2.1 h.2.2),
    fun g e p i => completes_of (exec_rrd g e) fun d h => (unlessRelock_of_locked h.1 _).trans (issueTransfer_of_next h.2.1 h.2.2),
    fun g e p i => completes_of (exec_rwr g e) fun d h => (unlessRelock_of_locked h.1 _).trans (issueTransfer_of_next h.2.1 h.2.2),
    fun g e p i => completes_of (exec_waitt g e) fun d h => ?waitt_reached,
    fun g e p i => completes_of (exec_waitt g e) fun d h => ?waitt_waits,
    fun g e p t => completes_of (exec_waittSatisfied g e) fun d h => ?waittSatisfied,
    fun g e p i => completes_of (exec_sig g e) fun d h => (unlessRelock_of_locked h.1 _).trans ?sig,
    fun g e s id => completes_of (exec_sigSignalled g e) fun d h => ?sigSignalled,
    fun g e p i => completes_of (exec_fence g e) fun d h => ?fence_clear,
    fun g e p i => completes_of (exec_fence g e) fun d h => ?fence_waits,
    fun g e p n => completes_of (exec_fenceComplete g e) fun d h => ?fenceComplete,
    fun g r up q e t ws => completes_of (exec_ringRowLands g r up) fun d h => ?ringRowLands⟩
  case strEnd => simp only [fxStrEnd, h.2]
  case strLoop => simp only [fxStrLoop, h.2]
  case sig => simp only [fxSig, h.2]
  case waitt_reached =>
    obtain ⟨locked, due, reached⟩ := h
    rw [unlessRelock_of_locked locked]
    simp only [fxWaitt, due]
    exact if_pos reached
  case waitt_waits =>
    obtain ⟨locked, due, short⟩ := h
    rw [unlessRelock_of_locked locked]
    simp only [fxWaitt, due]
    exact if_neg (not_le.2 short)
  case waittSatisfied =>
    obtain ⟨locked, waits, program, serving, reached⟩ := h
    rw [unlessRelock_of_locked locked]
    simp only [fxWaittSatisfied, waits, program]
    exact if_pos ⟨reached, by rw [serving]; rfl⟩
  case sigSignalled =>
    obtain ⟨locked, oldest, job⟩ := h
    rw [unlessRelock_of_locked locked]
    simp only [fxSigSignalled, oldest, job]
  case fence_clear =>
    obtain ⟨locked, due, clear⟩ := h
    rw [unlessRelock_of_locked locked]
    simp only [fxFence, due]
    exact if_pos (by rw [clear]; rfl)
  case fence_waits =>
    obtain ⟨locked, due, busy⟩ := h
    rw [unlessRelock_of_locked locked]
    simp only [fxFence, due]
    exact if_neg (by simp [busy])
  case fenceComplete =>
    obtain ⟨locked, waits, program, serving, done⟩ := h
    rw [unlessRelock_of_locked locked]
    simp only [fxFenceComplete, waits, program]
    exact if_pos ⟨done, by rw [serving]; rfl⟩
  case ringRowLands =>
    obtain ⟨locked, ring, transfer, inbound, free, requested, ready, row⟩ := h
    rw [unlessRelock_of_locked locked]
    simp only [fxRingRowLands, ring, transfer]
    rw [if_pos ⟨inbound, free, requested, by rw [ready]; rfl⟩]
    rcases fetched : (d.updCore g.val fun c => (c.strike up).release).fetchRow g.val e t 0 with ⟨x, _ | l⟩
    · rw [fetched] at row
      exact absurd row.symm (Option.some_ne_none ws)
    · rw [fetched] at row
      obtain rfl := Option.some.inj row
      rfl

end Sys2Proof.Machine
end

section
/-! The sequencer's commands of a bundle, and the commands of the engines and of the element-wise unit, complete. -/

namespace Sys2Proof.Machine

/-! ### Sequencer commands -/

theorem cxNow_core (d : Dev) (g : Nat) : (d.cxNow g).core = d.core g := rfl

theorem bootDone_results {c : Core} {o : OpSlot} (results : List Descr) : c.bootDone { o with results := results } = c.bootDone o := rfl

/-- Settles O54. -/
theorem sequencerCommandsComplete : Obligations.SequencerCommandsComplete := by
  unfold Obligations.SequencerCommandsComplete
  refine ⟨fun g e j o => completes_of (exec_opOpen g) fun d h => ?opOpen_opened,
    fun g e j boot f => completes_of (exec_opOpen g) fun d h => ?opOpen_fails,
    fun g e p => completes_of (exec_opClose g) fun d h => ?opClose_plain,
    fun g e p b => completes_of (exec_opClose g) fun d h => ?opClose_bootstrap,
    fun g => completes_of (exec_clusterOperationStop g) fun d h => ?clusterStop_bundle,
    fun g => completes_of (exec_clusterOperationStop g) fun d frozen => if_pos frozen,
    fun g e => completes_of (exec_loop g) fun d ready => slot_of_ready ready _,
    fun g e => completes_of (exec_shapeSet g) fun d ready => slot_of_ready ready _,
    fun g e => completes_of (exec_pxSet g) fun d ready => slot_of_ready ready _,
    fun g e => completes_of (exec_strIssue g) fun d ready => slot_of_ready ready _⟩
  case opOpen_opened =>
    obtain ⟨ready, job, noBoot, opens⟩ := h
    refine (slot_of_ready ready _).trans ?_
    simp only [job, noBoot, cxNow_core, opens]
    rfl
  case opOpen_fails =>
    obtain ⟨ready, job, rfl, fails⟩ := h
    obtain ⟨code, detail⟩ := f
    refine (slot_of_ready ready _).trans ?_
    simp only [job, cxNow_core, fails]
    rfl
  case opClose_plain =>
    obtain ⟨ready, operation, plain⟩ := h
    obtain ⟨slot, o⟩ := p
    refine (slot_of_ready ready _).trans ?_
    simp only [cxNow_core, operation, plain]
    refine congrArg (fun y => Dev.updCore (List.foldl (fun x b => x.endBinding g.val b) y _) g.val _) (updCore_congr _ _ _ _ ?_)
    simp only [plain]
    rfl
  case opClose_bootstrap =>
    obtain ⟨ready, operation, last⟩ := h
    obtain ⟨slot, o⟩ := p
    refine (slot_of_ready ready _).trans ?_
    simp only [cxNow_core, operation, last]
    refine congrArg (fun y => Dev.updCore (List.foldl (fun x b => x.endBinding g.val b) y _) g.val _) (updCore_congr _ _ _ _ ?_)
    simp only [bootDone_results, last]
    rfl
  case clusterStop_bundle =>
    obtain ⟨stops, due, more⟩ := h
    unfold fxClusterOperationStop
    dsimp only
    rw [if_neg (by simp [stops]), if_neg (by simp [stops, due, more])]

/-! ### Engine commands -/

/-- Settles O55. -/
theorem engineCommandsComplete : Obligations.EngineCommandsComplete := by
  unfold Obligations.EngineCommandsComplete
  refine ⟨fun g e => completes_of (exec_nttInv g) fun d ready => slot_of_ready ready _,
    fun g e => completes_of (exec_nttFwdq g) fun d ready => slot_of_ready ready _,
    fun g e => completes_of (exec_nttInvq g) fun d ready => slot_of_ready ready _,
    fun g e => completes_of (exec_bcvLdm g) fun d ready => slot_of_ready ready _,
    fun g e => completes_of (exec_bcvExt g) fun d ready => slot_of_ready ready _,
    fun g e => completes_of (exec_bcvMatmul g) fun d ready => slot_of_ready ready _,
    fun g e => completes_of (exec_prmAuto g) fun d ready => slot_of_ready ready _,
    fun g e => completes_of (exec_prmAutoip g) fun d ready => slot_of_ready ready _,
    fun g e => completes_of (exec_prmTrans g) fun d ready => slot_of_ready ready _,
    fun g e => completes_of (exec_prmTransip g) fun d ready => slot_of_ready ready _,
    fun g e => completes_of (exec_prmGather g) fun d ready => slot_of_ready ready _,
    fun g e => completes_of (exec_prmScatter g) fun d ready => slot_of_ready ready _,
    fun g e => completes_of (exec_prmSend g) fun d ready => slot_of_ready ready _,
    fun g e => completes_of (exec_kexGen g) fun d ready => slot_of_ready ready _,
    fun g e => completes_of (exec_kexGenq g) fun d ready => slot_of_ready ready _,
    fun g up e => completes_of (exec_nttFwd g up) fun d ready => slot_of_ready ready _,
    fun g w => completes_of (exec_coordListFail g) fun d h => ?coordListFail⟩
  case coordListFail =>
    obtain ⟨phaseEnds, noSlot, undue, reached, stops⟩ := h
    have free : ¬((d.core g.val).pendingSlot.isSome = true ∨ (d.core g.val).seq.next.isSome = true ∧ (d.core g.val).seq.due < w) := by
      rcases undue with last | later
      · simp [noSlot, last]
      · simp [noSlot, later]
    simp only [fxCoordListFail, phaseEnds]
    rw [if_neg free, if_pos ⟨reached, stops⟩]

/-! ### Element-wise commands -/

/-- An arithmetic command of the element-wise unit in flight, with the value it will write and the work of its prime. -/
def Core.arithIssued (c : Core) (x : Cx) (aop fm : Nat) : Core :=
  let s := eweSlot x.bundle
  let v (lo : Nat) : List Word := Tab.get (List.replicate 128 0) c.vregs (fld s lo 5)
  ({ c with eweArith := satAdd 64 c.eweArith 1 }.busyUntil 2 (arithOcc aop fm)).launch 5
    (.reg (fld s 4 5) (arithVal aop (primeAt c.ptab (ewePidx x)) (v 9) (v 14) (v 4) (v 19) (fld s 19 7)) (arithLat aop fm)) x.aliased []

theorem arith_modular {d e : Dev} {g aop : Nat} (uses : modular aop = true) (ready : d.slotReady g 5 aop = (e, true)) :
    d.arith g aop = (e.updCore g fun c => c.arithIssued (e.cxNow g) aop (c.fm [ewePidx (e.cxNow g)])).updCore g fun c => c.sideShown.issued 5 := by
  refine (slot_of_ready ready _).trans ?_
  simp only [uses]
  rfl

theorem arith_plain {d e : Dev} {g aop : Nat} (uses : modular aop = false) (ready : d.slotReady g 5 aop = (e, true)) :
    d.arith g aop = (e.updCore g fun c => c.arithIssued (e.cxNow g) aop 1).updCore g fun c => c.sideShown.issued 5 := by
  refine (slot_of_ready ready _).trans ?_
  simp only [uses]
  rfl

/-- Settles O56. -/
theorem elementwiseCommandsComplete : Obligations.ElementwiseCommandsComplete := by
  unfold Obligations.ElementwiseCommandsComplete
  refine ⟨fun g e => completes_of (exec_add g) fun d ready => arith_modular rfl ready,
    fun g e => completes_of (exec_sub g) fun d ready => arith_modular rfl ready,
    fun g e => completes_of (exec_neg g) fun d ready => arith_modular rfl ready,
    fun g e => completes_of (exec_mul g) fun d ready => arith_modular rfl ready,
    fun g e => completes_of (exec_mac g) fun d ready => arith_modular rfl ready,
    fun g e => completes_of (exec_cmplt g) fun d ready => arith_plain rfl ready,
    fun g e => completes_of (exec_cmpeq g) fun d ready => arith_plain rfl ready,
    fun g e => completes_of (exec_sel g) fun d ready => arith_plain rfl ready,
    fun g e => completes_of (exec_shuf g) fun d ready => arith_plain rfl ready,
    fun g e => completes_of (exec_bcast g) fun d ready => arith_plain rfl ready,
    fun g e => completes_of (exec_add64 g) fun d ready => arith_plain rfl ready,
    fun g e => completes_of (exec_sub64 g) fun d ready => arith_plain rfl ready,
    fun g e => completes_of (exec_mul64 g) fun d ready => arith_plain rfl ready,
    fun g e => completes_of (exec_cmplt64 g) fun d ready => arith_plain rfl ready,
    fun g e => completes_of (exec_st g) fun d ready => slot_of_ready ready _,
    fun g up e s => completes_of (exec_ld g up) fun d h => ?ld,
    fun g e s => completes_of (exec_qpop g) fun d h => ?qpop⟩
  case ld =>
    obtain ⟨readsIn, ready⟩ := h
    simp only [fxLd, readsIn]
    exact slot_of_ready ready _
  case qpop =>
    obtain ⟨readsIn, ready⟩ := h
    simp only [fxQpop, readsIn]
    exact slot_of_ready ready _

end Sys2Proof.Machine
end

section
/-! The commands of dispatch, of block boundaries, of freezes and of work in flight complete. -/

namespace Sys2Proof.Machine

theorem bytesAt_length (l : List Byte) (off len : Nat) : (bytesAt l off len).length = len := by
  simp only [bytesAt, List.length_append, List.length_replicate, List.length_take]
  omega

/-- A core runs to the next of some cycles where nothing of the block is due before it. -/
theorem runTo_next {d e : Dev} {g w : Nat} {cycles : Core → List Nat} (skipped : d.skipEmpty g 65536 = e)
    (next : ((cycles (e.core g)).filter fun w => decide ((if (e.core g).seq.wrote then (e.core g).seq.cycle + 1 else (e.core g).seq.cycle) ≤ w)).min? = some w)
    (noSlot : (e.core g).pendingSlot = none) (thawed : (e.core g).seq.freeze = none)
    (undue : (e.core g).seq.next = none ∨ w < (e.core g).seq.due)
    (reached : ((e.advance g w (w - (e.core g).seq.cycle)).core g).seq.cycle = w) :
    d.runTo g cycles = (e.advance g w (w - (e.core g).seq.cycle)).updCore g Core.land := by
  have free : ¬((e.core g).pendingSlot.isSome = true ∨ (e.core g).seq.freeze.isSome = true ∨
      (e.core g).seq.next.isSome = true ∧ (e.core g).seq.due ≤ w) := by
    rcases undue with last | later
    · simp [noSlot, thawed, last]
    · simp [noSlot, thawed, later]
  simp only [Dev.runTo, skipped, next]
  rw [if_neg free, if_pos reached]

/-- Settles O57. -/
theorem blockCommandsComplete : Obligations.BlockCommandsComplete := by
  unfold Obligations.BlockCommandsComplete
  refine ⟨fun g e w => completes_of (exec_engineWriteLands g) fun d h => ?engineWriteLands,
    fun g e w => completes_of (exec_tileDeposit g) fun d h => ?tileDeposit,
    fun g n => completes_of (exec_freezeEnd g n) fun d h => ?freezeEnd,
    fun g n f j => completes_of (exec_streamTimeout g n) fun d h => ?streamTimeout,
    fun g => completes_of (exec_auditFreeze g) fun d h => updCore_congr _ _ _ _ (if_pos h),
    fun g x t p => completes_of (exec_blockDispatch g) fun d h => ?blockDispatch_runs,
    fun g x t => completes_of (exec_blockDispatch g) fun d h => ?blockDispatch_noKernel,
    fun g e f b => completes_of (exec_blockBoundary g) fun d h => ?blockBoundary,
    fun g entry => completes_of (exec_seqBqPush g entry) fun d _ => ?seqBqPush,
    fun g x t => completes_of (exec_pushHeldAccept g) fun d h => updCore_congr _ _ _ _ ?pushHeldAccept,
    fun g image x m e b => completes_of (exec_imageFetchDone g image) fun d h => ?imageFetchDone⟩
  case engineWriteLands =>
    obtain ⟨skipped, next, noSlot, thawed, undue, reached⟩ := h
    exact runTo_next skipped next noSlot thawed undue reached
  case tileDeposit =>
    obtain ⟨skipped, next, noSlot, thawed, undue, reached⟩ := h
    exact runTo_next skipped next noSlot thawed undue reached
  case freezeEnd =>
    obtain ⟨frozen, arrived⟩ := h
    exact if_pos (by rw [frozen, arrived]; rfl)
  case streamTimeout =>
    obtain ⟨frozen, job, late⟩ := h
    simp only [fxStreamTimeout, frozen, job]
    exact if_pos late
  case blockDispatch_runs =>
    obtain ⟨may, queue, hasKernel, ready, argsRead⟩ := h
    have loadable : ¬(x.kernel = true ∧ ((d.core g.val).kernelBank x.kid).isNone = true ∧ (!d.loading (d.core g.val) x.kid) = true) := by
      rintro ⟨kernel, inNeither, notLoading⟩
      rcases hasKernel kernel with inBank | loading
      · simp [Option.isNone_iff_eq_none.mp inNeither] at inBank
      · simp [loading] at notLoading
    simp only [fxBlockDispatch, queue]
    rw [if_neg (by simp [may]), if_neg loadable, ← queue, ready]
    exact if_neg (by simp [argsRead])
  case blockDispatch_noKernel =>
    obtain ⟨may, queue, kernel, inNeither, notLoading⟩ := h
    simp only [fxBlockDispatch, queue]
    rw [if_neg (by simp [may]), if_pos ⟨kernel, by simp [inNeither], by simp [notLoading]⟩]
  case blockBoundary =>
    obtain ⟨skipped, runs, allIssued, noSlot, thawed, drained, running, landed, noFault, stillThawed⟩ := h
    simp only [fxBlockBoundary, skipped]
    rw [if_neg (by simp [runs, allIssued, noSlot, thawed])]
    generalize finished : e.drain g.val _ = f'
    obtain rfl : f' = f := finished.symm.trans drained
    simp only [running, landed, noFault, stillThawed]
    exact if_pos (by simp)
  case seqBqPush =>
    exact if_pos ⟨by omega, by rw [bytesAt_length]⟩
  case pushHeldAccept =>
    obtain ⟨held, room⟩ := h
    simp only [held]
    exact if_pos room
  case imageFetchDone =>
    obtain ⟨missing, named, fits, live, passed, fetched⟩ := h
    simp only [fxImageFetchDone, missing]
    generalize pass : d.mem.pass (.image g.val) _ _ _ _ = r
    obtain rfl : r = (m, true) := pass.symm.trans passed
    simp only [fetched]
    refine if_neg ?_
    rintro (other | tooLong | ended)
    · exact other named
    · exact absurd tooLong (Nat.not_lt.mpr fits)
    · exact absurd ended (by simp [live])

end Sys2Proof.Machine
end
